-- ==== Sys2Proof/Word.lean ====
section
/-! DEFINITION. The plain word types of the model: bytes and the two float bit patterns. -/

namespace Sys2Proof

/-- One byte. -/
abbrev Byte := BitVec 8

/-- The bit pattern of an IEEE 754 binary32 value (R318 F32). -/
abbrev F32 := BitVec 32

/-- The bit pattern of an IEEE 754 binary64 value (R318 F64). -/
abbrev F64 := BitVec 64

end Sys2Proof
end

