-- ==== Sys2Proof/Syntax.lean ====
section
/-! DEFINITION. The commands the block takes: one constructor of `Instr` for every row of the table of operations and
events, with the operands that the outside world decides. The operand types stand before it. -/

namespace Sys2Proof

/-- How a request reached the device (R276, R317, R393): a HART master, a Wored session, a host port, or a button of the device
(R232). -/
inductive Via where
  | hart (primary : Bool)
  | session (n : Fin 16)
  | spi
  | wake
  | button (span : Bool)
deriving DecidableEq, Repr

/-- A request's context: its CLIENT (R276), session level (R322), request ID (R277), the path it took, and the level
of the WP_N pin as it is checked (R233; true: low). -/
structure Request where
  client : BitVec 16
  level : Fin 4
  id : BitVec 32
  via : Via
  wpLow : Bool
deriving DecidableEq, Repr

/-- One operation of a request (R324, R372): a read or a write of an object. -/
inductive ReqOp where
  | read (index sub : Nat)
  | write (index sub : Nat) (bytes : List Byte)
deriving DecidableEq, Repr

/-- The ports of the switch (R346): ring ports A and B, shore port S. -/
inductive Port where
  | A | B | S
deriving DecidableEq, Repr

/-- The two ring ports. -/
inductive RingPort where
  | A | B
deriving DecidableEq, Repr

/-- The two host ports (R389). -/
inductive HostPort where
  | spi | wake
deriving DecidableEq, Repr

/-- The two HART masters (R378). -/
inductive Master where
  | primary | secondary
deriving DecidableEq, Repr

/-- The causes of a reset of the application core alone (R13, R486). -/
inductive AppResetCause where
  | watchdog | ecc | supervision
deriving DecidableEq, Repr

/-- The keeper failures of R15 and R485. -/
inductive KeeperFault where
  | watchdog | ecc | lockup
deriving DecidableEq, Repr

/-- An SRAM bank (R21): one of the 16 system banks or the 8 wash banks. -/
inductive SramBank where
  | system (n : Fin 16)
  | wash (n : Fin 8)
deriving DecidableEq, Repr

/-- The course sources of R34, code 1 to 4. -/
inductive Source where
  | ptpRing | ptpS | pps | loopMarker
deriving DecidableEq, Repr

/-- What a filter delivers (R67, R82): a filter output with 8 fractional bits, or an overload code of a sign. -/
inductive FilterOut where
  | code (r : Int)
  | overload (negative : Bool)
deriving DecidableEq, Repr

/-- A reading of an open-wire check (R85) in nanovolts, or an overrange. -/
inductive Reading where
  | volts (nV : Int)
  | over (negative : Bool)
deriving DecidableEq, Repr

/-- The two front-panel buttons (R232). -/
inductive Button where
  | zero | span
deriving DecidableEq, Repr

/-- Where a parity error lies (R177): a lane frame or a coefficient row. -/
inductive ParityPlace where
  | frame (f : Fin 33)
  | row (r : Fin 528)
deriving DecidableEq, Repr

/-- A record of a personality body (R468): INDEX, SUB, TYPE, the writable bit of ACC, the value. -/
structure BundleRecord where
  index : BitVec 16
  sub : BitVec 8
  type : BitVec 8
  writable : Bool
  value : List Byte
deriving DecidableEq, Repr

/-- What the boot ROM finds in an image slot (R462): the first component that fails with its reason, anti-rollback
apart; FIRMWARE_REV and SEC_VERSION. -/
structure SlotFinding where
  failure : Option (Fin 3 × Fin 9)
  rev : BitVec 32
  secVersion : BitVec 8
deriving DecidableEq, Repr

/-- What the boot ROM finds in a personality slot (R462, R468): the reason for which it fails, its version, its
records. -/
structure BundleFinding where
  failure : Option (Fin 9)
  rev : BitVec 32
  records : List BundleRecord
deriving DecidableEq, Repr

/-- What the boot ROM finds (R462): image slots 0 and 1, personality slots P0 and P1. -/
structure BootFindings where
  image0 : SlotFinding
  image1 : SlotFinding
  bundle0 : BundleFinding
  bundle1 : BundleFinding
deriving DecidableEq, Repr

/-- What the ring needs to know of a frame: addresses, sequence number, PCP, bytes from DA to FCS with all tags, an intact
FCS, whether it is a supervision frame, and its content. -/
structure RingFrame where
  dest : Nat
  source : Nat
  sequence : Nat
  pcp : Nat
  size : Nat
  intact : Bool
  supervision : Bool
  data : List Byte
deriving DecidableEq, Repr

/-- A frame from S (R349, R351, R354): addresses, whether it is tagged, whether it is a PTP message, its bytes from DA to
FCS, an intact FCS and its content. -/
structure ShoreFrame where
  dest : Nat
  source : Nat
  tagged : Bool
  ptp : Bool
  size : Nat
  intact : Bool
  data : List Byte
deriving DecidableEq, Repr

/-- What an interrupted program has left in a page (R306, R307): its old content, its new one, or neither. -/
inductive PageCut where
  | old | torn | new
deriving DecidableEq, Repr

/-- A page that holds other bytes than were programmed, by a fault inside its bank (R301, R306). -/
structure PageFault where
  bank : Fin 2
  pair : Fin 16384
  content : List Byte
deriving DecidableEq, Repr

/-- What recovery finds in the store beside what was programmed (R301, R306): how the round that was cut off left the page of each
bank, and the pages that faults have changed. -/
structure RecoveryFindings where
  cut0 : PageCut
  cut1 : PageCut
  faults : List PageFault
deriving DecidableEq, Repr

/-- The objects of R202 whose write makes the next session subscribe afresh. -/
inductive LocObject where
  | address | serial | stream
deriving DecidableEq, Repr

/-- A publication frame as received (R374): the ring frame that carries it, the epoch and COUNTER of its Wored header, its body
and its MAC. -/
structure PubFrame where
  frame : RingFrame
  epoch : BitVec 16
  counter : BitVec 32
  body : List Byte
  mac : List Byte
deriving DecidableEq, Repr

/-- An Announce message (R360): its domain, the grandmaster's dataset in the order in which IEEE 1588-2019 compares it, the
source port's identity, and whether the timescale is PTP (R35). -/
structure Announce where
  domain : BitVec 8
  priority1 : BitVec 8
  clockClass : BitVec 8
  accuracy : BitVec 8
  variance : BitVec 16
  priority2 : BitVec 8
  grandmaster : BitVec 64
  steps : BitVec 16
  source : BitVec 64
  ptpTimescale : Bool
deriving DecidableEq, Repr

/-- A Sync message (R34, R360, R361): domain, logSyncInterval, source port identity, sequence number, whether a Follow_Up carries
its time, its origin time and correction in ns, and the instant of its ingress timestamp. -/
structure PtpSync where
  domain : BitVec 8
  interval : Int
  source : BitVec 64
  sequence : BitVec 16
  twoStep : Bool
  origin : Nat
  correction : Int
  ingress : Nat
deriving DecidableEq, Repr

/-- A Follow_Up message (R361). -/
structure PtpFollowUp where
  domain : BitVec 8
  source : BitVec 64
  sequence : BitVec 16
  origin : Nat
  correction : Int
deriving DecidableEq, Repr

/-- A neighbour discovery message (R363): a solicitation or an advertisement, its source and target addresses, the link-layer
address it carries. -/
structure NdMessage where
  solicitation : Bool
  source : List Byte
  target : List Byte
  link : BitVec 48
deriving DecidableEq, Repr

/-- FLAGS, FRAG and BODY of a frame of a Wored session (R366). -/
structure WoredBody where
  flags : BitVec 8
  frag : BitVec 8
  body : List Byte
deriving DecidableEq, Repr

/-- A loop time marker from its byte 1 on (R388). -/
structure Marker where
  reserved : BitVec 8
  session : BitVec 16
  counter : BitVec 32
  time : BitVec 64
  mac : List Byte
deriving DecidableEq, Repr

/-- A Wored message in a host frame (R390, R392): KIND and body. -/
structure HostMessage where
  kind : BitVec 8
  body : List Byte
deriving DecidableEq, Repr


/-- What the encoder gives at a boundary (R54): the instant, and the count as the shaft has turned it. -/
structure EncReading where
  instant : Nat
  count : BitVec 32
deriving DecidableEq, Repr

/-- What the monitor finds at a source that becomes present (R402): its voltage, and the level of the LSRC pad then (R213). -/
structure SourceReading where
  voltage : F32
  lsrc : Bool
deriving DecidableEq, Repr

/-- The commands: one constructor for every row of the table of operations and events, those with
operands first, each group in the table's order. -/
inductive Instr where
  /-- APP_CORE_RESET of R13. -/
  | appCoreReset (cause : AppResetCause)
  /-- KEEPER_FAULT of R15. -/
  | keeperFault (kind : KeeperFault)
  /-- SRAM_ECC_ERROR of R22. -/
  | sramEccError (bank : SramBank)
  /-- SRAM_MARCH_TEST_DONE of R22. -/
  | sramMarchTestDone (bank : SramBank) (lasting : Bool)
  /-- COURSE_SET of R41. -/
  | courseSet (rq : Request) (value : BitVec 64)
  /-- SOURCE_PRIO_WRITE of R38. -/
  | sourcePrioWrite (rq : Request) (n : Fin 5) (value : BitVec 8)
  /-- SOURCE_QUALIFIED of R34. -/
  | sourceQualified (src : Source)
  /-- SOURCE_LOST of R38. -/
  | sourceLost (src : Source)
  /-- PPS_EDGE of R36. -/
  | ppsEdge (instant : Nat)
  /-- MARK_CONV_START of R50. -/
  | markConvStart (slot : Fin 128)
  /-- MARK_ALIGN of R77. -/
  | markAlign (slot : Fin 128)
  /-- MARK_LANE_SLOT of R151. -/
  | markLaneSlot (slot : Fin 128)
  /-- MARK_LOAD_STROBE of R210. -/
  | markLoadStrobe (slot : Fin 128)
  /-- MARK_GATE_OPEN of R356. -/
  | markGateOpen (slot : Fin 128)
  /-- MARK_GATE_CLOSE of R356. -/
  | markGateClose (slot : Fin 128)
  /-- MARK_PWM_SYNC of R258. -/
  | markPwmSync (slot : Fin 128)
  /-- ENC_BOUNDARY of R54. -/
  | encBoundary (reading : EncReading)
  /-- ENC_INDEX_PULSE of R54. -/
  | encIndexPulse (instant : Nat)
  /-- COURSE_ALARM_FIRE of R56. -/
  | courseAlarmFire (n : Fin 4)
  /-- RESULT_READY of R74. -/
  | resultReady (conv : Fin 4) (output : FilterOut)
  /-- MODULATOR_OVERLOAD of R67. -/
  | modulatorOverload (conv : Fin 4) (negative : Bool)
  /-- REF_FAULT of R68. -/
  | refFault (conv : Fin 4) (instant : Nat)
  /-- REF_FAULT_CLEAR of R68. -/
  | refFaultClear (conv : Fin 4)
  /-- REF_SEL_WRITE of R68. -/
  | refSelWrite (rq : Request) (n : Fin 4) (value : BitVec 8)
  /-- IEXC_COMPLIANCE of R70. -/
  | iexcCompliance (source : Fin 4)
  /-- CV_MODE_WRITE of R80. -/
  | cvModeWrite (rq : Request) (n : Fin 4) (value : BitVec 8)
  /-- OW_CHECK_START of R84. -/
  | owCheckStart (seat : Fin 4)
  /-- OW_CHECK_END of R85. -/
  | owCheckEnd (seat : Fin 4) (xPlus : Reading) (xMinus : Reading)
  /-- ENTRY_WINDOW_END of R97. -/
  | entryWindowEnd (seat : Fin 4)
  /-- DELAY_END of R97. -/
  | delayEnd (seat : Fin 4)
  /-- TRIGGER_START_INSTANT of R101. -/
  | triggerStartInstant (seat : Fin 4)
  /-- SEQ_STOP of R99. -/
  | seqStop (rq : Request) (seat : Fin 4)
  /-- SEQ_RUN of R99. -/
  | seqRun (rq : Request) (seat : Fin 4)
  /-- SEQ_START of R100. -/
  | seqStart (rq : Request) (seat : Fin 4) (value : BitVec 8)
  /-- INJ_REQUEST of R106. -/
  | injRequest (rq : Request) (seat : Fin 4) (value : BitVec 8)
  /-- INJ_WINDOW_END of R107. -/
  | injWindowEnd (seat : Fin 4)
  /-- SELF_OFFSET of R116. -/
  | selfOffset (rq : Request) (conv : Fin 4)
  /-- SELF_GAIN of R116. -/
  | selfGain (rq : Request) (conv : Fin 4)
  /-- SYSTEM_OFFSET of R116. -/
  | systemOffset (rq : Request) (conv : Fin 4)
  /-- SYSTEM_GAIN of R116. -/
  | systemGain (rq : Request) (conv : Fin 4)
  /-- CAL_START of R119. -/
  | calStart (conv : Fin 4)
  /-- CAL_MEASUREMENT_END of R117. -/
  | calMeasurementEnd (conv : Fin 4) (outputs : List Int) (overload : Bool)
  /-- QUEUE_WORD of R113. -/
  | queueWord (rq : Request)
  /-- QUEUE_BLOCK of R113. -/
  | queueBlock (rq : Request)
  /-- QUEUE_FLUSH of R113. -/
  | queueFlush (rq : Request) (value : BitVec 8)
  /-- SELF_TEST_LEVEL_END of R140. -/
  | selfTestLevelEnd (results : List FilterOut)
  /-- ST_REQUEST of R143. -/
  | stRequest (rq : Request) (value : BitVec 8)
  /-- UNRETIRE of R144. -/
  | unretire (rq : Request) (value : BitVec 8)
  /-- DIAG_MANUAL of R138. -/
  | diagManual (rq : Request) (value : BitVec 8)
  /-- LANE_FINISH of R153. -/
  | laneFinish (lane : Fin 32)
  /-- IN_TIMEOUT of R158. -/
  | inTimeout (lane : Fin 32) (input : Fin 8)
  /-- ENGINE_APPLY of R163. -/
  | engineApply (rq : Request) (value : BitVec 8)
  /-- PARAM_BLOCK_WRITE of R165. -/
  | paramBlockWrite (rq : Request) (block : Fin 512) (bytes : List Byte)
  /-- PARITY_ERROR of R177. -/
  | parityError (lane : Fin 32) (place : ParityPlace)
  /-- PARITY_TEST_DONE of R177. -/
  | parityTestDone (place : ParityPlace) (lasting : Bool)
  /-- WASH_APPLY of R182. -/
  | washApply (rq : Request) (value : BitVec 8)
  /-- CATCH_ENABLE of R194. -/
  | catchEnable (rq : Request) (definition : Fin 8) (value : BitVec 8)
  /-- CATCH_ASSEMBLY of R197. -/
  | catchAssembly (definition : Fin 8)
  /-- FETCH_CATCH of R200. -/
  | fetchCatch (rq : Request) (value : BitVec 32)
  /-- FETCH_CHANNEL of R200. -/
  | fetchChannel (rq : Request) (value : BitVec 8)
  /-- FETCH_DATA of R201. -/
  | fetchData (rq : Request)
  /-- LOC_SUBSCRIBE_ATTEMPT of R202. -/
  | locSubscribeAttempt (step : Bool)
  /-- LOC_UP_ADDRESS_WRITE of R202. -/
  | locUpAddressWrite (rq : Request) (object : LocObject) (bytes : List Byte)
  /-- LOOP_SENSE of R224. -/
  | loopSense (current : F32) (voltage : F32) (draw : Bool)
  /-- VBB_ADJUST of R215. -/
  | vbbAdjust (drops : F32 × F32)
  /-- HV_THERMAL_LIMIT of R226. -/
  | hvThermalLimit (reading : F32)
  /-- ACT_THERMAL_LIMIT of R237. -/
  | actThermalLimit (reading : F32)
  /-- LOOP_FIXED of R229. -/
  | loopFixed (rq : Request) (value : F32)
  /-- LOOP_TRIM_ZERO_MEAS of R230. -/
  | loopTrimZeroMeas (rq : Request) (value : F32)
  /-- LOOP_TRIM_SPAN_MEAS of R230. -/
  | loopTrimSpanMeas (rq : Request) (value : F32)
  /-- LOOP_TRIM_RESET of R230. -/
  | loopTrimReset (rq : Request) (value : BitVec 8)
  /-- LOOP_RANGE_WRITE of R231. -/
  | loopRangeWrite (rq : Request) (lrv : F32) (urv : F32)
  /-- ZERO_N_PRESS of R232. -/
  | zeroNPress (wp : Bool)
  /-- SPAN_N_PRESS of R232. -/
  | spanNPress (wp : Bool)
  /-- BUTTON_STUCK of R232. -/
  | buttonStuck (button : Button)
  /-- ADAC_RANGE_WRITE of R236. -/
  | adacRangeWrite (rq : Request) (value : BitVec 8)
  /-- HEARTBEAT of R430. -/
  | heartbeat (ts6 : F32) (ts7 : F32)
  /-- CTRL_MODE_WRITE of R249. -/
  | ctrlModeWrite (rq : Request) (controller : Fin 8) (value : BitVec 8)
  /-- CTRL_SP_WRITE of R251. -/
  | ctrlSpWrite (rq : Request) (controller : Fin 8) (value : F32)
  /-- PWM_PERIOD_START of R258. -/
  | pwmPeriodStart (channel : Fin 2)
  /-- PWM_CENTRE of R258. -/
  | pwmCentre (channel : Fin 2)
  /-- RATE_COUNT_EXPIRY of R273. -/
  | rateCountExpiry (stream : Fin 8)
  /-- SUB_ENABLE_WRITE of R280. -/
  | subEnableWrite (rq : Request) (sub : Fin 16) (value : BitVec 8)
  /-- SUB_RTO_EXPIRY of R282. -/
  | subRtoExpiry (sub : Fin 16)
  /-- ACK_PERSIST_EXPIRY of R283. -/
  | ackPersistExpiry (sub : Fin 16)
  /-- NVM_ERROR of R308. -/
  | nvmError (bank : Fin 2) (pair : Fin 16384)
  /-- NVM_TEST_DONE of R308. -/
  | nvmTestDone (bufferPass : Bool) (pagePass : Bool)
  /-- MARGIN_PASS_END of R310. -/
  | marginPassEnd (refreshed : Nat)
  /-- RC_FLAG_CLEAR of R336. -/
  | rcFlagClear (rq : Request) (index : BitVec 16) (sub : BitVec 8) (value : BitVec 16)
  /-- STATE_REQUEST of R332. -/
  | stateRequest (rq : Request) (value : BitVec 8)
  /-- FAST_MAP_WRITE of R341. -/
  | fastMapWrite (rq : Request) (entry : Fin 32) (value : BitVec 32)
  /-- FAST_DATA_READ of R342. -/
  | fastDataRead (rq : Request)
  /-- REGISTER_WRITE of R324. -/
  | registerWrite (rq : Request) (index : BitVec 16) (sub : BitVec 8) (bytes : List Byte)
  /-- LINK_UP of R346. -/
  | linkUp (port : Port) (amplitude : BitVec 8)
  /-- LINK_DOWN of R346. -/
  | linkDown (port : Port)
  /-- PHY_ERROR_BURST of R347. -/
  | phyErrorBurst (port : Port) (frames : Nat)
  /-- PHY_SELF_TEST_DONE of R347. -/
  | phySelfTestDone (port : Port) (pass : Bool)
  /-- PODL_POWER_ACCEPTED of R348. -/
  | podlPowerAccepted (ringPort : RingPort)
  /-- PODL_POWER_LOST of R348. -/
  | podlPowerLost (ringPort : RingPort)
  /-- HSR_FRAME_RX of R352. -/
  | hsrFrameRx (ringPort : RingPort) (frame : RingFrame)
  /-- REDBOX_FRAME_RX of R354. -/
  | redboxFrameRx (frame : ShoreFrame)
  /-- FRAME_TX_END of R356. -/
  | frameTxEnd (port : Port)
  /-- PTP_ANNOUNCE_RX of R360. -/
  | ptpAnnounceRx (port : Port) (message : Announce)
  /-- PTP_SYNC_RX of R360. -/
  | ptpSyncRx (port : Port) (message : PtpSync)
  /-- PTP_FOLLOW_UP_RX of R361. -/
  | ptpFollowUpRx (port : Port) (message : PtpFollowUp)
  /-- PDELAY_REQ_TX of R360. -/
  | pdelayReqTx (port : Port)
  /-- PDELAY_REQ_RX of R360. -/
  | pdelayReqRx (port : Port)
  /-- PDELAY_RESP_RX of R360. -/
  | pdelayRespRx (port : Port) (delay : Int)
  /-- ROUTER_ADVERTISEMENT_RX of R363. -/
  | routerAdvertisementRx (netPrefix : List Byte)
  /-- NEIGHBOUR_DISCOVERY_RX of R363. -/
  | neighbourDiscoveryRx (port : Port) (message : NdMessage)
  /-- ARP_RX of R364. -/
  | arpRx (port : Port) (target : BitVec 32)
  /-- ICMP_ECHO_RX of R363. -/
  | icmpEchoRx (port : Port) (version : BitVec 8) (target : List Byte) (bytes : List Byte)
  /-- FRAG_TIMEOUT of R368. -/
  | fragTimeout (session : Fin 16)
  /-- OPEN of R370. -/
  | openRequest (port : Port) (address : List Byte) (level : Fin 4) (keysel : BitVec 8) (clientNo : BitVec 16) (nonceC : List Byte)
  /-- CHALLENGE of R370. -/
  | challenge (session : Fin 16) (nonceD : List Byte)
  /-- CONFIRM of R370. -/
  | confirm (session : Fin 16) (counter : BitVec 32) (mac : List Byte) (address : List Byte)
  /-- ACCEPT of R370. -/
  | accept (session : Fin 16) (level : Fin 4) (room : BitVec 16) (idle : BitVec 16) (mac : List Byte)
  /-- CLOSE of R371. -/
  | close (session : Fin 16) (counter : BitVec 32) (mac : List Byte)
  /-- OPEN_LOCKOUT_END of R371. -/
  | openLockoutEnd (address : List Byte)
  /-- SESSION_IDLE of R371. -/
  | sessionIdle (session : Fin 16)
  /-- REQUEST of R372. -/
  | request (session : Fin 16) (port : Port) (address : List Byte) (counter : BitVec 32) (mac : List Byte) (request : WoredBody) (wp : Bool)
  /-- REPLY of R372. -/
  | reply (session : Fin 16) (counter : BitVec 32) (mac : List Byte) (reply : WoredBody)
  /-- SUBSCRIBE of R373. -/
  | subscribe (session : Fin 16) (counter : BitVec 32) (mac : List Byte) (subscribe : WoredBody) (wp : Bool)
  /-- DELIVERY of R202. -/
  | delivery (session : Fin 16) (counter : BitVec 32) (mac : List Byte) (delivery : WoredBody)
  /-- ACK of R281. -/
  | ack (session : Fin 16) (counter : BitVec 32) (mac : List Byte) (sub : Fin 16) (position : BitVec 48)
  /-- PUBLISH of R374. -/
  | publish (ringPort : RingPort) (frame : PubFrame)
  /-- READ_UNIQUE_IDENTIFIER of R379. -/
  | readUniqueIdentifier (master : Master)
  /-- READ_UID_BY_SHORT_TAG of R380. -/
  | readUidByShortTag (master : Master) (tag : List Byte)
  /-- READ_UID_BY_LONG_TAG of R380. -/
  | readUidByLongTag (master : Master) (tag : List Byte)
  /-- READ_PV of R380. -/
  | readPv (master : Master)
  /-- READ_LOOP_CURRENT_AND_PERCENT of R380. -/
  | readLoopCurrentAndPercent (master : Master)
  /-- READ_DYNAMIC_VARIABLES of R380. -/
  | readDynamicVariables (master : Master)
  /-- WRITE_POLLING_ADDRESS of R382. -/
  | writePollingAddress (master : Master) (address : BitVec 8) (mode : BitVec 8)
  /-- READ_LOOP_CONFIGURATION of R380. -/
  | readLoopConfiguration (master : Master)
  /-- READ_DV_CLASSIFICATIONS of R380. -/
  | readDvClassifications (master : Master)
  /-- READ_DEVICE_VARIABLES of R385. -/
  | readDeviceVariables (master : Master) (codes : List Byte)
  /-- READ_MESSAGE of R380. -/
  | readMessage (master : Master)
  /-- WRITE_MESSAGE of R380. -/
  | writeMessage (master : Master) (text : List Byte)
  /-- READ_TAG_DESCRIPTOR_DATE of R380. -/
  | readTagDescriptorDate (master : Master)
  /-- WRITE_TAG_DESCRIPTOR_DATE of R380. -/
  | writeTagDescriptorDate (master : Master) (tag : List Byte) (descriptor : List Byte) (date : List Byte)
  /-- READ_PV_TRANSDUCER_INFO of R380. -/
  | readPvTransducerInfo (master : Master)
  /-- READ_DEVICE_INFORMATION of R380. -/
  | readDeviceInformation (master : Master) (wp : Bool)
  /-- READ_FINAL_ASSEMBLY_NUMBER of R380. -/
  | readFinalAssemblyNumber (master : Master)
  /-- WRITE_FINAL_ASSEMBLY_NUMBER of R380. -/
  | writeFinalAssemblyNumber (master : Master) (value : BitVec 24)
  /-- READ_LONG_TAG of R380. -/
  | readLongTag (master : Master)
  /-- WRITE_LONG_TAG of R380. -/
  | writeLongTag (master : Master) (tag : List Byte)
  /-- WRITE_RANGE_VALUES of R380. -/
  | writeRangeValues (master : Master) (unit : BitVec 8) (urv : F32) (lrv : F32) (wp : Bool)
  /-- RESET_CONFIG_CHANGED_FLAG of R383. -/
  | resetConfigChangedFlag (master : Master)
  /-- ENTER_EXIT_FIXED_CURRENT of R380. -/
  | enterExitFixedCurrent (master : Master) (current : F32)
  /-- TRIM_LOOP_CURRENT_ZERO of R380. -/
  | trimLoopCurrentZero (master : Master) (current : F32) (wp : Bool)
  /-- TRIM_LOOP_CURRENT_GAIN of R380. -/
  | trimLoopCurrentGain (master : Master) (current : F32) (wp : Bool)
  /-- READ_ADDITIONAL_DEVICE_STATUS of R384. -/
  | readAdditionalDeviceStatus (master : Master)
  /-- WORED_TUNNEL_POLL of R387. -/
  | woredTunnelPoll (master : Master)
  /-- WORED_TUNNEL_FRAME of R387. -/
  | woredTunnelFrame (master : Master) (frame : List Byte) (wp : Bool)
  /-- LOOP_TIME_MARKER of R388. -/
  | loopTimeMarker (master : Master) (marker : Marker)
  /-- HART_UNKNOWN_COMMAND of R380. -/
  | hartUnknownCommand (master : Master) (number : BitVec 8)
  /-- HART_WRITE_BUSY_TIMEOUT of R381. -/
  | hartWriteBusyTimeout (master : Master)
  /-- HOST_READ of R391; `count` is COUNT - 1, as SPAN carries it (R390). -/
  | hostRead (hostPort : HostPort) (index : BitVec 16) (sub : BitVec 8) (first : BitVec 8) (count : BitVec 8) (crc : Bool)
  /-- HOST_WRITE of R391. -/
  | hostWrite (hostPort : HostPort) (index : BitVec 16) (sub : BitVec 8) (first : BitVec 8) (id : BitVec 32) (words : List (BitVec 16)) (crc : Bool) (wp : Bool)
  /-- HOST_COLLECT of R391. -/
  | hostCollect (hostPort : HostPort) (crc : Bool)
  /-- HOST_WORED of R392. -/
  | hostWored (hostPort : HostPort) (message : HostMessage) (crc : Bool) (wp : Bool)
  /-- HOST_NOP of R392. -/
  | hostNop (hostPort : HostPort) (crc : Bool)
  /-- HOST_PENDING_COMPLETE of R391. -/
  | hostPendingComplete (hostPort : HostPort)
  /-- POWER_SOURCE_PRESENT of R402. -/
  | powerSourcePresent (source : Fin 4) (reading : SourceReading)
  /-- POWER_SOURCE_LOST of R402. -/
  | powerSourceLost (source : Fin 4) (voltage : F32)
  /-- PROFILE_TARGET_WRITE of R410. -/
  | profileTargetWrite (rq : Request) (value : BitVec 8)
  /-- EXC_LEAN of R413. -/
  | excLean (current : F32)
  /-- SLEEP_DOZE of R416. -/
  | sleepDoze (rq : Request)
  /-- SLEEP_STOW of R416. -/
  | sleepStow (rq : Request)
  /-- SLEEP_OFF of R421. -/
  | sleepOff (rq : Request)
  /-- AGENT_ANSWER of R418. -/
  | agentAnswer (agent : Fin 8) (answer : Nat)
  /-- AGENT_DELAY_EXPIRY of R417. -/
  | agentDelayExpiry (agent : Fin 8)
  /-- AGENT_ANSWER_TIMEOUT of R417. -/
  | agentAnswerTimeout (agent : Fin 8)
  /-- WAKE_EVENT of R422. -/
  | wakeEvent (source : Fin 7)
  /-- TCXO_CHECK of R426. -/
  | tcxoCheck (present : Bool)
  /-- ENERGY_INTEGRATE of R432. -/
  | energyIntegrate (powers : List F32)
  /-- AUTONOMY_UPDATE of R433. -/
  | autonomyUpdate (vloc : F32)
  /-- THERMAL_SAMPLE of R439. -/
  | thermalSample (readings : List F32) (pMs : F32) (pHv : F32)
  /-- SENSOR_SELF_TEST_DONE of R442. -/
  | sensorSelfTestDone (sensor : Fin 8) (pass : Bool)
  /-- STORE_TEST_REQUEST of R453. -/
  | storeTestRequest (rq : Request) (value : BitVec 8)
  /-- STORE_TEST_DONE of R453. -/
  | storeTestDone (step : F32) (dt : F32)
  /-- REFERENCE_CHECK_DONE of R455. -/
  | referenceCheckDone (mean : F32)
  /-- OEM_KEY_HASH_WRITE of R460. -/
  | oemKeyHashWrite (rq : Request) (bytes : List Byte)
  /-- LOAD_TARGET of R465. -/
  | loadTarget (rq : Request) (value : BitVec 8)
  /-- LOAD_DATA of R465. -/
  | loadData (rq : Request) (bytes : List Byte)
  /-- LOAD_VERIFY of R465. -/
  | loadVerify (rq : Request) (value : BitVec 8)
  /-- LOAD_VERIFY_DONE of R465, with the tick at which the check ends. -/
  | loadVerifyDone (instant : Nat)
  /-- IMAGE_ACTIVATE of R466. -/
  | imageActivate (rq : Request) (value : BitVec 8)
  /-- IMAGE_CONFIRM of R467. -/
  | imageConfirm (rq : Request) (value : BitVec 8)
  /-- LEVEL_KEY_WRITE of R469. -/
  | levelKeyWrite (rq : Request) (key : Fin 4) (bytes : List Byte)
  /-- RING_SWITCH_AT_WRITE of R470. -/
  | ringSwitchAtWrite (rq : Request) (value : BitVec 64)
  /-- ATTEST_WINDOW_CLOSE of R474. -/
  | attestWindowClose (stream : Fin 8)
  /-- SIG_SELECT of R480. -/
  | sigSelect (rq : Request) (value : BitVec 64)
  /-- SIG_DATA of R480. -/
  | sigData (rq : Request)
  /-- DEBUG_LOCK of R481. -/
  | debugLock (rq : Request) (value : BitVec 8)
  /-- RESET_REQUEST of R488. -/
  | resetRequest (rq : Request) (value : BitVec 8)
  /-- SUPPLY_VALID of R489. -/
  | supplyValid (lsrc : Bool) (addr : BitVec 2)
  /-- BOOT_VERIFY_DONE of R462. -/
  | bootVerifyDone (findings : BootFindings)
  /-- STORE_ENERGY_READY of R490. -/
  | storeEnergyReady (voltage : F32)
  /-- RECOVERY_DONE of R306. -/
  | recoveryDone (findings : RecoveryFindings)
  /-- BUTTON_STUCK_RELEASED of R232. -/
  | buttonStuckReleased (button : Button)
  /-- HOST_FRAME_ERROR of R391. -/
  | hostFrameError (hostPort : HostPort)
  /-- DAD_COMPLETE of R363. -/
  | dadComplete (address : List Byte) (conflict : Bool)
  /-- APP_CORE_RESTART of R13. -/
  | appCoreRestart
  /-- STROKE_BOUNDARY of R27. -/
  | strokeBoundary
  /-- COURSE_WRAP of R31. -/
  | courseWrap
  /-- SWITCH_HOLD_EXPIRY of R38. -/
  | switchHoldExpiry
  /-- HOLDOVER_LIMIT_REACHED of R42. -/
  | holdoverLimitReached
  /-- ENC_ERROR of R55. -/
  | encError
  /-- ANGLE_STALL of R55. -/
  | angleStall
  /-- ROTATION of R130. -/
  | rotation
  /-- SPARE_THIRD of R131. -/
  | spareThird
  /-- FULL4_PAIR_ADVANCE of R133. -/
  | full4PairAdvance
  /-- SELF_TEST_START of R139. -/
  | selfTestStart
  /-- LOC_RETRY of R202. -/
  | locRetry
  /-- LOC_UNPAIRED_EXPIRY of R202. -/
  | locUnpairedExpiry
  /-- LOC_PAIRING of R203. -/
  | locPairing
  /-- LOOP_COMPLIANCE_SET of R224. -/
  | loopComplianceSet
  /-- LOOP_COMPLIANCE_CLEAR of R224. -/
  | loopComplianceClear
  /-- ADAC_CLAMP_END of R236. -/
  | adacClampEnd
  /-- ADAC_COMPLIANCE_SET of R237. -/
  | adacComplianceSet
  /-- ADAC_COMPLIANCE_CLEAR of R237. -/
  | adacComplianceClear
  /-- ADAC_OVERCURRENT of R237. -/
  | adacOvercurrent
  /-- XDAC_OVERCURRENT of R238. -/
  | xdacOvercurrent
  /-- HEARTBEAT_WATCHDOG of R430. -/
  | heartbeatWatchdog
  /-- REQUEST_WITHDRAWN of R279. -/
  | requestWithdrawn
  /-- ANGLE_GROUP_TIMER of R296. -/
  | angleGroupTimer
  /-- NVM_ROUND_DONE of R291. -/
  | nvmRoundDone
  /-- APPLY_FEED of R300. -/
  | applyFeed
  /-- RING_PERSIST_EXPIRY of R302. -/
  | ringPersistExpiry
  /-- MARGIN_PASS_START of R310. -/
  | marginPassStart
  /-- STATE_TRANSITION_TIMEOUT of R333. -/
  | stateTransitionTimeout
  /-- HSR_DUP_EXPIRY of R352. -/
  | hsrDupExpiry
  /-- HSR_SUPERVISION_TX of R353. -/
  | hsrSupervisionTx
  /-- RING_KEY_SWITCH of R470. -/
  | ringKeySwitch
  /-- RING_EPOCH_GRACE_END of R470. -/
  | ringEpochGraceEnd
  /-- BURST_PERIOD_EXPIRY of R386. -/
  | burstPeriodExpiry
  /-- WAKE_ADDRESS_MATCH of R398. -/
  | wakeAddressMatch
  /-- WAKE_STRETCH_EXPIRY of R398. -/
  | wakeStretchExpiry
  /-- STORE_BELOW_HOLDUP_END of R429. -/
  | storeBelowHoldupEnd
  /-- PROFILE_CHANGE_START of R414. -/
  | profileChangeStart
  /-- VBB_LIMIT of R412. -/
  | vbbLimit
  /-- HANDSHAKE_START of R417. -/
  | handshakeStart
  /-- REGULATOR_ATTEMPT_FAIL of R425. -/
  | regulatorAttemptFail
  /-- WAKE_RETRY of R425. -/
  | wakeRetry
  /-- REGULATORS_READY of R423. -/
  | regulatorsReady
  /-- TCXO_READY of R423. -/
  | tcxoReady
  /-- TCXO_READY_TIMEOUT of R426. -/
  | tcxoReadyTimeout
  /-- TCXO_LOSS of R426. -/
  | tcxoLoss
  /-- PLL_LOCKED of R47. -/
  | pllLocked
  /-- WAKE_APP_CORE_RUNNING of R423. -/
  | wakeAppCoreRunning
  /-- OFF_BUTTON_EXIT of R421. -/
  | offButtonExit
  /-- ENERGY_DAY_ROLLOVER of R432. -/
  | energyDayRollover
  /-- THROTTLE_FALL of R445. -/
  | throttleFall
  /-- WATCH_EXIT of R443. -/
  | watchExit
  /-- THERMAL_SHUTDOWN_RELEASE of R447. -/
  | thermalShutdownRelease
  /-- STORE_TEST_START of R453. -/
  | storeTestStart
  /-- STORE_TEST_TIMEOUT of R453. -/
  | storeTestTimeout
  /-- STAGE_DAMAGE_UPDATE of R454. -/
  | stageDamageUpdate
  /-- BOTTOM_TREE_READY of R473. -/
  | bottomTreeReady
  /-- TREE_REBUILD_DONE of R473. -/
  | treeRebuildDone
  /-- DEBUG_EXPIRY of R481. -/
  | debugExpiry
  /-- DEBUG_RESET of R485. -/
  | debugReset
  /-- RST_PIN of R485. -/
  | rstPin
  /-- BROWNOUT of R485. -/
  | brownout
  /-- RESET_LOOP_COUNT_EXPIRY of R487. -/
  | resetLoopCountExpiry
  /-- CONFIG_LOADED of R489. -/
  | configLoaded
  /-- ALARM_WINDOW_CLOSE of R359. -/
  | alarmWindowClose
  /-- ALARM_GUARD_END of R356. -/
  | alarmGuardEnd
  /-- HART_FRAME_ERROR of R401. -/
  | hartFrameError
  /-- SIGNATURE_READY of R480. -/
  | signatureReady
deriving DecidableEq, Repr

end Sys2Proof
end

