-- ==== Sys2Proof/Machine/Bytes.lean ====
section
/-! DEFINITION. Byte order, bit fields, two's complement and serial-number arithmetic (R6, R270, R318). -/

namespace Sys2Proof.Machine

/-- `n` laid out in `len` bytes, most significant byte first (R6), modulo 256 to the power `len`. -/
def beBytes : Nat → Nat → List Byte
  | 0, _ => []
  | len + 1, n => BitVec.ofNat 8 (n / 256 ^ len) :: beBytes len n

/-- The number that bytes give, most significant byte first (R6). -/
def ofBe (b : List Byte) : Nat := b.foldl (fun acc x => acc * 256 + x.toNat) 0

/-- The bits `hi` to `lo` of a number. -/
def bits (n hi lo : Nat) : Nat := n / 2 ^ lo % 2 ^ (hi + 1 - lo)

/-- Bit `k` of a number. -/
def bit (n k : Nat) : Bool := n.testBit k

/-- 1 for true, 0 for false. -/
def flag (b : Bool) : Nat := if b then 1 else 0

/-- Sets bit `k` of a number. -/
def setBit (n k : Nat) : Nat := n ||| 2 ^ k

/-- Clears bit `k` of a number. -/
def clearBit (n k : Nat) : Nat := if n.testBit k then n - 2 ^ k else n

/-- The signed number that `w` bits hold in two's complement. -/
def signed (w n : Nat) : Int := if n % 2 ^ w < 2 ^ (w - 1) then ↑(n % 2 ^ w) else ↑(n % 2 ^ w) - 2 ^ w

/-- The two's complement encoding of a signed number in `w` bits. -/
def unsigned (w : Nat) (i : Int) : Nat := (i % 2 ^ w).toNat

/-- A signed number clamped to a range. -/
def clampInt (lo hi i : Int) : Int := max lo (min hi i)

/-- The order of two serial numbers (R270). -/
inductive SerialOrder where
  | equal | before | after | unordered
deriving DecidableEq, Repr

/-- R270: serial-number comparison of width `w`. -/
def serialCmp (a b w : Nat) : SerialOrder :=
  let d := (b + 2 ^ w - a % 2 ^ w) % 2 ^ w
  if d = 0 then .equal
  else if d < 2 ^ (w - 1) then .before
  else if 2 ^ (w - 1) < d then .after
  else .unordered

/-- The number of bits needed: the least `k` with `n ≤ 2 ^ k`. -/
def ceilLog2 (n : Nat) : Nat := if n ≤ 1 then 0 else Nat.log2 (n - 1) + 1

/-- The quotient rounded up. -/
def ceilDiv (a b : Nat) : Nat := (a + b - 1) / b

/-- Integer square root by binary digits, from bit `k` downwards. -/
def isqrtFrom (n : Nat) : Nat → Nat → Nat
  | 0, r => r
  | k + 1, r => isqrtFrom n k (if (r + 2 ^ k) * (r + 2 ^ k) ≤ n then r + 2 ^ k else r)

/-- The largest number whose square is at most `n`. -/
def isqrt (n : Nat) : Nat := isqrtFrom n (Nat.log2 n / 2 + 1) 0

/-- The bits of a number that are set, lowest first, below `w`. -/
def bitList (w n : Nat) : List Nat := (List.range w).filter fun k => n.testBit k

/-- A number without the bits of a mask. -/
def clearMask (n mask : Nat) : Nat := n - (n &&& mask)

end Sys2Proof.Machine
end

