-- ==== Sys2Proof/Machine/Float.lean ====
section
/-! DEFINITION. IEEE 754 binary32 and binary64 arithmetic, rounding to nearest, ties to even (R10, R167): a bit
pattern is read as an exact rational, the operation is exact, and the result is rounded once. -/

namespace Sys2Proof.Machine

/-- A binary interchange format: the width of its fraction and of its exponent. -/
structure FloatFormat where
  frac : Nat
  exp : Nat
deriving DecidableEq, Repr

/-- binary32. -/
def fmt32 : FloatFormat := ⟨23, 8⟩

/-- binary64. -/
def fmt64 : FloatFormat := ⟨52, 11⟩

/-- The exponent bias of a format. -/
def FloatFormat.bias (f : FloatFormat) : Nat := 2 ^ (f.exp - 1) - 1

/-- What a bit pattern stands for: a finite number (sign, mantissa, exponent of two), an infinity or a NaN. -/
inductive FloatValue where
  | finite (neg : Bool) (m : Nat) (e : Int)
  | inf (neg : Bool)
  | nan
deriving DecidableEq, Repr

/-- The quiet NaN of a format; R169 gives 0x7FC00000 for binary32 (DEDUCED, log 61). -/
def FloatFormat.qnan (f : FloatFormat) : Nat := (2 ^ f.exp - 1) * 2 ^ f.frac + 2 ^ (f.frac - 1)

/-- The infinity of a sign. -/
def FloatFormat.infinity (f : FloatFormat) (neg : Bool) : Nat :=
  (flag neg) * 2 ^ (f.frac + f.exp) + (2 ^ f.exp - 1) * 2 ^ f.frac

/-- The zero of a sign. -/
def FloatFormat.zero (f : FloatFormat) (neg : Bool) : Nat := (flag neg) * 2 ^ (f.frac + f.exp)

/-- Reads a bit pattern. -/
def FloatFormat.read (f : FloatFormat) (x : Nat) : FloatValue :=
  let neg := x.testBit (f.frac + f.exp)
  let e := x / 2 ^ f.frac % 2 ^ f.exp
  let m := x % 2 ^ f.frac
  if e = 2 ^ f.exp - 1 then (if m = 0 then .inf neg else .nan)
  else if e = 0 then .finite neg m (1 - (f.bias : Int) - f.frac)
  else .finite neg (m + 2 ^ f.frac) ((e : Int) - f.bias - f.frac)

/-- The nearest whole number to `num / den`, ties to even. -/
def nearestEven (num den : Nat) : Nat :=
  let q := num / den
  let r := num % den
  if 2 * r < den then q else if den < 2 * r then q + 1 else q + q % 2

/-- The least integer at or above the base-two logarithm of `num / den` plus one: the exponent bound used to place the
rounding position. -/
def ratLog2 (num den : Nat) : Int :=
  let k : Int := (Nat.log2 num : Int) - Nat.log2 den
  -- 2 ^ k ≤ num / den, or one less
  if (if 0 ≤ k then den * 2 ^ k.toNat ≤ num else den ≤ num * 2 ^ (-k).toNat) then k else k - 1

/-- Rounds the exact value (-1)^neg * num / den to a format: nearest, ties to even, overflow to infinity,
subnormals gradual. -/
def FloatFormat.round (f : FloatFormat) (neg : Bool) (num den : Nat) : Nat :=
  if num = 0 then f.zero neg else
    let k := ratLog2 num den
    let emin : Int := 1 - (f.bias : Int)
    let e : Int := (max k emin) - f.frac
    let m := if 0 ≤ e then nearestEven num (den * 2 ^ e.toNat) else nearestEven (num * 2 ^ (-e).toNat) den
    -- m may have reached 2 ^ (frac + 1), which the carry into the exponent field expresses
    let biased : Nat := (e + f.frac + f.bias - 1).toNat
    let word := biased * 2 ^ f.frac + m
    if (2 ^ f.exp - 1) * 2 ^ f.frac ≤ word then f.infinity neg else (flag neg) * 2 ^ (f.frac + f.exp) + word

/-- A signed dyadic `m * 2 ^ e` rounded to a format; an exact zero takes the sign given. -/
def FloatFormat.ofDyadic (f : FloatFormat) (m : Int) (e : Int) (zneg : Bool) : Nat :=
  if m = 0 then f.zero zneg
  else if 0 ≤ e then f.round (decide (m < 0)) (m.natAbs * 2 ^ e.toNat) 1
  else f.round (decide (m < 0)) m.natAbs (2 ^ (-e).toNat)

/-- A sign applied to a mantissa. -/
def signInt (neg : Bool) (m : Nat) : Int := if neg then -(m : Int) else m

/-- Addition. -/
def FloatFormat.add (f : FloatFormat) (x y : Nat) : Nat :=
  match f.read x, f.read y with
  | .nan, _ | _, .nan => f.qnan
  | .inf a, .inf b => if a = b then f.infinity a else f.qnan
  | .inf a, _ => f.infinity a
  | _, .inf b => f.infinity b
  | .finite a m e, .finite b n g =>
    let h := min e g
    f.ofDyadic (signInt a m * 2 ^ (e - h).toNat + signInt b n * 2 ^ (g - h).toNat) h (a && b)

/-- The pattern with its sign reversed. -/
def FloatFormat.neg (f : FloatFormat) (x : Nat) : Nat :=
  if x.testBit (f.frac + f.exp) then x - 2 ^ (f.frac + f.exp) else x + 2 ^ (f.frac + f.exp)

/-- The pattern with its sign cleared. -/
def FloatFormat.abs (f : FloatFormat) (x : Nat) : Nat := x % 2 ^ (f.frac + f.exp)

/-- Subtraction. -/
def FloatFormat.sub (f : FloatFormat) (x y : Nat) : Nat := f.add x (f.neg y)

/-- Multiplication. -/
def FloatFormat.mul (f : FloatFormat) (x y : Nat) : Nat :=
  match f.read x, f.read y with
  | .nan, _ | _, .nan => f.qnan
  | .inf a, .inf b => f.infinity (a != b)
  | .inf a, .finite b n _ => if n = 0 then f.qnan else f.infinity (a != b)
  | .finite a m _, .inf b => if m = 0 then f.qnan else f.infinity (a != b)
  | .finite a m e, .finite b n g => f.ofDyadic (signInt (a != b) (m * n)) (e + g) (a != b)

/-- Division. -/
def FloatFormat.div (f : FloatFormat) (x y : Nat) : Nat :=
  match f.read x, f.read y with
  | .nan, _ | _, .nan => f.qnan
  | .inf _, .inf _ => f.qnan
  | .inf a, .finite b _ _ => f.infinity (a != b)
  | .finite a _ _, .inf b => f.zero (a != b)
  | .finite a m e, .finite b n g =>
    if n = 0 then (if m = 0 then f.qnan else f.infinity (a != b))
    else
      let k := e - g
      if 0 ≤ k then f.round (a != b) (m * 2 ^ k.toNat) n else f.round (a != b) m (n * 2 ^ (-k).toNat)

/-- Square root: correctly rounded through an integer root with a sticky bit. -/
def FloatFormat.sqrt (f : FloatFormat) (x : Nat) : Nat :=
  match f.read x with
  | .nan => f.qnan
  | .inf a => if a then f.qnan else f.infinity false
  | .finite a m e =>
    if m = 0 then x
    else if a then f.qnan
    else
      -- m * 2 ^ e with an even exponent and enough digits below the last one kept
      let s := 2 * (f.frac + 3)
      let odd := e % 2 ≠ 0
      let m' := (if odd then 2 * m else m) * 2 ^ s
      let e' := (if odd then e - 1 else e) - s
      let r := isqrt m'
      let sticky := if r * r = m' then 0 else 1
      f.ofDyadic (2 * (r : Int) + sticky) (e' / 2 - 1) false

/-- Whether a pattern is finite (R319). -/
def FloatFormat.isFinite (f : FloatFormat) (x : Nat) : Bool := x / 2 ^ f.frac % 2 ^ f.exp != 2 ^ f.exp - 1

/-- Whether a pattern is a NaN. -/
def FloatFormat.isNan (f : FloatFormat) (x : Nat) : Bool :=
  x / 2 ^ f.frac % 2 ^ f.exp == 2 ^ f.exp - 1 && x % 2 ^ f.frac != 0

/-- Ordered comparison of two patterns: false where either is a NaN. -/
def FloatFormat.lt (f : FloatFormat) (x y : Nat) : Bool :=
  match f.read x, f.read y with
  | .nan, _ | _, .nan => false
  | .inf a, .inf b => a && !b
  | .inf a, .finite .. => a
  | .finite .., .inf b => !b
  | .finite a m e, .finite b n g =>
    let h := min e g
    decide (signInt a m * 2 ^ (e - h).toNat < signInt b n * 2 ^ (g - h).toNat)

/-- Equality of two numbers (zeros of both signs are equal, a NaN equals nothing). -/
def FloatFormat.eq (f : FloatFormat) (x y : Nat) : Bool :=
  !(f.isNan x) && !(f.isNan y) && !(f.lt x y) && !(f.lt y x)

/-- Less or equal. -/
def FloatFormat.le (f : FloatFormat) (x y : Nat) : Bool := f.lt x y || f.eq x y

/-- The pattern nearest to an integer. -/
def FloatFormat.ofInt (f : FloatFormat) (i : Int) : Nat := f.ofDyadic i 0 false

/-- The pattern nearest to a fraction. -/
def FloatFormat.ofRat (f : FloatFormat) (num : Int) (den : Nat) : Nat := f.round (decide (num < 0)) num.natAbs den

/-- The exact value of a finite pattern as a fraction (numerator, denominator); 0 otherwise. -/
def FloatFormat.toRat (f : FloatFormat) (x : Nat) : Int × Nat :=
  match f.read x with
  | .finite a m e => if 0 ≤ e then (signInt a m * 2 ^ e.toNat, 1) else (signInt a m, 2 ^ (-e).toNat)
  | _ => (0, 1)

/-- The whole number nearest to a fraction, ties to even. -/
def roundHalfEven (num : Int) (den : Nat) : Int :=
  if num < 0 then -(nearestEven num.natAbs den : Int) else nearestEven num.natAbs den

/-- A pattern of one format rounded to another. -/
def FloatFormat.convert (f g : FloatFormat) (x : Nat) : Nat :=
  match f.read x with
  | .nan => g.qnan
  | .inf a => g.infinity a
  | .finite a m e => g.ofDyadic (signInt a m) e a

/-- A binary32 or binary64 number, held as its bit pattern, with the operations in the notation of R10. -/
def F32.add (x y : F32) : F32 := BitVec.ofNat 32 (fmt32.add x.toNat y.toNat)
/-- binary32 subtraction. -/
def F32.sub (x y : F32) : F32 := BitVec.ofNat 32 (fmt32.sub x.toNat y.toNat)
/-- binary32 multiplication. -/
def F32.mul (x y : F32) : F32 := BitVec.ofNat 32 (fmt32.mul x.toNat y.toNat)
/-- binary32 division. -/
def F32.div (x y : F32) : F32 := BitVec.ofNat 32 (fmt32.div x.toNat y.toNat)
/-- binary32 square root. -/
def F32.sqrt (x : F32) : F32 := BitVec.ofNat 32 (fmt32.sqrt x.toNat)
/-- binary32 sign reversal. -/
def F32.neg (x : F32) : F32 := BitVec.ofNat 32 (fmt32.neg x.toNat)
/-- binary32 magnitude. -/
def F32.abs (x : F32) : F32 := BitVec.ofNat 32 (fmt32.abs x.toNat)
/-- binary32 order. -/
def F32.lt (x y : F32) : Bool := fmt32.lt x.toNat y.toNat
/-- binary32 order or equality. -/
def F32.le (x y : F32) : Bool := fmt32.le x.toNat y.toNat
/-- binary32 equality. -/
def F32.eq (x y : F32) : Bool := fmt32.eq x.toNat y.toNat
/-- binary32 finiteness. -/
def F32.isFinite (x : F32) : Bool := fmt32.isFinite x.toNat
/-- binary32 from an integer. -/
def F32.ofInt (i : Int) : F32 := BitVec.ofNat 32 (fmt32.ofInt i)
/-- binary32 from a fraction. -/
def F32.ofRat (num : Int) (den : Nat) : F32 := BitVec.ofNat 32 (fmt32.ofRat num den)
/-- The larger of two binary32 numbers. -/
def F32.max (x y : F32) : F32 := if F32.lt y x then x else y
/-- The smaller of two binary32 numbers. -/
def F32.min (x y : F32) : F32 := if F32.lt x y then x else y
/-- A binary32 number clamped to a range. -/
def F32.clamp (lo hi x : F32) : F32 := if F32.lt x lo then lo else if F32.lt hi x then hi else x
/-- The quiet NaN of R169. -/
def F32.qnan : F32 := 0x7FC00000#32
/-- 0.0. -/
def F32.zero : F32 := 0#32
/-- 1.0. -/
def F32.one : F32 := 0x3F800000#32

/-- binary64 addition. -/
def F64.add (x y : F64) : F64 := BitVec.ofNat 64 (fmt64.add x.toNat y.toNat)
/-- binary64 subtraction. -/
def F64.sub (x y : F64) : F64 := BitVec.ofNat 64 (fmt64.sub x.toNat y.toNat)
/-- binary64 multiplication. -/
def F64.mul (x y : F64) : F64 := BitVec.ofNat 64 (fmt64.mul x.toNat y.toNat)
/-- binary64 division. -/
def F64.div (x y : F64) : F64 := BitVec.ofNat 64 (fmt64.div x.toNat y.toNat)
/-- binary64 square root. -/
def F64.sqrt (x : F64) : F64 := BitVec.ofNat 64 (fmt64.sqrt x.toNat)
/-- binary64 sign reversal. -/
def F64.neg (x : F64) : F64 := BitVec.ofNat 64 (fmt64.neg x.toNat)
/-- binary64 magnitude. -/
def F64.abs (x : F64) : F64 := BitVec.ofNat 64 (fmt64.abs x.toNat)
/-- binary64 order. -/
def F64.lt (x y : F64) : Bool := fmt64.lt x.toNat y.toNat
/-- binary64 order or equality. -/
def F64.le (x y : F64) : Bool := fmt64.le x.toNat y.toNat
/-- binary64 equality. -/
def F64.eq (x y : F64) : Bool := fmt64.eq x.toNat y.toNat
/-- binary64 from an integer. -/
def F64.ofInt (i : Int) : F64 := BitVec.ofNat 64 (fmt64.ofInt i)
/-- binary64 from a fraction. -/
def F64.ofRat (num : Int) (den : Nat) : F64 := BitVec.ofNat 64 (fmt64.ofRat num den)
/-- binary64 from binary32, exact. -/
def F64.ofF32 (x : F32) : F64 := BitVec.ofNat 64 (fmt32.convert fmt64 x.toNat)
/-- binary32 from binary64, rounded. -/
def F32.ofF64 (x : F64) : F32 := BitVec.ofNat 32 (fmt64.convert fmt32 x.toNat)
/-- The integer nearest to a finite binary64 number, ties to even. -/
def F64.round (x : F64) : Int := let r := fmt64.toRat x.toNat; roundHalfEven r.1 r.2
/-- The integer nearest to a finite binary32 number, ties to even. -/
def F32.round (x : F32) : Int := let r := fmt32.toRat x.toNat; roundHalfEven r.1 r.2
/-- The integer part of a finite binary32 number, toward minus infinity. -/
def F32.floor (x : F32) : Int := let r := fmt32.toRat x.toNat; r.1 / r.2
/-- The integer part of a finite binary64 number, toward minus infinity. -/
def F64.floor (x : F64) : Int := let r := fmt64.toRat x.toNat; r.1 / r.2

end Sys2Proof.Machine
end

