-- ==== Sys2Proof/Machine/Operands.lean ====
section
/-! DEFINITION. The operand forms of the commands: the codes the spec gives them (R34, R322, R346, R402, R422). -/

namespace Sys2Proof

/-- The source codes of R34. -/
def Source.code : Source → Nat
  | .ptpRing => 1
  | .ptpS => 2
  | .pps => 3
  | .loopMarker => 4

/-- The source of a code (R34). -/
def Source.ofCode : Nat → Option Source
  | 1 => some .ptpRing
  | 2 => some .ptpS
  | 3 => some .pps
  | 4 => some .loopMarker
  | _ => none

/-- The number of a port: A 0, B 1, S 2 (R346). -/
def Port.no : Port → Nat
  | .A => 0
  | .B => 1
  | .S => 2

/-- A ring port as a port. -/
def RingPort.port : RingPort → Port
  | .A => .A
  | .B => .B

/-- The other ring port. -/
def RingPort.other : RingPort → RingPort
  | .A => .B
  | .B => .A

/-- The code of a cause of an application core reset (R486). -/
def AppResetCause.code : AppResetCause → Nat
  | .watchdog => 1
  | .ecc => 2
  | .supervision => 3

/-- The bit of a bank in the state of banks under test: wash banks after the 16 system banks. -/
def SramBank.no : SramBank → Nat
  | .system n => n
  | .wash n => 16 + n

/-- Whether a master is the primary one. -/
def Master.isPrimary : Master → Bool
  | .primary => true
  | .secondary => false

/-- The number of a ring port, A 0, B 1. -/
def RingPort.no : RingPort → Nat
  | .A => 0
  | .B => 1

end Sys2Proof
end

