-- ==== Sys2Proof/Config.lean ====
section
/-! DEFINITION. What one part fixes and the spec leaves open: the factory constants and the free values, all
opaque, so that no statement can rest on a number (notes/assumptions 5 and 6). -/

namespace Sys2Proof.Config

/-- The twelve characters of SERIAL_NUMBER (R327). -/
opaque serialDigit : Fin 12 → Byte
/-- FIRMWARE_REV of the image a factory part runs (R327). -/
opaque firmwareRev : BitVec 32
/-- NET_MAC, the part's EUI-48 (R375). -/
opaque netMac : BitVec 48
/-- HART_DEVICE_ID (R399). -/
opaque hartDeviceId : BitVec 24
/-- Factory offset coefficients, 8 per converter (R89). -/
opaque calOffset : Nat → BitVec 32
/-- Factory gain coefficients, 8 per converter (R89). -/
opaque calGain : Nat → BitVec 32
/-- Factory paddle offset coefficients, 2 per converter (R89). -/
opaque paddleOffset : Nat → BitVec 32
/-- Factory paddle gain coefficients, 2 per converter (R89). -/
opaque paddleGain : Nat → BitVec 32
/-- The elements of the noise model for the permitted combinations that the noise table of chapter 03 does not give (R134). -/
opaque noiseOther : Nat → BitVec 16
/-- The thermal resistances TS_RTH (R457), binary32. -/
opaque tsRth : Nat → F32
/-- The bytes of VENDOR_KEY_HASH (R482). -/
opaque vendorKeyByte : Fin 32 → Byte
/-- VENDOR_KEY_HASH (R482). -/
def vendorKeyHash : List Byte := (List.finRange 32).map vendorKeyByte
/-- The identifier and the root of the top tree of the identity key (R471). -/
opaque identityKeyByte : Fin 48 → Byte
/-- ISSUED of the certificate (R471). -/
opaque certIssued : BitVec 64
/-- IDENTITY_PUBKEY (R471): two levels, the top one of types LMS_SHA256_M32_H10 and LMOTS_SHA256_N32_W4. -/
def identityPubkey : List Byte := [0, 0, 0, 2, 0, 0, 0, 6, 0, 0, 0, 3] ++ (List.finRange 48).map identityKeyByte
/-- The bytes of a number, most significant byte first. -/
def bytesOf (n : Nat) (x : Nat) : List Byte := (List.range n).map fun k => BitVec.ofNat 8 (x / 256 ^ (n - 1 - k))
/-- IDENTITY_CERT (R471): SERIAL_NUMBER, HART_DEVICE_ID, IDENTITY_PUBKEY, ISSUED. -/
def identityCert : List Byte :=
  (List.finRange 12).map serialDigit ++ bytesOf 4 hartDeviceId.toNat ++ identityPubkey ++ bytesOf 8 certIssued.toNat

/-- A fresh natural number, for values the part draws or estimates as it likes (log 6). -/
opaque freeNat : Nat → Nat
/-- A fresh integer (log 6). -/
opaque freeInt : Nat → Int
/-- A fresh binary32 pattern (log 6). -/
opaque freeF32 : Nat → F32
/-- Fresh random bytes: the output of the TRNG (R370, R481), byte `k` of draw `n`. -/
opaque trng : Nat → Nat → Byte

/-- A 64-bit fixed-point sum narrowed to Q1.31 between the stages of a BIQUAD section (R167, log 9). -/
opaque narrowQ : Int → Int
/-- The Q1.31 number of a value that is no number (R167, log 9). -/
opaque fixedOfNan : Int
/-- The quantities of an onset fit that failed before they were computed (R191, R198, log 9), by the number of the
free value. -/
opaque noFit : Nat → F32

/-- The exponential as the part computes it in binary64 (R454, log 9). -/
opaque expF64 : F64 → F64
/-- The factory ratio of the reference check (R455). -/
opaque referenceFactory : F32
/-- A fresh binary64 pattern (log 6). -/
opaque freeF64 : Nat → F64
/-- Byte `k` of the signature that the identity key gives a message with an index and a randomizer (R477): index,
message, randomizer, `k`. -/
opaque signatureByte : Nat → List Byte → List Byte → Nat → Byte
/-- Byte `k` of what belongs to a bottom tree of the identity (R471, R473): the top key's signature of the tree's public key, and
that key. -/
opaque treeByte : Nat → Nat → Byte
/-- What the part puts into a chain for an entry it no longer holds (R476; log 38): stream and position. -/
opaque lostEntry : Nat → Nat → List Byte
/-- Bytes that the area of a debug token takes (R465; log 39). -/
opaque tokenArea : Nat
/-- The vendor's signature over the certificate (R471). -/
opaque certSignature : List Byte
/-- The link-local IPv4 address that the part has taken (R364, RFC 3927). -/
opaque linkLocal4 : BitVec 32

end Sys2Proof.Config
end

