-- ==== Sys2Proof/Machine/Noise.lean ====
section
/-! DEFINITION. The factory noise model of one converter (R134, R146) and the noise table of chapter 03 that it holds. -/

namespace Sys2Proof.Machine

/-- Whether a combination of mode, gain, filter and rate codes is permitted (R71, R72, R79). -/
def noisePermitted (m g f r : Nat) : Bool :=
  (f ≠ 2 || decide (7 ≤ r)) && (m = 0 || (decide (g ≤ 1) && decide (r ≤ 9) && decide (f ≤ 1)))

/-- The rows of the noise table (R74): filter and rate codes, and the nV rms at gains 1, 8, 32 and 128. -/
def noiseRows : List (Nat × Nat × List Nat) := [
  (1, 3, [255, 45, 25, 20]),
  (1, 6, [700, 110, 60, 50]),
  (1, 9, [2000, 320, 170, 150]),
  (2, 12, [4500, 750, 450, 400]),
  (2, 15, [7500, 1600, 1200, 1100]),
  (2, 17, [11000, 3000, 2400, 2200])]

/-- The nV rms that the noise table gives for a combination in normal mode. -/
def noiseTabled (g f r : Nat) : Option Nat :=
  (noiseRows.find? fun x => x.1 == f && x.2.1 == r).bind fun x =>
    ([0, 3, 5, 7].findIdx? fun k => k == g).bind fun k => x.2.2[k]?

/-- Element e of the noise model (R134): 0 where the combination is not permitted; the values that the spec does not give are the
part's. -/
def noiseModelElement (e : Nat) : Nat :=
  let r := e % 18
  let f := e / 18 % 3
  let g := e / 54 % 8
  let m := e / 432
  if !noisePermitted m g f r then 0
  else match (if m = 0 then noiseTabled g f r else none) with
    | some v => v
    | none => (Config.noiseOther e).toNat

/-- NOISE_MODEL_p (R134): 216 elements of two bytes, most significant byte first. -/
def noiseModel (p : Nat) : List Byte :=
  (List.range 216).flatMap fun k =>
    let v := noiseModelElement (216 * p + k)
    [BitVec.ofNat 8 (v / 256), BitVec.ofNat 8 v]

end Sys2Proof.Machine
end

