-- ==== Sys2Proof/Machine/Registers.lean ====
section
/-! DEFINITION. The object dictionary's table: one card for every object of the chapters' object tables
(index, subindex, type, access, level, default, persistence: R57, R89, R90, R121, R122, R146-R148, R178, R206,
R243, R262, R289, R314, R327, R343, R375, R399, R435, R457, R482, R500), and one register constant for each. -/

namespace Sys2Proof.Machine

/-- The value of an object: a number in its type's unsigned encoding (R318: two's complement for signed types, the
bit pattern for floats), or bytes for STR, BLOB and RECORD. -/
inductive Value where
  | num (n : Nat)
  | bytes (b : List Byte)
deriving DecidableEq, Repr, Inhabited

/-- The types of R318. -/
inductive Ty where
  | bool | u8 | u16 | u32 | u64 | i8 | i16 | i32 | i64 | f32 | f64 | time | str | enum | blob | record
deriving DecidableEq, Repr

/-- The access kinds of R321. -/
inductive Access where
  | R | RW | W | RC
deriving DecidableEq, Repr

/-- The persistence classes of R323. -/
inductive Persist where
  | V | P | PC | const
deriving DecidableEq, Repr

/-- The static value check of an object (R324 step 7): reserved bits, enumeration, range; `own` names the checks that
the owning chapter states for the object. -/
inductive Check where
  | any
  | range (lo hi : Nat)
  | irange (lo hi : Int)
  | enum (values : List Nat)
  | mask (bits : Nat)
  | frange (lo hi : Nat)
  | own
deriving DecidableEq, Repr

/-- A register: its address as index times 256 plus subindex, its size in bytes (0 for a variable size) and its
default. -/
structure Reg where
  key : Nat
  size : Nat
  dflt : Value
deriving DecidableEq, Repr

/-- The card of an object or of a family of objects: `count` indexes `stride` apart, subindexes `sub` to `subLast`. -/
structure Card where
  name : String
  index : Nat
  count : Nat
  stride : Nat
  sub : Nat
  subLast : Nat
  ty : Ty
  minLen : Nat
  maxLen : Nat
  access : Access
  level : Nat
  persist : Persist
  structural : Bool
  check : Check
  dflt : Nat → Nat → Value

/-- The size in bytes of a value of a type (R318), 0 for a variable size. -/
def Ty.size : Ty → Nat
  | .bool | .u8 | .i8 | .enum => 1
  | .u16 | .i16 => 2
  | .u32 | .i32 | .f32 => 4
  | .u64 | .i64 | .f64 | .time => 8
  | .record => 8
  | .str | .blob => 0


namespace Obj

/-- COURSE_TIME of R57. -/
def COURSE_TIME : Reg := ⟨0x110001, 8, .num 0⟩
/-- STROKE_COUNT of R57. -/
def STROKE_COUNT : Reg := ⟨0x110002, 4, .num 0⟩
/-- STROKE_WRAPS of R57. -/
def STROKE_WRAPS : Reg := ⟨0x110003, 2, .num 0⟩
/-- SYNC_QUALITY of R57. -/
def SYNC_QUALITY : Reg := ⟨0x110004, 2, .num 0x00FF⟩
/-- STROKE_PHASE of R57. -/
def STROKE_PHASE : Reg := ⟨0x110005, 4, .num 0⟩
/-- COURSE_FLAGS of R57. -/
def COURSE_FLAGS : Reg := ⟨0x110006, 2, .num 0x0000⟩
/-- COURSE_SET of R57. -/
def COURSE_SET : Reg := ⟨0x110007, 8, .num 0⟩
/-- STROKE_PERIOD of R57. -/
def STROKE_PERIOD : Reg := ⟨0x110101, 2, .num 8⟩
/-- STROKE_MODE of R57. -/
def STROKE_MODE : Reg := ⟨0x110102, 1, .num 0⟩
/-- ANGLE_FALLBACK_PERIOD of R57. -/
def ANGLE_FALLBACK_PERIOD : Reg := ⟨0x110103, 2, .num 8⟩
/-- SOURCE_PRIO of R57. -/
def SOURCE_PRIO (j : Nat) : Reg := ⟨0x110201 + j, 1, .num ([1, 2, 3, 4, 0].getD j 0)⟩
/-- STEP_LIMIT of R57. -/
def STEP_LIMIT : Reg := ⟨0x110206, 4, .num 1000000⟩
/-- STEP_POLICY of R57. -/
def STEP_POLICY : Reg := ⟨0x110207, 1, .num 0⟩
/-- SLEW_MAX of R57. -/
def SLEW_MAX : Reg := ⟨0x110208, 2, .num 50⟩
/-- QUAL_TIME of R57. -/
def QUAL_TIME : Reg := ⟨0x110209, 2, .num 10⟩
/-- LOSS_TIME of R57. -/
def LOSS_TIME : Reg := ⟨0x11020A, 2, .num 3⟩
/-- SWITCH_HOLD of R57. -/
def SWITCH_HOLD : Reg := ⟨0x11020B, 2, .num 30⟩
/-- HOLDOVER_LIMIT of R57. -/
def HOLDOVER_LIMIT : Reg := ⟨0x11020C, 4, .num 1000000⟩
/-- PTP_DOMAIN of R57. -/
def PTP_DOMAIN : Reg := ⟨0x11020D, 1, .num 0⟩
/-- PTP_MAX_CLASS of R57. -/
def PTP_MAX_CLASS : Reg := ⟨0x11020E, 1, .num 248⟩
/-- PLL_TC of R57. -/
def PLL_TC : Reg := ⟨0x11020F, 2, .num 64⟩
/-- ACTIVE_SOURCE of R57. -/
def ACTIVE_SOURCE : Reg := ⟨0x110301, 1, .num 0⟩
/-- OFFSET_LAST of R57. -/
def OFFSET_LAST : Reg := ⟨0x110302, 8, .num 0⟩
/-- FREQ_ADJ of R57. -/
def FREQ_ADJ : Reg := ⟨0x110303, 4, .num 0⟩
/-- DISCIPLINED_TIME of R57. -/
def DISCIPLINED_TIME : Reg := ⟨0x110304, 4, .num 0⟩
/-- ERROR_BOUND of R57. -/
def ERROR_BOUND : Reg := ⟨0x110305, 8, .num 0xFFFFFFFFFFFFFFFF⟩
/-- SOURCE_QUALIFIED of R57. -/
def SOURCE_QUALIFIED : Reg := ⟨0x110306, 1, .num 0x00⟩
/-- COX_APPLY of R57. -/
def COX_APPLY : Reg := ⟨0x110501, 1, .num 0⟩
/-- COX_CONFLICT of R57. -/
def COX_CONFLICT : Reg := ⟨0x110502, 1, .num 0xFF⟩
/-- MARK_COLLISIONS of R57. -/
def MARK_COLLISIONS : Reg := ⟨0x110503, 4, .num 0⟩
/-- MARKS_DROPPED of R57. -/
def MARKS_DROPPED : Reg := ⟨0x110504, 4, .num 0⟩
/-- ENC_COUNTS_REV of R57. -/
def ENC_COUNTS_REV : Reg := ⟨0x110601, 4, .num 4096⟩
/-- STROKES_PER_REV of R57. -/
def STROKES_PER_REV : Reg := ⟨0x110602, 2, .num 16⟩
/-- ENC_INDEX of R57. -/
def ENC_INDEX : Reg := ⟨0x110603, 1, .num 1⟩
/-- ENC_COUNT of R57. -/
def ENC_COUNT : Reg := ⟨0x110604, 4, .num 0⟩
/-- ENC_ERRORS of R57. -/
def ENC_ERRORS : Reg := ⟨0x110605, 4, .num 0⟩
/-- PPS_EDGE of R57. -/
def PPS_EDGE : Reg := ⟨0x110701, 1, .num 0⟩
/-- PPS_DELAY of R57. -/
def PPS_DELAY : Reg := ⟨0x110702, 4, .num 0⟩
/-- PPS_REJECTED of R57. -/
def PPS_REJECTED : Reg := ⟨0x110703, 4, .num 0⟩
/-- COURSE_ALARM of R57. -/
def COURSE_ALARM (j : Nat) : Reg := ⟨0x110801 + j, 8, .num 0⟩
/-- ALARM_FLAGS of R57. -/
def ALARM_FLAGS : Reg := ⟨0x110805, 1, .num 0x00⟩
/-- ASYM of R57. -/
def ASYM (j : Nat) : Reg := ⟨0x110901 + j, 4, .num 0⟩
/-- MARK_OFFSET of R57. -/
def MARK_OFFSET (i : Nat) : Reg := ⟨0x111001 + 256 * i, 4, .num 0⟩
/-- MARK_ACTION of R57. -/
def MARK_ACTION (i : Nat) : Reg := ⟨0x111002 + 256 * i, 1, .num 0⟩
/-- MARK_TARGET of R57. -/
def MARK_TARGET (i : Nat) : Reg := ⟨0x111003 + 256 * i, 1, .num 0⟩
/-- MARK_DIVIDER of R57. -/
def MARK_DIVIDER (i : Nat) : Reg := ⟨0x111004 + 256 * i, 2, .num 1⟩
/-- MARK_PHASE of R57. -/
def MARK_PHASE (i : Nat) : Reg := ⟨0x111005 + 256 * i, 2, .num 0⟩
/-- CV_MODE of R89. -/
def CV_MODE (i : Nat) : Reg := ⟨0x200001 + 65536 * i, 1, .num 1⟩
/-- REF_SEL of R89. -/
def REF_SEL (i : Nat) : Reg := ⟨0x200002 + 65536 * i, 1, .num 0⟩
/-- INBUF of R89. -/
def INBUF (i : Nat) : Reg := ⟨0x200003 + 65536 * i, 1, .num 1⟩
/-- BURNOUT of R89. -/
def BURNOUT (i : Nat) : Reg := ⟨0x200004 + 65536 * i, 1, .num 0⟩
/-- CV_STATUS of R89. -/
def CV_STATUS (i : Nat) : Reg := ⟨0x200005 + 65536 * i, 2, .num 0x0020⟩
/-- CV_FLAGS of R89. -/
def CV_FLAGS (i : Nat) : Reg := ⟨0x200006 + 65536 * i, 2, .num 0x0000⟩
/-- OVERRANGE_COUNT of R89. -/
def OVERRANGE_COUNT (i : Nat) : Reg := ⟨0x200007 + 65536 * i, 4, .num 0⟩
/-- OVERLOAD_COUNT of R89. -/
def OVERLOAD_COUNT (i : Nat) : Reg := ⟨0x200008 + 65536 * i, 4, .num 0⟩
/-- OW_MASK of R89. -/
def OW_MASK (i : Nat) : Reg := ⟨0x200009 + 65536 * i, 8, .num 0⟩
/-- OW_INTERVAL of R89. -/
def OW_INTERVAL (i : Nat) : Reg := ⟨0x20000A + 65536 * i, 2, .num 10⟩
/-- OW_AMPLITUDE of R89. -/
def OW_AMPLITUDE (i : Nat) : Reg := ⟨0x20000B + 65536 * i, 2, .num 50⟩
/-- OW_THRESHOLD of R89. -/
def OW_THRESHOLD (i : Nat) : Reg := ⟨0x20000C + 65536 * i, 1, .num 25⟩
/-- OW_OPEN of R89. -/
def OW_OPEN (i : Nat) : Reg := ⟨0x20000D + 65536 * i, 8, .num 0⟩
/-- OW_CHECKS of R89. -/
def OW_CHECKS (i : Nat) : Reg := ⟨0x20000E + 65536 * i, 4, .num 0⟩
/-- OW_TRANSIENT of R89. -/
def OW_TRANSIENT (i : Nat) : Reg := ⟨0x20000F + 65536 * i, 4, .num 0⟩
/-- OW_DEFERRED of R89. -/
def OW_DEFERRED (i : Nat) : Reg := ⟨0x200010 + 65536 * i, 4, .num 0⟩
/-- CAL_OFFSET_G of R89. -/
def CAL_OFFSET_G (i : Nat) (j : Nat) : Reg := ⟨0x200101 + 65536 * i + j, 4, .num (Config.calOffset (8 * i + j)).toNat⟩
/-- CAL_GAIN_G of R89. -/
def CAL_GAIN_G (i : Nat) (j : Nat) : Reg := ⟨0x200109 + 65536 * i + j, 4, .num (Config.calGain (8 * i + j)).toNat⟩
/-- PADDLE_OFFSET_G of R89. -/
def PADDLE_OFFSET_G (i : Nat) (j : Nat) : Reg := ⟨0x200111 + 65536 * i + j, 4, .num (Config.paddleOffset (2 * i + j)).toNat⟩
/-- PADDLE_GAIN_G of R89. -/
def PADDLE_GAIN_G (i : Nat) (j : Nat) : Reg := ⟨0x200113 + 65536 * i + j, 4, .num (Config.paddleGain (2 * i + j)).toNat⟩
/-- IEXC_LEVEL of R90. -/
def IEXC_LEVEL (j : Nat) : Reg := ⟨0x250001 + j, 1, .num 0⟩
/-- IEXC_PIN of R90. -/
def IEXC_PIN (j : Nat) : Reg := ⟨0x250005 + j, 1, .num 0⟩
/-- IEXC_FLAGS of R90. -/
def IEXC_FLAGS : Reg := ⟨0x250009, 1, .num 0x00⟩
/-- INJ_DROPPED of R121. -/
def INJ_DROPPED (i : Nat) : Reg := ⟨0x200030 + 65536 * i, 4, .num 0⟩
/-- INJ_ENTRY of R121. -/
def INJ_ENTRY (i : Nat) : Reg := ⟨0x200031 + 65536 * i, 8, .num 0x8400000100000000⟩
/-- INJ_REQUEST of R121. -/
def INJ_REQUEST (i : Nat) : Reg := ⟨0x200032 + 65536 * i, 1, .num 0⟩
/-- INJ_RESULT of R121. -/
def INJ_RESULT (i : Nat) : Reg := ⟨0x200033 + 65536 * i, 8, .num 0⟩
/-- INJ_STATUS of R121. -/
def INJ_STATUS (i : Nat) : Reg := ⟨0x200034 + 65536 * i, 1, .num 0⟩
/-- SEQ_CTRL of R121. -/
def SEQ_CTRL (i : Nat) : Reg := ⟨0x200035 + 65536 * i, 1, .num 0⟩
/-- SEQ_LAST of R121. -/
def SEQ_LAST (i : Nat) : Reg := ⟨0x200036 + 65536 * i, 1, .num 0⟩
/-- SEQ_LOOP of R121. -/
def SEQ_LOOP (i : Nat) : Reg := ⟨0x200037 + 65536 * i, 1, .num 0⟩
/-- TRIG_SRC of R121. -/
def TRIG_SRC (i : Nat) : Reg := ⟨0x200038 + 65536 * i, 1, .num 0⟩
/-- TRIG_DELAY of R121. -/
def TRIG_DELAY (i : Nat) : Reg := ⟨0x200039 + 65536 * i, 4, .num 0⟩
/-- RETRIG of R121. -/
def RETRIG (i : Nat) : Reg := ⟨0x20003A + 65536 * i, 1, .num 0⟩
/-- SEQ_START of R121. -/
def SEQ_START (i : Nat) : Reg := ⟨0x20003B + 65536 * i, 1, .num 0⟩
/-- RESULT_DEST of R121. -/
def RESULT_DEST (i : Nat) : Reg := ⟨0x20003C + 65536 * i, 1, .num 0⟩
/-- SEQ_STATE of R121. -/
def SEQ_STATE (i : Nat) : Reg := ⟨0x20003D + 65536 * i, 1, .num 0⟩
/-- SEQ_ENTRY_NOW of R121. -/
def SEQ_ENTRY_NOW (i : Nat) : Reg := ⟨0x20003E + 65536 * i, 1, .num 0⟩
/-- TRIG_MISSED of R121. -/
def TRIG_MISSED (i : Nat) : Reg := ⟨0x20003F + 65536 * i, 4, .num 0⟩
/-- TRIG_LATE of R121. -/
def TRIG_LATE (i : Nat) : Reg := ⟨0x200040 + 65536 * i, 4, .num 0⟩
/-- SEQ_ABANDONED of R121. -/
def SEQ_ABANDONED (i : Nat) : Reg := ⟨0x200041 + 65536 * i, 4, .num 0⟩
/-- SEQ_FLAGS of R121. -/
def SEQ_FLAGS (i : Nat) : Reg := ⟨0x200042 + 65536 * i, 2, .num 0x0000⟩
/-- CAL_REQUEST of R121. -/
def CAL_REQUEST (i : Nat) : Reg := ⟨0x200043 + 65536 * i, 1, .num 0⟩
/-- CAL_GAIN_MASK of R121. -/
def CAL_GAIN_MASK (i : Nat) : Reg := ⟨0x200044 + 65536 * i, 1, .num 0xFF⟩
/-- CAL_ENTRY of R121. -/
def CAL_ENTRY (i : Nat) : Reg := ⟨0x200045 + 65536 * i, 1, .num 0⟩
/-- CAL_TARGET of R121. -/
def CAL_TARGET (i : Nat) : Reg := ⟨0x200046 + 65536 * i, 4, .num 0⟩
/-- CAL_STATUS of R121. -/
def CAL_STATUS (i : Nat) : Reg := ⟨0x200047 + 65536 * i, 2, .num 0x0000⟩
/-- SEQ_ENTRY of R121. -/
def SEQ_ENTRY (i : Nat) (j : Nat) : Reg := ⟨0x200201 + 65536 * i + j, 8, .num 0x8400000100000000⟩
/-- RESULT of R121. -/
def RESULT (i : Nat) (j : Nat) : Reg := ⟨0x200301 + 65536 * i + j, 8, .num 0⟩
/-- QUEUE_WORD of R122. -/
def QUEUE_WORD : Reg := ⟨0x260001, 8, .num 0⟩
/-- QUEUE_BLOCK of R122. -/
def QUEUE_BLOCK : Reg := ⟨0x260002, 0, .bytes []⟩
/-- QUEUE_FILL of R122. -/
def QUEUE_FILL : Reg := ⟨0x260003, 2, .num 0⟩
/-- QUEUE_WATERMARK of R122. -/
def QUEUE_WATERMARK : Reg := ⟨0x260004, 2, .num 1536⟩
/-- QUEUE_LOST of R122. -/
def QUEUE_LOST : Reg := ⟨0x260005, 4, .num 0⟩
/-- QUEUE_FLAGS of R122. -/
def QUEUE_FLAGS : Reg := ⟨0x260006, 1, .num 0x00⟩
/-- QUEUE_FLUSH of R122. -/
def QUEUE_FLUSH : Reg := ⟨0x260007, 1, .num 0⟩
/-- XCHK_MODE of R146. -/
def XCHK_MODE : Reg := ⟨0x270001, 1, .num 0⟩
/-- ROTATE_STROKES of R146. -/
def ROTATE_STROKES : Reg := ⟨0x270002, 2, .num 1000⟩
/-- XCHK_BLOCK of R146. -/
def XCHK_BLOCK : Reg := ⟨0x270003, 2, .num 64⟩
/-- XCHK_FLOOR_NV of R146. -/
def XCHK_FLOOR_NV : Reg := ⟨0x270004, 4, .num 5000⟩
/-- XCHK_FLOOR_PPM of R146. -/
def XCHK_FLOOR_PPM : Reg := ⟨0x270005, 2, .num 100⟩
/-- ST_ZERO_TOL of R146. -/
def ST_ZERO_TOL : Reg := ⟨0x270006, 2, .num 500⟩
/-- ST_GAIN_TOL of R146. -/
def ST_GAIN_TOL : Reg := ⟨0x270007, 2, .num 1000⟩
/-- ST_LIN_TOL of R146. -/
def ST_LIN_TOL : Reg := ⟨0x270008, 2, .num 500⟩
/-- SEAT_MAP of R146. -/
def SEAT_MAP : Reg := ⟨0x270009, 2, .num 0xC210⟩
/-- RETIRED of R146. -/
def RETIRED : Reg := ⟨0x27000A, 1, .num 0x00⟩
/-- XCHK_STATUS of R146. -/
def XCHK_STATUS : Reg := ⟨0x27000B, 2, .num 0x0000⟩
/-- XCHK_FLAGS of R146. -/
def XCHK_FLAGS : Reg := ⟨0x27000C, 2, .num 0x0000⟩
/-- ROTATIONS of R146. -/
def ROTATIONS : Reg := ⟨0x27000D, 4, .num 0⟩
/-- ROTATE_COUNTDOWN of R146. -/
def ROTATE_COUNTDOWN : Reg := ⟨0x27000E, 2, .num 1000⟩
/-- NOISE_MODEL_0 of R146. -/
def NOISE_MODEL_0 : Reg := ⟨0x27000F, 0, .bytes (noiseModel 0)⟩
/-- FULL4_PAIR_PERIOD of R146. -/
def FULL4_PAIR_PERIOD : Reg := ⟨0x270010, 2, .num 1000⟩
/-- UNRETIRE of R146. -/
def UNRETIRE : Reg := ⟨0x270011, 1, .num 0⟩
/-- ST_REQUEST of R146. -/
def ST_REQUEST : Reg := ⟨0x270012, 1, .num 0⟩
/-- XCHK_SKIPPED of R146. -/
def XCHK_SKIPPED : Reg := ⟨0x270013, 4, .num 0⟩
/-- XCHK_STARVED of R146. -/
def XCHK_STARVED : Reg := ⟨0x270014, 4, .num 0⟩
/-- NOISE_MODEL_1 of R146. -/
def NOISE_MODEL_1 : Reg := ⟨0x270015, 0, .bytes (noiseModel 1)⟩
/-- NOISE_MODEL_2 of R146. -/
def NOISE_MODEL_2 : Reg := ⟨0x270016, 0, .bytes (noiseModel 2)⟩
/-- NOISE_MODEL_3 of R146. -/
def NOISE_MODEL_3 : Reg := ⟨0x270017, 0, .bytes (noiseModel 3)⟩
/-- XCHK_ENTRY of R147. -/
def XCHK_ENTRY (i : Nat) : Reg := ⟨0x200050 + 65536 * i, 1, .num 0⟩
/-- XCHK_PAIRS of R147. -/
def XCHK_PAIRS (i : Nat) : Reg := ⟨0x200051 + 65536 * i, 4, .num 0⟩
/-- XCHK_ERRORS of R147. -/
def XCHK_ERRORS (i : Nat) : Reg := ⟨0x200052 + 65536 * i, 4, .num 0⟩
/-- XCHK_TRANSIENT of R147. -/
def XCHK_TRANSIENT (i : Nat) : Reg := ⟨0x200053 + 65536 * i, 4, .num 0⟩
/-- ST_RUNS of R147. -/
def ST_RUNS (i : Nat) : Reg := ⟨0x200054 + 65536 * i, 4, .num 0⟩
/-- ST_FAILS of R147. -/
def ST_FAILS (i : Nat) : Reg := ⟨0x200055 + 65536 * i, 4, .num 0⟩
/-- ST_MEAN_N of R147. -/
def ST_MEAN_N (i : Nat) : Reg := ⟨0x200056 + 65536 * i, 4, .num 0⟩
/-- ST_MEAN_Z of R147. -/
def ST_MEAN_Z (i : Nat) : Reg := ⟨0x200057 + 65536 * i, 4, .num 0⟩
/-- ST_MEAN_P of R147. -/
def ST_MEAN_P (i : Nat) : Reg := ⟨0x200058 + 65536 * i, 4, .num 0⟩
/-- XCHK_LAST_DIFF of R147. -/
def XCHK_LAST_DIFF (i : Nat) : Reg := ⟨0x200059 + 65536 * i, 4, .num 0x00000000⟩
/-- XCHK_LAST_THR of R147. -/
def XCHK_LAST_THR (i : Nat) : Reg := ⟨0x20005A + 65536 * i, 4, .num 0x00000000⟩
/-- DIAG_MANUAL of R148. -/
def DIAG_MANUAL : Reg := ⟨0x240001, 1, .num 0⟩
/-- DIAG_CODE of R148. -/
def DIAG_CODE : Reg := ⟨0x240002, 2, .num 0⟩
/-- DIAG_ATT of R148. -/
def DIAG_ATT : Reg := ⟨0x240003, 1, .num 0⟩
/-- DIAG_OWNER of R148. -/
def DIAG_OWNER : Reg := ⟨0x240004, 1, .num 0⟩
/-- DIAG_FLAGS of R148. -/
def DIAG_FLAGS : Reg := ⟨0x240005, 1, .num 0x00⟩
/-- ENGINE_HZ of R178. -/
def ENGINE_HZ : Reg := ⟨0x280001, 4, .num 0⟩
/-- ENGINE_CAP of R178. -/
def ENGINE_CAP : Reg := ⟨0x280002, 4, .num 0⟩
/-- ENGINE_LOAD of R178. -/
def ENGINE_LOAD : Reg := ⟨0x280003, 4, .num 0⟩
/-- ENGINE_APPLY of R178. -/
def ENGINE_APPLY : Reg := ⟨0x280004, 1, .num 0⟩
/-- ENGINE_CONFLICT of R178. -/
def ENGINE_CONFLICT : Reg := ⟨0x280005, 4, .num 0xFF000000⟩
/-- ENGINE_FLAGS of R178. -/
def ENGINE_FLAGS : Reg := ⟨0x280006, 2, .num 0x0000⟩
/-- PARITY_ERRORS of R178. -/
def PARITY_ERRORS : Reg := ⟨0x280007, 4, .num 0⟩
/-- PARITY_TRANSIENT of R178. -/
def PARITY_TRANSIENT : Reg := ⟨0x280008, 4, .num 0⟩
/-- FRAMES_RETIRED of R178. -/
def FRAMES_RETIRED : Reg := ⟨0x280009, 8, .num 0⟩
/-- ROWS_RETIRED of R178. -/
def ROWS_RETIRED : Reg := ⟨0x28000A, 2, .num 0⟩
/-- ANGLE_ADMIT_MIN of R178. -/
def ANGLE_ADMIT_MIN : Reg := ⟨0x28000B, 2, .num 8⟩
/-- ANGLE_ADMIT_MAX of R178. -/
def ANGLE_ADMIT_MAX : Reg := ⟨0x28000C, 2, .num 80⟩
/-- LANE_ENABLE of R178. -/
def LANE_ENABLE (i : Nat) : Reg := ⟨0x281001 + 256 * i, 1, .num 0⟩
/-- LANE_STATUS of R178. -/
def LANE_STATUS (i : Nat) : Reg := ⟨0x281002 + 256 * i, 2, .num (i * 0x80)⟩
/-- LANE_FLAGS of R178. -/
def LANE_FLAGS (i : Nat) : Reg := ⟨0x281003 + 256 * i, 2, .num 0x0000⟩
/-- LANE_COST of R178. -/
def LANE_COST (i : Nat) : Reg := ⟨0x281004 + 256 * i, 4, .num 0⟩
/-- LANE_FINISH_BOUND of R178. -/
def LANE_FINISH_BOUND (i : Nat) : Reg := ⟨0x281005 + 256 * i, 4, .num 0⟩
/-- LANE_RUNS of R178. -/
def LANE_RUNS (i : Nat) : Reg := ⟨0x281006 + 256 * i, 4, .num 0⟩
/-- LANE_OVERRUNS of R178. -/
def LANE_OVERRUNS (i : Nat) : Reg := ⟨0x281007 + 256 * i, 4, .num 0⟩
/-- LANE_LAST_CYCLES of R178. -/
def LANE_LAST_CYCLES (i : Nat) : Reg := ⟨0x281008 + 256 * i, 4, .num 0⟩
/-- LANE_LAST_DT of R178. -/
def LANE_LAST_DT (i : Nat) : Reg := ⟨0x281009 + 256 * i, 4, .num 0⟩
/-- IN_FAILED of R178. -/
def IN_FAILED (i : Nat) : Reg := ⟨0x28100A + 256 * i, 1, .num 0x00⟩
/-- IN_OVERFLOWS of R178. -/
def IN_OVERFLOWS (i : Nat) : Reg := ⟨0x28100B + 256 * i, 4, .num 0⟩
/-- IN_BIND of R178. -/
def IN_BIND (i : Nat) (j : Nat) : Reg := ⟨0x281011 + 256 * i + j, 2, .num 0x0000⟩
/-- IN_TIMEOUT of R178. -/
def IN_TIMEOUT (i : Nat) (j : Nat) : Reg := ⟨0x281019 + 256 * i + j, 2, .num 3⟩
/-- OP of R178. -/
def OP (i : Nat) (j : Nat) : Reg := ⟨0x283001 + 256 * i + j, 8, .num 0⟩
/-- PARAM_BLOCK of R178. -/
def PARAM_BLOCK (i : Nat) : Reg := ⟨0x2A0001 + 256 * i, 0, .bytes []⟩
/-- PV_VALUE of R179. -/
def PV_VALUE (i : Nat) : Reg := ⟨0x400001 + 256 * i, 4, .num 0x00000000⟩
/-- PV_STATUS of R179. -/
def PV_STATUS (i : Nat) : Reg := ⟨0x400002 + 256 * i, 2, .num 0x9000⟩
/-- PV_TIME of R179. -/
def PV_TIME (i : Nat) : Reg := ⟨0x400003 + 256 * i, 8, .num 0⟩
/-- PV_SYNC of R179. -/
def PV_SYNC (i : Nat) : Reg := ⟨0x400004 + 256 * i, 2, .num 0x00FF⟩
/-- PV_UNIT of R179. -/
def PV_UNIT (i : Nat) : Reg := ⟨0x400005 + 256 * i, 1, .num 250⟩
/-- PV_WRITER of R179. -/
def PV_WRITER (i : Nat) : Reg := ⟨0x400006 + 256 * i, 1, .num 0xFF⟩
/-- PV_UPDATES of R179. -/
def PV_UPDATES (i : Nat) : Reg := ⟨0x400007 + 256 * i, 4, .num 0⟩
/-- WASH_APPLY of R206. -/
def WASH_APPLY : Reg := ⟨0x300001, 1, .num 0⟩
/-- WASH_BLOCKS_FREE of R206. -/
def WASH_BLOCKS_FREE : Reg := ⟨0x300002, 1, .num 64⟩
/-- CAPTURE_FLAGS of R206. -/
def CAPTURE_FLAGS : Reg := ⟨0x300003, 2, .num 0x0000⟩
/-- WASH_CONFLICT of R206. -/
def WASH_CONFLICT : Reg := ⟨0x300004, 2, .num 0xFFFF⟩
/-- CATCH_LOST of R206. -/
def CATCH_LOST : Reg := ⟨0x300005, 4, .num 0⟩
/-- CATCH_LAST_ID of R206. -/
def CATCH_LAST_ID : Reg := ⟨0x300006, 4, .num 0⟩
/-- WASH_BLOCKS of R206. -/
def WASH_BLOCKS (i : Nat) : Reg := ⟨0x301001 + 256 * i, 1, .num 0⟩
/-- WASH_SPACING of R206. -/
def WASH_SPACING (i : Nat) : Reg := ⟨0x301002 + 256 * i, 4, .num 0⟩
/-- WASH_DEPTH of R206. -/
def WASH_DEPTH (i : Nat) : Reg := ⟨0x301003 + 256 * i, 4, .num 0⟩
/-- WASH_STATE of R206. -/
def WASH_STATE (i : Nat) : Reg := ⟨0x301004 + 256 * i, 1, .num 0⟩
/-- WASH_FILL of R206. -/
def WASH_FILL (i : Nat) : Reg := ⟨0x301005 + 256 * i, 4, .num 0⟩
/-- WASH_GAPS of R206. -/
def WASH_GAPS (i : Nat) : Reg := ⟨0x301006 + 256 * i, 4, .num 0⟩
/-- WASH_DISCARDED of R206. -/
def WASH_DISCARDED (i : Nat) : Reg := ⟨0x301007 + 256 * i, 4, .num 0⟩
/-- WASH_NEWEST of R206. -/
def WASH_NEWEST (i : Nat) : Reg := ⟨0x301008 + 256 * i, 8, .num 0⟩
/-- CATCH_ENABLE of R206. -/
def CATCH_ENABLE (i : Nat) : Reg := ⟨0x310001 + 256 * i, 1, .num 0⟩
/-- CATCH_CHANNEL of R206. -/
def CATCH_CHANNEL (i : Nat) : Reg := ⟨0x310002 + 256 * i, 1, .num 0⟩
/-- CATCH_MASK of R206. -/
def CATCH_MASK (i : Nat) : Reg := ⟨0x310003 + 256 * i, 1, .num 0x00⟩
/-- CATCH_PRE of R206. -/
def CATCH_PRE (i : Nat) : Reg := ⟨0x310004 + 256 * i, 4, .num 2000⟩
/-- CATCH_POST of R206. -/
def CATCH_POST (i : Nat) : Reg := ⟨0x310005 + 256 * i, 4, .num 2000⟩
/-- CATCH_HOLDOFF of R206. -/
def CATCH_HOLDOFF (i : Nat) : Reg := ⟨0x310006 + 256 * i, 4, .num 1000⟩
/-- CATCH_STREAM of R206. -/
def CATCH_STREAM (i : Nat) : Reg := ⟨0x310007 + 256 * i, 1, .num 0⟩
/-- CATCH_RATE_MAX of R206. -/
def CATCH_RATE_MAX (i : Nat) : Reg := ⟨0x310008 + 256 * i, 2, .num 60⟩
/-- FIT_PRE of R206. -/
def FIT_PRE (i : Nat) : Reg := ⟨0x310009 + 256 * i, 2, .num 256⟩
/-- FIT_GUARD of R206. -/
def FIT_GUARD (i : Nat) : Reg := ⟨0x31000A + 256 * i, 2, .num 128⟩
/-- FIT_POST of R206. -/
def FIT_POST (i : Nat) : Reg := ⟨0x31000B + 256 * i, 2, .num 256⟩
/-- MIN_STEP of R206. -/
def MIN_STEP (i : Nat) : Reg := ⟨0x31000C + 256 * i, 4, .num 0x00000000⟩
/-- CLASS_FAST_RATE of R206. -/
def CLASS_FAST_RATE (i : Nat) : Reg := ⟨0x31000D + 256 * i, 4, .num 0x00000000⟩
/-- CATCH_UNIT of R206. -/
def CATCH_UNIT (i : Nat) : Reg := ⟨0x31000E + 256 * i, 1, .num 250⟩
/-- CATCH_COUNT of R206. -/
def CATCH_COUNT (i : Nat) : Reg := ⟨0x31000F + 256 * i, 4, .num 0⟩
/-- CATCH_MERGED of R206. -/
def CATCH_MERGED (i : Nat) : Reg := ⟨0x310010 + 256 * i, 4, .num 0⟩
/-- CATCH_SUPPRESSED of R206. -/
def CATCH_SUPPRESSED (i : Nat) : Reg := ⟨0x310011 + 256 * i, 4, .num 0⟩
/-- FETCH_CATCH of R206. -/
def FETCH_CATCH : Reg := ⟨0x320001, 4, .num 0⟩
/-- FETCH_CHANNEL of R206. -/
def FETCH_CHANNEL : Reg := ⟨0x320002, 1, .num 0⟩
/-- FETCH_OFFSET of R206. -/
def FETCH_OFFSET : Reg := ⟨0x320003, 4, .num 0⟩
/-- FETCH_DATA of R206. -/
def FETCH_DATA : Reg := ⟨0x320004, 0, .bytes []⟩
/-- CATCH_HELD of R206. -/
def CATCH_HELD : Reg := ⟨0x320005, 0, .bytes []⟩
/-- LOC_ENABLE of R206. -/
def LOC_ENABLE : Reg := ⟨0x330001, 1, .num 0⟩
/-- LOC_UP_SERIAL of R206. -/
def LOC_UP_SERIAL : Reg := ⟨0x330002, 0, .bytes []⟩
/-- LOC_UP_STREAM of R206. -/
def LOC_UP_STREAM : Reg := ⟨0x330003, 1, .num 0⟩
/-- LOC_LENGTH of R206. -/
def LOC_LENGTH : Reg := ⟨0x330004, 4, .num 0x447A0000⟩
/-- LOC_LENGTH_UNC of R206. -/
def LOC_LENGTH_UNC : Reg := ⟨0x330005, 4, .num 0x00000000⟩
/-- LOC_WAVE_SPEED of R206. -/
def LOC_WAVE_SPEED : Reg := ⟨0x330006, 4, .num 0x447A0000⟩
/-- LOC_WAVE_SPEED_UNC of R206. -/
def LOC_WAVE_SPEED_UNC : Reg := ⟨0x330007, 4, .num 0x00000000⟩
/-- LOC_MARGIN of R206. -/
def LOC_MARGIN : Reg := ⟨0x330008, 4, .num 5000⟩
/-- LOC_WAIT of R206. -/
def LOC_WAIT : Reg := ⟨0x330009, 4, .num 3000⟩
/-- LOC_STREAM of R206. -/
def LOC_STREAM : Reg := ⟨0x33000A, 1, .num 0⟩
/-- LOC_LAST_X of R206. -/
def LOC_LAST_X : Reg := ⟨0x33000B, 4, .num 0x00000000⟩
/-- LOC_LAST_UX of R206. -/
def LOC_LAST_UX : Reg := ⟨0x33000C, 4, .num 0x00000000⟩
/-- LOC_LAST_RESULT of R206. -/
def LOC_LAST_RESULT : Reg := ⟨0x33000D, 1, .num 3⟩
/-- LOC_PAIRED of R206. -/
def LOC_PAIRED : Reg := ⟨0x33000E, 4, .num 0⟩
/-- LOC_UNPAIRED of R206. -/
def LOC_UNPAIRED : Reg := ⟨0x33000F, 4, .num 0⟩
/-- LOC_UP_ADDRESS of R206. -/
def LOC_UP_ADDRESS : Reg := ⟨0x330010, 0, .bytes []⟩
/-- LOC_UP_GATE of R206. -/
def LOC_UP_GATE : Reg := ⟨0x330011, 1, .num 1⟩
/-- LOC_UP_STATE of R206. -/
def LOC_UP_STATE : Reg := ⟨0x330012, 1, .num 0⟩
/-- LOC_UP_SUB of R206. -/
def LOC_UP_SUB : Reg := ⟨0x330013, 1, .num 0xFF⟩
/-- LOOP_MODE of R243. -/
def LOOP_MODE : Reg := ⟨0x340001, 1, .num 0⟩
/-- LOOP_PV of R243. -/
def LOOP_PV : Reg := ⟨0x340002, 1, .num 0xFF⟩
/-- LOOP_RANGE of R243. -/
def LOOP_RANGE : Reg := ⟨0x340003, 8, .bytes [0, 0, 0, 0, 0x42, 0xC8, 0, 0]⟩
/-- LOOP_MIN_SPAN of R243. -/
def LOOP_MIN_SPAN : Reg := ⟨0x340004, 4, .num 0x3F800000⟩
/-- LOOP_LIMIT_LO of R243. -/
def LOOP_LIMIT_LO : Reg := ⟨0x340005, 4, .num 0xF149F2CA⟩
/-- LOOP_LIMIT_HI of R243. -/
def LOOP_LIMIT_HI : Reg := ⟨0x340006, 4, .num 0x7149F2CA⟩
/-- LOOP_FAULT_DIR of R243. -/
def LOOP_FAULT_DIR : Reg := ⟨0x340007, 1, .num 0⟩
/-- LOOP_STALE_STROKES of R243. -/
def LOOP_STALE_STROKES : Reg := ⟨0x340008, 2, .num 10⟩
/-- LOOP_CONFIG_ACTION of R243. -/
def LOOP_CONFIG_ACTION : Reg := ⟨0x340009, 1, .num 0⟩
/-- LOOP_SLEW of R243. -/
def LOOP_SLEW : Reg := ⟨0x34000A, 4, .num 0x00000000⟩
/-- LOOP_FIXED of R243. -/
def LOOP_FIXED : Reg := ⟨0x34000B, 4, .num 0x00000000⟩
/-- LOOP_HEADROOM_SET of R243. -/
def LOOP_HEADROOM_SET : Reg := ⟨0x34000C, 4, .num 0x40000000⟩
/-- LOOP_TARGET of R243. -/
def LOOP_TARGET : Reg := ⟨0x34000D, 4, .num 0x40633333⟩
/-- LOOP_CODE of R243. -/
def LOOP_CODE : Reg := ⟨0x34000E, 4, .num 142000⟩
/-- LOOP_MEASURED of R243. -/
def LOOP_MEASURED : Reg := ⟨0x34000F, 4, .num 0x00000000⟩
/-- LOOP_VOLTAGE of R243. -/
def LOOP_VOLTAGE : Reg := ⟨0x340010, 4, .num 0x00000000⟩
/-- LOOP_STATUS of R243. -/
def LOOP_STATUS : Reg := ⟨0x340011, 2, .num 0x0000⟩
/-- LOOP_FLAGS of R243. -/
def LOOP_FLAGS : Reg := ⟨0x340012, 2, .num 0x0000⟩
/-- LOOP_AGE of R243. -/
def LOOP_AGE : Reg := ⟨0x340013, 4, .num 0⟩
/-- LOOP_AGE_MAX of R243. -/
def LOOP_AGE_MAX : Reg := ⟨0x340014, 4, .num 0⟩
/-- LOOP_LATENCY_BOUND of R243. -/
def LOOP_LATENCY_BOUND : Reg := ⟨0x340015, 4, .num 0⟩
/-- MULTIDROP of R243. -/
def MULTIDROP : Reg := ⟨0x340016, 1, .num 0⟩
/-- LOOP_TRIM_OFFSET of R243. -/
def LOOP_TRIM_OFFSET : Reg := ⟨0x340101, 4, .num 0⟩
/-- LOOP_TRIM_GAIN of R243. -/
def LOOP_TRIM_GAIN : Reg := ⟨0x340102, 4, .num 0x40000000⟩
/-- LOOP_TRIM_ZERO_MEAS of R243. -/
def LOOP_TRIM_ZERO_MEAS : Reg := ⟨0x340103, 4, .num 0⟩
/-- LOOP_TRIM_SPAN_MEAS of R243. -/
def LOOP_TRIM_SPAN_MEAS : Reg := ⟨0x340104, 4, .num 0⟩
/-- LOOP_TRIM_RESET of R243. -/
def LOOP_TRIM_RESET : Reg := ⟨0x340105, 1, .num 0⟩
/-- ADAC_ENABLE of R243. -/
def ADAC_ENABLE : Reg := ⟨0x350001, 1, .num 0⟩
/-- ADAC_RANGE of R243. -/
def ADAC_RANGE : Reg := ⟨0x350002, 1, .num 0⟩
/-- ADAC_SAFE of R243. -/
def ADAC_SAFE : Reg := ⟨0x350003, 4, .num 0x00000000⟩
/-- ADAC_CONFIG_ACTION of R243. -/
def ADAC_CONFIG_ACTION : Reg := ⟨0x350004, 1, .num 1⟩
/-- ADAC_FAULT_ACTION of R243. -/
def ADAC_FAULT_ACTION : Reg := ⟨0x350005, 1, .num 1⟩
/-- ADAC_FIXED of R243. -/
def ADAC_FIXED : Reg := ⟨0x350006, 4, .num 0xBF800000⟩
/-- ADAC_CODE of R243. -/
def ADAC_CODE : Reg := ⟨0x350007, 4, .num 0⟩
/-- ADAC_MEASURED of R243. -/
def ADAC_MEASURED : Reg := ⟨0x350008, 4, .num 0x00000000⟩
/-- ADAC_STATUS of R243. -/
def ADAC_STATUS : Reg := ⟨0x350009, 2, .num 0x0000⟩
/-- ADAC_FLAGS of R243. -/
def ADAC_FLAGS : Reg := ⟨0x35000A, 1, .num 0x00⟩
/-- XDAC_ENABLE of R243. -/
def XDAC_ENABLE : Reg := ⟨0x360001, 1, .num 0⟩
/-- XDAC_GAIN of R243. -/
def XDAC_GAIN : Reg := ⟨0x360002, 1, .num 0⟩
/-- XDAC_MODE of R243. -/
def XDAC_MODE : Reg := ⟨0x360003, 1, .num 0⟩
/-- XDAC_LEVEL of R243. -/
def XDAC_LEVEL : Reg := ⟨0x360004, 4, .num 0⟩
/-- XDAC_FTW of R243. -/
def XDAC_FTW : Reg := ⟨0x360005, 4, .num 1048576⟩
/-- XDAC_PHASE0 of R243. -/
def XDAC_PHASE0 : Reg := ⟨0x360006, 4, .num 0⟩
/-- XDAC_PHASE of R243. -/
def XDAC_PHASE : Reg := ⟨0x360007, 4, .num 0⟩
/-- XDAC_CURRENT of R243. -/
def XDAC_CURRENT : Reg := ⟨0x360008, 4, .num 0x00000000⟩
/-- XDAC_FLAGS of R243. -/
def XDAC_FLAGS : Reg := ⟨0x360009, 1, .num 0x00⟩
/-- BUTTON_STATE of R243. -/
def BUTTON_STATE : Reg := ⟨0x370001, 1, .num 0⟩
/-- BUTTON_ENABLE of R243. -/
def BUTTON_ENABLE : Reg := ⟨0x370002, 1, .num 1⟩
/-- RERANGE_COUNT of R243. -/
def RERANGE_COUNT : Reg := ⟨0x370003, 4, .num 0⟩
/-- CTRL_FLAGS of R262. -/
def CTRL_FLAGS : Reg := ⟨0x380001, 2, .num 0x0000⟩
/-- CTRL_MODE of R262. -/
def CTRL_MODE (i : Nat) : Reg := ⟨0x381001 + 256 * i, 1, .num 0⟩
/-- CTRL_SP of R262. -/
def CTRL_SP (i : Nat) : Reg := ⟨0x381002 + 256 * i, 4, .num 0x00000000⟩
/-- CTRL_SP_RAMP of R262. -/
def CTRL_SP_RAMP (i : Nat) : Reg := ⟨0x381003 + 256 * i, 4, .num 0x00000000⟩
/-- CTRL_SP_EFFECTIVE of R262. -/
def CTRL_SP_EFFECTIVE (i : Nat) : Reg := ⟨0x381004 + 256 * i, 4, .num 0x00000000⟩
/-- CTRL_MANUAL of R262. -/
def CTRL_MANUAL (i : Nat) : Reg := ⟨0x381005 + 256 * i, 4, .num 0x00000000⟩
/-- SCHED_ENABLE of R262. -/
def SCHED_ENABLE (i : Nat) : Reg := ⟨0x381006 + 256 * i, 1, .num 0⟩
/-- SCHED_POINTS of R262. -/
def SCHED_POINTS (i : Nat) : Reg := ⟨0x381007 + 256 * i, 0, .bytes []⟩
/-- SCHED_TZ_OFFSET of R262. -/
def SCHED_TZ_OFFSET (i : Nat) : Reg := ⟨0x381008 + 256 * i, 4, .num 0⟩
/-- CTRL_OUTPUT of R262. -/
def CTRL_OUTPUT (i : Nat) : Reg := ⟨0x381009 + 256 * i, 4, .num 0x00000000⟩
/-- CTRL_ERROR of R262. -/
def CTRL_ERROR (i : Nat) : Reg := ⟨0x38100A + 256 * i, 4, .num 0x00000000⟩
/-- CTRL_STATUS of R262. -/
def CTRL_STATUS (i : Nat) : Reg := ⟨0x38100B + 256 * i, 2, .num 0x0000⟩
/-- SURGE_STATUS of R262. -/
def SURGE_STATUS (i : Nat) : Reg := ⟨0x390001 + 256 * i, 2, .num 0x0000⟩
/-- SURGE_WINDOW of R262. -/
def SURGE_WINDOW (i : Nat) : Reg := ⟨0x390002 + 256 * i, 8, .num 0⟩
/-- SURGE_DV_MAX of R262. -/
def SURGE_DV_MAX (i : Nat) : Reg := ⟨0x390003 + 256 * i, 4, .num 0x00000000⟩
/-- SURGE_MEASURED of R262. -/
def SURGE_MEASURED (i : Nat) : Reg := ⟨0x390004 + 256 * i, 4, .num 0x00000000⟩
/-- SURGE_PREDICTED of R262. -/
def SURGE_PREDICTED (i : Nat) : Reg := ⟨0x390005 + 256 * i, 4, .num 0x00000000⟩
/-- SURGE_COMMAND of R262. -/
def SURGE_COMMAND (i : Nat) : Reg := ⟨0x390006 + 256 * i, 4, .num 0x00000000⟩
/-- SURGE_LIMITED_SLOTS of R262. -/
def SURGE_LIMITED_SLOTS (i : Nat) : Reg := ⟨0x390007 + 256 * i, 4, .num 0⟩
/-- SURGE_FREEZES of R262. -/
def SURGE_FREEZES (i : Nat) : Reg := ⟨0x390008 + 256 * i, 4, .num 0⟩
/-- PWM_ENABLE of R262. -/
def PWM_ENABLE (i : Nat) : Reg := ⟨0x3A0001 + 256 * i, 1, .num 0⟩
/-- PWM_PERIOD of R262. -/
def PWM_PERIOD (i : Nat) : Reg := ⟨0x3A0002 + 256 * i, 4, .num 65536⟩
/-- PWM_ALIGN of R262. -/
def PWM_ALIGN (i : Nat) : Reg := ⟨0x3A0003 + 256 * i, 1, .num 0⟩
/-- PWM_POLARITY of R262. -/
def PWM_POLARITY (i : Nat) : Reg := ⟨0x3A0004 + 256 * i, 1, .num 0⟩
/-- PWM_SAFE of R262. -/
def PWM_SAFE (i : Nat) : Reg := ⟨0x3A0005 + 256 * i, 4, .num 0x00000000⟩
/-- PWM_CONFIG_ACTION of R262. -/
def PWM_CONFIG_ACTION (i : Nat) : Reg := ⟨0x3A0006 + 256 * i, 1, .num 1⟩
/-- PWM_FAULT_ACTION of R262. -/
def PWM_FAULT_ACTION (i : Nat) : Reg := ⟨0x3A0007 + 256 * i, 1, .num 1⟩
/-- PWM_FIXED of R262. -/
def PWM_FIXED (i : Nat) : Reg := ⟨0x3A0008 + 256 * i, 4, .num 0xBF800000⟩
/-- PWM_DUTY of R262. -/
def PWM_DUTY (i : Nat) : Reg := ⟨0x3A0009 + 256 * i, 4, .num 0⟩
/-- PWM_RESYNC of R262. -/
def PWM_RESYNC (i : Nat) : Reg := ⟨0x3A000A + 256 * i, 4, .num 0⟩
/-- CMD_STREAM of R289. -/
def CMD_STREAM : Reg := ⟨0x500001, 1, .num 0⟩
/-- EVENT_STREAM of R289. -/
def EVENT_STREAM : Reg := ⟨0x500002, 1, .num 1⟩
/-- EVENT_MASK of R289. -/
def EVENT_MASK : Reg := ⟨0x500003, 2, .num 0x07FE⟩
/-- ACK_WAIT of R289. -/
def ACK_WAIT : Reg := ⟨0x500004, 2, .num 500⟩
/-- REQ_HOLD of R289. -/
def REQ_HOLD : Reg := ⟨0x500005, 4, .num 3600⟩
/-- SERVICE_LIFE of R289. -/
def SERVICE_LIFE : Reg := ⟨0x500006, 1, .num 20⟩
/-- ENTRY_FLAGS of R289. -/
def ENTRY_FLAGS : Reg := ⟨0x500007, 2, .num 0x0000⟩
/-- ADMIT_CONFLICT of R289. -/
def ADMIT_CONFLICT : Reg := ⟨0x500008, 4, .num 0x00000000⟩
/-- ALARM_LATENCY_BOUND of R289. -/
def ALARM_LATENCY_BOUND : Reg := ⟨0x500009, 4, .num 0⟩
/-- REQ_DUPLICATES of R289. -/
def REQ_DUPLICATES : Reg := ⟨0x50000A, 4, .num 0⟩
/-- REQ_WITHDRAWN of R289. -/
def REQ_WITHDRAWN : Reg := ⟨0x50000B, 4, .num 0⟩
/-- REQ_OUT_OF_WINDOW of R289. -/
def REQ_OUT_OF_WINDOW : Reg := ⟨0x50000C, 4, .num 0⟩
/-- CLIENTS_IN_USE of R289. -/
def CLIENTS_IN_USE : Reg := ⟨0x50000D, 1, .num 0⟩
/-- ACK_PERSIST of R289. -/
def ACK_PERSIST : Reg := ⟨0x50000E, 2, .num 10⟩
/-- STREAM_RATE_MAX of R289. -/
def STREAM_RATE_MAX (i : Nat) : Reg := ⟨0x501001 + 256 * i, 4, .num ([360, 720].getD i 0)⟩
/-- STREAM_BURST of R289. -/
def STREAM_BURST (i : Nat) : Reg := ⟨0x501002 + 256 * i, 1, .num 4⟩
/-- STREAM_HEAD of R289. -/
def STREAM_HEAD (i : Nat) : Reg := ⟨0x501003 + 256 * i, 8, .num 0x8000000000000000⟩
/-- STREAM_OLDEST of R289. -/
def STREAM_OLDEST (i : Nat) : Reg := ⟨0x501004 + 256 * i, 8, .num 0x8000000000000000⟩
/-- STREAM_ACCEPTED of R289. -/
def STREAM_ACCEPTED (i : Nat) : Reg := ⟨0x501005 + 256 * i, 4, .num 0⟩
/-- STREAM_REFUSED of R289. -/
def STREAM_REFUSED (i : Nat) : Reg := ⟨0x501006 + 256 * i, 4, .num 0⟩
/-- STREAM_ADMITTED of R289. -/
def STREAM_ADMITTED (i : Nat) : Reg := ⟨0x501007 + 256 * i, 4, .num 0⟩
/-- SUB_ENABLE of R289. -/
def SUB_ENABLE (i : Nat) : Reg := ⟨0x510001 + 256 * i, 1, .num 0⟩
/-- SUB_STREAM of R289. -/
def SUB_STREAM (i : Nat) : Reg := ⟨0x510002 + 256 * i, 1, .num 0⟩
/-- SUB_PORT of R289. -/
def SUB_PORT (i : Nat) : Reg := ⟨0x510003 + 256 * i, 1, .num 0⟩
/-- SUB_DEST of R289. -/
def SUB_DEST (i : Nat) : Reg := ⟨0x510004 + 256 * i, 0, .bytes []⟩
/-- SUB_GATE of R289. -/
def SUB_GATE (i : Nat) : Reg := ⟨0x510005 + 256 * i, 1, .num 1⟩
/-- SUB_HOPS of R289. -/
def SUB_HOPS (i : Nat) : Reg := ⟨0x510006 + 256 * i, 1, .num 0⟩
/-- SUB_BOUND_REQ of R289. -/
def SUB_BOUND_REQ (i : Nat) : Reg := ⟨0x510007 + 256 * i, 4, .num 100000⟩
/-- SUB_BOUND of R289. -/
def SUB_BOUND (i : Nat) : Reg := ⟨0x510008 + 256 * i, 4, .num 0⟩
/-- SUB_WINDOW of R289. -/
def SUB_WINDOW (i : Nat) : Reg := ⟨0x510009 + 256 * i, 2, .num 32⟩
/-- SUB_RTO of R289. -/
def SUB_RTO (i : Nat) : Reg := ⟨0x51000A + 256 * i, 2, .num 200⟩
/-- SUB_FROM of R289. -/
def SUB_FROM (i : Nat) : Reg := ⟨0x51000B + 256 * i, 8, .num 0x8000000000000000⟩
/-- SUB_ACKED of R289. -/
def SUB_ACKED (i : Nat) : Reg := ⟨0x51000C + 256 * i, 8, .num 0x8000000000000000⟩
/-- SUB_SENT of R289. -/
def SUB_SENT (i : Nat) : Reg := ⟨0x51000D + 256 * i, 8, .num 0x8000000000000000⟩
/-- SUB_STATE of R289. -/
def SUB_STATE (i : Nat) : Reg := ⟨0x51000E + 256 * i, 1, .num 0⟩
/-- SUB_RETX of R289. -/
def SUB_RETX (i : Nat) : Reg := ⟨0x51000F + 256 * i, 4, .num 0⟩
/-- SUB_ACK_INVALID of R289. -/
def SUB_ACK_INVALID (i : Nat) : Reg := ⟨0x510010 + 256 * i, 4, .num 0⟩
/-- PUB_GATE of R289. -/
def PUB_GATE (i : Nat) : Reg := ⟨0x520001 + 256 * i, 1, .num 0⟩
/-- PUB_FRAMES of R289. -/
def PUB_FRAMES (i : Nat) : Reg := ⟨0x520002 + 256 * i, 4, .num 0⟩
/-- PUB_REPLACED of R289. -/
def PUB_REPLACED (i : Nat) : Reg := ⟨0x520003 + 256 * i, 4, .num 0⟩
/-- NVM_STATE of R314. -/
def NVM_STATE : Reg := ⟨0x150001, 2, .num 0x0000⟩
/-- NVM_FLAGS of R314. -/
def NVM_FLAGS : Reg := ⟨0x150002, 2, .num 0x0000⟩
/-- GROUP_LAST of R314. -/
def GROUP_LAST : Reg := ⟨0x150003, 4, .num 0⟩
/-- GROUPS_SEALED of R314. -/
def GROUPS_SEALED : Reg := ⟨0x150004, 4, .num 0⟩
/-- GROUPS_DEFERRED of R314. -/
def GROUPS_DEFERRED : Reg := ⟨0x150005, 4, .num 0⟩
/-- BUFFER_FILL of R314. -/
def BUFFER_FILL : Reg := ⟨0x150006, 2, .num 0⟩
/-- ENERGY_AVAILABLE of R314. -/
def ENERGY_AVAILABLE : Reg := ⟨0x150007, 4, .num 0x00000000⟩
/-- ENERGY_NEEDED of R314. -/
def ENERGY_NEEDED : Reg := ⟨0x150008, 4, .num 0x00000000⟩
/-- RECOVERY_RESULT of R314. -/
def RECOVERY_RESULT : Reg := ⟨0x150009, 4, .num 0x00000000⟩
/-- NVM_CYCLE_LIMIT of R314. -/
def NVM_CYCLE_LIMIT : Reg := ⟨0x15000A, 4, .num 150000⟩
/-- LEDGER_CYCLE_BUDGET of R314. -/
def LEDGER_CYCLE_BUDGET : Reg := ⟨0x15000B, 8, .num 0⟩
/-- LEDGER_WEAR of R314. -/
def LEDGER_WEAR : Reg := ⟨0x15000C, 4, .num 0⟩
/-- LEDGER_LIFE of R314. -/
def LEDGER_LIFE : Reg := ⟨0x15000D, 4, .num 0⟩
/-- LOG_FULL_PCT of R314. -/
def LOG_FULL_PCT : Reg := ⟨0x15000E, 1, .num 75⟩
/-- LOG_UNRELEASED of R314. -/
def LOG_UNRELEASED : Reg := ⟨0x15000F, 2, .num 0⟩
/-- LOG_CARRIED of R314. -/
def LOG_CARRIED : Reg := ⟨0x150010, 4, .num 0⟩
/-- RING_PERSIST of R314. -/
def RING_PERSIST : Reg := ⟨0x150011, 2, .num 600⟩
/-- MARGIN_INTERVAL of R314. -/
def MARGIN_INTERVAL : Reg := ⟨0x150012, 2, .num 30⟩
/-- MARGIN_LAST of R314. -/
def MARGIN_LAST : Reg := ⟨0x150013, 8, .num 0⟩
/-- PAGES_REFRESHED of R314. -/
def PAGES_REFRESHED : Reg := ⟨0x150014, 4, .num 0⟩
/-- NVM_ERRORS of R314. -/
def NVM_ERRORS : Reg := ⟨0x150015, 4, .num 0⟩
/-- NVM_TRANSIENT of R314. -/
def NVM_TRANSIENT : Reg := ⟨0x150016, 4, .num 0⟩
/-- PAIRS_RETIRED of R314. -/
def PAIRS_RETIRED : Reg := ⟨0x150017, 2, .num 0⟩
/-- REGION_PAGES of R314. -/
def REGION_PAGES (i : Nat) : Reg := ⟨0x151001 + 256 * i, 2, .num ([256, 512, 5632, 9984].getD i 0)⟩
/-- REGION_PROGRAMS of R314. -/
def REGION_PROGRAMS (i : Nat) : Reg := ⟨0x151002 + 256 * i, 8, .num 0⟩
/-- VENDOR_ID of R327. -/
def VENDOR_ID : Reg := ⟨0x100001, 2, .num 0x4D6F⟩
/-- DEVICE_ID of R327. -/
def DEVICE_ID : Reg := ⟨0x100002, 2, .num 0x7840⟩
/-- SILICON_REV of R327. -/
def SILICON_REV : Reg := ⟨0x100003, 2, .num 0x0B00⟩
/-- FIRMWARE_REV of R327. -/
def FIRMWARE_REV : Reg := ⟨0x100004, 4, .num Config.firmwareRev.toNat⟩
/-- SERIAL_NUMBER of R327. -/
def SERIAL_NUMBER : Reg := ⟨0x100005, 0, .bytes ((List.finRange 12).map Config.serialDigit)⟩
/-- DICT_REV of R327. -/
def DICT_REV : Reg := ⟨0x100006, 2, .num 0x0100⟩
/-- DEVICE_STATE of R343. -/
def DEVICE_STATE : Reg := ⟨0x100101, 1, .num 0⟩
/-- STATE_REQUEST of R343. -/
def STATE_REQUEST : Reg := ⟨0x100102, 1, .num 0⟩
/-- STATE_PENDING of R343. -/
def STATE_PENDING : Reg := ⟨0x100103, 1, .num 0xFF⟩
/-- START_STATE of R343. -/
def START_STATE : Reg := ⟨0x100104, 1, .num 1⟩
/-- SAFE_CAUSE of R343. -/
def SAFE_CAUSE : Reg := ⟨0x100105, 1, .num 0⟩
/-- DEVICE_STATUS of R343. -/
def DEVICE_STATUS : Reg := ⟨0x100201, 2, .num 0x6000⟩
/-- AREA_FLAGS of R343. -/
def AREA_FLAGS : Reg := ⟨0x100202, 2, .num 0x0000⟩
/-- DEVICE_FLAGS of R343. -/
def DEVICE_FLAGS : Reg := ⟨0x100203, 1, .num 0x00⟩
/-- EVENT_COUNT of R343. -/
def EVENT_COUNT : Reg := ⟨0x100301, 4, .num 0⟩
/-- EVENT_LAST of R343. -/
def EVENT_LAST : Reg := ⟨0x100302, 0, .bytes []⟩
/-- FAST_MAP of R343. -/
def FAST_MAP (j : Nat) : Reg := ⟨0x600001 + j, 4, .num 0⟩
/-- FAST_MODE of R343. -/
def FAST_MODE : Reg := ⟨0x600021, 1, .num 0⟩
/-- FAST_LEN of R343. -/
def FAST_LEN : Reg := ⟨0x600022, 2, .num 12⟩
/-- FAST_LEVEL of R343. -/
def FAST_LEVEL : Reg := ⟨0x600023, 1, .num 0⟩
/-- FAST_DATA of R343. -/
def FAST_DATA : Reg := ⟨0x600101, 0, .bytes []⟩
/-- NET_MAC of R375. -/
def NET_MAC : Reg := ⟨0x160001, 8, .num Config.netMac.toNat⟩
/-- PORT_FLAGS of R375. -/
def PORT_FLAGS : Reg := ⟨0x160002, 2, .num 0x0000⟩
/-- RING_STATE of R375. -/
def RING_STATE : Reg := ⟨0x160003, 1, .num 3⟩
/-- PORTS_RETIRED of R375. -/
def PORTS_RETIRED : Reg := ⟨0x160004, 1, .num 0x00⟩
/-- PORT_UNRETIRE of R375. -/
def PORT_UNRETIRE : Reg := ⟨0x160005, 1, .num 0⟩
/-- PHY_ERR_LIMIT of R375. -/
def PHY_ERR_LIMIT : Reg := ⟨0x160006, 2, .num 16⟩
/-- PORT_ENABLE of R375. -/
def PORT_ENABLE (i : Nat) : Reg := ⟨0x160101 + 256 * i, 1, .num 1⟩
/-- PORT_MODE of R375. -/
def PORT_MODE (i : Nat) : Reg := ⟨0x160102 + 256 * i, 1, .num 0⟩
/-- LINK_STATE of R375. -/
def LINK_STATE (i : Nat) : Reg := ⟨0x160103 + 256 * i, 1, .num 0⟩
/-- LINK_AMPLITUDE of R375. -/
def LINK_AMPLITUDE (i : Nat) : Reg := ⟨0x160104 + 256 * i, 1, .num 0⟩
/-- PHY_SNR of R375. -/
def PHY_SNR (i : Nat) : Reg := ⟨0x160105 + 256 * i, 4, .num 0x00000000⟩
/-- RX_FRAMES of R375. -/
def RX_FRAMES (i : Nat) : Reg := ⟨0x160106 + 256 * i, 4, .num 0⟩
/-- RX_ERRORS of R375. -/
def RX_ERRORS (i : Nat) : Reg := ⟨0x160107 + 256 * i, 4, .num 0⟩
/-- TX_FRAMES of R375. -/
def TX_FRAMES (i : Nat) : Reg := ⟨0x160108 + 256 * i, 4, .num 0⟩
/-- PHY_TRANSIENT of R375. -/
def PHY_TRANSIENT (i : Nat) : Reg := ⟨0x160109 + 256 * i, 4, .num 0⟩
/-- PODL_STATE of R375. -/
def PODL_STATE (i : Nat) : Reg := ⟨0x16010A + 256 * i, 1, .num 0⟩
/-- PODL_CLASS of R375. -/
def PODL_CLASS (i : Nat) : Reg := ⟨0x16010B + 256 * i, 1, .num 0xFF⟩
/-- HSR_SUPERVISION_INTERVAL of R375. -/
def HSR_SUPERVISION_INTERVAL : Reg := ⟨0x161001, 2, .num 2000⟩
/-- HSR_DUP_DISCARDED of R375. -/
def HSR_DUP_DISCARDED : Reg := ⟨0x161002, 4, .num 0⟩
/-- HSR_NODES of R375. -/
def HSR_NODES : Reg := ⟨0x161003, 1, .num 0⟩
/-- OVERSIZE_DROPPED of R375. -/
def OVERSIZE_DROPPED : Reg := ⟨0x161004, 4, .num 0⟩
/-- ALARM_DEFERRED of R375. -/
def ALARM_DEFERRED : Reg := ⟨0x161005, 4, .num 0⟩
/-- TRANSIT_LATE of R375. -/
def TRANSIT_LATE : Reg := ⟨0x161006, 4, .num 0⟩
/-- PUB_MAC of R375. -/
def PUB_MAC : Reg := ⟨0x161007, 8, .num 0x034D6F784000⟩
/-- PTP_STATE of R375. -/
def PTP_STATE : Reg := ⟨0x161801, 1, .num 0⟩
/-- GM_IDENTITY of R375. -/
def GM_IDENTITY : Reg := ⟨0x161802, 8, .num 0⟩
/-- GM_CLASS of R375. -/
def GM_CLASS : Reg := ⟨0x161803, 1, .num 255⟩
/-- PDELAY of R375. -/
def PDELAY (j : Nat) : Reg := ⟨0x161804 + j, 4, .num 0⟩
/-- PTP_LOG_PDELAY of R375. -/
def PTP_LOG_PDELAY : Reg := ⟨0x161807, 1, .num 0⟩
/-- TC_RESIDENCE_MAX of R375. -/
def TC_RESIDENCE_MAX : Reg := ⟨0x161808, 4, .num 0⟩
/-- IP_MODE of R375. -/
def IP_MODE : Reg := ⟨0x162001, 1, .num 2⟩
/-- IPV6_STATIC of R375. -/
def IPV6_STATIC : Reg := ⟨0x162002, 0, .bytes []⟩
/-- IPV6_ADDRESSES of R375. -/
def IPV6_ADDRESSES : Reg := ⟨0x162003, 0, .bytes []⟩
/-- IPV4_ADDRESS of R375. -/
def IPV4_ADDRESS : Reg := ⟨0x162004, 4, .num 0⟩
/-- IPV4_PREFIX of R375. -/
def IPV4_PREFIX : Reg := ⟨0x162005, 1, .num 24⟩
/-- IPV4_GATEWAY of R375. -/
def IPV4_GATEWAY : Reg := ⟨0x162006, 4, .num 0⟩
/-- SESSIONS_OPEN of R375. -/
def SESSIONS_OPEN : Reg := ⟨0x162801, 1, .num 0⟩
/-- SESSION_IDLE of R375. -/
def SESSION_IDLE : Reg := ⟨0x162802, 2, .num 300⟩
/-- SUB_LEVEL_MIN of R375. -/
def SUB_LEVEL_MIN : Reg := ⟨0x162803, 1, .num 1⟩
/-- AUTH_FAILURES of R375. -/
def AUTH_FAILURES : Reg := ⟨0x162804, 4, .num 0⟩
/-- REPLAY_REJECTED of R375. -/
def REPLAY_REJECTED : Reg := ⟨0x162805, 4, .num 0⟩
/-- FRAG_DROPPED of R375. -/
def FRAG_DROPPED : Reg := ⟨0x162806, 4, .num 0⟩
/-- HART_POLL_ADDR of R399. -/
def HART_POLL_ADDR : Reg := ⟨0x164001, 1, .num 0⟩
/-- HART_LOOP_MODE of R399. -/
def HART_LOOP_MODE : Reg := ⟨0x164002, 1, .num 1⟩
/-- HART_DEVICE_ID of R399. -/
def HART_DEVICE_ID : Reg := ⟨0x164003, 4, .num Config.hartDeviceId.toNat⟩
/-- HART_EXP_TYPE of R399. -/
def HART_EXP_TYPE : Reg := ⟨0x164004, 2, .num 0xE784⟩
/-- HART_MFR_ID of R399. -/
def HART_MFR_ID : Reg := ⟨0x164005, 2, .num 0x604D⟩
/-- HART_TAG of R399. -/
def HART_TAG : Reg := ⟨0x164006, 0, .bytes []⟩
/-- HART_LONG_TAG of R399. -/
def HART_LONG_TAG : Reg := ⟨0x164007, 0, .bytes []⟩
/-- HART_DESCRIPTOR of R399. -/
def HART_DESCRIPTOR : Reg := ⟨0x164008, 0, .bytes []⟩
/-- HART_MESSAGE of R399. -/
def HART_MESSAGE : Reg := ⟨0x164009, 0, .bytes []⟩
/-- HART_DATE of R399. -/
def HART_DATE : Reg := ⟨0x16400A, 4, .num 0x00010164⟩
/-- HART_FINAL_ASSY of R399. -/
def HART_FINAL_ASSY : Reg := ⟨0x16400B, 4, .num 0⟩
/-- HART_DV_MAP of R399. -/
def HART_DV_MAP : Reg := ⟨0x16400C, 4, .num 0x00FFFFFF⟩
/-- HART_LEVEL of R399. -/
def HART_LEVEL : Reg := ⟨0x16400D, 1, .num 2⟩
/-- HART_PREAMBLES of R399. -/
def HART_PREAMBLES : Reg := ⟨0x16400E, 1, .num 5⟩
/-- HART_REPEAT_TIME of R399. -/
def HART_REPEAT_TIME : Reg := ⟨0x16400F, 2, .num 2000⟩
/-- HART_REPEATS of R399. -/
def HART_REPEATS : Reg := ⟨0x164010, 4, .num 0⟩
/-- CONFIG_CHANGED_COUNT of R399. -/
def CONFIG_CHANGED_COUNT : Reg := ⟨0x164011, 2, .num 0⟩
/-- BURST_MODE of R399. -/
def BURST_MODE : Reg := ⟨0x164012, 1, .num 0⟩
/-- BURST_CMD of R399. -/
def BURST_CMD : Reg := ⟨0x164013, 1, .num 1⟩
/-- BURST_PERIOD of R399. -/
def BURST_PERIOD : Reg := ⟨0x164014, 2, .num 20⟩
/-- HART_ERRORS of R399. -/
def HART_ERRORS : Reg := ⟨0x164015, 4, .num 0⟩
/-- MARKER_ENABLE of R399. -/
def MARKER_ENABLE : Reg := ⟨0x164016, 1, .num 0⟩
/-- MARKER_ACCEPTED of R399. -/
def MARKER_ACCEPTED : Reg := ⟨0x164017, 4, .num 0⟩
/-- MARKER_LAST_OFFSET of R399. -/
def MARKER_LAST_OFFSET : Reg := ⟨0x164018, 4, .num 0⟩
/-- HOST_LEVEL of R399. -/
def HOST_LEVEL : Reg := ⟨0x165001, 1, .num 2⟩
/-- WAKE_LEVEL of R399. -/
def WAKE_LEVEL : Reg := ⟨0x165002, 1, .num 1⟩
/-- HOST_ATTN_MASK of R399. -/
def HOST_ATTN_MASK : Reg := ⟨0x165003, 1, .num 0x07⟩
/-- HOST_ATTN_CAUSE of R399. -/
def HOST_ATTN_CAUSE : Reg := ⟨0x165004, 1, .num 0x00⟩
/-- HOST_FLAGS of R399. -/
def HOST_FLAGS : Reg := ⟨0x165005, 1, .num 0x00⟩
/-- SPI_CRC_ERRORS of R399. -/
def SPI_CRC_ERRORS : Reg := ⟨0x165006, 4, .num 0⟩
/-- WAKE_CRC_ERRORS of R399. -/
def WAKE_CRC_ERRORS : Reg := ⟨0x165007, 4, .num 0⟩
/-- WAKE_ADDR of R399. -/
def WAKE_ADDR : Reg := ⟨0x165008, 1, .num 0⟩
/-- WAKE_NACKS of R399. -/
def WAKE_NACKS : Reg := ⟨0x165009, 4, .num 0⟩
/-- SPI_ENABLE of R399. -/
def SPI_ENABLE : Reg := ⟨0x16500A, 1, .num 1⟩
/-- PWR_STATE of R435. -/
def PWR_STATE : Reg := ⟨0x120001, 2, .num 0⟩
/-- PWR_FLAGS of R435. -/
def PWR_FLAGS : Reg := ⟨0x120002, 2, .num 0x0000⟩
/-- PROFILE_TARGET of R435. -/
def PROFILE_TARGET : Reg := ⟨0x120003, 1, .num 0⟩
/-- PROFILE_ACTIVE of R435. -/
def PROFILE_ACTIVE : Reg := ⟨0x120004, 1, .num 0⟩
/-- PROFILE_CEILING of R435. -/
def PROFILE_CEILING : Reg := ⟨0x120005, 1, .num 0⟩
/-- SLEEP_REQUEST of R435. -/
def SLEEP_REQUEST : Reg := ⟨0x120006, 1, .num 0⟩
/-- PWR_RESULT of R435. -/
def PWR_RESULT : Reg := ⟨0x120007, 4, .num 0x00000000⟩
/-- PWR_CONFLICT of R435. -/
def PWR_CONFLICT : Reg := ⟨0x120008, 4, .num 0x00000000⟩
/-- SRC_ORDER of R435. -/
def SRC_ORDER : Reg := ⟨0x120009, 1, .num 0⟩
/-- WAKE_MASK of R435. -/
def WAKE_MASK : Reg := ⟨0x12000A, 1, .num 0x7F⟩
/-- WAKE_CAUSE of R435. -/
def WAKE_CAUSE : Reg := ⟨0x12000B, 1, .num 0x00⟩
/-- BOATHOUSE_MASK of R435. -/
def BOATHOUSE_MASK : Reg := ⟨0x12000C, 2, .num 0x000C⟩
/-- BOATHOUSE_ALLOCATED of R435. -/
def BOATHOUSE_ALLOCATED : Reg := ⟨0x12000D, 2, .num 0⟩
/-- VLOC_WAKE_LEVEL of R435. -/
def VLOC_WAKE_LEVEL : Reg := ⟨0x12000E, 4, .num 0x41500000⟩
/-- STORE_CHARGE_MAX of R435. -/
def STORE_CHARGE_MAX : Reg := ⟨0x12000F, 2, .num 50⟩
/-- STORE_VOLTAGE of R435. -/
def STORE_VOLTAGE : Reg := ⟨0x120010, 4, .num 0x00000000⟩
/-- SLEEP_ENTRIES of R435. -/
def SLEEP_ENTRIES : Reg := ⟨0x120011, 4, .num 0⟩
/-- SLEEP_REFUSED of R435. -/
def SLEEP_REFUSED : Reg := ⟨0x120012, 4, .num 0⟩
/-- TRANSITIONS_SUPERSEDED of R435. -/
def TRANSITIONS_SUPERSEDED : Reg := ⟨0x120013, 4, .num 0⟩
/-- REG_RETRIES of R435. -/
def REG_RETRIES : Reg := ⟨0x120014, 4, .num 0⟩
/-- WAKE_FAILS of R435. -/
def WAKE_FAILS : Reg := ⟨0x120015, 4, .num 0⟩
/-- HOLDUPS of R435. -/
def HOLDUPS : Reg := ⟨0x120016, 4, .num 0⟩
/-- SRC_PRESENT of R435. -/
def SRC_PRESENT (i : Nat) : Reg := ⟨0x121001 + 256 * i, 1, .num 0⟩
/-- SRC_VOLTAGE of R435. -/
def SRC_VOLTAGE (i : Nat) : Reg := ⟨0x121002 + 256 * i, 4, .num 0x00000000⟩
/-- SRC_POWER of R435. -/
def SRC_POWER (i : Nat) : Reg := ⟨0x121003 + 256 * i, 4, .num 0x00000000⟩
/-- ENERGY_TODAY of R435. -/
def ENERGY_TODAY (i : Nat) : Reg := ⟨0x121004 + 256 * i, 4, .num 0x00000000⟩
/-- ENERGY_YESTERDAY of R435. -/
def ENERGY_YESTERDAY (i : Nat) : Reg := ⟨0x121005 + 256 * i, 4, .num 0x00000000⟩
/-- ENERGY_TOTAL of R435. -/
def ENERGY_TOTAL (i : Nat) : Reg := ⟨0x121006 + 256 * i, 8, .num 0x0000000000000000⟩
/-- BATT_CURVE of R435. -/
def BATT_CURVE : Reg := ⟨0x122001, 0, .bytes []⟩
/-- BATT_ENERGY of R435. -/
def BATT_ENERGY : Reg := ⟨0x122002, 4, .num 0x00000000⟩
/-- POWER_MEAN_24H of R435. -/
def POWER_MEAN_24H : Reg := ⟨0x122003, 4, .num 0x00000000⟩
/-- AUTONOMY of R435. -/
def AUTONOMY : Reg := ⟨0x122004, 4, .num 0x7FC00000⟩
/-- AUTONOMY_WARN of R435. -/
def AUTONOMY_WARN : Reg := ⟨0x122005, 4, .num 0x43280000⟩
/-- ENERGY_TZ_OFFSET of R435. -/
def ENERGY_TZ_OFFSET : Reg := ⟨0x122006, 4, .num 0⟩
/-- THERM_STATE of R457. -/
def THERM_STATE : Reg := ⟨0x130001, 2, .num 0x0000⟩
/-- THERM_FLAGS of R457. -/
def THERM_FLAGS : Reg := ⟨0x130002, 2, .num 0x0000⟩
/-- T_HOT of R457. -/
def T_HOT : Reg := ⟨0x130003, 4, .num 0⟩
/-- T_WATCH of R457. -/
def T_WATCH : Reg := ⟨0x130004, 4, .num 0x42BE0000⟩
/-- T_THROTTLE of R457. -/
def T_THROTTLE : Reg := ⟨0x130005, 4, .num 0x42DC0000⟩
/-- T_SHUTDOWN of R457. -/
def T_SHUTDOWN : Reg := ⟨0x130006, 4, .num 0x43020000⟩
/-- T_HYST of R457. -/
def T_HYST : Reg := ⟨0x130007, 4, .num 0x41200000⟩
/-- SENSORS_RETIRED of R457. -/
def SENSORS_RETIRED : Reg := ⟨0x130008, 1, .num 0x00⟩
/-- SENSOR_UNRETIRE of R457. -/
def SENSOR_UNRETIRE : Reg := ⟨0x130009, 1, .num 0⟩
/-- THERM_P_MS of R457. -/
def THERM_P_MS : Reg := ⟨0x13000A, 4, .num 0x00000000⟩
/-- THERM_P_HV of R457. -/
def THERM_P_HV : Reg := ⟨0x13000B, 4, .num 0x00000000⟩
/-- SHUTDOWNS of R457. -/
def SHUTDOWNS : Reg := ⟨0x13000C, 4, .num 0⟩
/-- THROTTLE_TIME of R457. -/
def THROTTLE_TIME : Reg := ⟨0x13000D, 4, .num 0⟩
/-- TS_RAW of R457. -/
def TS_RAW (i : Nat) : Reg := ⟨0x131001 + 256 * i, 4, .num 0⟩
/-- TS_EFFECTIVE of R457. -/
def TS_EFFECTIVE (i : Nat) : Reg := ⟨0x131002 + 256 * i, 4, .num 0⟩
/-- TS_MODEL of R457. -/
def TS_MODEL (i : Nat) : Reg := ⟨0x131003 + 256 * i, 4, .num 0⟩
/-- TS_STATUS of R457. -/
def TS_STATUS (i : Nat) : Reg := ⟨0x131004 + 256 * i, 1, .num 0⟩
/-- TS_RTH of R457. -/
def TS_RTH (i : Nat) : Reg := ⟨0x131005 + 256 * i, 4, .num (Config.tsRth i).toNat⟩
/-- TS_MAX of R457. -/
def TS_MAX (i : Nat) : Reg := ⟨0x131006 + 256 * i, 4, .num 0xC25C0000⟩
/-- TS_TESTS of R457. -/
def TS_TESTS (i : Nat) : Reg := ⟨0x131007 + 256 * i, 4, .num 0⟩
/-- TS_TRANSIENT of R457. -/
def TS_TRANSIENT (i : Nat) : Reg := ⟨0x131008 + 256 * i, 4, .num 0⟩
/-- STORE_C_DECLARED of R457. -/
def STORE_C_DECLARED : Reg := ⟨0x132001, 4, .num 0x423C0000⟩
/-- STORE_TEST_INTERVAL of R457. -/
def STORE_TEST_INTERVAL : Reg := ⟨0x132002, 2, .num 7⟩
/-- STORE_TEST_CURRENT of R457. -/
def STORE_TEST_CURRENT : Reg := ⟨0x132003, 1, .num 20⟩
/-- STORE_C of R457. -/
def STORE_C : Reg := ⟨0x132004, 4, .num 0x00000000⟩
/-- STORE_C_LOW of R457. -/
def STORE_C_LOW : Reg := ⟨0x132005, 4, .num 0x420D0000⟩
/-- STORE_ESR of R457. -/
def STORE_ESR : Reg := ⟨0x132006, 4, .num 0x00000000⟩
/-- STORE_TEST_LAST of R457. -/
def STORE_TEST_LAST : Reg := ⟨0x132007, 8, .num 0⟩
/-- STORE_TEST_REQUEST of R457. -/
def STORE_TEST_REQUEST : Reg := ⟨0x132008, 1, .num 0⟩
/-- STAGE_DAMAGE_LOOP of R457. -/
def STAGE_DAMAGE_LOOP : Reg := ⟨0x132101, 8, .num 0x0000000000000000⟩
/-- STAGE_DAMAGE_ACT of R457. -/
def STAGE_DAMAGE_ACT : Reg := ⟨0x132102, 8, .num 0x0000000000000000⟩
/-- STAGE_CYCLES_LOOP of R457. -/
def STAGE_CYCLES_LOOP : Reg := ⟨0x132103, 4, .num 0⟩
/-- STAGE_CYCLES_ACT of R457. -/
def STAGE_CYCLES_ACT : Reg := ⟨0x132104, 4, .num 0⟩
/-- AGE_SAMPLE_DAYS of R457. -/
def AGE_SAMPLE_DAYS : Reg := ⟨0x133001, 1, .num 7⟩
/-- AGE_VALUE of R457. -/
def AGE_VALUE (i : Nat) : Reg := ⟨0x134001 + 256 * i, 4, .num 0x00000000⟩
/-- AGE_LIMIT of R457. -/
def AGE_LIMIT (i : Nat) : Reg := ⟨0x134002 + 256 * i, 4, .num ([0x48127C00, 0x48127C00, 0x48127C00, 0x48127C00, 0, 0x40000000, 0x3F800000, 0x3F800000, 0x43480000, 0x447A0000, 0x41A00000, 0x41A00000, 0x41880000, 0x447A0000].getD i 0)⟩
/-- AGE_EOL of R457. -/
def AGE_EOL (i : Nat) : Reg := ⟨0x134003 + 256 * i, 4, .num 0xFFFFFFFF⟩
/-- AGE_EOL_LOW90 of R457. -/
def AGE_EOL_LOW90 (i : Nat) : Reg := ⟨0x134004 + 256 * i, 4, .num 0xFFFFFFFF⟩
/-- AGE_THRESHOLD of R457. -/
def AGE_THRESHOLD (i : Nat) : Reg := ⟨0x134005 + 256 * i, 2, .num 365⟩
/-- AGE_STATE of R457. -/
def AGE_STATE (i : Nat) : Reg := ⟨0x134006 + 256 * i, 1, .num 0⟩
/-- AGE_HISTORY of R457. -/
def AGE_HISTORY (i : Nat) : Reg := ⟨0x134007 + 256 * i, 0, .bytes []⟩
/-- IMAGE_STATUS of R482. -/
def IMAGE_STATUS : Reg := ⟨0x140001, 2, .num 0x0000⟩
/-- SEC_FLAGS of R482. -/
def SEC_FLAGS : Reg := ⟨0x140002, 2, .num 0x0000⟩
/-- IMAGE_REV_0 of R482. -/
def IMAGE_REV_0 : Reg := ⟨0x140003, 4, .num 0⟩
/-- IMAGE_REV_1 of R482. -/
def IMAGE_REV_1 : Reg := ⟨0x140004, 4, .num 0⟩
/-- ROLLBACK_COUNT of R482. -/
def ROLLBACK_COUNT : Reg := ⟨0x140005, 1, .num 0⟩
/-- LOAD_TARGET of R482. -/
def LOAD_TARGET : Reg := ⟨0x140006, 1, .num 0⟩
/-- LOAD_OFFSET of R482. -/
def LOAD_OFFSET : Reg := ⟨0x140007, 4, .num 0⟩
/-- LOAD_DATA of R482. -/
def LOAD_DATA : Reg := ⟨0x140008, 0, .bytes []⟩
/-- LOAD_VERIFY of R482. -/
def LOAD_VERIFY : Reg := ⟨0x140009, 1, .num 0⟩
/-- IMAGE_ACTIVATE of R482. -/
def IMAGE_ACTIVATE : Reg := ⟨0x14000A, 1, .num 0⟩
/-- IMAGE_CONFIRM of R482. -/
def IMAGE_CONFIRM : Reg := ⟨0x14000B, 1, .num 0⟩
/-- PERSONALITY_REV of R482. -/
def PERSONALITY_REV : Reg := ⟨0x14000C, 4, .num 0⟩
/-- PERSONALITY_MIN of R482. -/
def PERSONALITY_MIN : Reg := ⟨0x14000D, 4, .num 0⟩
/-- VENDOR_KEY_HASH of R482. -/
def VENDOR_KEY_HASH : Reg := ⟨0x14000E, 0, .bytes Config.vendorKeyHash⟩
/-- OEM_KEY_HASH of R482. -/
def OEM_KEY_HASH : Reg := ⟨0x14000F, 0, .bytes []⟩
/-- LEVEL_KEY of R482. -/
def LEVEL_KEY (j : Nat) : Reg := ⟨0x141001 + j, 0, .bytes []⟩
/-- RING_KEY_NEXT of R482. -/
def RING_KEY_NEXT : Reg := ⟨0x141004, 0, .bytes []⟩
/-- RING_SWITCH_AT of R482. -/
def RING_SWITCH_AT : Reg := ⟨0x141005, 8, .num 0⟩
/-- RING_EPOCH of R482. -/
def RING_EPOCH : Reg := ⟨0x141006, 2, .num 0⟩
/-- KEYS_SET of R482. -/
def KEYS_SET : Reg := ⟨0x141007, 1, .num 0x00⟩
/-- IDENTITY_PUBKEY of R482. -/
def IDENTITY_PUBKEY : Reg := ⟨0x142001, 0, .bytes Config.identityPubkey⟩
/-- IDENTITY_CERT of R482. -/
def IDENTITY_CERT : Reg := ⟨0x142002, 0, .bytes Config.identityCert⟩
/-- IDENTITY_STATE of R482. -/
def IDENTITY_STATE : Reg := ⟨0x142003, 1, .num 1⟩
/-- INDEX_NEXT of R482. -/
def INDEX_NEXT : Reg := ⟨0x142004, 4, .num 0⟩
/-- INDEX_RESERVED of R482. -/
def INDEX_RESERVED : Reg := ⟨0x142005, 4, .num 0⟩
/-- INDEX_LOST of R482. -/
def INDEX_LOST : Reg := ⟨0x142006, 4, .num 0⟩
/-- INDEX_REMAINING of R482. -/
def INDEX_REMAINING : Reg := ⟨0x142007, 4, .num 0⟩
/-- INDEX_LIFE of R482. -/
def INDEX_LIFE : Reg := ⟨0x142008, 4, .num 0⟩
/-- SIG_SELECT of R482. -/
def SIG_SELECT : Reg := ⟨0x142009, 8, .num 0⟩
/-- SIG_OFFSET of R482. -/
def SIG_OFFSET : Reg := ⟨0x14200A, 4, .num 0⟩
/-- SIG_DATA of R482. -/
def SIG_DATA : Reg := ⟨0x14200B, 0, .bytes []⟩
/-- ATTEST_WINDOW of R482. -/
def ATTEST_WINDOW (i : Nat) : Reg := ⟨0x143001 + 256 * i, 2, .num 60⟩
/-- ATTEST_WINDOW_LEAN of R482. -/
def ATTEST_WINDOW_LEAN (i : Nat) : Reg := ⟨0x143002 + 256 * i, 2, .num 3600⟩
/-- ATTEST_LAST of R482. -/
def ATTEST_LAST (i : Nat) : Reg := ⟨0x143003 + 256 * i, 8, .num 0x8000000000000000⟩
/-- DEBUG_STATE of R482. -/
def DEBUG_STATE : Reg := ⟨0x144001, 1, .num 0⟩
/-- DEBUG_CHALLENGE of R482. -/
def DEBUG_CHALLENGE : Reg := ⟨0x144002, 0, .bytes []⟩
/-- DEBUG_EXPIRY of R482. -/
def DEBUG_EXPIRY : Reg := ⟨0x144003, 8, .num 0⟩
/-- DEBUG_LOCK of R482. -/
def DEBUG_LOCK : Reg := ⟨0x144004, 1, .num 0⟩
/-- RESET_CAUSE of R500. -/
def RESET_CAUSE : Reg := ⟨0x128001, 1, .num 0⟩
/-- RESET_DETAIL of R500. -/
def RESET_DETAIL : Reg := ⟨0x128002, 2, .num 0⟩
/-- RESET_COUNT of R500. -/
def RESET_COUNT : Reg := ⟨0x128003, 4, .num 0⟩
/-- RESET_HISTORY of R500. -/
def RESET_HISTORY : Reg := ⟨0x128004, 0, .bytes []⟩
/-- RESET_REQUEST of R500. -/
def RESET_REQUEST : Reg := ⟨0x128005, 1, .num 0⟩
/-- START_CAL of R500. -/
def START_CAL : Reg := ⟨0x128006, 1, .num 1⟩
/-- START_TIME of R500. -/
def START_TIME : Reg := ⟨0x128007, 4, .num 0⟩
/-- APP_RESETS of R500. -/
def APP_RESETS : Reg := ⟨0x128008, 4, .num 0⟩
/-- APP_RESET_CAUSE of R500. -/
def APP_RESET_CAUSE : Reg := ⟨0x128009, 1, .num 0⟩
/-- RESET_LOOP_LIMIT of R500. -/
def RESET_LOOP_LIMIT : Reg := ⟨0x12800A, 1, .num 4⟩
/-- RESET_LOOP_COUNT of R500. -/
def RESET_LOOP_COUNT : Reg := ⟨0x12800B, 1, .num 0⟩

end Obj

/-- The cards of the chapter course_time. -/
def cards02 : List Card := [
  ⟨"COURSE_TIME", 0x1100, 1, 1, 1, 1, .time, 8, 8, .R, 0, .V, false, .any, fun _ _ => .num 0⟩,
  ⟨"STROKE_COUNT", 0x1100, 1, 1, 2, 2, .u32, 4, 4, .R, 0, .V, false, .any, fun _ _ => .num 0⟩,
  ⟨"STROKE_WRAPS", 0x1100, 1, 1, 3, 3, .u16, 2, 2, .R, 0, .V, false, .any, fun _ _ => .num 0⟩,
  ⟨"SYNC_QUALITY", 0x1100, 1, 1, 4, 4, .u16, 2, 2, .R, 0, .V, false, .any, fun _ _ => .num 0x00FF⟩,
  ⟨"STROKE_PHASE", 0x1100, 1, 1, 5, 5, .u32, 4, 4, .R, 0, .V, false, .any, fun _ _ => .num 0⟩,
  ⟨"COURSE_FLAGS", 0x1100, 1, 1, 6, 6, .u16, 2, 2, .RC, 1, .V, false, .mask 0xFFF, fun _ _ => .num 0x0000⟩,
  ⟨"COURSE_SET", 0x1100, 1, 1, 7, 7, .time, 8, 8, .W, 2, .V, false, .any, fun _ _ => .num 0⟩,
  ⟨"STROKE_PERIOD", 0x1101, 1, 1, 1, 1, .u16, 2, 2, .RW, 2, .P, true, .range 1 8192, fun _ _ => .num 8⟩,
  ⟨"STROKE_MODE", 0x1101, 1, 1, 2, 2, .enum, 1, 1, .RW, 2, .P, true, .enum [0, 1], fun _ _ => .num 0⟩,
  ⟨"ANGLE_FALLBACK_PERIOD", 0x1101, 1, 1, 3, 3, .u16, 2, 2, .RW, 2, .P, false, .range 1 8192, fun _ _ => .num 8⟩,
  ⟨"SOURCE_PRIO", 0x1102, 1, 1, 1, 5, .enum, 1, 1, .RW, 2, .P, false, .enum [0, 1, 2, 3, 4], fun _ j => .num ([1, 2, 3, 4, 0].getD j 0)⟩,
  ⟨"STEP_LIMIT", 0x1102, 1, 1, 6, 6, .u32, 4, 4, .RW, 2, .P, false, .any, fun _ _ => .num 1000000⟩,
  ⟨"STEP_POLICY", 0x1102, 1, 1, 7, 7, .enum, 1, 1, .RW, 2, .P, false, .enum [0, 1, 2], fun _ _ => .num 0⟩,
  ⟨"SLEW_MAX", 0x1102, 1, 1, 8, 8, .u16, 2, 2, .RW, 2, .P, false, .range 1 200, fun _ _ => .num 50⟩,
  ⟨"QUAL_TIME", 0x1102, 1, 1, 9, 9, .u16, 2, 2, .RW, 2, .P, false, .any, fun _ _ => .num 10⟩,
  ⟨"LOSS_TIME", 0x1102, 1, 1, 10, 10, .u16, 2, 2, .RW, 2, .P, false, .any, fun _ _ => .num 3⟩,
  ⟨"SWITCH_HOLD", 0x1102, 1, 1, 11, 11, .u16, 2, 2, .RW, 2, .P, false, .any, fun _ _ => .num 30⟩,
  ⟨"HOLDOVER_LIMIT", 0x1102, 1, 1, 12, 12, .u32, 4, 4, .RW, 2, .P, false, .any, fun _ _ => .num 1000000⟩,
  ⟨"PTP_DOMAIN", 0x1102, 1, 1, 13, 13, .u8, 1, 1, .RW, 2, .P, false, .any, fun _ _ => .num 0⟩,
  ⟨"PTP_MAX_CLASS", 0x1102, 1, 1, 14, 14, .u8, 1, 1, .RW, 2, .P, false, .any, fun _ _ => .num 248⟩,
  ⟨"PLL_TC", 0x1102, 1, 1, 15, 15, .u16, 2, 2, .RW, 2, .P, false, .range 1 65535, fun _ _ => .num 64⟩,
  ⟨"ACTIVE_SOURCE", 0x1103, 1, 1, 1, 1, .enum, 1, 1, .R, 0, .V, false, .any, fun _ _ => .num 0⟩,
  ⟨"OFFSET_LAST", 0x1103, 1, 1, 2, 2, .i64, 8, 8, .R, 0, .V, false, .any, fun _ _ => .num 0⟩,
  ⟨"FREQ_ADJ", 0x1103, 1, 1, 3, 3, .i32, 4, 4, .R, 0, .V, false, .any, fun _ _ => .num 0⟩,
  ⟨"DISCIPLINED_TIME", 0x1103, 1, 1, 4, 4, .u32, 4, 4, .R, 0, .V, false, .any, fun _ _ => .num 0⟩,
  ⟨"ERROR_BOUND", 0x1103, 1, 1, 5, 5, .u64, 8, 8, .R, 0, .V, false, .any, fun _ _ => .num 0xFFFFFFFFFFFFFFFF⟩,
  ⟨"SOURCE_QUALIFIED", 0x1103, 1, 1, 6, 6, .u8, 1, 1, .R, 0, .V, false, .any, fun _ _ => .num 0x00⟩,
  ⟨"COX_APPLY", 0x1105, 1, 1, 1, 1, .bool, 1, 1, .W, 2, .V, true, .any, fun _ _ => .num 0⟩,
  ⟨"COX_CONFLICT", 0x1105, 1, 1, 2, 2, .u8, 1, 1, .R, 0, .V, false, .any, fun _ _ => .num 0xFF⟩,
  ⟨"MARK_COLLISIONS", 0x1105, 1, 1, 3, 3, .u32, 4, 4, .R, 0, .V, false, .any, fun _ _ => .num 0⟩,
  ⟨"MARKS_DROPPED", 0x1105, 1, 1, 4, 4, .u32, 4, 4, .R, 0, .V, false, .any, fun _ _ => .num 0⟩,
  ⟨"ENC_COUNTS_REV", 0x1106, 1, 1, 1, 1, .u32, 4, 4, .RW, 2, .P, true, .range 4 65536, fun _ _ => .num 4096⟩,
  ⟨"STROKES_PER_REV", 0x1106, 1, 1, 2, 2, .u16, 2, 2, .RW, 2, .P, true, .any, fun _ _ => .num 16⟩,
  ⟨"ENC_INDEX", 0x1106, 1, 1, 3, 3, .enum, 1, 1, .RW, 2, .P, false, .enum [0, 1], fun _ _ => .num 1⟩,
  ⟨"ENC_COUNT", 0x1106, 1, 1, 4, 4, .u32, 4, 4, .R, 0, .V, false, .any, fun _ _ => .num 0⟩,
  ⟨"ENC_ERRORS", 0x1106, 1, 1, 5, 5, .u32, 4, 4, .R, 0, .V, false, .any, fun _ _ => .num 0⟩,
  ⟨"PPS_EDGE", 0x1107, 1, 1, 1, 1, .enum, 1, 1, .RW, 2, .P, false, .enum [0, 1], fun _ _ => .num 0⟩,
  ⟨"PPS_DELAY", 0x1107, 1, 1, 2, 2, .i32, 4, 4, .RW, 2, .P, false, .any, fun _ _ => .num 0⟩,
  ⟨"PPS_REJECTED", 0x1107, 1, 1, 3, 3, .u32, 4, 4, .R, 0, .V, false, .any, fun _ _ => .num 0⟩,
  ⟨"COURSE_ALARM", 0x1108, 1, 1, 1, 4, .time, 8, 8, .RW, 1, .V, false, .any, fun _ _ => .num 0⟩,
  ⟨"ALARM_FLAGS", 0x1108, 1, 1, 5, 5, .u8, 1, 1, .RC, 1, .V, false, .mask 0xF, fun _ _ => .num 0x00⟩,
  ⟨"ASYM", 0x1109, 1, 1, 1, 3, .i32, 4, 4, .RW, 2, .P, false, .any, fun _ _ => .num 0⟩,
  ⟨"MARK_OFFSET", 0x1110, 128, 1, 1, 1, .u32, 4, 4, .RW, 2, .PC, true, .mask 0x3FFFFFF, fun _ _ => .num 0⟩,
  ⟨"MARK_ACTION", 0x1110, 128, 1, 2, 2, .enum, 1, 1, .RW, 2, .PC, true, .enum [0, 1, 2, 3, 4, 5, 6, 7], fun _ _ => .num 0⟩,
  ⟨"MARK_TARGET", 0x1110, 128, 1, 3, 3, .u8, 1, 1, .RW, 2, .PC, true, .any, fun _ _ => .num 0⟩,
  ⟨"MARK_DIVIDER", 0x1110, 128, 1, 4, 4, .u16, 2, 2, .RW, 2, .PC, true, .any, fun _ _ => .num 1⟩,
  ⟨"MARK_PHASE", 0x1110, 128, 1, 5, 5, .u16, 2, 2, .RW, 2, .PC, true, .any, fun _ _ => .num 0⟩]

/-- The cards of the chapter front_end. -/
def cards03 : List Card := [
  ⟨"CV_MODE", 0x2000, 4, 256, 1, 1, .enum, 1, 1, .RW, 2, .P, false, .enum [0, 1, 2], fun _ _ => .num 1⟩,
  ⟨"REF_SEL", 0x2000, 4, 256, 2, 2, .enum, 1, 1, .RW, 2, .P, true, .enum [0, 1], fun _ _ => .num 0⟩,
  ⟨"INBUF", 0x2000, 4, 256, 3, 3, .enum, 1, 1, .RW, 2, .P, true, .enum [0, 1], fun _ _ => .num 1⟩,
  ⟨"BURNOUT", 0x2000, 4, 256, 4, 4, .enum, 1, 1, .RW, 2, .P, false, .enum [0, 1, 2, 3], fun _ _ => .num 0⟩,
  ⟨"CV_STATUS", 0x2000, 4, 256, 5, 5, .u16, 2, 2, .R, 0, .V, false, .any, fun _ _ => .num 0x0020⟩,
  ⟨"CV_FLAGS", 0x2000, 4, 256, 6, 6, .u16, 2, 2, .RC, 1, .V, false, .mask 0x3F, fun _ _ => .num 0x0000⟩,
  ⟨"OVERRANGE_COUNT", 0x2000, 4, 256, 7, 7, .u32, 4, 4, .R, 0, .V, false, .any, fun _ _ => .num 0⟩,
  ⟨"OVERLOAD_COUNT", 0x2000, 4, 256, 8, 8, .u32, 4, 4, .R, 0, .V, false, .any, fun _ _ => .num 0⟩,
  ⟨"OW_MASK", 0x2000, 4, 256, 9, 9, .u64, 8, 8, .RW, 2, .P, false, .any, fun _ _ => .num 0⟩,
  ⟨"OW_INTERVAL", 0x2000, 4, 256, 10, 10, .u16, 2, 2, .RW, 2, .P, false, .range 1 65535, fun _ _ => .num 10⟩,
  ⟨"OW_AMPLITUDE", 0x2000, 4, 256, 11, 11, .u16, 2, 2, .RW, 2, .P, false, .range 1 250, fun _ _ => .num 50⟩,
  ⟨"OW_THRESHOLD", 0x2000, 4, 256, 12, 12, .u8, 1, 1, .RW, 2, .P, false, .range 5 90, fun _ _ => .num 25⟩,
  ⟨"OW_OPEN", 0x2000, 4, 256, 13, 13, .u64, 8, 8, .R, 0, .V, false, .any, fun _ _ => .num 0⟩,
  ⟨"OW_CHECKS", 0x2000, 4, 256, 14, 14, .u32, 4, 4, .R, 0, .V, false, .any, fun _ _ => .num 0⟩,
  ⟨"OW_TRANSIENT", 0x2000, 4, 256, 15, 15, .u32, 4, 4, .R, 0, .V, false, .any, fun _ _ => .num 0⟩,
  ⟨"OW_DEFERRED", 0x2000, 4, 256, 16, 16, .u32, 4, 4, .R, 0, .V, false, .any, fun _ _ => .num 0⟩,
  ⟨"CAL_OFFSET_G", 0x2001, 4, 256, 1, 8, .i32, 4, 4, .RW, 2, .P, false, .any, fun i j => .num (Config.calOffset (8 * i + j)).toNat⟩,
  ⟨"CAL_GAIN_G", 0x2001, 4, 256, 9, 16, .u32, 4, 4, .RW, 2, .P, false, .range 536870912 2147483648, fun i j => .num (Config.calGain (8 * i + j)).toNat⟩,
  ⟨"PADDLE_OFFSET_G", 0x2001, 4, 256, 17, 18, .i32, 4, 4, .RW, 2, .P, false, .any, fun i j => .num (Config.paddleOffset (2 * i + j)).toNat⟩,
  ⟨"PADDLE_GAIN_G", 0x2001, 4, 256, 19, 20, .u32, 4, 4, .RW, 2, .P, false, .range 536870912 2147483648, fun i j => .num (Config.paddleGain (2 * i + j)).toNat⟩,
  ⟨"IEXC_LEVEL", 0x2500, 1, 1, 1, 4, .enum, 1, 1, .RW, 2, .P, true, .enum [0, 1, 2, 3, 4, 5, 6, 7, 8], fun _ _ => .num 0⟩,
  ⟨"IEXC_PIN", 0x2500, 1, 1, 5, 8, .u8, 1, 1, .RW, 2, .P, true, .range 0 15, fun _ _ => .num 0⟩,
  ⟨"IEXC_FLAGS", 0x2500, 1, 1, 9, 9, .u8, 1, 1, .RC, 1, .V, false, .mask 0xF, fun _ _ => .num 0x00⟩]

/-- The cards of the chapter sequencing. -/
def cards04 : List Card := [
  ⟨"INJ_DROPPED", 0x2000, 4, 256, 48, 48, .u32, 4, 4, .R, 0, .V, false, .any, fun _ _ => .num 0⟩,
  ⟨"INJ_ENTRY", 0x2000, 4, 256, 49, 49, .u64, 8, 8, .RW, 1, .P, false, .own, fun _ _ => .num 0x8400000100000000⟩,
  ⟨"INJ_REQUEST", 0x2000, 4, 256, 50, 50, .bool, 1, 1, .W, 1, .V, false, .any, fun _ _ => .num 0⟩,
  ⟨"INJ_RESULT", 0x2000, 4, 256, 51, 51, .u64, 8, 8, .R, 0, .V, false, .any, fun _ _ => .num 0⟩,
  ⟨"INJ_STATUS", 0x2000, 4, 256, 52, 52, .enum, 1, 1, .R, 0, .V, false, .any, fun _ _ => .num 0⟩,
  ⟨"SEQ_CTRL", 0x2000, 4, 256, 53, 53, .enum, 1, 1, .RW, 2, .P, false, .enum [0, 1], fun _ _ => .num 0⟩,
  ⟨"SEQ_LAST", 0x2000, 4, 256, 54, 54, .u8, 1, 1, .RW, 2, .P, true, .range 0 63, fun _ _ => .num 0⟩,
  ⟨"SEQ_LOOP", 0x2000, 4, 256, 55, 55, .enum, 1, 1, .RW, 2, .P, true, .enum [0, 1], fun _ _ => .num 0⟩,
  ⟨"TRIG_SRC", 0x2000, 4, 256, 56, 56, .enum, 1, 1, .RW, 2, .P, true, .enum [0, 1, 2, 3, 4, 5, 6], fun _ _ => .num 0⟩,
  ⟨"TRIG_DELAY", 0x2000, 4, 256, 57, 57, .u32, 4, 4, .RW, 2, .P, true, .range 0 8192000, fun _ _ => .num 0⟩,
  ⟨"RETRIG", 0x2000, 4, 256, 58, 58, .enum, 1, 1, .RW, 2, .P, true, .enum [0, 1], fun _ _ => .num 0⟩,
  ⟨"SEQ_START", 0x2000, 4, 256, 59, 59, .bool, 1, 1, .W, 1, .V, false, .any, fun _ _ => .num 0⟩,
  ⟨"RESULT_DEST", 0x2000, 4, 256, 60, 60, .enum, 1, 1, .RW, 2, .P, true, .enum [0, 1], fun _ _ => .num 0⟩,
  ⟨"SEQ_STATE", 0x2000, 4, 256, 61, 61, .enum, 1, 1, .R, 0, .V, false, .any, fun _ _ => .num 0⟩,
  ⟨"SEQ_ENTRY_NOW", 0x2000, 4, 256, 62, 62, .u8, 1, 1, .R, 0, .V, false, .any, fun _ _ => .num 0⟩,
  ⟨"TRIG_MISSED", 0x2000, 4, 256, 63, 63, .u32, 4, 4, .R, 0, .V, false, .any, fun _ _ => .num 0⟩,
  ⟨"TRIG_LATE", 0x2000, 4, 256, 64, 64, .u32, 4, 4, .R, 0, .V, false, .any, fun _ _ => .num 0⟩,
  ⟨"SEQ_ABANDONED", 0x2000, 4, 256, 65, 65, .u32, 4, 4, .R, 0, .V, false, .any, fun _ _ => .num 0⟩,
  ⟨"SEQ_FLAGS", 0x2000, 4, 256, 66, 66, .u16, 2, 2, .RC, 1, .V, false, .mask 0xF, fun _ _ => .num 0x0000⟩,
  ⟨"CAL_REQUEST", 0x2000, 4, 256, 67, 67, .enum, 1, 1, .W, 2, .V, false, .own, fun _ _ => .num 0⟩,
  ⟨"CAL_GAIN_MASK", 0x2000, 4, 256, 68, 68, .u8, 1, 1, .RW, 2, .V, false, .any, fun _ _ => .num 0xFF⟩,
  ⟨"CAL_ENTRY", 0x2000, 4, 256, 69, 69, .u8, 1, 1, .RW, 2, .V, false, .range 0 63, fun _ _ => .num 0⟩,
  ⟨"CAL_TARGET", 0x2000, 4, 256, 70, 70, .i32, 4, 4, .RW, 2, .V, false, .any, fun _ _ => .num 0⟩,
  ⟨"CAL_STATUS", 0x2000, 4, 256, 71, 71, .u16, 2, 2, .R, 0, .V, false, .any, fun _ _ => .num 0x0000⟩,
  ⟨"SEQ_ENTRY", 0x2002, 4, 256, 1, 64, .u64, 8, 8, .RW, 2, .P, true, .own, fun _ _ => .num 0x8400000100000000⟩,
  ⟨"RESULT", 0x2003, 4, 256, 1, 64, .u64, 8, 8, .R, 0, .V, false, .any, fun _ _ => .num 0⟩,
  ⟨"QUEUE_WORD", 0x2600, 1, 1, 1, 1, .u64, 8, 8, .R, 1, .V, false, .any, fun _ _ => .num 0⟩,
  ⟨"QUEUE_BLOCK", 0x2600, 1, 1, 2, 2, .blob, 0, 512, .R, 1, .V, false, .any, fun _ _ => .bytes []⟩,
  ⟨"QUEUE_FILL", 0x2600, 1, 1, 3, 3, .u16, 2, 2, .R, 0, .V, false, .any, fun _ _ => .num 0⟩,
  ⟨"QUEUE_WATERMARK", 0x2600, 1, 1, 4, 4, .u16, 2, 2, .RW, 2, .P, false, .range 1 2047, fun _ _ => .num 1536⟩,
  ⟨"QUEUE_LOST", 0x2600, 1, 1, 5, 5, .u32, 4, 4, .R, 0, .V, false, .any, fun _ _ => .num 0⟩,
  ⟨"QUEUE_FLAGS", 0x2600, 1, 1, 6, 6, .u8, 1, 1, .RC, 1, .V, false, .mask 0x3, fun _ _ => .num 0x00⟩,
  ⟨"QUEUE_FLUSH", 0x2600, 1, 1, 7, 7, .bool, 1, 1, .W, 2, .V, false, .any, fun _ _ => .num 0⟩]

/-- The cards of the chapter cross_check. -/
def cards05 : List Card := [
  ⟨"XCHK_MODE", 0x2700, 1, 1, 1, 1, .enum, 1, 1, .RW, 2, .P, true, .enum [0, 1, 2], fun _ _ => .num 0⟩,
  ⟨"ROTATE_STROKES", 0x2700, 1, 1, 2, 2, .u16, 2, 2, .RW, 2, .P, false, .range 30 60000, fun _ _ => .num 1000⟩,
  ⟨"XCHK_BLOCK", 0x2700, 1, 1, 3, 3, .u16, 2, 2, .RW, 2, .P, false, .range 1 4096, fun _ _ => .num 64⟩,
  ⟨"XCHK_FLOOR_NV", 0x2700, 1, 1, 4, 4, .u32, 4, 4, .RW, 2, .P, false, .range 100 1000000, fun _ _ => .num 5000⟩,
  ⟨"XCHK_FLOOR_PPM", 0x2700, 1, 1, 5, 5, .u16, 2, 2, .RW, 2, .P, false, .range 0 10000, fun _ _ => .num 100⟩,
  ⟨"ST_ZERO_TOL", 0x2700, 1, 1, 6, 6, .u16, 2, 2, .RW, 2, .P, false, .any, fun _ _ => .num 500⟩,
  ⟨"ST_GAIN_TOL", 0x2700, 1, 1, 7, 7, .u16, 2, 2, .RW, 2, .P, false, .any, fun _ _ => .num 1000⟩,
  ⟨"ST_LIN_TOL", 0x2700, 1, 1, 8, 8, .u16, 2, 2, .RW, 2, .P, false, .any, fun _ _ => .num 500⟩,
  ⟨"SEAT_MAP", 0x2700, 1, 1, 9, 9, .u16, 2, 2, .R, 0, .V, false, .any, fun _ _ => .num 0xC210⟩,
  ⟨"RETIRED", 0x2700, 1, 1, 10, 10, .u8, 1, 1, .R, 0, .P, false, .any, fun _ _ => .num 0x00⟩,
  ⟨"XCHK_STATUS", 0x2700, 1, 1, 11, 11, .u16, 2, 2, .R, 0, .V, false, .any, fun _ _ => .num 0x0000⟩,
  ⟨"XCHK_FLAGS", 0x2700, 1, 1, 12, 12, .u16, 2, 2, .RC, 1, .V, false, .mask 0xFF, fun _ _ => .num 0x0000⟩,
  ⟨"ROTATIONS", 0x2700, 1, 1, 13, 13, .u32, 4, 4, .R, 0, .V, false, .any, fun _ _ => .num 0⟩,
  ⟨"ROTATE_COUNTDOWN", 0x2700, 1, 1, 14, 14, .u16, 2, 2, .R, 0, .V, false, .any, fun _ _ => .num 1000⟩,
  ⟨"NOISE_MODEL_0", 0x2700, 1, 1, 15, 15, .blob, 432, 432, .R, 0, .const, false, .any, fun _ _ => .bytes (noiseModel 0)⟩,
  ⟨"FULL4_PAIR_PERIOD", 0x2700, 1, 1, 16, 16, .u16, 2, 2, .RW, 2, .P, false, .range 30 60000, fun _ _ => .num 1000⟩,
  ⟨"UNRETIRE", 0x2700, 1, 1, 17, 17, .u8, 1, 1, .W, 3, .V, false, .mask 0xF, fun _ _ => .num 0⟩,
  ⟨"ST_REQUEST", 0x2700, 1, 1, 18, 18, .u8, 1, 1, .W, 2, .V, false, .range 0 3, fun _ _ => .num 0⟩,
  ⟨"XCHK_SKIPPED", 0x2700, 1, 1, 19, 19, .u32, 4, 4, .R, 0, .V, false, .any, fun _ _ => .num 0⟩,
  ⟨"XCHK_STARVED", 0x2700, 1, 1, 20, 20, .u32, 4, 4, .R, 0, .V, false, .any, fun _ _ => .num 0⟩,
  ⟨"NOISE_MODEL_1", 0x2700, 1, 1, 21, 21, .blob, 432, 432, .R, 0, .const, false, .any, fun _ _ => .bytes (noiseModel 1)⟩,
  ⟨"NOISE_MODEL_2", 0x2700, 1, 1, 22, 22, .blob, 432, 432, .R, 0, .const, false, .any, fun _ _ => .bytes (noiseModel 2)⟩,
  ⟨"NOISE_MODEL_3", 0x2700, 1, 1, 23, 23, .blob, 432, 432, .R, 0, .const, false, .any, fun _ _ => .bytes (noiseModel 3)⟩,
  ⟨"XCHK_ENTRY", 0x2000, 4, 256, 80, 80, .u8, 1, 1, .RW, 2, .P, false, .own, fun _ _ => .num 0⟩,
  ⟨"XCHK_PAIRS", 0x2000, 4, 256, 81, 81, .u32, 4, 4, .R, 0, .V, false, .any, fun _ _ => .num 0⟩,
  ⟨"XCHK_ERRORS", 0x2000, 4, 256, 82, 82, .u32, 4, 4, .R, 0, .P, false, .any, fun _ _ => .num 0⟩,
  ⟨"XCHK_TRANSIENT", 0x2000, 4, 256, 83, 83, .u32, 4, 4, .R, 0, .P, false, .any, fun _ _ => .num 0⟩,
  ⟨"ST_RUNS", 0x2000, 4, 256, 84, 84, .u32, 4, 4, .R, 0, .P, false, .any, fun _ _ => .num 0⟩,
  ⟨"ST_FAILS", 0x2000, 4, 256, 85, 85, .u32, 4, 4, .R, 0, .P, false, .any, fun _ _ => .num 0⟩,
  ⟨"ST_MEAN_N", 0x2000, 4, 256, 86, 86, .i32, 4, 4, .R, 0, .V, false, .any, fun _ _ => .num 0⟩,
  ⟨"ST_MEAN_Z", 0x2000, 4, 256, 87, 87, .i32, 4, 4, .R, 0, .V, false, .any, fun _ _ => .num 0⟩,
  ⟨"ST_MEAN_P", 0x2000, 4, 256, 88, 88, .i32, 4, 4, .R, 0, .V, false, .any, fun _ _ => .num 0⟩,
  ⟨"XCHK_LAST_DIFF", 0x2000, 4, 256, 89, 89, .f32, 4, 4, .R, 0, .V, false, .any, fun _ _ => .num 0x00000000⟩,
  ⟨"XCHK_LAST_THR", 0x2000, 4, 256, 90, 90, .f32, 4, 4, .R, 0, .V, false, .any, fun _ _ => .num 0x00000000⟩,
  ⟨"DIAG_MANUAL", 0x2400, 1, 1, 1, 1, .bool, 1, 1, .RW, 2, .V, false, .any, fun _ _ => .num 0⟩,
  ⟨"DIAG_CODE", 0x2400, 1, 1, 2, 2, .i16, 2, 2, .RW, 2, .V, false, .irange (-8192) (8191), fun _ _ => .num 0⟩,
  ⟨"DIAG_ATT", 0x2400, 1, 1, 3, 3, .enum, 1, 1, .RW, 2, .V, false, .enum [0, 1, 2], fun _ _ => .num 0⟩,
  ⟨"DIAG_OWNER", 0x2400, 1, 1, 4, 4, .enum, 1, 1, .R, 0, .V, false, .any, fun _ _ => .num 0⟩,
  ⟨"DIAG_FLAGS", 0x2400, 1, 1, 5, 5, .u8, 1, 1, .RC, 1, .V, false, .mask 0x3, fun _ _ => .num 0x00⟩]

/-- The cards of the chapter signal_engine. PV_UNIT accepts every value of a byte: the spec lists no HART unit codes (DESIGN CHOICE, log 81). -/
def cards06 : List Card := [
  ⟨"ENGINE_HZ", 0x2800, 1, 1, 1, 1, .u32, 4, 4, .R, 0, .V, false, .any, fun _ _ => .num 0⟩,
  ⟨"ENGINE_CAP", 0x2800, 1, 1, 2, 2, .u32, 4, 4, .R, 0, .V, false, .any, fun _ _ => .num 0⟩,
  ⟨"ENGINE_LOAD", 0x2800, 1, 1, 3, 3, .u32, 4, 4, .R, 0, .V, false, .any, fun _ _ => .num 0⟩,
  ⟨"ENGINE_APPLY", 0x2800, 1, 1, 4, 4, .bool, 1, 1, .W, 2, .V, false, .any, fun _ _ => .num 0⟩,
  ⟨"ENGINE_CONFLICT", 0x2800, 1, 1, 5, 5, .u32, 4, 4, .R, 0, .V, false, .any, fun _ _ => .num 0xFF000000⟩,
  ⟨"ENGINE_FLAGS", 0x2800, 1, 1, 6, 6, .u16, 2, 2, .RC, 1, .V, false, .mask 0xF, fun _ _ => .num 0x0000⟩,
  ⟨"PARITY_ERRORS", 0x2800, 1, 1, 7, 7, .u32, 4, 4, .R, 0, .P, false, .any, fun _ _ => .num 0⟩,
  ⟨"PARITY_TRANSIENT", 0x2800, 1, 1, 8, 8, .u32, 4, 4, .R, 0, .P, false, .any, fun _ _ => .num 0⟩,
  ⟨"FRAMES_RETIRED", 0x2800, 1, 1, 9, 9, .u64, 8, 8, .R, 0, .P, false, .any, fun _ _ => .num 0⟩,
  ⟨"ROWS_RETIRED", 0x2800, 1, 1, 10, 10, .u16, 2, 2, .R, 0, .P, false, .any, fun _ _ => .num 0⟩,
  ⟨"ANGLE_ADMIT_MIN", 0x2800, 1, 1, 11, 11, .u16, 2, 2, .RW, 2, .P, true, .any, fun _ _ => .num 8⟩,
  ⟨"ANGLE_ADMIT_MAX", 0x2800, 1, 1, 12, 12, .u16, 2, 2, .RW, 2, .P, true, .any, fun _ _ => .num 80⟩,
  ⟨"LANE_ENABLE", 0x2810, 32, 1, 1, 1, .bool, 1, 1, .RW, 2, .PC, true, .any, fun _ _ => .num 0⟩,
  ⟨"LANE_STATUS", 0x2810, 32, 1, 2, 2, .u16, 2, 2, .R, 0, .V, false, .any, fun i _ => .num (i * 0x80)⟩,
  ⟨"LANE_FLAGS", 0x2810, 32, 1, 3, 3, .u16, 2, 2, .RC, 1, .V, false, .mask 0x1F, fun _ _ => .num 0x0000⟩,
  ⟨"LANE_COST", 0x2810, 32, 1, 4, 4, .u32, 4, 4, .R, 0, .V, false, .any, fun _ _ => .num 0⟩,
  ⟨"LANE_FINISH_BOUND", 0x2810, 32, 1, 5, 5, .u32, 4, 4, .R, 0, .V, false, .any, fun _ _ => .num 0⟩,
  ⟨"LANE_RUNS", 0x2810, 32, 1, 6, 6, .u32, 4, 4, .R, 0, .V, false, .any, fun _ _ => .num 0⟩,
  ⟨"LANE_OVERRUNS", 0x2810, 32, 1, 7, 7, .u32, 4, 4, .R, 0, .V, false, .any, fun _ _ => .num 0⟩,
  ⟨"LANE_LAST_CYCLES", 0x2810, 32, 1, 8, 8, .u32, 4, 4, .R, 0, .V, false, .any, fun _ _ => .num 0⟩,
  ⟨"LANE_LAST_DT", 0x2810, 32, 1, 9, 9, .u32, 4, 4, .R, 0, .V, false, .any, fun _ _ => .num 0⟩,
  ⟨"IN_FAILED", 0x2810, 32, 1, 10, 10, .u8, 1, 1, .R, 0, .V, false, .any, fun _ _ => .num 0x00⟩,
  ⟨"IN_OVERFLOWS", 0x2810, 32, 1, 11, 11, .u32, 4, 4, .R, 0, .V, false, .any, fun _ _ => .num 0⟩,
  ⟨"IN_BIND", 0x2810, 32, 1, 17, 24, .u16, 2, 2, .RW, 2, .PC, true, .own, fun _ _ => .num 0x0000⟩,
  ⟨"IN_TIMEOUT", 0x2810, 32, 1, 25, 32, .u16, 2, 2, .RW, 2, .P, false, .any, fun _ _ => .num 3⟩,
  ⟨"OP", 0x2830, 32, 1, 1, 48, .u64, 8, 8, .RW, 2, .PC, true, .own, fun _ _ => .num 0⟩,
  ⟨"PARAM_BLOCK", 0x2A00, 512, 1, 1, 1, .blob, 0, 512, .RW, 2, .P, false, .own, fun _ _ => .bytes []⟩,
  ⟨"PV_VALUE", 0x4000, 16, 1, 1, 1, .f32, 4, 4, .R, 0, .V, false, .any, fun _ _ => .num 0x00000000⟩,
  ⟨"PV_STATUS", 0x4000, 16, 1, 2, 2, .u16, 2, 2, .R, 0, .V, false, .any, fun _ _ => .num 0x9000⟩,
  ⟨"PV_TIME", 0x4000, 16, 1, 3, 3, .time, 8, 8, .R, 0, .V, false, .any, fun _ _ => .num 0⟩,
  ⟨"PV_SYNC", 0x4000, 16, 1, 4, 4, .u16, 2, 2, .R, 0, .V, false, .any, fun _ _ => .num 0x00FF⟩,
  ⟨"PV_UNIT", 0x4000, 16, 1, 5, 5, .enum, 1, 1, .RW, 2, .P, false, .any, fun _ _ => .num 250⟩,
  ⟨"PV_WRITER", 0x4000, 16, 1, 6, 6, .u8, 1, 1, .R, 0, .V, false, .any, fun _ _ => .num 0xFF⟩,
  ⟨"PV_UPDATES", 0x4000, 16, 1, 7, 7, .u32, 4, 4, .R, 0, .V, false, .any, fun _ _ => .num 0⟩]

/-- The cards of the chapter transient_capture. CATCH_UNIT accepts every value of a byte: the spec lists no HART unit codes (DESIGN CHOICE,
log 81). -/
def cards07 : List Card := [
  ⟨"WASH_APPLY", 0x3000, 1, 1, 1, 1, .bool, 1, 1, .W, 2, .V, false, .any, fun _ _ => .num 0⟩,
  ⟨"WASH_BLOCKS_FREE", 0x3000, 1, 1, 2, 2, .u8, 1, 1, .R, 0, .V, false, .any, fun _ _ => .num 64⟩,
  ⟨"CAPTURE_FLAGS", 0x3000, 1, 1, 3, 3, .u16, 2, 2, .RC, 1, .V, false, .mask 0x1F, fun _ _ => .num 0x0000⟩,
  ⟨"WASH_CONFLICT", 0x3000, 1, 1, 4, 4, .u16, 2, 2, .R, 0, .V, false, .any, fun _ _ => .num 0xFFFF⟩,
  ⟨"CATCH_LOST", 0x3000, 1, 1, 5, 5, .u32, 4, 4, .R, 0, .V, false, .any, fun _ _ => .num 0⟩,
  ⟨"CATCH_LAST_ID", 0x3000, 1, 1, 6, 6, .u32, 4, 4, .R, 0, .P, false, .any, fun _ _ => .num 0⟩,
  ⟨"WASH_BLOCKS", 0x3010, 8, 1, 1, 1, .u8, 1, 1, .RW, 2, .PC, true, .range 0 64, fun _ _ => .num 0⟩,
  ⟨"WASH_SPACING", 0x3010, 8, 1, 2, 2, .u32, 4, 4, .R, 0, .V, false, .any, fun _ _ => .num 0⟩,
  ⟨"WASH_DEPTH", 0x3010, 8, 1, 3, 3, .u32, 4, 4, .R, 0, .V, false, .any, fun _ _ => .num 0⟩,
  ⟨"WASH_STATE", 0x3010, 8, 1, 4, 4, .enum, 1, 1, .R, 0, .V, false, .any, fun _ _ => .num 0⟩,
  ⟨"WASH_FILL", 0x3010, 8, 1, 5, 5, .u32, 4, 4, .R, 0, .V, false, .any, fun _ _ => .num 0⟩,
  ⟨"WASH_GAPS", 0x3010, 8, 1, 6, 6, .u32, 4, 4, .R, 0, .V, false, .any, fun _ _ => .num 0⟩,
  ⟨"WASH_DISCARDED", 0x3010, 8, 1, 7, 7, .u32, 4, 4, .R, 0, .V, false, .any, fun _ _ => .num 0⟩,
  ⟨"WASH_NEWEST", 0x3010, 8, 1, 8, 8, .time, 8, 8, .R, 0, .V, false, .any, fun _ _ => .num 0⟩,
  ⟨"CATCH_ENABLE", 0x3100, 8, 1, 1, 1, .bool, 1, 1, .RW, 2, .P, false, .any, fun _ _ => .num 0⟩,
  ⟨"CATCH_CHANNEL", 0x3100, 8, 1, 2, 2, .u8, 1, 1, .RW, 2, .P, true, .range 0 7, fun _ _ => .num 0⟩,
  ⟨"CATCH_MASK", 0x3100, 8, 1, 3, 3, .u8, 1, 1, .RW, 2, .P, true, .any, fun _ _ => .num 0x00⟩,
  ⟨"CATCH_PRE", 0x3100, 8, 1, 4, 4, .u32, 4, 4, .RW, 2, .P, true, .range 1 600000, fun _ _ => .num 2000⟩,
  ⟨"CATCH_POST", 0x3100, 8, 1, 5, 5, .u32, 4, 4, .RW, 2, .P, true, .range 1 600000, fun _ _ => .num 2000⟩,
  ⟨"CATCH_HOLDOFF", 0x3100, 8, 1, 6, 6, .u32, 4, 4, .RW, 2, .P, false, .any, fun _ _ => .num 1000⟩,
  ⟨"CATCH_STREAM", 0x3100, 8, 1, 7, 7, .u8, 1, 1, .RW, 2, .P, false, .range 0 7, fun _ _ => .num 0⟩,
  ⟨"CATCH_RATE_MAX", 0x3100, 8, 1, 8, 8, .u16, 2, 2, .RW, 2, .P, false, .range 1 3600, fun _ _ => .num 60⟩,
  ⟨"FIT_PRE", 0x3100, 8, 1, 9, 9, .u16, 2, 2, .RW, 2, .P, true, .own, fun _ _ => .num 256⟩,
  ⟨"FIT_GUARD", 0x3100, 8, 1, 10, 10, .u16, 2, 2, .RW, 2, .P, true, .own, fun _ _ => .num 128⟩,
  ⟨"FIT_POST", 0x3100, 8, 1, 11, 11, .u16, 2, 2, .RW, 2, .P, true, .own, fun _ _ => .num 256⟩,
  ⟨"MIN_STEP", 0x3100, 8, 1, 12, 12, .f32, 4, 4, .RW, 2, .P, false, .own, fun _ _ => .num 0x00000000⟩,
  ⟨"CLASS_FAST_RATE", 0x3100, 8, 1, 13, 13, .f32, 4, 4, .RW, 2, .P, false, .own, fun _ _ => .num 0x00000000⟩,
  ⟨"CATCH_UNIT", 0x3100, 8, 1, 14, 14, .enum, 1, 1, .RW, 2, .P, false, .any, fun _ _ => .num 250⟩,
  ⟨"CATCH_COUNT", 0x3100, 8, 1, 15, 15, .u32, 4, 4, .R, 0, .V, false, .any, fun _ _ => .num 0⟩,
  ⟨"CATCH_MERGED", 0x3100, 8, 1, 16, 16, .u32, 4, 4, .R, 0, .V, false, .any, fun _ _ => .num 0⟩,
  ⟨"CATCH_SUPPRESSED", 0x3100, 8, 1, 17, 17, .u32, 4, 4, .R, 0, .V, false, .any, fun _ _ => .num 0⟩,
  ⟨"FETCH_CATCH", 0x3200, 1, 1, 1, 1, .u32, 4, 4, .RW, 1, .V, false, .any, fun _ _ => .num 0⟩,
  ⟨"FETCH_CHANNEL", 0x3200, 1, 1, 2, 2, .u8, 1, 1, .RW, 1, .V, false, .range 0 7, fun _ _ => .num 0⟩,
  ⟨"FETCH_OFFSET", 0x3200, 1, 1, 3, 3, .u32, 4, 4, .RW, 1, .V, false, .any, fun _ _ => .num 0⟩,
  ⟨"FETCH_DATA", 0x3200, 1, 1, 4, 4, .blob, 0, 512, .R, 1, .V, false, .any, fun _ _ => .bytes []⟩,
  ⟨"CATCH_HELD", 0x3200, 1, 1, 5, 5, .blob, 0, 512, .R, 1, .V, false, .any, fun _ _ => .bytes []⟩,
  ⟨"LOC_ENABLE", 0x3300, 1, 1, 1, 1, .bool, 1, 1, .RW, 2, .P, false, .any, fun _ _ => .num 0⟩,
  ⟨"LOC_UP_SERIAL", 0x3300, 1, 1, 2, 2, .str, 0, 12, .RW, 2, .P, false, .own, fun _ _ => .bytes []⟩,
  ⟨"LOC_UP_STREAM", 0x3300, 1, 1, 3, 3, .u8, 1, 1, .RW, 2, .P, false, .range 0 7, fun _ _ => .num 0⟩,
  ⟨"LOC_LENGTH", 0x3300, 1, 1, 4, 4, .f32, 4, 4, .RW, 2, .P, false, .own, fun _ _ => .num 0x447A0000⟩,
  ⟨"LOC_LENGTH_UNC", 0x3300, 1, 1, 5, 5, .f32, 4, 4, .RW, 2, .P, false, .own, fun _ _ => .num 0x00000000⟩,
  ⟨"LOC_WAVE_SPEED", 0x3300, 1, 1, 6, 6, .f32, 4, 4, .RW, 2, .P, false, .own, fun _ _ => .num 0x447A0000⟩,
  ⟨"LOC_WAVE_SPEED_UNC", 0x3300, 1, 1, 7, 7, .f32, 4, 4, .RW, 2, .P, false, .own, fun _ _ => .num 0x00000000⟩,
  ⟨"LOC_MARGIN", 0x3300, 1, 1, 8, 8, .u32, 4, 4, .RW, 2, .P, false, .any, fun _ _ => .num 5000⟩,
  ⟨"LOC_WAIT", 0x3300, 1, 1, 9, 9, .u32, 4, 4, .RW, 2, .P, false, .range 1000 60000, fun _ _ => .num 3000⟩,
  ⟨"LOC_STREAM", 0x3300, 1, 1, 10, 10, .u8, 1, 1, .RW, 2, .P, false, .range 0 7, fun _ _ => .num 0⟩,
  ⟨"LOC_LAST_X", 0x3300, 1, 1, 11, 11, .f32, 4, 4, .R, 0, .V, false, .any, fun _ _ => .num 0x00000000⟩,
  ⟨"LOC_LAST_UX", 0x3300, 1, 1, 12, 12, .f32, 4, 4, .R, 0, .V, false, .any, fun _ _ => .num 0x00000000⟩,
  ⟨"LOC_LAST_RESULT", 0x3300, 1, 1, 13, 13, .enum, 1, 1, .R, 0, .V, false, .any, fun _ _ => .num 3⟩,
  ⟨"LOC_PAIRED", 0x3300, 1, 1, 14, 14, .u32, 4, 4, .R, 0, .V, false, .any, fun _ _ => .num 0⟩,
  ⟨"LOC_UNPAIRED", 0x3300, 1, 1, 15, 15, .u32, 4, 4, .R, 0, .V, false, .any, fun _ _ => .num 0⟩,
  ⟨"LOC_UP_ADDRESS", 0x3300, 1, 1, 16, 16, .blob, 0, 16, .RW, 2, .P, false, .own, fun _ _ => .bytes []⟩,
  ⟨"LOC_UP_GATE", 0x3300, 1, 1, 17, 17, .u8, 1, 1, .RW, 2, .P, false, .range 1 7, fun _ _ => .num 1⟩,
  ⟨"LOC_UP_STATE", 0x3300, 1, 1, 18, 18, .enum, 1, 1, .R, 0, .V, false, .any, fun _ _ => .num 0⟩,
  ⟨"LOC_UP_SUB", 0x3300, 1, 1, 19, 19, .u8, 1, 1, .R, 0, .P, false, .any, fun _ _ => .num 0xFF⟩]

/-- The cards of the chapter loop_output. -/
def cards08 : List Card := [
  ⟨"LOOP_MODE", 0x3400, 1, 1, 1, 1, .enum, 1, 1, .R, 0, .V, false, .any, fun _ _ => .num 0⟩,
  ⟨"LOOP_PV", 0x3400, 1, 1, 2, 2, .u8, 1, 1, .RW, 2, .P, true, .enum [0, 1, 2, 3, 4, 5, 6, 7, 8, 9, 10, 11, 12, 13, 14, 15, 255], fun _ _ => .num 0xFF⟩,
  ⟨"LOOP_RANGE", 0x3400, 1, 1, 3, 3, .record, 8, 8, .RW, 2, .P, false, .own, fun _ _ => .bytes [0, 0, 0, 0, 0x42, 0xC8, 0, 0]⟩,
  ⟨"LOOP_MIN_SPAN", 0x3400, 1, 1, 4, 4, .f32, 4, 4, .RW, 2, .P, false, .own, fun _ _ => .num 0x3F800000⟩,
  ⟨"LOOP_LIMIT_LO", 0x3400, 1, 1, 5, 5, .f32, 4, 4, .RW, 2, .P, false, .own, fun _ _ => .num 0xF149F2CA⟩,
  ⟨"LOOP_LIMIT_HI", 0x3400, 1, 1, 6, 6, .f32, 4, 4, .RW, 2, .P, false, .own, fun _ _ => .num 0x7149F2CA⟩,
  ⟨"LOOP_FAULT_DIR", 0x3400, 1, 1, 7, 7, .enum, 1, 1, .RW, 2, .P, false, .enum [0, 1], fun _ _ => .num 0⟩,
  ⟨"LOOP_STALE_STROKES", 0x3400, 1, 1, 8, 8, .u16, 2, 2, .RW, 2, .P, false, .range 1 65535, fun _ _ => .num 10⟩,
  ⟨"LOOP_CONFIG_ACTION", 0x3400, 1, 1, 9, 9, .enum, 1, 1, .RW, 2, .P, false, .enum [0, 1], fun _ _ => .num 0⟩,
  ⟨"LOOP_SLEW", 0x3400, 1, 1, 10, 10, .f32, 4, 4, .RW, 2, .P, false, .own, fun _ _ => .num 0x00000000⟩,
  ⟨"LOOP_FIXED", 0x3400, 1, 1, 11, 11, .f32, 4, 4, .RW, 2, .V, false, .own, fun _ _ => .num 0x00000000⟩,
  ⟨"LOOP_HEADROOM_SET", 0x3400, 1, 1, 12, 12, .f32, 4, 4, .RW, 2, .P, false, .frange 0x3FC00000 0x40800000, fun _ _ => .num 0x40000000⟩,
  ⟨"LOOP_TARGET", 0x3400, 1, 1, 13, 13, .f32, 4, 4, .R, 0, .V, false, .any, fun _ _ => .num 0x40633333⟩,
  ⟨"LOOP_CODE", 0x3400, 1, 1, 14, 14, .u32, 4, 4, .R, 0, .V, false, .any, fun _ _ => .num 142000⟩,
  ⟨"LOOP_MEASURED", 0x3400, 1, 1, 15, 15, .f32, 4, 4, .R, 0, .V, false, .any, fun _ _ => .num 0x00000000⟩,
  ⟨"LOOP_VOLTAGE", 0x3400, 1, 1, 16, 16, .f32, 4, 4, .R, 0, .V, false, .any, fun _ _ => .num 0x00000000⟩,
  ⟨"LOOP_STATUS", 0x3400, 1, 1, 17, 17, .u16, 2, 2, .R, 0, .V, false, .any, fun _ _ => .num 0x0000⟩,
  ⟨"LOOP_FLAGS", 0x3400, 1, 1, 18, 18, .u16, 2, 2, .RC, 1, .V, false, .mask 0x3FF, fun _ _ => .num 0x0000⟩,
  ⟨"LOOP_AGE", 0x3400, 1, 1, 19, 19, .u32, 4, 4, .R, 0, .V, false, .any, fun _ _ => .num 0⟩,
  ⟨"LOOP_AGE_MAX", 0x3400, 1, 1, 20, 20, .u32, 4, 4, .R, 0, .V, false, .any, fun _ _ => .num 0⟩,
  ⟨"LOOP_LATENCY_BOUND", 0x3400, 1, 1, 21, 21, .u32, 4, 4, .R, 0, .V, false, .any, fun _ _ => .num 0⟩,
  ⟨"MULTIDROP", 0x3400, 1, 1, 22, 22, .bool, 1, 1, .R, 0, .V, false, .any, fun _ _ => .num 0⟩,
  ⟨"LOOP_TRIM_OFFSET", 0x3401, 1, 1, 1, 1, .i32, 4, 4, .RW, 2, .P, false, .irange (-8000) (8000), fun _ _ => .num 0⟩,
  ⟨"LOOP_TRIM_GAIN", 0x3401, 1, 1, 2, 2, .u32, 4, 4, .RW, 2, .P, false, .range 1063004406 1084479242, fun _ _ => .num 0x40000000⟩,
  ⟨"LOOP_TRIM_ZERO_MEAS", 0x3401, 1, 1, 3, 3, .f32, 4, 4, .W, 2, .V, false, .own, fun _ _ => .num 0⟩,
  ⟨"LOOP_TRIM_SPAN_MEAS", 0x3401, 1, 1, 4, 4, .f32, 4, 4, .W, 2, .V, false, .own, fun _ _ => .num 0⟩,
  ⟨"LOOP_TRIM_RESET", 0x3401, 1, 1, 5, 5, .bool, 1, 1, .W, 2, .V, false, .any, fun _ _ => .num 0⟩,
  ⟨"ADAC_ENABLE", 0x3500, 1, 1, 1, 1, .bool, 1, 1, .RW, 2, .P, false, .any, fun _ _ => .num 0⟩,
  ⟨"ADAC_RANGE", 0x3500, 1, 1, 2, 2, .enum, 1, 1, .RW, 2, .P, false, .enum [0, 1, 2], fun _ _ => .num 0⟩,
  ⟨"ADAC_SAFE", 0x3500, 1, 1, 3, 3, .f32, 4, 4, .RW, 2, .P, false, .frange 0x00000000 0x3F800000, fun _ _ => .num 0x00000000⟩,
  ⟨"ADAC_CONFIG_ACTION", 0x3500, 1, 1, 4, 4, .enum, 1, 1, .RW, 2, .P, false, .enum [0, 1], fun _ _ => .num 1⟩,
  ⟨"ADAC_FAULT_ACTION", 0x3500, 1, 1, 5, 5, .enum, 1, 1, .RW, 2, .P, false, .enum [0, 1], fun _ _ => .num 1⟩,
  ⟨"ADAC_FIXED", 0x3500, 1, 1, 6, 6, .f32, 4, 4, .RW, 2, .V, false, .own, fun _ _ => .num 0xBF800000⟩,
  ⟨"ADAC_CODE", 0x3500, 1, 1, 7, 7, .u32, 4, 4, .R, 0, .V, false, .any, fun _ _ => .num 0⟩,
  ⟨"ADAC_MEASURED", 0x3500, 1, 1, 8, 8, .f32, 4, 4, .R, 0, .V, false, .any, fun _ _ => .num 0x00000000⟩,
  ⟨"ADAC_STATUS", 0x3500, 1, 1, 9, 9, .u16, 2, 2, .R, 0, .V, false, .any, fun _ _ => .num 0x0000⟩,
  ⟨"ADAC_FLAGS", 0x3500, 1, 1, 10, 10, .u8, 1, 1, .RC, 1, .V, false, .mask 0xF, fun _ _ => .num 0x00⟩,
  ⟨"XDAC_ENABLE", 0x3600, 1, 1, 1, 1, .bool, 1, 1, .RW, 2, .P, false, .any, fun _ _ => .num 0⟩,
  ⟨"XDAC_GAIN", 0x3600, 1, 1, 2, 2, .enum, 1, 1, .RW, 2, .P, true, .enum [0, 1], fun _ _ => .num 0⟩,
  ⟨"XDAC_MODE", 0x3600, 1, 1, 3, 3, .enum, 1, 1, .RW, 2, .P, true, .enum [0, 1], fun _ _ => .num 0⟩,
  ⟨"XDAC_LEVEL", 0x3600, 1, 1, 4, 4, .i32, 4, 4, .RW, 2, .P, false, .own, fun _ _ => .num 0⟩,
  ⟨"XDAC_FTW", 0x3600, 1, 1, 5, 5, .u32, 4, 4, .RW, 2, .P, false, .range 4195 2097152, fun _ _ => .num 1048576⟩,
  ⟨"XDAC_PHASE0", 0x3600, 1, 1, 6, 6, .u32, 4, 4, .RW, 2, .P, false, .any, fun _ _ => .num 0⟩,
  ⟨"XDAC_PHASE", 0x3600, 1, 1, 7, 7, .u32, 4, 4, .R, 0, .V, false, .any, fun _ _ => .num 0⟩,
  ⟨"XDAC_CURRENT", 0x3600, 1, 1, 8, 8, .f32, 4, 4, .R, 0, .V, false, .any, fun _ _ => .num 0x00000000⟩,
  ⟨"XDAC_FLAGS", 0x3600, 1, 1, 9, 9, .u8, 1, 1, .RC, 1, .V, false, .mask 0x1, fun _ _ => .num 0x00⟩,
  ⟨"BUTTON_STATE", 0x3700, 1, 1, 1, 1, .u8, 1, 1, .R, 0, .V, false, .any, fun _ _ => .num 0⟩,
  ⟨"BUTTON_ENABLE", 0x3700, 1, 1, 2, 2, .bool, 1, 1, .RW, 2, .P, false, .any, fun _ _ => .num 1⟩,
  ⟨"RERANGE_COUNT", 0x3700, 1, 1, 3, 3, .u32, 4, 4, .R, 0, .P, false, .any, fun _ _ => .num 0⟩]

/-- The cards of the chapter control. -/
def cards09 : List Card := [
  ⟨"CTRL_FLAGS", 0x3800, 1, 1, 1, 1, .u16, 2, 2, .RC, 1, .V, false, .mask 0x7F, fun _ _ => .num 0x0000⟩,
  ⟨"CTRL_MODE", 0x3810, 8, 1, 1, 1, .enum, 1, 1, .RW, 1, .P, false, .enum [0, 1], fun _ _ => .num 0⟩,
  ⟨"CTRL_SP", 0x3810, 8, 1, 2, 2, .f32, 4, 4, .RW, 1, .P, false, .own, fun _ _ => .num 0x00000000⟩,
  ⟨"CTRL_SP_RAMP", 0x3810, 8, 1, 3, 3, .f32, 4, 4, .RW, 2, .P, false, .own, fun _ _ => .num 0x00000000⟩,
  ⟨"CTRL_SP_EFFECTIVE", 0x3810, 8, 1, 4, 4, .f32, 4, 4, .R, 0, .V, false, .any, fun _ _ => .num 0x00000000⟩,
  ⟨"CTRL_MANUAL", 0x3810, 8, 1, 5, 5, .f32, 4, 4, .RW, 1, .V, false, .own, fun _ _ => .num 0x00000000⟩,
  ⟨"SCHED_ENABLE", 0x3810, 8, 1, 6, 6, .bool, 1, 1, .RW, 2, .P, false, .any, fun _ _ => .num 0⟩,
  ⟨"SCHED_POINTS", 0x3810, 8, 1, 7, 7, .blob, 0, 64, .RW, 2, .P, false, .own, fun _ _ => .bytes []⟩,
  ⟨"SCHED_TZ_OFFSET", 0x3810, 8, 1, 8, 8, .i32, 4, 4, .RW, 2, .P, false, .irange (-86400) (86400), fun _ _ => .num 0⟩,
  ⟨"CTRL_OUTPUT", 0x3810, 8, 1, 9, 9, .f32, 4, 4, .R, 0, .V, false, .any, fun _ _ => .num 0x00000000⟩,
  ⟨"CTRL_ERROR", 0x3810, 8, 1, 10, 10, .f32, 4, 4, .R, 0, .V, false, .any, fun _ _ => .num 0x00000000⟩,
  ⟨"CTRL_STATUS", 0x3810, 8, 1, 11, 11, .u16, 2, 2, .R, 0, .V, false, .any, fun _ _ => .num 0x0000⟩,
  ⟨"SURGE_STATUS", 0x3900, 4, 1, 1, 1, .u16, 2, 2, .R, 0, .V, false, .any, fun _ _ => .num 0x0000⟩,
  ⟨"SURGE_WINDOW", 0x3900, 4, 1, 2, 2, .u64, 8, 8, .R, 0, .V, false, .any, fun _ _ => .num 0⟩,
  ⟨"SURGE_DV_MAX", 0x3900, 4, 1, 3, 3, .f32, 4, 4, .R, 0, .V, false, .any, fun _ _ => .num 0x00000000⟩,
  ⟨"SURGE_MEASURED", 0x3900, 4, 1, 4, 4, .f32, 4, 4, .R, 0, .V, false, .any, fun _ _ => .num 0x00000000⟩,
  ⟨"SURGE_PREDICTED", 0x3900, 4, 1, 5, 5, .f32, 4, 4, .R, 0, .V, false, .any, fun _ _ => .num 0x00000000⟩,
  ⟨"SURGE_COMMAND", 0x3900, 4, 1, 6, 6, .f32, 4, 4, .R, 0, .V, false, .any, fun _ _ => .num 0x00000000⟩,
  ⟨"SURGE_LIMITED_SLOTS", 0x3900, 4, 1, 7, 7, .u32, 4, 4, .R, 0, .V, false, .any, fun _ _ => .num 0⟩,
  ⟨"SURGE_FREEZES", 0x3900, 4, 1, 8, 8, .u32, 4, 4, .R, 0, .P, false, .any, fun _ _ => .num 0⟩,
  ⟨"PWM_ENABLE", 0x3A00, 2, 1, 1, 1, .bool, 1, 1, .RW, 2, .P, false, .any, fun _ _ => .num 0⟩,
  ⟨"PWM_PERIOD", 0x3A00, 2, 1, 2, 2, .u32, 4, 4, .RW, 2, .P, true, .range 1024 67108864, fun _ _ => .num 65536⟩,
  ⟨"PWM_ALIGN", 0x3A00, 2, 1, 3, 3, .enum, 1, 1, .RW, 2, .P, true, .enum [0, 1], fun _ _ => .num 0⟩,
  ⟨"PWM_POLARITY", 0x3A00, 2, 1, 4, 4, .enum, 1, 1, .RW, 2, .P, true, .enum [0, 1], fun _ _ => .num 0⟩,
  ⟨"PWM_SAFE", 0x3A00, 2, 1, 5, 5, .f32, 4, 4, .RW, 2, .P, false, .frange 0x00000000 0x3F800000, fun _ _ => .num 0x00000000⟩,
  ⟨"PWM_CONFIG_ACTION", 0x3A00, 2, 1, 6, 6, .enum, 1, 1, .RW, 2, .P, false, .enum [0, 1], fun _ _ => .num 1⟩,
  ⟨"PWM_FAULT_ACTION", 0x3A00, 2, 1, 7, 7, .enum, 1, 1, .RW, 2, .P, false, .enum [0, 1], fun _ _ => .num 1⟩,
  ⟨"PWM_FIXED", 0x3A00, 2, 1, 8, 8, .f32, 4, 4, .RW, 2, .V, false, .own, fun _ _ => .num 0xBF800000⟩,
  ⟨"PWM_DUTY", 0x3A00, 2, 1, 9, 9, .u32, 4, 4, .R, 0, .V, false, .any, fun _ _ => .num 0⟩,
  ⟨"PWM_RESYNC", 0x3A00, 2, 1, 10, 10, .u32, 4, 4, .R, 0, .V, false, .any, fun _ _ => .num 0⟩]

/-- The cards of the chapter entries. -/
def cards10 : List Card := [
  ⟨"CMD_STREAM", 0x5000, 1, 1, 1, 1, .u8, 1, 1, .RW, 2, .P, false, .range 0 7, fun _ _ => .num 0⟩,
  ⟨"EVENT_STREAM", 0x5000, 1, 1, 2, 2, .u8, 1, 1, .RW, 2, .P, false, .range 0 7, fun _ _ => .num 1⟩,
  ⟨"EVENT_MASK", 0x5000, 1, 1, 3, 3, .u16, 2, 2, .RW, 2, .P, false, .mask 0x7FF, fun _ _ => .num 0x07FE⟩,
  ⟨"ACK_WAIT", 0x5000, 1, 1, 4, 4, .u16, 2, 2, .RW, 2, .P, false, .range 10 10000, fun _ _ => .num 500⟩,
  ⟨"REQ_HOLD", 0x5000, 1, 1, 5, 5, .u32, 4, 4, .RW, 2, .P, false, .range 60 86400, fun _ _ => .num 3600⟩,
  ⟨"SERVICE_LIFE", 0x5000, 1, 1, 6, 6, .u8, 1, 1, .RW, 2, .P, false, .range 1 40, fun _ _ => .num 20⟩,
  ⟨"ENTRY_FLAGS", 0x5000, 1, 1, 7, 7, .u16, 2, 2, .RC, 1, .V, false, .mask 0x3F, fun _ _ => .num 0x0000⟩,
  ⟨"ADMIT_CONFLICT", 0x5000, 1, 1, 8, 8, .u32, 4, 4, .R, 0, .V, false, .any, fun _ _ => .num 0x00000000⟩,
  ⟨"ALARM_LATENCY_BOUND", 0x5000, 1, 1, 9, 9, .u32, 4, 4, .R, 0, .V, false, .any, fun _ _ => .num 0⟩,
  ⟨"REQ_DUPLICATES", 0x5000, 1, 1, 10, 10, .u32, 4, 4, .R, 0, .V, false, .any, fun _ _ => .num 0⟩,
  ⟨"REQ_WITHDRAWN", 0x5000, 1, 1, 11, 11, .u32, 4, 4, .R, 0, .V, false, .any, fun _ _ => .num 0⟩,
  ⟨"REQ_OUT_OF_WINDOW", 0x5000, 1, 1, 12, 12, .u32, 4, 4, .R, 0, .V, false, .any, fun _ _ => .num 0⟩,
  ⟨"CLIENTS_IN_USE", 0x5000, 1, 1, 13, 13, .u8, 1, 1, .R, 0, .V, false, .any, fun _ _ => .num 0⟩,
  ⟨"ACK_PERSIST", 0x5000, 1, 1, 14, 14, .u16, 2, 2, .RW, 2, .P, false, .range 1 3600, fun _ _ => .num 10⟩,
  ⟨"STREAM_RATE_MAX", 0x5010, 8, 1, 1, 1, .u32, 4, 4, .RW, 2, .P, false, .any, fun i _ => .num ([360, 720].getD i 0)⟩,
  ⟨"STREAM_BURST", 0x5010, 8, 1, 2, 2, .u8, 1, 1, .RW, 2, .P, false, .range 1 64, fun _ _ => .num 4⟩,
  ⟨"STREAM_HEAD", 0x5010, 8, 1, 3, 3, .u64, 8, 8, .R, 0, .V, false, .any, fun _ _ => .num 0x8000000000000000⟩,
  ⟨"STREAM_OLDEST", 0x5010, 8, 1, 4, 4, .u64, 8, 8, .R, 0, .V, false, .any, fun _ _ => .num 0x8000000000000000⟩,
  ⟨"STREAM_ACCEPTED", 0x5010, 8, 1, 5, 5, .u32, 4, 4, .R, 0, .V, false, .any, fun _ _ => .num 0⟩,
  ⟨"STREAM_REFUSED", 0x5010, 8, 1, 6, 6, .u32, 4, 4, .R, 0, .V, false, .any, fun _ _ => .num 0⟩,
  ⟨"STREAM_ADMITTED", 0x5010, 8, 1, 7, 7, .u32, 4, 4, .R, 0, .V, false, .any, fun _ _ => .num 0⟩,
  ⟨"SUB_ENABLE", 0x5100, 16, 1, 1, 1, .bool, 1, 1, .RW, 2, .PC, false, .any, fun _ _ => .num 0⟩,
  ⟨"SUB_STREAM", 0x5100, 16, 1, 2, 2, .u8, 1, 1, .RW, 2, .PC, false, .range 0 7, fun _ _ => .num 0⟩,
  ⟨"SUB_PORT", 0x5100, 16, 1, 3, 3, .enum, 1, 1, .RW, 2, .PC, false, .enum [0, 1, 2, 3, 4], fun _ _ => .num 0⟩,
  ⟨"SUB_DEST", 0x5100, 16, 1, 4, 4, .blob, 0, 64, .RW, 2, .PC, false, .own, fun _ _ => .bytes []⟩,
  ⟨"SUB_GATE", 0x5100, 16, 1, 5, 5, .u8, 1, 1, .RW, 2, .PC, false, .range 1 7, fun _ _ => .num 1⟩,
  ⟨"SUB_HOPS", 0x5100, 16, 1, 6, 6, .u8, 1, 1, .RW, 2, .PC, false, .range 0 32, fun _ _ => .num 0⟩,
  ⟨"SUB_BOUND_REQ", 0x5100, 16, 1, 7, 7, .u32, 4, 4, .RW, 2, .PC, false, .any, fun _ _ => .num 100000⟩,
  ⟨"SUB_BOUND", 0x5100, 16, 1, 8, 8, .u32, 4, 4, .R, 0, .V, false, .any, fun _ _ => .num 0⟩,
  ⟨"SUB_WINDOW", 0x5100, 16, 1, 9, 9, .u16, 2, 2, .RW, 2, .PC, false, .range 1 1024, fun _ _ => .num 32⟩,
  ⟨"SUB_RTO", 0x5100, 16, 1, 10, 10, .u16, 2, 2, .RW, 2, .PC, false, .range 10 60000, fun _ _ => .num 200⟩,
  ⟨"SUB_FROM", 0x5100, 16, 1, 11, 11, .u64, 8, 8, .RW, 2, .PC, false, .own, fun _ _ => .num 0x8000000000000000⟩,
  ⟨"SUB_ACKED", 0x5100, 16, 1, 12, 12, .u64, 8, 8, .R, 0, .P, false, .any, fun _ _ => .num 0x8000000000000000⟩,
  ⟨"SUB_SENT", 0x5100, 16, 1, 13, 13, .u64, 8, 8, .R, 0, .V, false, .any, fun _ _ => .num 0x8000000000000000⟩,
  ⟨"SUB_STATE", 0x5100, 16, 1, 14, 14, .enum, 1, 1, .R, 0, .V, false, .any, fun _ _ => .num 0⟩,
  ⟨"SUB_RETX", 0x5100, 16, 1, 15, 15, .u32, 4, 4, .R, 0, .V, false, .any, fun _ _ => .num 0⟩,
  ⟨"SUB_ACK_INVALID", 0x5100, 16, 1, 16, 16, .u32, 4, 4, .R, 0, .V, false, .any, fun _ _ => .num 0⟩,
  ⟨"PUB_GATE", 0x5200, 16, 1, 1, 1, .u8, 1, 1, .RW, 2, .P, false, .range 0 7, fun _ _ => .num 0⟩,
  ⟨"PUB_FRAMES", 0x5200, 16, 1, 2, 2, .u32, 4, 4, .R, 0, .V, false, .any, fun _ _ => .num 0⟩,
  ⟨"PUB_REPLACED", 0x5200, 16, 1, 3, 3, .u32, 4, 4, .R, 0, .V, false, .any, fun _ _ => .num 0⟩]

/-- The cards of the chapter ledger_store. -/
def cards11 : List Card := [
  ⟨"NVM_STATE", 0x1500, 1, 1, 1, 1, .u16, 2, 2, .R, 0, .V, false, .any, fun _ _ => .num 0x0000⟩,
  ⟨"NVM_FLAGS", 0x1500, 1, 1, 2, 2, .u16, 2, 2, .RC, 1, .V, false, .mask 0x3FF, fun _ _ => .num 0x0000⟩,
  ⟨"GROUP_LAST", 0x1500, 1, 1, 3, 3, .u32, 4, 4, .R, 0, .V, false, .any, fun _ _ => .num 0⟩,
  ⟨"GROUPS_SEALED", 0x1500, 1, 1, 4, 4, .u32, 4, 4, .R, 0, .V, false, .any, fun _ _ => .num 0⟩,
  ⟨"GROUPS_DEFERRED", 0x1500, 1, 1, 5, 5, .u32, 4, 4, .R, 0, .V, false, .any, fun _ _ => .num 0⟩,
  ⟨"BUFFER_FILL", 0x1500, 1, 1, 6, 6, .u16, 2, 2, .R, 0, .V, false, .any, fun _ _ => .num 0⟩,
  ⟨"ENERGY_AVAILABLE", 0x1500, 1, 1, 7, 7, .f32, 4, 4, .R, 0, .V, false, .any, fun _ _ => .num 0x00000000⟩,
  ⟨"ENERGY_NEEDED", 0x1500, 1, 1, 8, 8, .f32, 4, 4, .R, 0, .V, false, .any, fun _ _ => .num 0x00000000⟩,
  ⟨"RECOVERY_RESULT", 0x1500, 1, 1, 9, 9, .u32, 4, 4, .R, 0, .V, false, .any, fun _ _ => .num 0x00000000⟩,
  ⟨"NVM_CYCLE_LIMIT", 0x1500, 1, 1, 10, 10, .u32, 4, 4, .RW, 2, .P, false, .range 10000 200000, fun _ _ => .num 150000⟩,
  ⟨"LEDGER_CYCLE_BUDGET", 0x1500, 1, 1, 11, 11, .u64, 8, 8, .R, 0, .V, false, .any, fun _ _ => .num 0⟩,
  ⟨"LEDGER_WEAR", 0x1500, 1, 1, 12, 12, .u32, 4, 4, .R, 0, .V, false, .any, fun _ _ => .num 0⟩,
  ⟨"LEDGER_LIFE", 0x1500, 1, 1, 13, 13, .u32, 4, 4, .R, 0, .V, false, .any, fun _ _ => .num 0⟩,
  ⟨"LOG_FULL_PCT", 0x1500, 1, 1, 14, 14, .u8, 1, 1, .RW, 2, .P, false, .range 50 95, fun _ _ => .num 75⟩,
  ⟨"LOG_UNRELEASED", 0x1500, 1, 1, 15, 15, .u16, 2, 2, .R, 0, .V, false, .any, fun _ _ => .num 0⟩,
  ⟨"LOG_CARRIED", 0x1500, 1, 1, 16, 16, .u32, 4, 4, .R, 0, .P, false, .any, fun _ _ => .num 0⟩,
  ⟨"RING_PERSIST", 0x1500, 1, 1, 17, 17, .u16, 2, 2, .RW, 2, .P, false, .range 60 3600, fun _ _ => .num 600⟩,
  ⟨"MARGIN_INTERVAL", 0x1500, 1, 1, 18, 18, .u16, 2, 2, .RW, 2, .P, false, .range 1 365, fun _ _ => .num 30⟩,
  ⟨"MARGIN_LAST", 0x1500, 1, 1, 19, 19, .time, 8, 8, .R, 0, .P, false, .any, fun _ _ => .num 0⟩,
  ⟨"PAGES_REFRESHED", 0x1500, 1, 1, 20, 20, .u32, 4, 4, .R, 0, .P, false, .any, fun _ _ => .num 0⟩,
  ⟨"NVM_ERRORS", 0x1500, 1, 1, 21, 21, .u32, 4, 4, .R, 0, .P, false, .any, fun _ _ => .num 0⟩,
  ⟨"NVM_TRANSIENT", 0x1500, 1, 1, 22, 22, .u32, 4, 4, .R, 0, .P, false, .any, fun _ _ => .num 0⟩,
  ⟨"PAIRS_RETIRED", 0x1500, 1, 1, 23, 23, .u16, 2, 2, .R, 0, .P, false, .any, fun _ _ => .num 0⟩,
  ⟨"REGION_PAGES", 0x1510, 4, 1, 1, 1, .u16, 2, 2, .R, 0, .V, false, .any, fun i _ => .num ([256, 512, 5632, 9984].getD i 0)⟩,
  ⟨"REGION_PROGRAMS", 0x1510, 4, 1, 2, 2, .u64, 8, 8, .R, 0, .P, false, .any, fun _ _ => .num 0⟩]

/-- The cards of the chapter dictionary. -/
def cards12 : List Card := [
  ⟨"VENDOR_ID", 0x1000, 1, 1, 1, 1, .u16, 2, 2, .R, 0, .const, false, .any, fun _ _ => .num 0x4D6F⟩,
  ⟨"DEVICE_ID", 0x1000, 1, 1, 2, 2, .u16, 2, 2, .R, 0, .const, false, .any, fun _ _ => .num 0x7840⟩,
  ⟨"SILICON_REV", 0x1000, 1, 1, 3, 3, .u16, 2, 2, .R, 0, .const, false, .any, fun _ _ => .num 0x0B00⟩,
  ⟨"FIRMWARE_REV", 0x1000, 1, 1, 4, 4, .u32, 4, 4, .R, 0, .const, false, .any, fun _ _ => .num Config.firmwareRev.toNat⟩,
  ⟨"SERIAL_NUMBER", 0x1000, 1, 1, 5, 5, .str, 0, 512, .R, 0, .const, false, .any, fun _ _ => .bytes ((List.finRange 12).map Config.serialDigit)⟩,
  ⟨"DICT_REV", 0x1000, 1, 1, 6, 6, .u16, 2, 2, .R, 0, .const, false, .any, fun _ _ => .num 0x0100⟩,
  ⟨"DEVICE_STATE", 0x1001, 1, 1, 1, 1, .enum, 1, 1, .R, 0, .V, false, .any, fun _ _ => .num 0⟩,
  ⟨"STATE_REQUEST", 0x1001, 1, 1, 2, 2, .enum, 1, 1, .W, 1, .V, false, .enum [1, 2, 3, 4, 5], fun _ _ => .num 0⟩,
  ⟨"STATE_PENDING", 0x1001, 1, 1, 3, 3, .enum, 1, 1, .R, 0, .V, false, .any, fun _ _ => .num 0xFF⟩,
  ⟨"START_STATE", 0x1001, 1, 1, 4, 4, .enum, 1, 1, .RW, 2, .P, false, .enum [1, 3], fun _ _ => .num 1⟩,
  ⟨"SAFE_CAUSE", 0x1001, 1, 1, 5, 5, .u8, 1, 1, .R, 0, .V, false, .any, fun _ _ => .num 0⟩,
  ⟨"DEVICE_STATUS", 0x1002, 1, 1, 1, 1, .u16, 2, 2, .R, 0, .V, false, .any, fun _ _ => .num 0x6000⟩,
  ⟨"AREA_FLAGS", 0x1002, 1, 1, 2, 2, .u16, 2, 2, .R, 0, .V, false, .any, fun _ _ => .num 0x0000⟩,
  ⟨"DEVICE_FLAGS", 0x1002, 1, 1, 3, 3, .u8, 1, 1, .RC, 1, .V, false, .mask 0x3, fun _ _ => .num 0x00⟩,
  ⟨"EVENT_COUNT", 0x1003, 1, 1, 1, 1, .u32, 4, 4, .R, 0, .V, false, .any, fun _ _ => .num 0⟩,
  ⟨"EVENT_LAST", 0x1003, 1, 1, 2, 2, .blob, 0, 512, .R, 0, .V, false, .any, fun _ _ => .bytes []⟩,
  ⟨"FAST_MAP", 0x6000, 1, 1, 1, 32, .u32, 4, 4, .RW, 1, .P, false, .own, fun _ _ => .num 0⟩,
  ⟨"FAST_MODE", 0x6000, 1, 1, 33, 33, .enum, 1, 1, .RW, 1, .P, false, .enum [0, 1], fun _ _ => .num 0⟩,
  ⟨"FAST_LEN", 0x6000, 1, 1, 34, 34, .u16, 2, 2, .R, 0, .V, false, .any, fun _ _ => .num 12⟩,
  ⟨"FAST_LEVEL", 0x6000, 1, 1, 35, 35, .u8, 1, 1, .R, 0, .V, false, .any, fun _ _ => .num 0⟩,
  ⟨"FAST_DATA", 0x6001, 1, 1, 1, 1, .blob, 0, 512, .R, 0, .V, false, .any, fun _ _ => .bytes []⟩]

/-- The cards of the chapter ethernet. -/
def cards13 : List Card := [
  ⟨"NET_MAC", 0x1600, 1, 1, 1, 1, .u64, 8, 8, .R, 0, .const, false, .any, fun _ _ => .num Config.netMac.toNat⟩,
  ⟨"PORT_FLAGS", 0x1600, 1, 1, 2, 2, .u16, 2, 2, .RC, 1, .V, false, .mask 0x1FF, fun _ _ => .num 0x0000⟩,
  ⟨"RING_STATE", 0x1600, 1, 1, 3, 3, .enum, 1, 1, .R, 0, .V, false, .any, fun _ _ => .num 3⟩,
  ⟨"PORTS_RETIRED", 0x1600, 1, 1, 4, 4, .u8, 1, 1, .R, 0, .P, false, .any, fun _ _ => .num 0x00⟩,
  ⟨"PORT_UNRETIRE", 0x1600, 1, 1, 5, 5, .u8, 1, 1, .W, 3, .V, false, .mask 0x7, fun _ _ => .num 0⟩,
  ⟨"PHY_ERR_LIMIT", 0x1600, 1, 1, 6, 6, .u16, 2, 2, .RW, 2, .P, false, .range 1 1000, fun _ _ => .num 16⟩,
  ⟨"PORT_ENABLE", 0x1601, 3, 1, 1, 1, .bool, 1, 1, .RW, 2, .P, false, .any, fun _ _ => .num 1⟩,
  ⟨"PORT_MODE", 0x1601, 3, 1, 2, 2, .enum, 1, 1, .RW, 2, .P, true, .own, fun _ _ => .num 0⟩,
  ⟨"LINK_STATE", 0x1601, 3, 1, 3, 3, .enum, 1, 1, .R, 0, .V, false, .any, fun _ _ => .num 0⟩,
  ⟨"LINK_AMPLITUDE", 0x1601, 3, 1, 4, 4, .enum, 1, 1, .R, 0, .V, false, .any, fun _ _ => .num 0⟩,
  ⟨"PHY_SNR", 0x1601, 3, 1, 5, 5, .f32, 4, 4, .R, 0, .V, false, .any, fun _ _ => .num 0x00000000⟩,
  ⟨"RX_FRAMES", 0x1601, 3, 1, 6, 6, .u32, 4, 4, .R, 0, .V, false, .any, fun _ _ => .num 0⟩,
  ⟨"RX_ERRORS", 0x1601, 3, 1, 7, 7, .u32, 4, 4, .R, 0, .V, false, .any, fun _ _ => .num 0⟩,
  ⟨"TX_FRAMES", 0x1601, 3, 1, 8, 8, .u32, 4, 4, .R, 0, .V, false, .any, fun _ _ => .num 0⟩,
  ⟨"PHY_TRANSIENT", 0x1601, 3, 1, 9, 9, .u32, 4, 4, .R, 0, .P, false, .any, fun _ _ => .num 0⟩,
  ⟨"PODL_STATE", 0x1601, 3, 1, 10, 10, .enum, 1, 1, .R, 0, .V, false, .any, fun _ _ => .num 0⟩,
  ⟨"PODL_CLASS", 0x1601, 3, 1, 11, 11, .u8, 1, 1, .R, 0, .V, false, .any, fun _ _ => .num 0xFF⟩,
  ⟨"HSR_SUPERVISION_INTERVAL", 0x1610, 1, 1, 1, 1, .u16, 2, 2, .RW, 2, .P, false, .range 500 10000, fun _ _ => .num 2000⟩,
  ⟨"HSR_DUP_DISCARDED", 0x1610, 1, 1, 2, 2, .u32, 4, 4, .R, 0, .V, false, .any, fun _ _ => .num 0⟩,
  ⟨"HSR_NODES", 0x1610, 1, 1, 3, 3, .u8, 1, 1, .R, 0, .V, false, .any, fun _ _ => .num 0⟩,
  ⟨"OVERSIZE_DROPPED", 0x1610, 1, 1, 4, 4, .u32, 4, 4, .R, 0, .V, false, .any, fun _ _ => .num 0⟩,
  ⟨"ALARM_DEFERRED", 0x1610, 1, 1, 5, 5, .u32, 4, 4, .R, 0, .V, false, .any, fun _ _ => .num 0⟩,
  ⟨"TRANSIT_LATE", 0x1610, 1, 1, 6, 6, .u32, 4, 4, .R, 0, .V, false, .any, fun _ _ => .num 0⟩,
  ⟨"PUB_MAC", 0x1610, 1, 1, 7, 7, .u64, 8, 8, .RW, 2, .P, false, .own, fun _ _ => .num 0x034D6F784000⟩,
  ⟨"PTP_STATE", 0x1618, 1, 1, 1, 1, .enum, 1, 1, .R, 0, .V, false, .any, fun _ _ => .num 0⟩,
  ⟨"GM_IDENTITY", 0x1618, 1, 1, 2, 2, .u64, 8, 8, .R, 0, .V, false, .any, fun _ _ => .num 0⟩,
  ⟨"GM_CLASS", 0x1618, 1, 1, 3, 3, .u8, 1, 1, .R, 0, .V, false, .any, fun _ _ => .num 255⟩,
  ⟨"PDELAY", 0x1618, 1, 1, 4, 6, .i32, 4, 4, .R, 0, .V, false, .any, fun _ _ => .num 0⟩,
  ⟨"PTP_LOG_PDELAY", 0x1618, 1, 1, 7, 7, .i8, 1, 1, .RW, 2, .P, false, .irange (-3) (3), fun _ _ => .num 0⟩,
  ⟨"TC_RESIDENCE_MAX", 0x1618, 1, 1, 8, 8, .u32, 4, 4, .R, 0, .V, false, .any, fun _ _ => .num 0⟩,
  ⟨"IP_MODE", 0x1620, 1, 1, 1, 1, .enum, 1, 1, .RW, 2, .P, false, .enum [0, 1, 2], fun _ _ => .num 2⟩,
  ⟨"IPV6_STATIC", 0x1620, 1, 1, 2, 2, .blob, 0, 17, .RW, 2, .P, false, .own, fun _ _ => .bytes []⟩,
  ⟨"IPV6_ADDRESSES", 0x1620, 1, 1, 3, 3, .blob, 0, 512, .R, 0, .V, false, .any, fun _ _ => .bytes []⟩,
  ⟨"IPV4_ADDRESS", 0x1620, 1, 1, 4, 4, .u32, 4, 4, .RW, 2, .P, false, .any, fun _ _ => .num 0⟩,
  ⟨"IPV4_PREFIX", 0x1620, 1, 1, 5, 5, .u8, 1, 1, .RW, 2, .P, false, .range 8 30, fun _ _ => .num 24⟩,
  ⟨"IPV4_GATEWAY", 0x1620, 1, 1, 6, 6, .u32, 4, 4, .RW, 2, .P, false, .any, fun _ _ => .num 0⟩,
  ⟨"SESSIONS_OPEN", 0x1628, 1, 1, 1, 1, .u8, 1, 1, .R, 0, .V, false, .any, fun _ _ => .num 0⟩,
  ⟨"SESSION_IDLE", 0x1628, 1, 1, 2, 2, .u16, 2, 2, .RW, 2, .P, false, .range 10 3600, fun _ _ => .num 300⟩,
  ⟨"SUB_LEVEL_MIN", 0x1628, 1, 1, 3, 3, .enum, 1, 1, .RW, 2, .P, false, .enum [1, 2, 3], fun _ _ => .num 1⟩,
  ⟨"AUTH_FAILURES", 0x1628, 1, 1, 4, 4, .u32, 4, 4, .R, 0, .V, false, .any, fun _ _ => .num 0⟩,
  ⟨"REPLAY_REJECTED", 0x1628, 1, 1, 5, 5, .u32, 4, 4, .R, 0, .V, false, .any, fun _ _ => .num 0⟩,
  ⟨"FRAG_DROPPED", 0x1628, 1, 1, 6, 6, .u32, 4, 4, .R, 0, .V, false, .any, fun _ _ => .num 0⟩]

/-- The cards of the chapter loop_link_and_host. -/
def cards14 : List Card := [
  ⟨"HART_POLL_ADDR", 0x1640, 1, 1, 1, 1, .u8, 1, 1, .RW, 2, .P, false, .range 0 63, fun _ _ => .num 0⟩,
  ⟨"HART_LOOP_MODE", 0x1640, 1, 1, 2, 2, .enum, 1, 1, .RW, 2, .P, false, .enum [0, 1], fun _ _ => .num 1⟩,
  ⟨"HART_DEVICE_ID", 0x1640, 1, 1, 3, 3, .u32, 4, 4, .R, 0, .const, false, .any, fun _ _ => .num Config.hartDeviceId.toNat⟩,
  ⟨"HART_EXP_TYPE", 0x1640, 1, 1, 4, 4, .u16, 2, 2, .R, 0, .const, false, .any, fun _ _ => .num 0xE784⟩,
  ⟨"HART_MFR_ID", 0x1640, 1, 1, 5, 5, .u16, 2, 2, .R, 0, .const, false, .any, fun _ _ => .num 0x604D⟩,
  ⟨"HART_TAG", 0x1640, 1, 1, 6, 6, .str, 0, 8, .RW, 1, .P, false, .own, fun _ _ => .bytes []⟩,
  ⟨"HART_LONG_TAG", 0x1640, 1, 1, 7, 7, .str, 0, 32, .RW, 1, .P, false, .own, fun _ _ => .bytes []⟩,
  ⟨"HART_DESCRIPTOR", 0x1640, 1, 1, 8, 8, .str, 0, 16, .RW, 1, .P, false, .own, fun _ _ => .bytes []⟩,
  ⟨"HART_MESSAGE", 0x1640, 1, 1, 9, 9, .str, 0, 32, .RW, 1, .P, false, .own, fun _ _ => .bytes []⟩,
  ⟨"HART_DATE", 0x1640, 1, 1, 10, 10, .u32, 4, 4, .RW, 1, .P, false, .own, fun _ _ => .num 0x00010164⟩,
  ⟨"HART_FINAL_ASSY", 0x1640, 1, 1, 11, 11, .u32, 4, 4, .RW, 1, .P, false, .mask 0xFFFFFF, fun _ _ => .num 0⟩,
  ⟨"HART_DV_MAP", 0x1640, 1, 1, 12, 12, .u32, 4, 4, .RW, 2, .P, false, .own, fun _ _ => .num 0x00FFFFFF⟩,
  ⟨"HART_LEVEL", 0x1640, 1, 1, 13, 13, .enum, 1, 1, .RW, 2, .P, false, .enum [0, 1, 2], fun _ _ => .num 2⟩,
  ⟨"HART_PREAMBLES", 0x1640, 1, 1, 14, 14, .u8, 1, 1, .RW, 2, .P, false, .range 5 20, fun _ _ => .num 5⟩,
  ⟨"HART_REPEAT_TIME", 0x1640, 1, 1, 15, 15, .u16, 2, 2, .RW, 2, .P, false, .range 500 10000, fun _ _ => .num 2000⟩,
  ⟨"HART_REPEATS", 0x1640, 1, 1, 16, 16, .u32, 4, 4, .R, 0, .V, false, .any, fun _ _ => .num 0⟩,
  ⟨"CONFIG_CHANGED_COUNT", 0x1640, 1, 1, 17, 17, .u16, 2, 2, .R, 0, .P, false, .any, fun _ _ => .num 0⟩,
  ⟨"BURST_MODE", 0x1640, 1, 1, 18, 18, .enum, 1, 1, .RW, 2, .P, false, .enum [0, 1], fun _ _ => .num 0⟩,
  ⟨"BURST_CMD", 0x1640, 1, 1, 19, 19, .u8, 1, 1, .RW, 2, .P, false, .enum [1, 2, 3, 9, 48], fun _ _ => .num 1⟩,
  ⟨"BURST_PERIOD", 0x1640, 1, 1, 20, 20, .u16, 2, 2, .RW, 2, .P, false, .range 5 36000, fun _ _ => .num 20⟩,
  ⟨"HART_ERRORS", 0x1640, 1, 1, 21, 21, .u32, 4, 4, .R, 0, .V, false, .any, fun _ _ => .num 0⟩,
  ⟨"MARKER_ENABLE", 0x1640, 1, 1, 22, 22, .bool, 1, 1, .RW, 2, .P, false, .any, fun _ _ => .num 0⟩,
  ⟨"MARKER_ACCEPTED", 0x1640, 1, 1, 23, 23, .u32, 4, 4, .R, 0, .V, false, .any, fun _ _ => .num 0⟩,
  ⟨"MARKER_LAST_OFFSET", 0x1640, 1, 1, 24, 24, .i32, 4, 4, .R, 0, .V, false, .any, fun _ _ => .num 0⟩,
  ⟨"HOST_LEVEL", 0x1650, 1, 1, 1, 1, .enum, 1, 1, .RW, 2, .P, false, .enum [0, 1, 2], fun _ _ => .num 2⟩,
  ⟨"WAKE_LEVEL", 0x1650, 1, 1, 2, 2, .enum, 1, 1, .RW, 2, .P, false, .enum [0, 1, 2], fun _ _ => .num 1⟩,
  ⟨"HOST_ATTN_MASK", 0x1650, 1, 1, 3, 3, .u8, 1, 1, .RW, 1, .P, false, .mask 0x1F, fun _ _ => .num 0x07⟩,
  ⟨"HOST_ATTN_CAUSE", 0x1650, 1, 1, 4, 4, .u8, 1, 1, .R, 0, .V, false, .any, fun _ _ => .num 0x00⟩,
  ⟨"HOST_FLAGS", 0x1650, 1, 1, 5, 5, .u8, 1, 1, .RC, 1, .V, false, .mask 0x3F, fun _ _ => .num 0x00⟩,
  ⟨"SPI_CRC_ERRORS", 0x1650, 1, 1, 6, 6, .u32, 4, 4, .R, 0, .V, false, .any, fun _ _ => .num 0⟩,
  ⟨"WAKE_CRC_ERRORS", 0x1650, 1, 1, 7, 7, .u32, 4, 4, .R, 0, .V, false, .any, fun _ _ => .num 0⟩,
  ⟨"WAKE_ADDR", 0x1650, 1, 1, 8, 8, .u8, 1, 1, .R, 0, .V, false, .any, fun _ _ => .num 0⟩,
  ⟨"WAKE_NACKS", 0x1650, 1, 1, 9, 9, .u32, 4, 4, .R, 0, .V, false, .any, fun _ _ => .num 0⟩,
  ⟨"SPI_ENABLE", 0x1650, 1, 1, 10, 10, .bool, 1, 1, .RW, 2, .P, true, .any, fun _ _ => .num 1⟩]

/-- The cards of the chapter power. -/
def cards15 : List Card := [
  ⟨"PWR_STATE", 0x1200, 1, 1, 1, 1, .u16, 2, 2, .R, 0, .V, false, .any, fun _ _ => .num 0⟩,
  ⟨"PWR_FLAGS", 0x1200, 1, 1, 2, 2, .u16, 2, 2, .RC, 1, .V, false, .mask 0x3FF, fun _ _ => .num 0x0000⟩,
  ⟨"PROFILE_TARGET", 0x1200, 1, 1, 3, 3, .enum, 1, 1, .RW, 2, .P, false, .enum [0, 1, 2], fun _ _ => .num 0⟩,
  ⟨"PROFILE_ACTIVE", 0x1200, 1, 1, 4, 4, .enum, 1, 1, .R, 0, .V, false, .any, fun _ _ => .num 0⟩,
  ⟨"PROFILE_CEILING", 0x1200, 1, 1, 5, 5, .enum, 1, 1, .R, 0, .V, false, .any, fun _ _ => .num 0⟩,
  ⟨"SLEEP_REQUEST", 0x1200, 1, 1, 6, 6, .enum, 1, 1, .W, 1, .V, false, .enum [1, 2, 3], fun _ _ => .num 0⟩,
  ⟨"PWR_RESULT", 0x1200, 1, 1, 7, 7, .u32, 4, 4, .R, 0, .V, false, .any, fun _ _ => .num 0x00000000⟩,
  ⟨"PWR_CONFLICT", 0x1200, 1, 1, 8, 8, .u32, 4, 4, .R, 0, .V, false, .any, fun _ _ => .num 0x00000000⟩,
  ⟨"SRC_ORDER", 0x1200, 1, 1, 9, 9, .enum, 1, 1, .RW, 2, .P, false, .enum [0, 1], fun _ _ => .num 0⟩,
  ⟨"WAKE_MASK", 0x1200, 1, 1, 10, 10, .u8, 1, 1, .RW, 2, .P, false, .mask 0x7F, fun _ _ => .num 0x7F⟩,
  ⟨"WAKE_CAUSE", 0x1200, 1, 1, 11, 11, .u8, 1, 1, .R, 0, .V, false, .any, fun _ _ => .num 0x00⟩,
  ⟨"BOATHOUSE_MASK", 0x1200, 1, 1, 12, 12, .u16, 2, 2, .RW, 2, .P, false, .own, fun _ _ => .num 0x000C⟩,
  ⟨"BOATHOUSE_ALLOCATED", 0x1200, 1, 1, 13, 13, .u16, 2, 2, .R, 0, .V, false, .any, fun _ _ => .num 0⟩,
  ⟨"VLOC_WAKE_LEVEL", 0x1200, 1, 1, 14, 14, .f32, 4, 4, .RW, 2, .P, false, .frange 0x40C00000 0x41F00000, fun _ _ => .num 0x41500000⟩,
  ⟨"STORE_CHARGE_MAX", 0x1200, 1, 1, 15, 15, .u16, 2, 2, .RW, 2, .P, false, .range 10 100, fun _ _ => .num 50⟩,
  ⟨"STORE_VOLTAGE", 0x1200, 1, 1, 16, 16, .f32, 4, 4, .R, 0, .V, false, .any, fun _ _ => .num 0x00000000⟩,
  ⟨"SLEEP_ENTRIES", 0x1200, 1, 1, 17, 17, .u32, 4, 4, .R, 0, .V, false, .any, fun _ _ => .num 0⟩,
  ⟨"SLEEP_REFUSED", 0x1200, 1, 1, 18, 18, .u32, 4, 4, .R, 0, .V, false, .any, fun _ _ => .num 0⟩,
  ⟨"TRANSITIONS_SUPERSEDED", 0x1200, 1, 1, 19, 19, .u32, 4, 4, .R, 0, .V, false, .any, fun _ _ => .num 0⟩,
  ⟨"REG_RETRIES", 0x1200, 1, 1, 20, 20, .u32, 4, 4, .R, 0, .P, false, .any, fun _ _ => .num 0⟩,
  ⟨"WAKE_FAILS", 0x1200, 1, 1, 21, 21, .u32, 4, 4, .R, 0, .P, false, .any, fun _ _ => .num 0⟩,
  ⟨"HOLDUPS", 0x1200, 1, 1, 22, 22, .u32, 4, 4, .R, 0, .P, false, .any, fun _ _ => .num 0⟩,
  ⟨"SRC_PRESENT", 0x1210, 4, 1, 1, 1, .bool, 1, 1, .R, 0, .V, false, .any, fun _ _ => .num 0⟩,
  ⟨"SRC_VOLTAGE", 0x1210, 4, 1, 2, 2, .f32, 4, 4, .R, 0, .V, false, .any, fun _ _ => .num 0x00000000⟩,
  ⟨"SRC_POWER", 0x1210, 4, 1, 3, 3, .f32, 4, 4, .R, 0, .V, false, .any, fun _ _ => .num 0x00000000⟩,
  ⟨"ENERGY_TODAY", 0x1210, 4, 1, 4, 4, .f32, 4, 4, .R, 0, .P, false, .any, fun _ _ => .num 0x00000000⟩,
  ⟨"ENERGY_YESTERDAY", 0x1210, 4, 1, 5, 5, .f32, 4, 4, .R, 0, .P, false, .any, fun _ _ => .num 0x00000000⟩,
  ⟨"ENERGY_TOTAL", 0x1210, 4, 1, 6, 6, .f64, 8, 8, .R, 0, .P, false, .any, fun _ _ => .num 0x0000000000000000⟩,
  ⟨"BATT_CURVE", 0x1220, 1, 1, 1, 1, .blob, 0, 64, .RW, 2, .P, false, .own, fun _ _ => .bytes []⟩,
  ⟨"BATT_ENERGY", 0x1220, 1, 1, 2, 2, .f32, 4, 4, .R, 0, .V, false, .any, fun _ _ => .num 0x00000000⟩,
  ⟨"POWER_MEAN_24H", 0x1220, 1, 1, 3, 3, .f32, 4, 4, .R, 0, .V, false, .any, fun _ _ => .num 0x00000000⟩,
  ⟨"AUTONOMY", 0x1220, 1, 1, 4, 4, .f32, 4, 4, .R, 0, .V, false, .any, fun _ _ => .num 0x7FC00000⟩,
  ⟨"AUTONOMY_WARN", 0x1220, 1, 1, 5, 5, .f32, 4, 4, .RW, 2, .P, false, .own, fun _ _ => .num 0x43280000⟩,
  ⟨"ENERGY_TZ_OFFSET", 0x1220, 1, 1, 6, 6, .i32, 4, 4, .RW, 2, .P, false, .irange (-86400) (86400), fun _ _ => .num 0⟩]

/-- The cards of the chapter thermal_health. -/
def cards16 : List Card := [
  ⟨"THERM_STATE", 0x1300, 1, 1, 1, 1, .u16, 2, 2, .R, 0, .V, false, .any, fun _ _ => .num 0x0000⟩,
  ⟨"THERM_FLAGS", 0x1300, 1, 1, 2, 2, .u16, 2, 2, .RC, 1, .V, false, .mask 0x3FF, fun _ _ => .num 0x0000⟩,
  ⟨"T_HOT", 0x1300, 1, 1, 3, 3, .f32, 4, 4, .R, 0, .V, false, .any, fun _ _ => .num 0⟩,
  ⟨"T_WATCH", 0x1300, 1, 1, 4, 4, .f32, 4, 4, .R, 0, .const, false, .any, fun _ _ => .num 0x42BE0000⟩,
  ⟨"T_THROTTLE", 0x1300, 1, 1, 5, 5, .f32, 4, 4, .R, 0, .const, false, .any, fun _ _ => .num 0x42DC0000⟩,
  ⟨"T_SHUTDOWN", 0x1300, 1, 1, 6, 6, .f32, 4, 4, .R, 0, .const, false, .any, fun _ _ => .num 0x43020000⟩,
  ⟨"T_HYST", 0x1300, 1, 1, 7, 7, .f32, 4, 4, .R, 0, .const, false, .any, fun _ _ => .num 0x41200000⟩,
  ⟨"SENSORS_RETIRED", 0x1300, 1, 1, 8, 8, .u8, 1, 1, .R, 0, .P, false, .any, fun _ _ => .num 0x00⟩,
  ⟨"SENSOR_UNRETIRE", 0x1300, 1, 1, 9, 9, .u8, 1, 1, .W, 3, .V, false, .any, fun _ _ => .num 0⟩,
  ⟨"THERM_P_MS", 0x1300, 1, 1, 10, 10, .f32, 4, 4, .R, 0, .V, false, .any, fun _ _ => .num 0x00000000⟩,
  ⟨"THERM_P_HV", 0x1300, 1, 1, 11, 11, .f32, 4, 4, .R, 0, .V, false, .any, fun _ _ => .num 0x00000000⟩,
  ⟨"SHUTDOWNS", 0x1300, 1, 1, 12, 12, .u32, 4, 4, .R, 0, .P, false, .any, fun _ _ => .num 0⟩,
  ⟨"THROTTLE_TIME", 0x1300, 1, 1, 13, 13, .u32, 4, 4, .R, 0, .P, false, .any, fun _ _ => .num 0⟩,
  ⟨"TS_RAW", 0x1310, 8, 1, 1, 1, .f32, 4, 4, .R, 0, .V, false, .any, fun _ _ => .num 0⟩,
  ⟨"TS_EFFECTIVE", 0x1310, 8, 1, 2, 2, .f32, 4, 4, .R, 0, .V, false, .any, fun _ _ => .num 0⟩,
  ⟨"TS_MODEL", 0x1310, 8, 1, 3, 3, .f32, 4, 4, .R, 0, .V, false, .any, fun _ _ => .num 0⟩,
  ⟨"TS_STATUS", 0x1310, 8, 1, 4, 4, .enum, 1, 1, .R, 0, .V, false, .any, fun _ _ => .num 0⟩,
  ⟨"TS_RTH", 0x1310, 8, 1, 5, 5, .f32, 4, 4, .R, 0, .const, false, .any, fun i _ => .num (Config.tsRth i).toNat⟩,
  ⟨"TS_MAX", 0x1310, 8, 1, 6, 6, .f32, 4, 4, .R, 0, .P, false, .any, fun _ _ => .num 0xC25C0000⟩,
  ⟨"TS_TESTS", 0x1310, 8, 1, 7, 7, .u32, 4, 4, .R, 0, .P, false, .any, fun _ _ => .num 0⟩,
  ⟨"TS_TRANSIENT", 0x1310, 8, 1, 8, 8, .u32, 4, 4, .R, 0, .P, false, .any, fun _ _ => .num 0⟩,
  ⟨"STORE_C_DECLARED", 0x1320, 1, 1, 1, 1, .f32, 4, 4, .RW, 2, .P, false, .frange 0x423C0000 0x43EB0000, fun _ _ => .num 0x423C0000⟩,
  ⟨"STORE_TEST_INTERVAL", 0x1320, 1, 1, 2, 2, .u16, 2, 2, .RW, 2, .P, false, .range 1 90, fun _ _ => .num 7⟩,
  ⟨"STORE_TEST_CURRENT", 0x1320, 1, 1, 3, 3, .u8, 1, 1, .RW, 2, .P, false, .range 5 50, fun _ _ => .num 20⟩,
  ⟨"STORE_C", 0x1320, 1, 1, 4, 4, .f32, 4, 4, .R, 0, .P, false, .any, fun _ _ => .num 0x00000000⟩,
  ⟨"STORE_C_LOW", 0x1320, 1, 1, 5, 5, .f32, 4, 4, .R, 0, .P, false, .any, fun _ _ => .num 0x420D0000⟩,
  ⟨"STORE_ESR", 0x1320, 1, 1, 6, 6, .f32, 4, 4, .R, 0, .P, false, .any, fun _ _ => .num 0x00000000⟩,
  ⟨"STORE_TEST_LAST", 0x1320, 1, 1, 7, 7, .time, 8, 8, .R, 0, .P, false, .any, fun _ _ => .num 0⟩,
  ⟨"STORE_TEST_REQUEST", 0x1320, 1, 1, 8, 8, .bool, 1, 1, .W, 2, .V, false, .any, fun _ _ => .num 0⟩,
  ⟨"STAGE_DAMAGE_LOOP", 0x1321, 1, 1, 1, 1, .f64, 8, 8, .R, 0, .P, false, .any, fun _ _ => .num 0x0000000000000000⟩,
  ⟨"STAGE_DAMAGE_ACT", 0x1321, 1, 1, 2, 2, .f64, 8, 8, .R, 0, .P, false, .any, fun _ _ => .num 0x0000000000000000⟩,
  ⟨"STAGE_CYCLES_LOOP", 0x1321, 1, 1, 3, 3, .u32, 4, 4, .R, 0, .P, false, .any, fun _ _ => .num 0⟩,
  ⟨"STAGE_CYCLES_ACT", 0x1321, 1, 1, 4, 4, .u32, 4, 4, .R, 0, .P, false, .any, fun _ _ => .num 0⟩,
  ⟨"AGE_SAMPLE_DAYS", 0x1330, 1, 1, 1, 1, .u8, 1, 1, .RW, 2, .P, false, .range 1 30, fun _ _ => .num 7⟩,
  ⟨"AGE_VALUE", 0x1340, 14, 1, 1, 1, .f32, 4, 4, .R, 0, .V, false, .any, fun _ _ => .num 0x00000000⟩,
  ⟨"AGE_LIMIT", 0x1340, 14, 1, 2, 2, .f32, 4, 4, .RW, 2, .P, false, .own, fun i _ => .num ([0x48127C00, 0x48127C00, 0x48127C00, 0x48127C00, 0, 0x40000000, 0x3F800000, 0x3F800000, 0x43480000, 0x447A0000, 0x41A00000, 0x41A00000, 0x41880000, 0x447A0000].getD i 0)⟩,
  ⟨"AGE_EOL", 0x1340, 14, 1, 3, 3, .u32, 4, 4, .R, 0, .V, false, .any, fun _ _ => .num 0xFFFFFFFF⟩,
  ⟨"AGE_EOL_LOW90", 0x1340, 14, 1, 4, 4, .u32, 4, 4, .R, 0, .V, false, .any, fun _ _ => .num 0xFFFFFFFF⟩,
  ⟨"AGE_THRESHOLD", 0x1340, 14, 1, 5, 5, .u16, 2, 2, .RW, 2, .P, false, .range 1 3650, fun _ _ => .num 365⟩,
  ⟨"AGE_STATE", 0x1340, 14, 1, 6, 6, .enum, 1, 1, .R, 0, .V, false, .any, fun _ _ => .num 0⟩,
  ⟨"AGE_HISTORY", 0x1340, 14, 1, 7, 7, .blob, 0, 512, .R, 0, .P, false, .any, fun _ _ => .bytes []⟩]

/-- The cards of the chapter security. -/
def cards17 : List Card := [
  ⟨"IMAGE_STATUS", 0x1400, 1, 1, 1, 1, .u16, 2, 2, .R, 0, .V, false, .any, fun _ _ => .num 0x0000⟩,
  ⟨"SEC_FLAGS", 0x1400, 1, 1, 2, 2, .u16, 2, 2, .RC, 1, .V, false, .mask 0x3FF, fun _ _ => .num 0x0000⟩,
  ⟨"IMAGE_REV_0", 0x1400, 1, 1, 3, 3, .u32, 4, 4, .R, 0, .V, false, .any, fun _ _ => .num 0⟩,
  ⟨"IMAGE_REV_1", 0x1400, 1, 1, 4, 4, .u32, 4, 4, .R, 0, .V, false, .any, fun _ _ => .num 0⟩,
  ⟨"ROLLBACK_COUNT", 0x1400, 1, 1, 5, 5, .u8, 1, 1, .R, 0, .const, false, .any, fun _ _ => .num 0⟩,
  ⟨"LOAD_TARGET", 0x1400, 1, 1, 6, 6, .enum, 1, 1, .W, 2, .V, false, .enum [0, 1, 2], fun _ _ => .num 0⟩,
  ⟨"LOAD_OFFSET", 0x1400, 1, 1, 7, 7, .u32, 4, 4, .RW, 2, .V, false, .any, fun _ _ => .num 0⟩,
  ⟨"LOAD_DATA", 0x1400, 1, 1, 8, 8, .blob, 1, 512, .W, 2, .V, false, .any, fun _ _ => .bytes []⟩,
  ⟨"LOAD_VERIFY", 0x1400, 1, 1, 9, 9, .bool, 1, 1, .W, 2, .V, false, .any, fun _ _ => .num 0⟩,
  ⟨"IMAGE_ACTIVATE", 0x1400, 1, 1, 10, 10, .bool, 1, 1, .W, 2, .P, false, .any, fun _ _ => .num 0⟩,
  ⟨"IMAGE_CONFIRM", 0x1400, 1, 1, 11, 11, .bool, 1, 1, .W, 2, .P, false, .any, fun _ _ => .num 0⟩,
  ⟨"PERSONALITY_REV", 0x1400, 1, 1, 12, 12, .u32, 4, 4, .R, 0, .V, false, .any, fun _ _ => .num 0⟩,
  ⟨"PERSONALITY_MIN", 0x1400, 1, 1, 13, 13, .u32, 4, 4, .R, 0, .P, false, .any, fun _ _ => .num 0⟩,
  ⟨"VENDOR_KEY_HASH", 0x1400, 1, 1, 14, 14, .blob, 0, 512, .R, 0, .const, false, .any, fun _ _ => .bytes Config.vendorKeyHash⟩,
  ⟨"OEM_KEY_HASH", 0x1400, 1, 1, 15, 15, .blob, 32, 32, .RW, 2, .P, false, .any, fun _ _ => .bytes []⟩,
  ⟨"LEVEL_KEY", 0x1410, 1, 1, 1, 3, .blob, 32, 32, .W, 1, .P, false, .any, fun _ _ => .bytes []⟩,
  ⟨"RING_KEY_NEXT", 0x1410, 1, 1, 4, 4, .blob, 32, 32, .W, 2, .P, false, .any, fun _ _ => .bytes []⟩,
  ⟨"RING_SWITCH_AT", 0x1410, 1, 1, 5, 5, .time, 8, 8, .RW, 2, .P, false, .any, fun _ _ => .num 0⟩,
  ⟨"RING_EPOCH", 0x1410, 1, 1, 6, 6, .u16, 2, 2, .R, 0, .P, false, .any, fun _ _ => .num 0⟩,
  ⟨"KEYS_SET", 0x1410, 1, 1, 7, 7, .u8, 1, 1, .R, 0, .V, false, .any, fun _ _ => .num 0x00⟩,
  ⟨"IDENTITY_PUBKEY", 0x1420, 1, 1, 1, 1, .blob, 0, 512, .R, 0, .const, false, .any, fun _ _ => .bytes Config.identityPubkey⟩,
  ⟨"IDENTITY_CERT", 0x1420, 1, 1, 2, 2, .blob, 0, 512, .R, 0, .const, false, .any, fun _ _ => .bytes Config.identityCert⟩,
  ⟨"IDENTITY_STATE", 0x1420, 1, 1, 3, 3, .enum, 1, 1, .R, 0, .V, false, .any, fun _ _ => .num 1⟩,
  ⟨"INDEX_NEXT", 0x1420, 1, 1, 4, 4, .u32, 4, 4, .R, 0, .V, false, .any, fun _ _ => .num 0⟩,
  ⟨"INDEX_RESERVED", 0x1420, 1, 1, 5, 5, .u32, 4, 4, .R, 0, .P, false, .any, fun _ _ => .num 0⟩,
  ⟨"INDEX_LOST", 0x1420, 1, 1, 6, 6, .u32, 4, 4, .R, 0, .P, false, .any, fun _ _ => .num 0⟩,
  ⟨"INDEX_REMAINING", 0x1420, 1, 1, 7, 7, .u32, 4, 4, .R, 0, .V, false, .any, fun _ _ => .num 0⟩,
  ⟨"INDEX_LIFE", 0x1420, 1, 1, 8, 8, .u32, 4, 4, .R, 0, .V, false, .any, fun _ _ => .num 0⟩,
  ⟨"SIG_SELECT", 0x1420, 1, 1, 9, 9, .u64, 8, 8, .RW, 1, .V, false, .own, fun _ _ => .num 0⟩,
  ⟨"SIG_OFFSET", 0x1420, 1, 1, 10, 10, .u32, 4, 4, .RW, 1, .V, false, .any, fun _ _ => .num 0⟩,
  ⟨"SIG_DATA", 0x1420, 1, 1, 11, 11, .blob, 0, 512, .R, 1, .V, false, .any, fun _ _ => .bytes []⟩,
  ⟨"ATTEST_WINDOW", 0x1430, 8, 1, 1, 1, .u16, 2, 2, .RW, 2, .P, false, .own, fun _ _ => .num 60⟩,
  ⟨"ATTEST_WINDOW_LEAN", 0x1430, 8, 1, 2, 2, .u16, 2, 2, .RW, 2, .P, false, .range 10 3600, fun _ _ => .num 3600⟩,
  ⟨"ATTEST_LAST", 0x1430, 8, 1, 3, 3, .u64, 8, 8, .R, 0, .V, false, .any, fun _ _ => .num 0x8000000000000000⟩,
  ⟨"DEBUG_STATE", 0x1440, 1, 1, 1, 1, .enum, 1, 1, .R, 0, .V, false, .any, fun _ _ => .num 0⟩,
  ⟨"DEBUG_CHALLENGE", 0x1440, 1, 1, 2, 2, .blob, 0, 512, .R, 2, .V, false, .any, fun _ _ => .bytes []⟩,
  ⟨"DEBUG_EXPIRY", 0x1440, 1, 1, 3, 3, .time, 8, 8, .R, 0, .V, false, .any, fun _ _ => .num 0⟩,
  ⟨"DEBUG_LOCK", 0x1440, 1, 1, 4, 4, .bool, 1, 1, .W, 2, .V, false, .any, fun _ _ => .num 0⟩]

/-- The cards of the chapter startup_and_insertion. -/
def cards18 : List Card := [
  ⟨"RESET_CAUSE", 0x1280, 1, 1, 1, 1, .enum, 1, 1, .R, 0, .V, false, .any, fun _ _ => .num 0⟩,
  ⟨"RESET_DETAIL", 0x1280, 1, 1, 2, 2, .u16, 2, 2, .R, 0, .V, false, .any, fun _ _ => .num 0⟩,
  ⟨"RESET_COUNT", 0x1280, 1, 1, 3, 3, .u32, 4, 4, .R, 0, .P, false, .any, fun _ _ => .num 0⟩,
  ⟨"RESET_HISTORY", 0x1280, 1, 1, 4, 4, .blob, 0, 512, .R, 0, .P, false, .any, fun _ _ => .bytes []⟩,
  ⟨"RESET_REQUEST", 0x1280, 1, 1, 5, 5, .bool, 1, 1, .W, 2, .V, false, .any, fun _ _ => .num 0⟩,
  ⟨"START_CAL", 0x1280, 1, 1, 6, 6, .enum, 1, 1, .RW, 2, .P, false, .enum [0, 1], fun _ _ => .num 1⟩,
  ⟨"START_TIME", 0x1280, 1, 1, 7, 7, .u32, 4, 4, .R, 0, .V, false, .any, fun _ _ => .num 0⟩,
  ⟨"APP_RESETS", 0x1280, 1, 1, 8, 8, .u32, 4, 4, .R, 0, .P, false, .any, fun _ _ => .num 0⟩,
  ⟨"APP_RESET_CAUSE", 0x1280, 1, 1, 9, 9, .enum, 1, 1, .R, 0, .V, false, .any, fun _ _ => .num 0⟩,
  ⟨"RESET_LOOP_LIMIT", 0x1280, 1, 1, 10, 10, .u8, 1, 1, .RW, 2, .P, false, .range 2 16, fun _ _ => .num 4⟩,
  ⟨"RESET_LOOP_COUNT", 0x1280, 1, 1, 11, 11, .u8, 1, 1, .R, 0, .V, false, .any, fun _ _ => .num 0⟩]

/-- All the cards, chapter by chapter. -/
def cards : List Card :=
  cards02 ++
  cards03 ++
  cards04 ++
  cards05 ++
  cards06 ++
  cards07 ++
  cards08 ++
  cards09 ++
  cards10 ++
  cards11 ++
  cards12 ++
  cards13 ++
  cards14 ++
  cards15 ++
  cards16 ++
  cards17 ++
  cards18

/-- Whether a card covers an index and a subindex. -/
def Card.covers (c : Card) (index sub : Nat) : Bool :=
  decide (c.index ≤ index) && decide ((index - c.index) % c.stride = 0) &&
    decide ((index - c.index) / c.stride < c.count) && decide (c.sub ≤ sub) && decide (sub ≤ c.subLast)

/-- Whether a card has objects at an index. -/
def Card.atIndex (c : Card) (index : Nat) : Bool :=
  decide (c.index ≤ index) && decide ((index - c.index) % c.stride = 0) &&
    decide ((index - c.index) / c.stride < c.count)

/-- The number of an index within its card's family. -/
def Card.indexNo (c : Card) (index : Nat) : Nat := (index - c.index) / c.stride

/-- The register a card gives at an index and subindex. -/
def Card.reg (c : Card) (index sub : Nat) : Reg :=
  ⟨index * 256 + sub, c.ty.size, c.dflt (c.indexNo index) (sub - c.sub)⟩

/-- The card of an address. -/
def cardAt (index sub : Nat) : Option Card := cards.find? fun c => c.covers index sub

/-- The card of a key (index times 256 plus subindex). -/
def cardOfKey (key : Nat) : Option Card := cardAt (key / 256) (key % 256)

/-- The highest subindex in use at an index, 0 where the index holds no object of the cards (R317). -/
def highestSub (index : Nat) : Nat :=
  (cards.filter fun c => c.atIndex index).foldl (fun m c => max m c.subLast) 0

end Sys2Proof.Machine
end

