-- ==== Sys2Proof/Machine/State.lean ====
section
/-! DEFINITION. The state of the block, as plain data: the register file and, chapter by chapter, everything the rules
give the machine beside its dictionary objects; the queue of waiting commands; the state after reset. -/

namespace Sys2Proof.Machine

/-- A register file: address and value, addresses strictly rising, no entry equal to its register's default. -/
abbrev Store := List (Nat × Value)

/-- A write of an object: its key and its value. -/
structure Write where
  key : Nat
  value : Value
deriving DecidableEq, Repr

/-- The sync states of R42. -/
inductive SyncState where
  | unset | acquiring | locked | holdover | free | rc
deriving DecidableEq, Repr

/-- What the device keeps of one course source (R34, R38, R39): qualified since an instant of elapsed time, the instant
of its last valid sample, and the offset in ns that course time has from it, as last measured and carried over steps. -/
structure SourceState where
  qualified : Bool
  since : Nat
  last : Option Nat
  offset : Option Int
deriving DecidableEq, Repr

/-- An unbroken run of samples that meet the qualification of R34: its first and its last instant, and the last offset
in ns. -/
structure Series where
  since : Nat
  last : Nat
  offset : Int
deriving DecidableEq, Repr

/-- The constant offset that the filtered offset settles to (R518): since when, the filtered offset then, the offset. -/
structure Settling where
  since : Nat
  start : Int
  offset : Int
deriving DecidableEq, Repr

/-- A step waiting for the next stroke boundary (R39–R41): by the offset of a source, in ticks, or to a COURSE_SET
value, in ticks. -/
inductive PendingStep where
  | byOffset (ticks : Int)
  | toTime (ticks : Nat)
deriving DecidableEq, Repr

/-- A run of regular strokes (R27, R111): the elapsed instant and the course time in ticks at which it began, and the
stroke period in ticks (0 where each stroke has a segment of its own). -/
structure Segment where
  start : Nat
  ticks : Nat
  period : Nat
deriving DecidableEq, Repr

/-- Course time, strokes and the Cox (chapter 02). Instants are in ticks of elapsed time. -/
structure Course where
  /-- clock position: ticks since the last whole-device reset (R186) -/
  now : Nat
  /-- elapsed time in ticks, never restarted (R273, R474) -/
  elapsed : Nat
  /-- course time, held in ticks (R26) -/
  ticks : Nat
  /-- strokes run -/
  running : Bool
  /-- strokes do not run yet: they begin at the next boundary, `strokeLen` after `strokeStart` (R27, R47) -/
  awaiting : Bool
  /-- elapsed instant at which the present stroke began -/
  strokeStart : Nat
  /-- length of the present stroke in ticks (R27, R40) -/
  strokeLen : Nat
  /-- whether the present stroke is stretched (R40) -/
  stretched : Bool
  /-- the stroke period in force, in units of 125 µs (R53) -/
  period : Nat
  step : Option PendingStep
  /-- the mark table that COX_APPLY has accepted, waiting for the boundary (R52) -/
  marks : Option (List Write)
  sync : SyncState
  active : Option Source
  /-- port in use inside PTP_RING (R34) -/
  ringPort : RingPort
  /-- SOURCE code of the last active source (R48) -/
  lastCode : Nat
  arb : Bool
  /-- the grandmasters of PTP_RING and PTP_S announce the ARB timescale (R35) -/
  arbRing : Bool
  arbS : Bool
  /-- time of day traced to TAI since the last start (R36) -/
  traced : Bool
  /-- course time set since start by a source or by COURSE_SET (R42) -/
  everSet : Bool
  /-- filtered offset in ns (R518), and the constant offset it settles to -/
  filtered : Int
  settling : Option Settling
  /-- the slew that runs (R39): the offset in ns it removes (0: none), and what it adds to the disciplined frequency, in
  units of 1e-12 -/
  slewOffset : Int
  slewRate : Int
  /-- consecutive samples that meet, or that miss, the limits of R42 -/
  good : Nat
  bad : Nat
  /-- bound and instant at entry to the present state (R44) -/
  boundEntry : Option Nat
  since : Nat
  /-- DISCIPLINED_TIME at entry to the present state, in ticks (R44) -/
  discAtEntry : Nat
  /-- ticks spent LOCKED since it last restarted (R43) -/
  disc : Nat
  /-- the device's own addition to the LOCKED bound (R518) -/
  lockedExtra : Nat
  /-- the present ACQUIRING was entered from UNSET, FREE or RC (R39) -/
  fromUnsynced : Bool
  /-- bound grown in sleep (R47) -/
  sleepGrowth : Nat
  /-- the four sources, code 1 first -/
  sources : List SourceState
  /-- the qualifying samples of ports A, B and S, of PPS and of the loop marker (R34) -/
  series : List (Option Series)
  /-- the edge before (R36) -/
  ppsEdge : Option Nat
  /-- the marker before (R34) -/
  marker : Option Nat
  /-- last 16 offsets of PTP_RING over A and B (R34) -/
  offsetsA : List Int
  offsetsB : List Int
  /-- last encoder boundary and whether fallback strokes run (R54, R55) -/
  encBoundary : Option Nat
  fallback : Bool
  /-- course alarms armed (R56) -/
  armed : List Bool
  /-- the strokes of the last seconds, newest first: they give past instants their stroke and course time (R111) -/
  segments : List Segment
  /-- sync-quality fields of the last seconds with the instants from which they hold, newest first (R170) -/
  qualities : List (Nat × Nat)
  /-- ERROR_BOUND at the stroke boundaries of the last seconds at which it changed, newest first (R192) -/
  bounds : List (Nat × Option Nat)
deriving DecidableEq, Repr

/-- The entry types of R266. -/
inductive EntryType where
  | command | record | event | catch | attest
deriving DecidableEq, Repr

/-- An entry as it enters the commit buffer (R266): all but its position and CRC. -/
structure Entry where
  type : EntryType
  stream : Nat
  time : Nat
  sync : Nat
  flags : Nat
  payload : List Byte
deriving DecidableEq, Repr

/-- The applies of R300 that are fed to the buffer. -/
inductive ApplyKind where
  | cox | engine | wash
deriving DecidableEq, Repr

/-- A journaled request that is pending (R278 step 7): its context, its operations, the writes that passed the checks,
the elapsed instant of its arrival, and those who joined it (R278 step 3). -/
structure PendingRequest where
  rq : Request
  ops : List ReqOp
  writes : List Write
  arrived : Nat
  joined : List Via
  /-- what the reply carries beside the values of the reads (R373) -/
  extra : List (List Byte)
  /-- the records that its applies commit, as the shadow held them when they were checked (R163, R300) -/
  records : List (ApplyKind × Write)
deriving DecidableEq, Repr

/-- What an internal persistent write is for (R295): what the device does at its seal. -/
inductive OnSeal where
  /-- nothing beyond the values themselves -/
  | values
  /-- calibration coefficients of a converter (R120) -/
  | calibration (conv : Fin 4)
  /-- RETIRED gains converters (R144) -/
  | retire (mask : Nat)
  /-- a loop trim (R230) -/
  | trim
  /-- a ring port or bank retirement, a sensor retirement: values only, events already raised -/
  | retired
  /-- the index reservation before a signature (R472) -/
  | indexReserved
  /-- the reservation of publication counters (R374) -/
  | pubReserved
  /-- a generation commit (R269) -/
  | generation (stream gen : Nat)
deriving DecidableEq, Repr

/-- A slot of the client table (R278): CLIENT, HIGH, the map of accepted IDs (bit k for HIGH - k) and the elapsed
instant of the last accepted request. -/
structure ClientSlot where
  client : Nat
  high : Nat
  map : Nat
  last : Nat
deriving DecidableEq, Repr

/-- An item of the commit buffer (R295); a note with the elapsed instant at which it was handed over (R303). -/
inductive Item where
  | entry (e : Entry)
  | request (p : PendingRequest) (entries : List Entry) (copies : List Write)
  | internal (on : OnSeal) (copies : List Write)
  | ring (ring : Nat) (values : List Write)
  | acked (sub : Nat) (position : Nat) (since : Nat)
  | checkpoint (table : List ClientSlot) (since : Nat)
  | applyPart (kind : ApplyKind) (copies : List Write)
  | selector (kind : ApplyKind)
deriving DecidableEq, Repr

/-- What a place in the LOG holds (R303, R304). -/
inductive LogContent where
  | entry (position : Nat) (e : Entry)
  | acked (sub : Nat) (position : Nat)
  | checkpoint (table : List ClientSlot)
deriving DecidableEq, Repr

/-- A structure in the LOG with the pages that hold it: places in the order of the LOG, counted from the first page ever
claimed, the pair of place n being 6,400 + n mod 9,984. -/
structure LogItem where
  content : LogContent
  pages : List Nat
deriving DecidableEq, Repr

/-- The place of the page in which a structure begins. -/
def LogItem.first (i : LogItem) : Nat := i.pages.headD 0

/-- Where a page of a group goes (R294, R297): the next free page of the JOURNAL, of a wear ring or of the LOG, or a COPY pair. -/
inductive PageTarget where
  | journal
  | copy (pair : Nat)
  | ring (ring : Nat)
  | log
deriving DecidableEq, Repr

/-- The COPY pairs that hold a record, and its write count SEQ (R299); a stage while no selector has made it current (R300). -/
structure Place where
  key : Nat
  stage : Option ApplyKind
  pairs : List Nat
  seq : Nat
deriving DecidableEq, Repr

/-- The heads of the claimed regions (R294, R302): places taken in the orders of the JOURNAL, the LOG and each wear ring, retired
pairs passed over counted with them, and RSEQ of each ring's newest slot. -/
structure Heads where
  journal : Nat
  log : Nat
  rings : List Nat
  seqs : List Nat
deriving DecidableEq, Repr

/-- The commit group that is running (R296, R297): its number, how many items of the buffer's front it holds, its
rounds, the rounds still to run, what it carries forward (R304); the pages that its rounds program, in order, with their images;
the pairs and the LOG places that the rounds done have taken, the heads behind them, the records that it places, and whether a
round is being programmed. -/
structure Group where
  number : Nat
  count : Nat
  rounds : Nat
  left : Nat
  carried : List LogItem
  plan : List (PageTarget × List Byte)
  done : List Nat
  logAt : List Nat
  heads : Heads
  places : List Place
  busy : Bool
deriving DecidableEq, Repr

/-- An apply that is being committed (R300): its kind, the records still to hand over, whether the selector has been handed over,
the whole set, the request that wrote it and the values for its reply. -/
structure Apply where
  kind : ApplyKind
  rest : List Write
  selected : Bool
  all : List Write
  request : PendingRequest
  values : List (List Byte)
deriving DecidableEq, Repr

/-- What a subscription keeps beside its objects (R280–R283): positions sent, the timer, timeouts in succession, the
committed SUB_ACKED and the instant of its commit, positions waiting to be sent again, the last position put into a
frame, and the last position that goes out with RETX after a whole-device reset (none: bit 63). -/
structure SubState where
  timer : Option Nat
  timeouts : Nat
  committed : Nat
  lastCommit : Nat
  resend : Bool
  formed : Nat
  again : Nat
deriving DecidableEq, Repr

/-- Entries, streams and the ledger store (chapters 10 and 11). -/
structure Ledger where
  buffer : List Item
  /-- items that wait for room in the buffer, oldest first (R273, R295) -/
  outside : List Item
  group : Option Group
  nextGroup : Nat
  /-- a run of deferrals is in progress (R298) -/
  deferring : Bool
  /-- LOG_FULL holds (R305) -/
  full : Bool
  /-- the pages of both banks, page p of bank b at 16384 b + p, the free image not listed (R291–R294) -/
  pages : Store
  /-- the page buffer of each bank: what was last programmed through it (R291) -/
  buffers : List (List Byte)
  /-- where COPY holds the records (R299) -/
  places : List Place
  /-- the heads of LOG, JOURNAL and the wear rings (R294, R302) -/
  heads : Heads
  /-- what the LOG holds, oldest first (R304) -/
  log : List LogItem
  /-- next position of each stream (R268) -/
  next : List Nat
  /-- committed generation of each stream (R269) -/
  generation : List Nat
  /-- per stream: the elapsed instants at which counted entries leave the rate count (R273) -/
  rate : List (List Nat)
  /-- per stream: entries taken in the present stroke (R273) -/
  burst : List Nat
  /-- the client table, slots by number (R278) -/
  clients : List ClientSlot
  /-- slots kept for clients whose first request is pending (R278 step 5): client and slot -/
  taken : List (Nat × Nat)
  /-- epoch of the running copy records (R300) -/
  epoch : Nat
  applies : List Apply
  /-- records committed under the next epoch, which no selector has made current yet (R300) -/
  staged : List (ApplyKind × Write)
  subs : List SubState
  /-- the NVM errors under test, oldest first (R308): bank and pair -/
  testing : List (Nat × Nat)
  /-- retired pairs (R308): bank and pair -/
  retiredPairs : List (Nat × Nat)
  banksRetired : List Bool
  /-- a margin pass is running, and the elapsed instant from which MARGIN_INTERVAL counts (R310) -/
  margin : Bool
  marginAt : Nat
  /-- elapsed instant of the last ring commit (R302) -/
  ringCommit : Nat
  /-- elapsed instant of the last group or stroke boundary in the angle course (R296) -/
  groupTimer : Nat
  /-- next free ID of the device's own requests (R276) -/
  ownId : Nat
  /-- the group that a reset or the shutdown left unsealed, its items still at the front of the buffer (R306, R311) -/
  openGroup : Option Group
  /-- requests accepted while the application core was in reset, to be applied at its restart (R279) -/
  unapplied : List PendingRequest
  /-- thermal shutdown abandoned a group (R311) -/
  abandoned : Option Nat
deriving DecidableEq, Repr

/-- The device states of R329. -/
inductive DeviceState where
  | starting | run | hold | config | service | safe
deriving DecidableEq, Repr

/-- A transition that waits for a stroke boundary (R333): its target, its requester and when it was accepted. -/
structure PendingTransition where
  target : DeviceState
  rq : Request
  accepted : Nat
  /-- the position of the write in its request, and what the request's reads returned (R325) -/
  pos : Nat
  values : List (List Byte)
  /-- those who joined the request (R278) -/
  joined : List Via
deriving DecidableEq, Repr

/-- A reply (R340): who gets it, the request ID, status, detail, the failing operation (255 for none) and the values
read. -/
structure Reply where
  via : Via
  client : Nat
  id : Nat
  status : Nat
  detail : Nat
  failOp : Nat
  values : List (List Byte)
deriving DecidableEq, Repr

/-- What a port gives out to its host or master: a HART response or burst (code: response code), or a host frame's response
(code: PSTAT), with its DETAIL and data. -/
structure Response where
  via : Via
  command : Nat
  code : Nat
  detail : Nat
  data : List Byte
deriving DecidableEq, Repr

/-- The device state and the dictionary's own state (chapter 12). -/
structure Device where
  state : DeviceState
  pending : Option PendingTransition
  /-- events raised before course time is set at t_R (R338) -/
  heldEvents : List (Nat × List Byte)
  /-- the fast latch of FAST_MODE STROKE and whether the SPI host has read it (R342, R396) -/
  latch : Option (List Byte)
  latchRead : Bool
  /-- bits of PORTS_RETIRED (0 to 2) and of SENSORS_RETIRED (8 to 15) cleared for the next start (R347, R442) -/
  unretired : Nat
  /-- flags set and cleared in the present tick (R336): key and bit -/
  setNow : List (Nat × Nat)
  clearedNow : List (Nat × Nat)
  /-- WP_N low as last sampled -/
  wpLow : Bool
  /-- the application core runs (R13) -/
  appRunning : Bool
  /-- replies and port responses of the command just done -/
  replies : List Reply
  responses : List Response
  /-- the model's counter of free values (log 6) -/
  fresh : Nat
deriving DecidableEq, Repr

/-- What a run of results is converted for (R96, R107, R129, R132). -/
inductive Use where
  | entry | injected | shadow
deriving DecidableEq, Repr

/-- A run of results that a converter will deliver, one every T: the seat, entry and entry word it belongs to, the
reference and mode it uses, the next sample instant (elapsed) and how many results remain (R73, R97). -/
structure Batch where
  use : Use
  seat : Nat
  entry : Nat
  word : Nat
  refExt : Bool
  paddle : Bool
  first : Nat
  count : Nat
deriving DecidableEq, Repr

/-- A result as taken: its sample instant, the stamp of that instant, its code and its flags (R109), and the seat,
entry and use it was taken for. -/
structure Taken where
  instant : Nat
  time : Nat
  code : Int
  flags : Nat
  seat : Nat
  entry : Nat
  use : Use
deriving DecidableEq, Repr

/-- A measurement that a calibration still has to make: its gain code, and for SELF_GAIN its second half (R117). -/
structure Measurement where
  gain : Nat
  second : Bool
deriving DecidableEq, Repr

/-- A calibration that waits or runs (R116–R120): procedure, measurements to make, mode, the instant at which the
running entry gives way, the start of the present measurement, the mean of the first half of SELF_GAIN, the
coefficients computed, the gains completed, and whether the last measurement has ended. -/
structure Calibration where
  procedure : Nat
  todo : List Measurement
  paddle : Bool
  target : Int
  running : Bool
  after : Option Nat
  start : Nat
  meanPlus : Int
  writes : List Write
  done : Nat
  handed : Bool
deriving DecidableEq, Repr

/-- A physical converter (chapters 03 and 04). -/
structure Conv where
  /-- runs of results to come, in delivery order -/
  flight : List Batch
  /-- the fault intervals of R68 that a result to come may still overlap, latest first: start, and end where it has ended; and
  whether the latest is active in CV_STATUS -/
  refs : List (Nat × Option Nat)
  refActive : Bool
  /-- the overload episode that runs and the sign of its input (R67; true: negative) -/
  overload : Option Bool
  /-- the instant from which a filter window holds no overload (R67, R73) -/
  clean : Nat
  /-- its last result, for the comparator (R135) -/
  last : Option Taken
  cal : Option Calibration
deriving DecidableEq, Repr

/-- The running sequence entry of a seat: its number and word, whether more results wait, and the end of the filter
window of its last result (R96). -/
structure EntryRun where
  entry : Nat
  word : Nat
  windowEnd : Nat
deriving DecidableEq, Repr

/-- An open-wire check of a seat (R84): due, or running since an instant. -/
inductive OwCheck where
  | due
  | running (start : Nat)
deriving DecidableEq, Repr

/-- A work seat and its table (chapters 04 and 05). -/
structure Seat where
  /-- the converter whose results the seat delivers (R126, R128) -/
  conv : Option Nat
  /-- the spare stands in for the seat's converter: results carry SWAP (R109, R139) -/
  swap : Bool
  /-- CV_MODE and BURNOUT in force (R80, R83) -/
  mode : Nat
  burnout : Nat
  /-- the table is armed, and has started since it was armed (R99, R104) -/
  armed : Bool
  started : Bool
  run : Option EntryRun
  /-- entry last started (SEQ_ENTRY_NOW) -/
  entryNow : Nat
  /-- the entry word of the conversion still running, its last planned instant and first settled instant (R77, R97) -/
  cont : Option Nat
  lastInstant : Nat
  settled : Nat
  /-- marks that have re-phased the running conversion: the mark and its first edge (R77) -/
  aligns : List (Nat × Nat)
  delayEnd : Option Nat
  startAt : Option Nat
  held : Bool
  check : Option OwCheck
  /-- an injected conversion runs: the end of its filter window; PRECAL falls due for it (R107, R119) -/
  inj : Option Nat
  injPrecal : Bool
  /-- entries whose last result was an overrange code (R66) -/
  ovr : Nat
  /-- entries marked open-wire, entries to be checked again at once, instants of the checks (R84, R85) -/
  marked : Nat
  recheck : Nat
  checked : List (Nat × Nat)
  /-- start, end and entry word of the checks that a result to come may still overlap, latest first (R87) -/
  spans : List (Nat × Nat × Nat)
deriving DecidableEq, Repr

/-- The tagged queue and what stands behind it (R110–R113). -/
structure ResultQueue where
  words : List Nat
  /-- reference of the last REFERENCE word queued -/
  reference : Option Nat
  /-- RESULT words not queued since the last LOSS word -/
  lost : Nat
deriving DecidableEq, Repr

/-- Why a converter joins a seat (R129, R130, R139). -/
inductive JoinFor where
  | rotation | swap | rejoin
deriving DecidableEq, Repr

/-- A join in progress (R129): the seat, the converter that joins, why, and from when its results are settled. -/
structure Join where
  seat : Nat
  conv : Nat
  purpose : JoinFor
  settled : Nat
deriving DecidableEq, Repr

/-- What the comparator compares (R131, R133): the two converters, the seat and entry, from when the second's
results are settled, and the pair sigma and the floor in codes, formed at its start (R136). -/
structure Comparison where
  a : Nat
  b : Nat
  seat : Nat
  entry : Nat
  settled : Nat
  sigma : F32
  floor : F32
deriving DecidableEq, Repr

/-- An open block of pairs (R136). -/
structure Block where
  sumD : Int
  sumA : Int
  k : Nat
  time : Nat
deriving DecidableEq, Repr

/-- The phases of a self-test (R139, R149). -/
inductive TestPhase where
  | testFirst | join | testSecond | rejoin
deriving DecidableEq, Repr

/-- A self-test (R139–R143): the suspect a that delivers the disputed seat and the other converter b, the seat, the
gain code, whether a spare takes part, whether one converter alone is tested, the phase, the level that runs and its
start, the means so far, an OVR seen, and whether the first path failed and why. -/
structure SelfTest where
  a : Nat
  b : Nat
  seat : Option Nat
  gain : Nat
  spare : Bool
  alone : Bool
  phase : TestPhase
  level : Nat
  start : Nat
  means : List Int
  ovr : Bool
  firstFailed : Option Nat
deriving DecidableEq, Repr

/-- A mismatch whose self-test has not started (R136, R139), or a self-test asked for (R143). -/
structure TestCall where
  a : Nat
  b : Nat
  seat : Option Nat
  gain : Nat
  alone : Bool
deriving DecidableEq, Repr

/-- Rotation, comparison and self-test (chapter 05). -/
structure Xcheck where
  /-- the converter that holds the spare seat (R128) -/
  spare : Option Nat
  /-- the converters that are powered down, bit n for converter n: those of RETIRED, till the next base assignment (R144) -/
  down : Nat
  comparison : Option Comparison
  block : Option Block
  /-- position in the pair cycle of R133, strokes left of the pairing period, a block completed in it -/
  pair : Nat
  pairLeft : Nat
  paired : Bool
  /-- the countdown has reached 0 and its rotation has not started (R130) -/
  rotationDue : Bool
  join : Option Join
  call : Option TestCall
  test : Option SelfTest
  /-- DEGRADED of XCHK_STATUS (R145, R149) -/
  degraded : Bool
deriving DecidableEq, Repr

/-- An element (R159): value, category and cause of its status, the limit bits it carries, its sample instant (elapsed,
which is its clock position of R186), the stamp and sync-quality of that instant, and the raw code of an input
element. -/
structure Element where
  value : F32
  cat : Nat
  cause : Nat
  limLo : Bool
  limHi : Bool
  instant : Nat
  time : Nat
  sync : Nat
  code : Option Int
deriving DecidableEq, Repr

/-- Elements with their spacing in ticks (R160). -/
structure Vec where
  elems : List Element
  spacing : Nat
deriving DecidableEq, Repr

/-- A lane input (R156–R158): elements not yet taken with the ticks at which they were delivered (R151), the last element
taken, the cause for which it has failed, and the stroke in which the last element arrived. -/
structure LaneInput where
  buf : List (Nat × Element)
  last : Element
  failed : Option Nat
  stroke : Nat
deriving DecidableEq, Repr

/-- A history bin of SURGE: its maximum and minimum, none while empty (R255). -/
abbrev Bin := Option (F64 × F64)

/-- The operation state that one place of a lane's table keeps from slot to slot (R153, R167, R168, R189, R190, R248,
R255, R271). -/
inductive OpState where
  | fresh
  | fir (history : List F32)
  | biquad (z : List (F32 × F32))
  | biquadQ (z : List (Int × Int))
  | decim (carry : List Element)
  | rate (last : Option Element)
  | thresh (phase : Nat) (up : Bool) (count : Nat) (fire : Option Element)
  | wavefront (history : List Element) (armed : Bool) (trigger : Option Nat)
  | pid (integral derivative previous setpoint : F32)
  | surge (hv hp : List Bin) (age : Nat) (last : F64) (frozen onFail : Bool) (timer : Nat)
  | emit (reference : Option F32) (lastRun : Option Nat) (refused : Bool)
deriving DecidableEq, Repr

/-- A slot that waits or runs (R151, R154): its lane, snapshot tick, DT, the elements taken, the last element of each
input and the parameter blocks in force (R165). -/
structure Slot where
  lane : Nat
  tick : Nat
  dt : Nat
  ins : List Vec
  lasts : List Element
  params : List (Nat × List Byte)
deriving DecidableEq, Repr

/-- A lane (R150–R160, R177): inputs, scalar variables, operation state, slots run, previous snapshot, whether its process values
carry STALE for an overrun, parity test and failure. -/
structure Lane where
  ins : List LaneInput
  scalars : List Element
  ops : List OpState
  /-- slots run, however many, from which MIN_GAP counts (R271) -/
  runs : Nat
  previous : Option Nat
  overrun : Bool
  frame : Nat
  testing : Bool
  failed : Bool
deriving DecidableEq, Repr

/-- What the engine's outputs were before the writes of a tick, for the consumers of that tick (R16, R153): the tick, the process
values' objects it has overwritten, and the engine's own part of them. -/
structure Earlier where
  tick : Nat
  writes : List Write
  outs : List (Option Element)
  written : Nat
  pvInstants : List Nat
deriving DecidableEq, Repr

/-- The signal engine (chapter 06). -/
structure Engine where
  lanes : List Lane
  /-- slots in the order in which they run; the first one runs -/
  queue : List Slot
  /-- the tick at which the last lane finished -/
  idleSince : Nat
  /-- the tick from which the engine has run without a pause, and the cycles it has run since (R155, R176) -/
  busyTick : Nat
  busyCycles : Int
  /-- what the last tick that wrote process values or outputs overwrote (R16) -/
  earlier : Earlier
  /-- the frames and rows under test, with the lanes that wait for it (R177) -/
  tests : List (ParityPlace × List Nat)
  /-- the tables that ENGINE_APPLY has accepted, waiting for the boundary (R163) -/
  apply : Option (List Write)
  /-- the last elements written to OUT_ADAC, OUT_PWM0 and OUT_PWM1 (R162) -/
  outs : List (Option Element)
  /-- coefficient rows that carry a block in place of its own row (R177) -/
  rows : List (Nat × Nat)
  rowsRetired : List Nat
  /-- process values written since the reset (R221), and the clock positions of their elements (R186) -/
  written : Nat
  pvInstants : List Nat
  /-- controllers whose schedule is skipped since the entry to UNSET (R252) -/
  skipped : Nat
  /-- first gap and latest ready time of the lanes, from the last admission (R223) -/
  gaps : List Nat
deriving DecidableEq, Repr

/-- A wash channel (R184–R188): its blocks, its samples newest first, and the clock position and stamp of the newest. -/
structure Channel where
  blocks : List Nat
  samples : List Int
  newest : Option Nat
  time : Nat
  /-- W_OFFSET and W_SCALE of the last hand-over (R197) -/
  offset : F32
  scale : F32
deriving DecidableEq, Repr

/-- An open catch (R195–R197): its definition, trigger element, whether a trigger was merged into it, and
ERROR_BOUND at the boundary of the stroke that holds the trigger (R192). -/
structure OpenCatch where
  definition : Nat
  trigger : Element
  multi : Bool
  bound : Option Nat
deriving DecidableEq, Repr

/-- A catch of the table of R200. -/
structure HeldCatch where
  id : Nat
  mask : Nat
  definition : Nat
  channel : Nat
  expiry : Nat
  /-- clock position of the window's start and its length in ticks -/
  start : Nat
  length : Nat
deriving DecidableEq, Repr

/-- A set of fetch objects (R200). -/
structure FetchSet where
  owner : Via
  id : Nat
  channel : Nat
  offset : Nat
deriving DecidableEq, Repr

/-- What location needs of a catch entry (R203–R205): its position where it is an upstream one. -/
structure CatchFacts where
  id : Nat
  arrival : Nat
  unc : Nat
  amplitude : F32
  sync : Nat
  failed : Bool
  position : Nat
  stream : Nat
  /-- elapsed instant of acceptance or of arrival -/
  since : Nat
deriving DecidableEq, Repr

/-- How far a location attempt has come (R202). -/
inductive LocStep where
  | idle | opening | reading | subscribing | subscribed
deriving DecidableEq, Repr

/-- Transient capture (chapter 07). -/
structure Capture where
  channels : List Channel
  /-- retired wash banks, bit b for bank b (R22, R188) -/
  banks : Nat
  /-- the trigger queue of R196, and the triggers lost while the application core was in reset -/
  triggers : List (Nat × Element)
  lost : List (Nat × Nat)
  catches : List OpenCatch
  /-- per definition: trigger instant of the last catch, and instants of its catches (R195) -/
  lastTrigger : List (Option Nat)
  made : List (List Nat)
  held : List HeldCatch
  fetch : List FetchSet
  /-- instants at which course time was stepped or set, newest first (R197) -/
  steps : List Nat
  /-- own catches that wait for pairing, upstream catches not paired (R202, R203) -/
  own : List CatchFacts
  upstream : List CatchFacts
  loc : LocStep
  /-- a failed step's retry, and a failure already reported (R202) -/
  retry : Option Nat
  locFailed : Bool
deriving DecidableEq, Repr

/-- The output block (chapter 08). -/
structure Outputs where
  /-- the LSRC level latched at the HV die's power-on reset (R213; true: SOURCE) -/
  source : Bool
  /-- a first loop load has been made (R221) -/
  loaded : Bool
  /-- limiter row 2 and whether the heartbeat has returned; row 3 and whether TS6 is still above its release (R218) -/
  watchdog : Bool
  beating : Bool
  /-- the instant of the last heartbeat (R430) -/
  beatAt : Nat
  /-- the readings of TS6 and TS7 that the last heartbeat carried (R448) -/
  sent6 : F32
  sent7 : F32
  thermal : Bool
  hot : Bool
  /-- row of R218 at the last strobe -/
  row : Nat
  /-- untrimmed target code at the last strobe (R228), and whether it drives a fault current -/
  target : Nat
  fault : Bool
  satHi : Bool
  satLo : Bool
  compliance : Bool
  drawHigh : Bool
  /-- since when the sensed current has differed from the demand by more than 0.10 mA, or by at most 0.05 mA (R224) -/
  offSince : Option Nat
  nearSince : Option Nat
  /-- codes at entry to HOLD (R218, R235), consecutive stale strobes (R220), the code the slew has reached (R222) and
  when -/
  holdCode : Nat
  holdAdac : Nat
  staleStrobes : Nat
  slewed : F64
  slewTick : Nat
  /-- ADAC: range in force, clamp end, a clamp over whose strobe has not come, code held in the HV die, thermal cut-off, compliance (R235–R237) -/
  adacRange : Nat
  adacClamp : Option Nat
  adacWait : Bool
  adacSafe : Nat
  adacSource : Nat
  adacThermal : Bool
  adacCompliance : Bool
  adacHot : Bool
  adacLoaded : Bool
  /-- XDAC: loaded code, mode, and the runs of its phase, newest first: instant, phase and frequency word (R239) -/
  xdacLevel : Int
  xdacAc : Bool
  xdacRuns : List (Nat × Nat × Nat)
  xdacLoaded : Bool
  /-- VBB in force in volts (R215) -/
  vbb : F32
  /-- buttons held stuck (R232): bit 0 ZERO_N, bit 1 SPAN_N -/
  stuck : Nat
deriving DecidableEq, Repr

/-- A PWM channel (R258): start of its present period, its on-time in ticks, its active duty as a fraction. -/
structure Pwm where
  start : Option Nat
  duty : F32
deriving DecidableEq, Repr

/-- The queues of R349. -/
inductive QueueName where
  | alarm | time | transit | gate (g : Nat) | best
deriving DecidableEq, Repr

/-- What a frame is: a publication, a delivery frame of a subscription with the positions it carries (the last
fragment of it, R368), a supervision frame, a frame in transit, or another own frame. -/
inductive FrameKind where
  | publication (n : Nat)
  | delivery (sub first last : Nat)
  | supervision
  | transit
  | sync (source sequence : Nat)
  | own
deriving DecidableEq, Repr

/-- A frame of a port: its queue, whether it is a retransmission (R356), its bytes from DA to FCS, the instant at which
it was queued or its last bit arrived, and what it carries. -/
structure Frame where
  kind : FrameKind
  queue : QueueName
  retx : Bool
  size : Nat
  arrived : Nat
  data : List Byte
  /-- whether an alarm window has left the frame over (R359) -/
  left : Bool
deriving DecidableEq, Repr

/-- A frame that leaves a port: the instant of its first bit and that of its last. -/
structure Sending where
  frame : Frame
  start : Nat
  stop : Nat
deriving DecidableEq, Repr

/-- A two-step Sync that waits for its Follow_Up (R361): its sequence number, source port, ingress instant, stamp of that
instant in ns, correction. -/
structure PendingSync where
  sequence : Nat
  identity : Nat
  instant : Nat
  stamp : Nat
  correction : Int
deriving DecidableEq, Repr

/-- A Sync that the transparent clock passes on (R361): the egress port, its source port and sequence number, the ingress port's
delay and asymmetry in ns, the residence time in ns once it has left, and its Follow_Up's origin time and correction once they
are known. -/
structure Bridge where
  port : Nat
  source : Nat
  sequence : Nat
  link : Int
  residence : Option Nat
  follow : Option (Nat × Int)
deriving DecidableEq, Repr

/-- A port of the switch (R345–R362): frames that wait, in the order in which they were queued; the frame that leaves
it; the instant from which the next may start; the PHY self-test; the return of its own supervision frames; the
two-step Sync it holds, its link delay and the Pdelay exchanges completed since the link came up (R498). -/
structure PortState where
  waiting : List Frame
  sending : Option Sending
  free : Nat
  /-- the instant at which the PHY self-test began, while it runs (R347) -/
  testing : Option Nat
  /-- supervision intervals without a return, and whether one has returned since the link came up (R353) -/
  missed : Nat
  returned : Bool
  sync : Option PendingSync
  /-- meanLinkDelay in ns (R360) -/
  delay : Int
  exchanges : Nat
  /-- the instant of the last Pdelay_Req (R360) -/
  asked : Nat
deriving DecidableEq, Repr

/-- An entry of the duplicate table (R352): source address and sequence number, the instant it is forgotten, the ring
ports out of which the frame has gone, and whether a copy was delivered. -/
structure DupEntry where
  source : Nat
  sequence : Nat
  expiry : Nat
  outA : Bool
  outB : Bool
  delivered : Bool
deriving DecidableEq, Repr

/-- An address of the device (R363): 16 bytes, prefix length, and whether duplicate address detection still runs. -/
structure NetAddress where
  bytes : List Byte
  prefixLen : Nat
  tentative : Bool
deriving DecidableEq, Repr

/-- A fragment that waits for the others of its message (R368). -/
structure Fragment where
  counter : Nat
  index : Nat
  more : Bool
  body : List Byte
  instant : Nat
deriving DecidableEq, Repr

/-- The path of a session: a port of the switch, or the tunnel of a HART master (R387). -/
inductive SessionPath where
  | port (p : Port)
  | tunnel (primary : Bool)
deriving DecidableEq, Repr

/-- A Wored session (R369–R371): its CLIENT, level, port, source address, key, nonces, whether it is open, the highest
counter accepted with the map of the 64 below, whether its one CONFIRM or ACCEPT was taken, its own counter, the
instant of its last valid frame, whether the device itself opened it (R202), and fragments that wait. -/
structure Session where
  client : Nat
  level : Nat
  keysel : Nat
  path : SessionPath
  address : List Byte
  key : List Byte
  nonceC : List Byte
  isOpen : Bool
  high : Nat
  seen : Nat
  confirmed : Bool
  sent : Nat
  last : Nat
  upstream : Bool
  fragments : List Fragment
  /-- the session number in the frames: that of its table place, or the one a station assigned (R202, R370) -/
  number : Nat
  /-- the path on which the last request of the session arrived: replies leave by it (R368) -/
  back : SessionPath
deriving DecidableEq, Repr

/-- The switch, HSR, PTP, addresses and sessions (chapter 13). -/
structure Net where
  ports : List PortState
  /-- gates 1 to 7 that are open, bit g (R356) -/
  gates : Nat
  /-- HSR sequence number of the next own frame, the duplicate table oldest first, the nodes heard of, the instant of the
  last supervision frame (R352, R353) -/
  sequence : Nat
  dup : List DupEntry
  nodes : List Nat
  supervised : Nat
  /-- source addresses on S that the RedBox proxies (R354) -/
  proxies : List Nat
  /-- COUNTER of the next publication, the committed reservation in blocks of 65,536, and the publications that wait for one
  (R374) -/
  pubNext : Nat
  pubBlocks : Nat
  pubHeld : List (Nat × List (List Byte))
  /-- per sender: highest COUNTER accepted and the map of the 64 below (R369, R374) -/
  pubSeen : List (Nat × Nat × Nat)
  /-- the grandmaster dataset in use, compared by R360 -/
  grandmaster : Option (List Nat)
  addresses : List NetAddress
  neighbours : List (List Byte × Nat)
  sessions : List (Option Session)
  /-- failed CONFIRMs and lockouts by source address (R371) -/
  failures : List (List Byte × Nat)
  lockouts : List (List Byte × Nat)
  /-- the ring key (empty: none), and the key of the epoch before with the end of its grace (R470) -/
  ringKey : List Byte
  ringBefore : Option (Nat × List Byte × Nat)
  /-- location as a client of the upstream station (R202): its request counter -/
  locRequest : Nat
  /-- the last position received from the upstream station (R202, R283) -/
  locLast : Option Nat
  /-- Syncs passed on, and the last ones received with their ingress ports (R352, R361) -/
  bridges : List Bridge
  syncs : List (Nat × Nat × Nat)
deriving DecidableEq, Repr

/-- What the power controller has the device do (R415, R421, R423, R427): awake, asleep in DOZE or STOW, off, in
holdup, or waking from a sleep state (1 DOZE, 2 STOW). -/
inductive PowerMode where
  | on | doze | stow | off | holdup
  | waking (slept : Nat)
deriving DecidableEq, Repr

/-- How far an agent has come in a handshake (R417): queried at an instant, for the second time or not; to be queried
again at an instant; accepted. -/
inductive AgentState where
  | queried (at' : Nat) (again : Bool)
  | delayed (due : Nat)
  | accepted
deriving DecidableEq, Repr

/-- The transition that runs (R414): a profile change that waits for its boundary, the handshake of a sleep entry, its
closing phase with the number of the closing group. KIND takes the codes of R436. -/
inductive Transition where
  | profile (kind : Nat)
  | handshake (kind : Nat) (agents : List AgentState)
  | closing (kind : Nat)
deriving DecidableEq, Repr

/-- Power (chapter 15). -/
structure Power where
  mode : PowerMode
  running : Option Transition
  /-- KIND of the request that waits (R414) -/
  queued : Option Nat
  /-- wake sources latched since the handshake began, in WAKE_CAUSE bits (R424) -/
  latched : Nat
  /-- failed regulator attempts of this wake, and whether the bypass carries the device (R425) -/
  attempts : Nat
  bypass : Bool
  /-- the regulators are ready in this wake: the keeper serves host frames (R423) -/
  regulators : Bool
  /-- wakes have failed since the last that succeeded, and the instant of the last that failed (R425) -/
  wakeFailed : Bool
  failedAt : Nat
  /-- the TCXO gives the course clock; when the regulators were ready, and when the TCXO was last looked for in RC (R426) -/
  tcxo : Bool
  readyAt : Nat
  checkedAt : Nat
  /-- the last profile change was forced and its restoration is still to come (R411) -/
  forced : Bool
  /-- the ceiling under which the active profile was last set (R411) -/
  lastCeiling : Nat
  /-- seats powered down by a forced change, and outputs switched off by it: bit 0 loop, 1 ADAC, 2 XDAC (R411) -/
  seatsDown : Nat
  outputsOff : Nat
  /-- elapsed instant at which the last source was lost, and at which the present sleep or holdup began (R421, R428) -/
  lostAt : Nat
  asleepAt : Nat
  /-- WAKE_CAUSE of the wake that runs -/
  cause : Nat
  /-- energy in Wh of the present hour and of the whole hours before it, newest first; when the present hour began
  (R432) -/
  hourEnergy : F64
  hours : List F64
  hourStart : Nat
  /-- elapsed instant of the last day rollover (R432) -/
  dayStart : Nat
  /-- the wake port holds SCL since an instant (R398) -/
  stretch : Option Nat
deriving DecidableEq, Repr

/-- A temperature sensor (R440–R442): consecutive deviating samples, the deviation that started its test, the instant
until which it starts no new count, and the instants of its passed tests of the last hour. -/
structure Sensor where
  count : Nat
  deviation : F64
  quiet : Nat
  passes : List Nat
deriving DecidableEq, Repr

/-- A stage's cycle count (R454): the last turning point and the extreme reached since, none before the first
reading. -/
structure Swing where
  turning : Option F64
  extreme : F64
deriving DecidableEq, Repr

/-- Thermal supervision and ageing (chapter 16). -/
structure Thermal where
  sensors : List Sensor
  /-- the sensor under test (R441) -/
  testing : Option Nat
  /-- throttle level; the instant since which T_HOT has stayed below its release (R445); the hold of R446 -/
  level : Nat
  below : Option Nat
  fallHold : Option Nat
  /-- watch sampling, and the instant since which T_HOT has stayed below T_WATCH (R443) -/
  watch : Bool
  cool : Option Nat
  /-- sensors estimated without a usable neighbour (R440) -/
  alone : Nat
  /-- thermal shutdown: its sensor and reading, and the instant since which T_HOT has stayed below the release (R447) -/
  shutdown : Option (Nat × F32)
  safe : Option Nat
  /-- a store test runs, one is due, and the elapsed instant of the last (R453) -/
  storeTest : Bool
  storeDue : Bool
  storeLast : Nat
  loopSwing : Swing
  actSwing : Swing
  /-- milliseconds of the present day with each link UP, and LOCKED on PTP or PPS (R449) -/
  upToday : List Nat
  lockedToday : Nat
  /-- the first sample of FREQ_ADJ, against which indicator 13 counts (R449) -/
  firstFreq : Option F64
  /-- the day number, and the days since the last ageing sample (R450) -/
  day : Nat
  sinceSample : Nat
  /-- a reference check is due or runs (R455); the spare that measures for it, and since when -/
  reference : Bool
  refRun : Option (Nat × Nat)
deriving DecidableEq, Repr

/-- A part of an image slot as its last verification found it (R462, R464): valid or the reason, and what its headers
say. -/
structure ImageInfo where
  valid : Bool
  rev : Nat
  secVersion : Nat
deriving DecidableEq, Repr

/-- A personality slot (R462, R468). -/
structure PersonalitySlot where
  valid : Bool
  rev : Nat
  records : List BundleRecord
deriving DecidableEq, Repr

/-- The states of LOAD (R483). -/
inductive LoadState where
  | idle | loading | verifying | valid | invalid
deriving DecidableEq, Repr

/-- A close of an attestation window that waits to be signed (R473, R474, R479): the course time of the close, the last
position accepted by then, and whether it is a FINAL one. -/
structure AttestClose where
  windowEnd : Nat
  last : Nat
  final : Bool
deriving DecidableEq, Repr

/-- What a stream keeps for attestation (R474–R476): the last position that an accepted ATTEST covers and the chain value
after it, whether its next ATTEST is the first after a whole-device reset, the elapsed instant of the last close, and the
closes that wait to be signed, oldest first. -/
structure AttestState where
  covered : Option Nat
  chain : List Byte
  fresh : Bool
  closed : Nat
  waiting : List AttestClose
deriving DecidableEq, Repr

/-- A selection of the signature objects (R480, R200): its owner, kind, stream, position, offset, and whether the
signature is ready. -/
structure SigSet where
  owner : Via
  select : Nat
  offset : Nat
  ready : Bool
deriving DecidableEq, Repr

/-- Images, identity and attestation (chapter 17). -/
structure Security where
  /-- the two image slots and the two personality slots -/
  images : List ImageInfo
  bundles : List PersonalitySlot
  /-- the active image slot, the slot that runs, the slot marked TRIAL and not yet tried, whether the running image is
  on trial (R462, R467) -/
  activeSlot : Nat
  runningSlot : Nat
  trialSlot : Option Nat
  onTrial : Bool
  /-- the active personality slot, and the slot whose bundle took effect (R466, R468) -/
  activeBundle : Nat
  bundleInUse : Option Nat
  /-- anti-rollback fuses blown (R467) -/
  fuses : Nat
  /-- a download: its state, target, reason, the bytes programmed as offset and content (R465) -/
  load : LoadState
  loadTarget : Nat
  /-- the slot that LOAD_TARGET erased -/
  loadSlot : Nat
  loadReason : Nat
  /-- the elapsed instant of the last LOAD_VERIFY (R465) -/
  verifyAt : Nat
  loaded : List (Nat × List Byte)
  /-- the ROM loader runs (R463) -/
  romLoader : Bool
  /-- nodes of the bottom tree are being rebuilt, a tree change waits for the next tree, the next tree is ready (R473) -/
  rebuilding : Bool
  nextTree : Bool
  /-- the closing of R479 runs -/
  closing : Bool
  streams : List AttestState
  sigs : List SigSet
  /-- elapsed instant at which the debug port locks again (R481) -/
  debugUntil : Option Nat
deriving DecidableEq, Repr

/-- A device message that waits for a master or a host to collect it (R387, R392): what it carries and its bytes. -/
structure Outgoing where
  kind : FrameKind
  retx : Bool
  data : List Byte
deriving DecidableEq, Repr

/-- A write command of a HART master (R381): the command with its data, the instant of its frame, the request ID, the instant of the
frame that still awaits the response, and the response code once it is known. -/
structure HartWrite where
  command : Nat
  data : List Byte
  instant : Nat
  id : Nat
  owed : Option Nat
  code : Option Nat
deriving DecidableEq, Repr

/-- What a HART master's side of port L keeps (R381, R383, R387): the request counter, the configuration-changed and cold-start
bits, the writes that a frame may repeat or that are still to be answered, newest first, and the frames queued for the tunnel. -/
structure HartMaster where
  counter : Nat
  changed : Bool
  cold : Bool
  writes : List HartWrite
  frames : List Outgoing
deriving DecidableEq, Repr

/-- A pending operation of a host port (R391): held until the application core runs (R398), waiting for a reply to its request ID
(as a message or as a result), a read whose result is still to come, or complete with its status, DETAIL and data. -/
inductive HostPending where
  | held (rq : Request) (ops : List ReqOp) (extra : List (List Byte)) (message : Bool) (first count : Nat)
  | waits (id : Nat) (message : Bool)
  | reading (status detail : Nat) (data : List Byte)
  | result (status detail : Nat) (data : List Byte)
deriving DecidableEq, Repr

/-- A host port (R389–R396): its pending operation, its holding register with the tag, and the messages queued for it. -/
structure HostState where
  pending : Option HostPending
  holding : Option (Nat × List Byte)
  messages : List Outgoing
deriving DecidableEq, Repr

/-- HART on port L and the host ports (chapter 14). -/
structure Link where
  masters : List HartMaster
  hosts : List HostState
  /-- elapsed instant of the last burst (R386) -/
  burst : Nat
deriving DecidableEq, Repr

/-- The phases of a start (R489), each named after what it waits for: a source, the boot ROM, the store's energy, the
ledger's recovery, the configuration, the start calibrations, the end of STARTING; and the time after it. -/
inductive BootPhase where
  | supply | verify | energy | recovery | load | calibrate | ready | done
deriving DecidableEq, Repr

/-- Start-up and reset (chapter 18). -/
structure Start where
  phase : BootPhase
  /-- t_R has passed: course time is set and the ledger recovered (R489) -/
  recovered : Bool
  /-- t_C has passed: configuration is loaded (R489) -/
  configured : Bool
  /-- elapsed instant of supply valid (R489) -/
  supply : Nat
  /-- latched cause and detail (R485), and whether this is a holdup restart (R493) -/
  cause : Nat
  detail : Nat
  holdup : Bool
  /-- the start follows OFF or a loss of all power (R29, R43) -/
  cold : Bool
  /-- a whole-device reset due at the next stroke boundary, with its cause and detail (R466, R488) -/
  resetDue : Option (Nat × Nat)
  /-- the reset-loop count and the elapsed instant of the last reset it counted (R487) -/
  loopCount : Nat
  loopLast : Nat
  /-- converters still to be calibrated at the start (R491) -/
  calibrate : List (Fin 4)
  /-- SAFE causes found while starting (R334), lowest first -/
  safeCauses : List Nat
  /-- the HV die's WATCHDOG flag, reported after the restart (R430) -/
  watchdog : Bool
  /-- a thermal shutdown to report after the restart: sensor and reading (R447) -/
  shutdown : Option (Nat × F32)
  /-- SRAM banks under a march test and retired, system banks in bits 0 to 15, wash banks above, and the system bank
  whose contents the spare bank 15 holds (R22) -/
  sramTesting : Nat
  sramRetired : Nat
  sramSpare : Option Nat
  /-- the pins of the wake port's address (R397) -/
  address : Nat
deriving DecidableEq, Repr

/-- The device: its register files and the state of every chapter. -/
structure Dev where
  /-- the running values of the objects -/
  live : Store
  /-- the shadow of persistent-on-commit objects, where it differs (R323) -/
  shadow : Store
  /-- the committed values of persistent objects (R299, R323) -/
  nvm : Store
  /-- chapter 02 -/
  course : Course
  /-- the converters CVA to CVD (chapter 03) -/
  convs : List Conv
  /-- the seats W0 to W3 (chapter 04) -/
  seats : List Seat
  /-- the tagged queue (R110) -/
  queue : ResultQueue
  /-- chapter 05 -/
  xcheck : Xcheck
  /-- chapter 06 -/
  engine : Engine
  /-- chapter 07 -/
  capture : Capture
  /-- chapter 08 -/
  outputs : Outputs
  /-- the PWM channels (R258) -/
  pwm : List Pwm
  /-- chapters 10 and 11 -/
  ledger : Ledger
  /-- chapter 13 -/
  net : Net
  /-- chapter 15 -/
  power : Power
  /-- chapter 16 -/
  thermal : Thermal
  /-- chapter 17 -/
  security : Security
  /-- chapter 14 -/
  link : Link
  /-- chapter 12 -/
  device : Device
  /-- chapter 18 -/
  start : Start
deriving DecidableEq, Repr

/-- The state of the block: the commands that wait, first in first out, and the device. -/
structure State where
  pending : List Instr
  dev : Dev
deriving DecidableEq, Repr

/-- The faults of the model. -/
inductive Fault where
  /-- Raised by no command: every stop of the part is an event, a flag or a reply, all of them next states. Safe. -/
  | never
deriving DecidableEq, Repr

/-- The refusals of the model. -/
inductive Refusal where
  /-- Raised by an arm of exec whose command has no meaning yet, with its mnemonic. Safe. -/
  | notModelled (mnemonic : String)
deriving DecidableEq, Repr

/-- Course time at reset: UNSET, no stroke running, no source qualified (R42, R43). -/
def Course.reset : Course where
  now := 0
  elapsed := 0
  ticks := 0
  running := false
  awaiting := false
  strokeStart := 0
  strokeLen := 65536
  stretched := false
  period := 8
  step := none
  marks := none
  sync := .unset
  active := none
  ringPort := .A
  lastCode := 0
  arb := false
  arbRing := false
  arbS := false
  traced := false
  everSet := false
  filtered := 0
  settling := none
  slewOffset := 0
  slewRate := 0
  good := 0
  bad := 0
  boundEntry := none
  since := 0
  discAtEntry := 0
  disc := 0
  lockedExtra := 0
  fromUnsynced := true
  sleepGrowth := 0
  sources := List.replicate 4 ⟨false, 0, none, none⟩
  series := List.replicate 5 none
  ppsEdge := none
  marker := none
  offsetsA := []
  offsetsB := []
  encBoundary := none
  fallback := false
  armed := List.replicate 4 false
  segments := []
  qualities := []
  bounds := []

/-- The heads of a factory part: nothing claimed. -/
def Heads.reset : Heads := ⟨0, 0, List.replicate 8 0, List.replicate 8 0⟩

/-- The ledger of a factory part: nothing committed, nothing accepted (R280: no head). -/
def Ledger.reset : Ledger where
  buffer := []
  outside := []
  group := none
  nextGroup := 0
  deferring := false
  full := false
  pages := []
  buffers := [[], []]
  places := []
  heads := Heads.reset
  log := []
  next := List.replicate 8 0
  generation := List.replicate 8 0
  rate := List.replicate 8 []
  burst := List.replicate 8 0
  clients := []
  taken := []
  epoch := 0
  applies := []
  staged := []
  subs := List.replicate 16 ⟨none, 0, 0x8000000000000000, 0, false, 0x8000000000000000, 0x8000000000000000⟩
  testing := []
  retiredPairs := []
  banksRetired := [false, false]
  margin := false
  marginAt := 0
  ringCommit := 0
  groupTimer := 0
  ownId := 1
  openGroup := none
  unapplied := []
  abandoned := none

/-- The device state at reset: STARTING (R343). -/
def Device.reset : Device where
  state := .starting
  pending := none
  heldEvents := []
  latch := none
  latchRead := true
  unretired := 0
  setNow := []
  clearedNow := []
  wpLow := false
  appRunning := false
  replies := []
  responses := []
  fresh := 0

/-- A converter at reset. -/
def Conv.reset : Conv := ⟨[], [], false, none, 0, none, none⟩

/-- A seat at reset, with its converter of the base assignment (R128) and the defaults of CV_MODE and BURNOUT. -/
def Seat.reset (conv : Option Nat) : Seat :=
  ⟨conv, false, 1, 0, false, false, none, 0, none, 0, 0, [], none, none, false, none, none, false, 0, 0, 0, [], []⟩

/-- Chapter 05 at reset: the base assignment with no converter retired (R128). -/
def Xcheck.reset : Xcheck := ⟨some 3, 0, none, none, 0, 1000, false, false, none, none, none, false⟩

/-- An element of value 0 without a sample. -/
def Element.initial : Element := ⟨0, 0, 0, false, false, 0, 0, 0x00FF, none⟩

/-- A lane input at reset. -/
def LaneInput.reset : LaneInput := ⟨[], Element.initial, none, 0⟩

/-- A lane at reset in a frame (R177). -/
def Lane.reset (frame : Nat) : Lane :=
  ⟨List.replicate 8 LaneInput.reset, List.replicate 16 Element.initial, List.replicate 48 .fresh, 0, none, false, frame, false, false⟩

/-- Nothing overwritten. -/
def Earlier.reset : Earlier := ⟨0, [], [none, none, none], 0, List.replicate 16 0⟩

/-- The engine at reset: lane l in frame l (R177, no frame retired). -/
def Engine.reset : Engine :=
  ⟨(List.range 32).map Lane.reset, [], 0, 0, 0, Earlier.reset, [], none, [none, none, none], [], [], 0, List.replicate 16 0, 0, List.replicate 32 0⟩

/-- A wash channel at reset. -/
def Channel.reset : Channel := ⟨[], [], none, 0, 0, 0⟩

/-- Transient capture at reset. -/
def Capture.reset : Capture where
  channels := List.replicate 8 Channel.reset
  banks := 0
  triggers := []
  lost := []
  catches := []
  lastTrigger := List.replicate 8 none
  made := List.replicate 8 []
  held := []
  fetch := []
  steps := []
  own := []
  upstream := []
  loc := .idle
  retry := none
  locFailed := false

/-- The outputs at reset (R216–R222). -/
def Outputs.reset : Outputs where
  source := false
  loaded := false
  watchdog := false
  beating := true
  beatAt := 0
  sent6 := 0
  sent7 := 0
  thermal := false
  hot := false
  row := 1
  target := 142000
  fault := false
  satHi := false
  satLo := false
  compliance := false
  drawHigh := false
  offSince := none
  nearSince := none
  holdCode := 142000
  holdAdac := 0
  staleStrobes := 0
  slewed := 0x4101558000000000
  slewTick := 0
  adacRange := 0
  adacClamp := none
  adacWait := false
  adacSafe := 0
  adacSource := 0
  adacThermal := false
  adacCompliance := false
  adacHot := false
  adacLoaded := false
  xdacLevel := 0
  xdacAc := false
  xdacRuns := []
  xdacLoaded := false
  vbb := 0x41C00000
  stuck := 0

/-- A port at reset: link down. -/
def PortState.reset : PortState := ⟨[], none, 0, none, 0, false, none, 0, 0, 0⟩

/-- Chapter 13 at reset. -/
def Net.reset : Net where
  ports := List.replicate 3 PortState.reset
  gates := 0
  sequence := 0
  dup := []
  nodes := []
  supervised := 0
  proxies := []
  pubNext := 1
  pubBlocks := 0
  pubHeld := []
  pubSeen := []
  grandmaster := none
  addresses := []
  neighbours := []
  sessions := List.replicate 16 none
  failures := []
  lockouts := []
  ringKey := []
  ringBefore := none
  locRequest := 1
  locLast := none
  bridges := []
  syncs := []

/-- Power at reset: awake, no source present (R402). -/
def Power.reset : Power where
  mode := .on
  running := none
  queued := none
  latched := 0
  attempts := 0
  bypass := false
  regulators := false
  wakeFailed := false
  failedAt := 0
  tcxo := false
  readyAt := 0
  checkedAt := 0
  forced := false
  lastCeiling := 2
  seatsDown := 0
  outputsOff := 0
  lostAt := 0
  asleepAt := 0
  cause := 0
  hourEnergy := 0
  hours := []
  hourStart := 0
  dayStart := 0
  stretch := none

/-- Thermal supervision at reset: every sensor trusted, no throttle. -/
def Thermal.reset : Thermal where
  sensors := List.replicate 8 ⟨0, 0, 0, []⟩
  testing := none
  level := 0
  below := none
  fallHold := none
  watch := false
  cool := none
  alone := 0
  shutdown := none
  safe := none
  storeTest := false
  storeDue := false
  storeLast := 0
  loopSwing := ⟨none, 0⟩
  actSwing := ⟨none, 0⟩
  upToday := [0, 0, 0]
  lockedToday := 0
  firstFreq := none
  day := 0
  sinceSample := 0
  reference := false
  refRun := none

/-- A stream of which nothing is attested. -/
def AttestState.reset : AttestState := ⟨none, List.replicate 32 0, true, 0, []⟩

/-- Security of a factory part: image slot 0 active, nothing loaded. -/
def Security.reset : Security where
  images := [⟨true, 0, 0⟩, ⟨false, 0, 0⟩]
  bundles := [⟨false, 0, []⟩, ⟨false, 0, []⟩]
  activeSlot := 0
  runningSlot := 0
  trialSlot := none
  onTrial := false
  activeBundle := 0
  bundleInUse := none
  fuses := 0
  load := .idle
  loadTarget := 0
  loadSlot := 0
  loadReason := 0
  verifyAt := 0
  loaded := []
  romLoader := false
  rebuilding := true
  nextTree := false
  closing := false
  streams := List.replicate 8 AttestState.reset
  sigs := []
  debugUntil := none

/-- A HART master before its first frame: cold start pending (R383). -/
def HartMaster.reset : HartMaster := ⟨1, false, true, [], []⟩

/-- A host port at reset. -/
def HostState.reset : HostState := ⟨none, none, []⟩

/-- Port L and the host ports at reset. -/
def Link.reset : Link where
  masters := [HartMaster.reset, HartMaster.reset]
  hosts := [HostState.reset, HostState.reset]
  burst := 0

/-- The start before the supply is valid. -/
def Start.reset : Start where
  phase := .supply
  recovered := false
  configured := false
  supply := 0
  cause := 0
  detail := 0
  holdup := false
  cold := true
  resetDue := none
  loopCount := 0
  loopLast := 0
  calibrate := []
  safeCauses := []
  watchdog := false
  shutdown := none
  sramTesting := 0
  sramRetired := 0
  sramSpare := none
  address := 0

/-- The device at the release of a whole-device reset of a factory part, before the supply is valid. -/
def Dev.reset : Dev :=
  {
    live := []
    shadow := []
    nvm := []
    course := Course.reset
    convs := List.replicate 4 Conv.reset
    seats := [Seat.reset (some 0), Seat.reset (some 1), Seat.reset (some 2), Seat.reset none]
    queue := ⟨[], none, 0⟩
    xcheck := Xcheck.reset
    engine := Engine.reset
    capture := Capture.reset
    outputs := Outputs.reset
    pwm := [⟨none, 0⟩, ⟨none, 0⟩]
    ledger := Ledger.reset
    net := Net.reset
    power := Power.reset
    thermal := Thermal.reset
    security := Security.reset
    link := Link.reset
    device := Device.reset
    start := Start.reset
  }

/-- The state right after reset: the device of `Dev.reset` and an empty queue. -/
def State.reset : State := { pending := [], dev := Dev.reset }

end Sys2Proof.Machine
end

