-- ==== Sys2Proof/Machine/Ops.lean ====
section
/-! DEFINITION. The named operations over the register file, the clock, the flags, the events and the commit buffer
that the meanings share (R6, R16, R26, R42–R48, R267, R273, R274, R295, R336, R338). -/

namespace Sys2Proof.Machine

/-! ### The register file -/

/-- The value at a key, or the default given. -/
def Store.get (s : Store) (key : Nat) (dflt : Value) : Value :=
  match s.find? (fun c => c.1 == key) with
  | some c => c.2
  | none => dflt

/-- The file with a cell put in its place, addresses rising. -/
def Store.insert (key : Nat) (v : Value) : Store → Store
  | [] => [(key, v)]
  | c :: rest => if key < c.1 then (key, v) :: c :: rest else c :: Store.insert key v rest

/-- The file without a key. -/
def Store.erase (s : Store) (key : Nat) : Store := s.filter fun c => c.1 != key

/-- The file with a value at a key; the default is not listed. -/
def Store.set (s : Store) (key : Nat) (dflt v : Value) : Store :=
  if v = dflt then s.erase key else Store.insert key v (s.erase key)

/-- Whether a file is in canonical form: addresses strictly rising. -/
def Store.wf (s : Store) : Bool := s.Pairwise fun a b => a.1 < b.1

/-- The default of a key, from its card; the number 0 for a key without one. -/
def dfltOf (key : Nat) : Value :=
  match cardOfKey key with
  | some c => (c.reg (key / 256) (key % 256)).dflt
  | none => .num 0

/-- The number of a value (R318). -/
def Value.toNat : Value → Nat
  | .num n => n
  | .bytes b => ofBe b

/-- The bytes of a value whose type has `size` bytes (R6, R318). -/
def Value.toBytes (size : Nat) : Value → List Byte
  | .num n => beBytes size n
  | .bytes b => b

/-- The running value of a register. -/
def Dev.get (d : Dev) (r : Reg) : Value := d.live.get r.key r.dflt

/-- The running value of a register as a number. -/
def Dev.u (d : Dev) (r : Reg) : Nat := (d.get r).toNat

/-- The running value of a register as a signed number. -/
def Dev.i (d : Dev) (r : Reg) : Int := signed (8 * r.size) (d.u r)

/-- The running value of an F32 register. -/
def Dev.f (d : Dev) (r : Reg) : F32 := BitVec.ofNat 32 (d.u r)

/-- The running value of an F64 register. -/
def Dev.f64 (d : Dev) (r : Reg) : F64 := BitVec.ofNat 64 (d.u r)

/-- The running value of a BOOL register. -/
def Dev.on (d : Dev) (r : Reg) : Bool := d.u r != 0

/-- The running value of a register as bytes. -/
def Dev.b (d : Dev) (r : Reg) : List Byte := (d.get r).toBytes r.size

/-- Sets the running value of a register. -/
def Dev.set (r : Reg) (v : Value) (d : Dev) : Dev := { d with live := d.live.set r.key r.dflt v }

/-- Sets a register to a number, taken modulo its width. -/
def Dev.put (r : Reg) (n : Nat) (d : Dev) : Dev := d.set r (.num (n % 256 ^ r.size))

/-- Sets a register to a signed number. -/
def Dev.putI (r : Reg) (i : Int) (d : Dev) : Dev := d.set r (.num (unsigned (8 * r.size) i))

/-- Sets an F32 register. -/
def Dev.putF (r : Reg) (x : F32) (d : Dev) : Dev := d.set r (.num x.toNat)

/-- Sets an F64 register. -/
def Dev.putF64 (r : Reg) (x : F64) (d : Dev) : Dev := d.set r (.num x.toNat)

/-- Sets a BOOL register. -/
def Dev.putOn (r : Reg) (b : Bool) (d : Dev) : Dev := d.set r (.num (flag b))

/-- Sets a BLOB, STR or RECORD register. -/
def Dev.putB (r : Reg) (b : List Byte) (d : Dev) : Dev := d.set r (.bytes b)

/-- Adds to a counter, modulo its width. -/
def Dev.add (r : Reg) (n : Nat) (d : Dev) : Dev := d.put r (d.u r + n)

/-- Adds one to a counter. -/
def Dev.bump (r : Reg) (d : Dev) : Dev := d.add r 1

/-- Sets the running value of a key, its default taken from the card table. -/
def Dev.setKey (w : Write) (d : Dev) : Dev := { d with live := d.live.set w.key (dfltOf w.key) w.value }

/-- The committed value of a key (R299), written at a seal: a copy record stays listed whatever its value. -/
def Dev.commitKey (w : Write) (d : Dev) : Dev := { d with nvm := Store.insert w.key w.value (d.nvm.erase w.key) }

/-- The committed value of a register: its copy record, or its default (R7, R299). -/
def Dev.committed (d : Dev) (r : Reg) : Value := d.nvm.get r.key r.dflt

/-- What a read of a PC object returns: its shadow (R323). -/
def Dev.shadowOf (d : Dev) (r : Reg) : Value := d.shadow.get r.key (d.get r)

/-- The shadow of a PC object as a number. -/
def Dev.su (d : Dev) (r : Reg) : Nat := (d.shadowOf r).toNat

/-- Writes the shadow of a PC object; where it equals the running value it is not listed (R323). -/
def Dev.setShadow (w : Write) (d : Dev) : Dev :=
  { d with shadow := d.shadow.set w.key (d.live.get w.key (dfltOf w.key)) w.value }

/-- A fresh number that nothing constrains (log 6). -/
def Dev.freshNat (d : Dev) : Nat := Config.freeNat d.device.fresh

/-- A fresh integer that nothing constrains (log 6). -/
def Dev.freshInt (d : Dev) : Int := Config.freeInt d.device.fresh

/-- The counter of free values moved on, so that the next one is another. -/
def Dev.tickFresh (d : Dev) : Dev := { d with device := { d.device with fresh := d.device.fresh + 1 } }

/-! ### The clock -/

/-- Ticks in a millisecond and in a second (R26). -/
def msTicks : Nat := 65536
def secTicks : Nat := 65536000

/-- Ticks in a stroke period of k units of 125 µs (R27). -/
def periodTicks (k : Nat) : Nat := 8192 * k

/-- The tick count at which course time wraps: the first whose nanoseconds reach 2 ^ 64 (R26, R31; log 3). -/
def courseModulus : Nat := ceilDiv (2 ^ 74) 15625

/-- Nanoseconds of a tick count, truncated (R26). -/
def nsOfTicks (t : Nat) : Nat := t * 15625 / 1024

/-- The tick count nearest to a number of nanoseconds, halves to even (R26). -/
def ticksOfNs (ns : Nat) : Nat := nearestEven (ns * 1024) 15625

/-- Ticks of the course clock in one period of the 32.768 kHz oscillator: 30.5 µs (R47). -/
def stowTicks : Nat := 2000

/-- Course time in ticks as the device has it: in STOW it moves with the 32.768 kHz oscillator (R47). -/
def Dev.courseTicks (d : Dev) : Nat :=
  if d.power.mode = .stow then
    (d.course.ticks + courseModulus - (d.course.elapsed - d.power.asleepAt) % stowTicks) % courseModulus
  else d.course.ticks

/-- Course time as reported: whole nanoseconds (R26). -/
def Dev.courseNs (d : Dev) : Nat := nsOfTicks d.courseTicks % 2 ^ 64

/-- Time passes: n ticks on every clock, discipline counted while LOCKED (R26, R41, R43). -/
def Dev.advance (n : Nat) (d : Dev) : Dev :=
  if n = 0 then d else
    { d with
      course := { d.course with
        now := d.course.now + n
        elapsed := d.course.elapsed + n
        ticks := (d.course.ticks + n) % courseModulus
        disc := if d.course.sync = .locked then d.course.disc + n else d.course.disc }
      device := { d.device with setNow := [], clearedNow := [] } }

/-- Time passes up to an instant of elapsed time, if that lies ahead (log 1). -/
def Dev.advanceTo (t : Nat) (d : Dev) : Dev := d.advance (t - d.course.elapsed)

/-- Whether the sync state is one of those whose course has a source's time (R42). -/
def SyncState.code : SyncState → Nat
  | .unset => 0
  | .acquiring => 1
  | .locked => 2
  | .holdover => 3
  | .free => 4
  | .rc => 5

/-- The SOURCE code of the sync-quality field (R48). -/
def qualityCode (src : Source) (p : RingPort) : Nat :=
  match src with
  | .ptpRing => if p = .A then 1 else 2
  | .ptpS => 3
  | .pps => 4
  | .loopMarker => 5

/-- DISCIPLINED_TIME in seconds (R43). -/
def Dev.disciplined (d : Dev) : Nat := d.course.disc / secTicks

/-- Growth of a bound in ns at `ns` per `period` ticks over `n` ticks, rounded up (R44). -/
def growth (ns period n : Nat) : Nat := ceilDiv (ns * n) period

/-- The HOLDOVER rate of R44 over `n` ticks. -/
def holdoverGrowth (disc n : Nat) : Nat :=
  growth (if 86400 * secTicks ≤ disc then 20000 else 100000) (3600 * secTicks) n

/-- The bound on the offset of a filtered offset f that LOCKED never goes below (R518), with the part's own addition. -/
def lockedBound (f : Int) (extra : Nat) : Nat := f.natAbs + 50 + extra

/-- Growth of the bound in ns over the sleep or holdup that runs (R47, R428): at the HOLDOVER rate in DOZE, by 50 µs a second
in STOW and in holdup. -/
def Dev.asleepGrowth (d : Dev) : Nat :=
  let n := d.course.elapsed - d.power.asleepAt
  match d.power.mode with
  | .doze => holdoverGrowth d.course.disc n
  | .stow | .holdup => growth 50000 secTicks n
  | _ => 0

/-- The instant up to which the bound grows by its state: now, or the beginning of the sleep or holdup that runs. -/
def Dev.boundUntil (d : Dev) : Nat :=
  match d.power.mode with
  | .doze | .stow | .holdup => d.power.asleepAt
  | _ => d.course.elapsed

/-- ERROR_BOUND in ns (R44, R47), none while unbounded. -/
def Dev.errorBound (d : Dev) : Option Nat :=
  let c := d.course
  let n := d.boundUntil - c.since
  let slept := c.sleepGrowth + d.asleepGrowth
  match c.sync with
  | .unset => none
  | .acquiring => some (c.filtered.natAbs + 1000)
  | .locked =>
    if c.active = some .loopMarker then
      let k := d.boundUntil - c.marker.getD c.since
      some (2000000 + slept +
        (if 3600 * secTicks ≤ c.disc then holdoverGrowth c.disc k else growth 1800000 (3600 * secTicks) k))
    else some (lockedBound c.filtered c.lockedExtra + slept)
  | .holdover => c.boundEntry.map fun b => b + slept + holdoverGrowth c.discAtEntry n
  | .free => c.boundEntry.map fun b => b + slept + growth 1800000 (3600 * secTicks) n
  | .rc => c.boundEntry.map fun b => b + slept + growth 20000000 secTicks n

/-- BOUND of the sync-quality field (R48). -/
def boundCode (b : Option Nat) : Nat :=
  match b with
  | none => 255
  | some n => if n ≤ 1 then 0 else min 255 (ceilLog2 (n ^ 4))

/-- The SOURCE code in force: the active source, or the last one in HOLDOVER and FREE (R48). -/
def Dev.sourceCode (d : Dev) : Nat :=
  match d.course.active with
  | some s => qualityCode s d.course.ringPort
  | none => if d.course.sync = .holdover ∨ d.course.sync = .free then d.course.lastCode else 0

/-- Whether strokes come from the angle course (R54). -/
def Dev.angle (d : Dev) : Bool := d.u Obj.STROKE_MODE == 1

/-- The sync-quality field (R48); STROKE_MODE alone gives ANGLE, fallback strokes or not (DESIGN CHOICE, log 69). -/
def Dev.syncQuality (d : Dev) : Nat :=
  d.sourceCode * 2 ^ 13 + d.course.sync.code * 2 ^ 10 + flag d.angle * 2 ^ 9 + flag d.course.arb * 2 ^ 8 +
    boundCode d.errorBound

/-! ### Flags and events -/

/-- Whether a flag counts as set before now: set, or cleared in this very tick (R336). -/
def Dev.flagWas (d : Dev) (r : Reg) (k : Nat) : Bool :=
  bit (d.u r) k || d.device.clearedNow.contains (r.key, k)

/-- Sets a flag and remembers that it was set in this tick (R335, R336). -/
def Dev.setFlag (r : Reg) (k : Nat) (d : Dev) : Dev :=
  let d := d.put r (setBit (d.u r) k)
  { d with device := { d.device with setNow := (r.key, k) :: d.device.setNow } }

/-- Clears the flags written 1, but those set in this tick (R336). -/
def Dev.clearFlags (r : Reg) (mask : Nat) (d : Dev) : Dev :=
  let ks := (bitList 16 mask).filter fun k => bit (d.u r) k && !d.device.setNow.contains (r.key, k)
  let d := { d with device := { d.device with clearedNow := ks.map (fun k => (r.key, k)) ++ d.device.clearedNow } }
  d.put r (ks.foldl clearBit (d.u r))

/-- The bytes of an event's data items. -/
def u8 (n : Nat) : List Byte := beBytes 1 n
def u16 (n : Nat) : List Byte := beBytes 2 n
def u32 (n : Nat) : List Byte := beBytes 4 n
def u64 (n : Nat) : List Byte := beBytes 8 n
def f32b (x : F32) : List Byte := beBytes 4 x.toNat

/-- The code of an entry type (R266). -/
def EntryType.code : EntryType → Nat
  | .command => 0
  | .record => 1
  | .event => 2
  | .catch => 3
  | .attest => 4

/-- Bytes of an entry as stored: 24 of header, the payload, 4 of CRC (R266). -/
def Entry.size (e : Entry) : Nat := 28 + e.payload.length

/-- The VALUE of a copy record (R299). -/
def Write.valueBytes (w : Write) : List Byte :=
  w.value.toBytes (match cardOfKey w.key with | some c => c.ty.size | none => 4)

/-- Bytes of a copy record with a value (R299). -/
def Write.size (w : Write) : Nat := 14 + w.valueBytes.length

/-- The COPY pairs a record spans (R299). -/
def Write.pairs (w : Write) : Nat := ceilDiv w.size 60

/-- The entries of an item. -/
def Item.entries : Item → List Entry
  | .entry e => [e]
  | .request _ es _ => es
  | _ => []

/-- The copy records of an item. -/
def Item.copies : Item → List Write
  | .request _ _ c => c
  | .internal _ c => c
  | .applyPart _ c => c
  | _ => []

/-- LOG bytes of a client table checkpoint and of an acknowledgement note (R303; log 23). -/
def checkpointBytes : Nat := 16 * 46 + 4
def noteBytes : Nat := 16

/-- Bytes an item takes in the LOG (R303, R304). -/
def Item.logBytes : Item → Nat
  | .acked .. => noteBytes
  | .checkpoint .. => checkpointBytes
  | i => (i.entries.map Entry.size).sum

/-- Bytes an item takes in the commit buffer (R295). -/
def Item.bytes : Item → Nat
  | .ring .. => 60
  | .selector .. => 15
  | i => i.logBytes + (i.copies.map Write.size).sum

/-- Bytes in the commit buffer. -/
def Dev.bufferFill (d : Dev) : Nat := (d.ledger.buffer.map Item.bytes).sum

/-- Whether the buffer has room for some bytes (R295). -/
def Dev.bufferRoom (d : Dev) (n : Nat) : Bool := d.bufferFill + n ≤ 16384

/-- The rate-counted entries of a stream that wait in the buffer (R273). -/
def Dev.waiting (d : Dev) (stream : Nat) : Nat :=
  ((d.ledger.buffer.flatMap Item.entries).filter fun e =>
    e.stream == stream && (e.type == .record || e.type == .command || e.type == .event)).length

/-- The rate count of a stream (R273). -/
def Dev.rateCount (d : Dev) (stream : Nat) : Nat := d.waiting stream + (d.ledger.rate.getD stream []).length

/-- Whether some entries of a stream would be refused at source (R273, R305). -/
def Dev.refusedAtSource (d : Dev) (stream n bytes : Nat) (held : Bool) : Bool :=
  d.u (Obj.STREAM_RATE_MAX stream) < d.rateCount stream + n ||
    d.u (Obj.STREAM_BURST stream) < d.ledger.burst.getD stream 0 + n ||
    !d.bufferRoom bytes || held

/-- The pages of the LOG in service (R292, R308). -/
def Dev.logPages (d : Dev) : Nat := d.u (Obj.REGION_PAGES 3)

/-- Whether a subscription is enabled on a stream and has not yet a committed acknowledgement at a position
(R304). -/
def Dev.unacked (d : Dev) (stream pos : Nat) : Bool :=
  (List.range 16).any fun u =>
    d.on (Obj.SUB_ENABLE u) && d.u (Obj.SUB_STREAM u) == stream &&
      (match d.ledger.subs[u]? with
       | some s => serialCmp s.committed pos 48 == .before
       | none => false)

/-- Whether an item of the LOG is unreleased (R303, R304): an unacknowledged entry, the newest entry of a stream, the
newest CATCH entry of a stream, the newest note of a subscription, the newest checkpoint. -/
def Dev.unreleased (d : Dev) (i : LogItem) : Bool :=
  match i.content with
  | .entry p e =>
    d.unacked e.stream p ||
      !(d.ledger.log.any fun j => match j.content with
        | .entry q f => f.stream == e.stream && serialCmp p q 48 == .before
        | _ => false) ||
      (e.type == .catch && !(d.ledger.log.any fun j => match j.content with
        | .entry q f => f.stream == e.stream && f.type == .catch && serialCmp p q 48 == .before
        | _ => false))
  | .acked u _ =>
    !(d.ledger.log.any fun j => j.first > i.first && (match j.content with | .acked v _ => v == u | _ => false))
  | .checkpoint _ =>
    !(d.ledger.log.any fun j => j.first > i.first && (match j.content with | .checkpoint _ => true | _ => false))

/-- The pages that unreleased structures hold, as places in the order of the LOG (R304, R305). -/
def Dev.unreleasedAt (d : Dev) : List Nat := ((d.ledger.log.filter d.unreleased).flatMap LogItem.pages).eraseDups

/-- The LOG pages that hold unreleased structures (R305). -/
def Dev.unreleasedPages (d : Dev) : Nat :=
  d.unreleasedAt.length

/-- LOG_FULL: the unreleased pages exceed LOG_FULL_PCT of the LOG (R305). -/
def Dev.logFull (d : Dev) : Bool := d.u Obj.LOG_FULL_PCT * d.logPages < d.unreleasedPages * 100

/-- Whether the LOG holds an unreleased entry of a stream (R305). -/
def Dev.hasUnreleased (d : Dev) (stream : Nat) : Bool :=
  d.ledger.log.any fun i => d.unreleased i && match i.content with | .entry _ e => e.stream == stream | _ => false

/-- Whether LOG_FULL refuses a stream at source (R305). -/
def Dev.heldByLog (d : Dev) (stream : Nat) : Bool := d.logFull && d.hasUnreleased stream

/-- An item added to the end of the commit buffer, which has room for it. -/
def Dev.buffer (i : Item) (d : Dev) : Dev :=
  { d with ledger := { d.ledger with buffer := d.ledger.buffer ++ [i] } }

/-- An item handed to the buffer that is not refused at source (R273, R295): it waits for room, behind those that wait. -/
def Dev.bufferWait (i : Item) (d : Dev) : Dev :=
  { d with ledger :=
    if d.ledger.outside.isEmpty && d.bufferRoom i.bytes then { d.ledger with buffer := d.ledger.buffer ++ [i] }
    else { d.ledger with outside := d.ledger.outside ++ [i] } }

/-- The waiting items that the buffer has room for, taken in order. -/
def takeWaiting : Nat → List Item → List Item
  | _, [] => []
  | fill, i :: rest => if fill + i.bytes ≤ 16384 then i :: takeWaiting (fill + i.bytes) rest else []

/-- An item as it enters the buffer: an entry carries the time and the sync-quality of that tick (R266). -/
def Item.entered (time sync : Nat) : Item → Item
  | .entry e => .entry { e with time := time, sync := sync }
  | i => i

/-- What waits for room goes into the buffer as far as it has room (R266, R273, R295). -/
def Dev.drainOutside (d : Dev) : Dev :=
  let l := takeWaiting d.bufferFill d.ledger.outside
  { d with ledger := { d.ledger with
    buffer := d.ledger.buffer ++ l.map (Item.entered d.courseNs d.syncQuality)
    outside := d.ledger.outside.drop l.length
    burst := (l.flatMap Item.entries).foldl (fun b e => b.modify e.stream (· + 1)) d.ledger.burst } }

/-- The items handed over and not sealed, those that wait for room behind the buffer's. -/
def Dev.handedOver (d : Dev) : List Item := d.ledger.buffer ++ d.ledger.outside

/-- Counts entries taken into the buffer in the present stroke (R273). -/
def Dev.countBurst (stream n : Nat) (d : Dev) : Dev :=
  { d with ledger := { d.ledger with burst := d.ledger.burst.modify stream (· + n) } }

/-- Whether an entry of a stream is formed UNATTESTED (R478). -/
def Dev.unattested (d : Dev) (stream : Nat) : Bool :=
  d.u (Obj.ATTEST_WINDOW stream) == 0 || d.u Obj.IDENTITY_STATE == 0 || d.u Obj.IDENTITY_STATE == 3

/-- An entry stamped at the present tick (R266); UNATTESTED is set at its formation (R478). -/
def Dev.stamp (d : Dev) (t : EntryType) (stream : Nat) (payload : List Byte) : Entry :=
  ⟨t, stream, d.courseNs, d.syncQuality, 0, payload⟩

/-- An entry as it is formed with its group: UNATTESTED in bit 0 of its FLAGS (R478). -/
def Dev.formed (d : Dev) (e : Entry) : Entry :=
  if d.unattested e.stream then { e with flags := setBit e.flags 0 } else { e with flags := clearBit e.flags 0 }

/-- An item whose entries are changed. -/
def Item.mapEntries (f : Entry → Entry) : Item → Item
  | .entry e => .entry (f e)
  | .request p es copies => .request p (es.map f) copies
  | i => i

/-- An entry that has passed R273 goes into the buffer. -/
def Dev.bufferEntry (e : Entry) (d : Dev) : Dev := (d.buffer (.entry e)).countBurst e.stream 1

/-- Hands an entry that is never refused at source to the buffer (R273: CATCH, location, ATTEST): it waits for room. -/
def Dev.waitEntry (e : Entry) (d : Dev) : Dev :=
  if d.ledger.outside.isEmpty && d.bufferRoom e.size then d.bufferEntry e else d.bufferWait (.entry e)

/-- The payload of an EVENT entry (R267). -/
def eventPayload (code : Nat) (data : List Byte) : List Byte := u16 code ++ u8 data.length ++ u8 0 ++ data

/-- Counts an event and keeps it as EVENT_LAST (R338). -/
def Dev.countEvent (code : Nat) (data : List Byte) (d : Dev) : Dev :=
  (d.bump Obj.EVENT_COUNT).putB Obj.EVENT_LAST (u64 d.courseNs ++ eventPayload code data)

/-- Records an event as an entry where EVENT_MASK says so; false where it is refused at source (R273, R274). -/
def Dev.recordEvent (code : Nat) (data : List Byte) (d : Dev) : Dev × Bool :=
  if !bit (d.u Obj.EVENT_MASK) (code / 4096) then (d, true) else
    let stream := d.u Obj.EVENT_STREAM
    let e := d.stamp .event stream (eventPayload code data)
    if d.refusedAtSource stream 1 e.size (d.heldByLog stream) then (d.bump (Obj.STREAM_REFUSED stream), false)
    else (d.bufferEntry e, true)

/-- An event that is counted and recorded, its own refusal not yet reported. -/
def Dev.raiseOnce (code : Nat) (data : List Byte) (d : Dev) : Dev × Bool :=
  (d.countEvent code data).recordEvent code data

/-- The report of a refusal at source (R273): the flag, and event 0x5001 for the first since the flag was clear. -/
def Dev.reportRefused (stream type : Nat) (d : Dev) : Dev :=
  if d.flagWas Obj.ENTRY_FLAGS 0 then d.setFlag Obj.ENTRY_FLAGS 0
  else ((d.setFlag Obj.ENTRY_FLAGS 0).raiseOnce 0x5001 (u8 stream ++ u8 type)).1

/-- Raises an event now, with its entry (R273, R274, R338). -/
def Dev.raiseNow (code : Nat) (data : List Byte) (d : Dev) : Dev :=
  let r := d.raiseOnce code data
  if r.2 then r.1 else r.1.reportRefused (d.u Obj.EVENT_STREAM) 2

/-- Raises an event; before t_R the keeper holds it (R338). -/
def Dev.raise (code : Nat) (data : List Byte) (d : Dev) : Dev :=
  if d.start.recovered then d.raiseNow code data
  else { d with device := { d.device with heldEvents := d.device.heldEvents ++ [(code, data)] } }

/-- Sets a flag and raises its event. -/
def Dev.flagRaise (r : Reg) (k code : Nat) (data : List Byte) (d : Dev) : Dev := (d.setFlag r k).raise code data

/-- Sets a flag; the first setting since it was clear raises the event (R336). -/
def Dev.flagFirst (r : Reg) (k code : Nat) (data : List Byte) (d : Dev) : Dev :=
  if d.flagWas r k then d.setFlag r k else (d.setFlag r k).raise code data

/-- Adds a reply to what the command gives out (R340). -/
def Dev.reply (r : Reply) (d : Dev) : Dev := { d with device := { d.device with replies := d.device.replies ++ [r] } }

/-- The reply to a request with no operation to name. -/
def Dev.answer (rq : Request) (status detail : Nat) (d : Dev) : Dev :=
  d.reply ⟨rq.via, rq.client.toNat, rq.id.toNat, status, detail, 255, []⟩

/-- The reply of a request whose operation at a position decides it, with the values that its reads returned. -/
def Dev.answerAt (rq : Request) (status detail pos : Nat) (values : List (List Byte)) (d : Dev) : Dev :=
  d.reply ⟨rq.via, rq.client.toNat, rq.id.toNat, status, detail, if status = 0 then 255 else pos,
    if status = 0 then values else []⟩

/-- The same reply to a request and to those who joined it (R278). -/
def Dev.answerAll (rq : Request) (joined : List Via) (status detail pos : Nat) (values : List (List Byte)) (d : Dev) : Dev :=
  (rq.via :: joined).foldl (fun d v => d.answerAt { rq with via := v } status detail pos values) d

/-- Hands an internal persistent write to the buffer (R295). -/
def Dev.bufferInternal (on : OnSeal) (copies : List Write) (d : Dev) : Dev := d.bufferWait (.internal on copies)

/-- A persistent write of one number. -/
def Reg.write (r : Reg) (n : Nat) : Write := ⟨r.key, .num (n % 256 ^ r.size)⟩

/-- A persistent write of bytes. -/
def Reg.writeB (r : Reg) (b : List Byte) : Write := ⟨r.key, .bytes b⟩

/-- Why a check refuses an operation: its status and detail (R340). -/
structure Fail where
  status : Nat
  detail : Nat
deriving DecidableEq, Repr

/-- 0x04 RANGE with a conflict value. -/
def failRange (detail : Nat) : Option Fail := some ⟨0x04, detail⟩
/-- 0x05 ACCESS with its reason and the level required (R340). -/
def failAccess (reason level : Nat) : Option Fail := some ⟨0x05, reason * 2 ^ 24 + level⟩

/-- A refusal 0x05 ACCESS names the level that the operation requires, where it names none yet (R340). -/
def Fail.withLevel (level : Nat) (f : Fail) : Fail :=
  if f.status = 0x05 ∧ f.detail % 256 = 0 then { f with detail := f.detail + level } else f
/-- 0x07 BUSY. -/
def failBusy : Option Fail := some ⟨0x07, 0⟩
/-- 0x08 ADMISSION with the conflict value. -/
def failAdmission (detail : Nat) : Option Fail := some ⟨0x08, detail⟩

/-- The code of a device state (R329). -/
def DeviceState.code : DeviceState → Nat
  | .starting => 0
  | .run => 1
  | .hold => 2
  | .config => 3
  | .service => 4
  | .safe => 5

/-- The state of a code (R329). -/
def DeviceState.ofCode : Nat → Option DeviceState
  | 0 => some .starting
  | 1 => some .run
  | 2 => some .hold
  | 3 => some .config
  | 4 => some .service
  | 5 => some .safe
  | _ => none

/-- The detail of a STATE refusal (R340): the present state and the pending target. -/
def Dev.stateDetail (d : Dev) : Nat :=
  (match d.device.pending with | some p => p.target.code | none => 0xFF) * 256 + d.device.state.code

/-- 0x06 STATE. -/
def Dev.failState (d : Dev) : Option Fail := some ⟨0x06, d.stateDetail⟩

/-- The first failure of two checks. -/
def orFail (a b : Option Fail) : Option Fail := match a with | some f => some f | none => b

/-- A failure if a condition holds. -/
def failIf (c : Bool) (f : Option Fail) : Option Fail := if c then f else none

/-- Whether the blocks are stopped: asleep, off, in holdup or waking (R415, R421, R423, R427), or in thermal shutdown
(R447). -/
def Dev.stopped (d : Dev) : Bool := d.power.mode != .on || d.thermal.shutdown.isSome

/-- Runs a function on the state if a condition holds. -/
def Dev.when (c : Bool) (f : Dev → Dev) (d : Dev) : Dev := if c then f d else d

/-! ### What ageing shows (R449, R452) -/

/-- Whether an indicator belongs to a disabled port (R449). -/
def Dev.ageApplies (d : Dev) (k : Nat) : Bool := !(decide (10 ≤ k) && decide (k ≤ 12) && !d.on (Obj.PORT_ENABLE (k - 10)))

/-- Whether the converters' indicator reads 0 days, a converter being retired (R449). -/
def Dev.spareGone (d : Dev) (k : Nat) : Bool := k == 9 && d.on Obj.RETIRED

/-- AGE_EOL_LOW90 as it reads (R449, R451). -/
def Dev.ageLow (d : Dev) (k : Nat) : Nat := if d.spareGone k then 0 else d.u (Obj.AGE_EOL_LOW90 k)

/-- AGE_EOL as it reads (R449, R451). -/
def Dev.ageEnd (d : Dev) (k : Nat) : Nat := if d.spareGone k then 0 else d.u (Obj.AGE_EOL k)

/-- AGE_STATE of an indicator: LEARNING below eight points, MAINT while AGE_EOL_LOW90 is below the threshold (R451, R452). -/
def Dev.ageState (d : Dev) (k : Nat) : Nat :=
  if !d.ageApplies k then 3
  else if (d.b (Obj.AGE_HISTORY k)).length / 8 < 8 && !d.spareGone k then 0
  else if d.ageLow k < d.u (Obj.AGE_THRESHOLD k) then 2 else 1

/-- An indicator is judged anew: entering and leaving MAINT is reported (R452). -/
def Dev.judgeAge (k : Nat) (d : Dev) : Dev :=
  let was := d.u (Obj.AGE_STATE k) == 2
  let st := d.ageState k
  let d := d.put (Obj.AGE_STATE k) st
  let d := d.when (st == 2 && !was) (Dev.flagRaise Obj.THERM_FLAGS 7 0x7008 (u8 k ++ u32 (d.ageLow k)))
  d.when (st != 2 && was) (Dev.raise 0x7009 (u8 k))

/-- Whether a converter measures for the reference check (R455). -/
def Dev.refMeasures (d : Dev) (c : Nat) : Bool := match d.thermal.refRun with | some r => r.1 == c | none => false

end Sys2Proof.Machine
end

