-- ==== Sys2Proof/Machine/Elements.lean ====
section
/-! DEFINITION. Elements, their status and stamps, operation words, operands and parameter blocks (R159–R173). -/

namespace Sys2Proof.Machine

/-! ### Status (R169–R171) -/

/-- The category codes of R170. -/
def catS : Nat := 2
def catC : Nat := 3
def catF : Nat := 4

/-- The status of an element produced from others: the highest category, and of its causes the lowest (R169). -/
def worse (s t : Nat × Nat) : Nat × Nat :=
  if t.1 < s.1 then s else if s.1 < t.1 then t else (s.1, min s.2 t.2)

/-- The status pair of an element. -/
def Element.st (e : Element) : Nat × Nat := (e.cat, e.cause)

/-- Whether an element has status F. -/
def Element.failed (e : Element) : Bool := e.cat == catF

/-- An element with a status beside its own (R169). -/
def Element.mark (cat cause : Nat) (e : Element) : Element :=
  let w := worse e.st (cat, cause)
  { e with cat := w.1, cause := w.2 }

/-- An element with the status of another beside its own, and its limit bits (R167, R169). -/
def Element.joined (e f : Element) : Element :=
  { e.mark f.cat f.cause with limLo := e.limLo || f.limLo, limHi := e.limHi || f.limHi }

/-- An element with the status of some others (R169). -/
def Element.joinAll (e : Element) (l : List Element) : Element := l.foldl Element.joined e

/-- A result in an element's place: a non-finite one has status F with cause 0x08 (R168). -/
def Element.result (y : F32) (e : Element) : Element :=
  if F32.isFinite y then { e with value := y, code := none }
  else { e with value := y, code := none, cat := catF, cause := 0x08 }

/-- PV_STATUS of an element (R170). -/
def Element.status (e : Element) : Nat :=
  e.cat * 2 ^ 13 + flag e.limHi * 2 ^ 11 + flag e.limLo * 2 ^ 10 + e.cause % 256

/-- STALE of PV_STATUS (R170). -/
def staleBit : Nat := 12

/-- The category and the cause of a PV_STATUS word. -/
def catOf (status : Nat) : Nat := bits status 15 13
def causeOf (status : Nat) : Nat := bits status 7 0

/-- A PV_STATUS word with a status beside its own (R169, R172). -/
def markStatus (cat cause status : Nat) : Nat :=
  let w := worse (catOf status, causeOf status) (cat, cause)
  w.1 * 2 ^ 13 + bits status 12 8 * 2 ^ 8 + w.2

/-- The stamp of a mean instant: the mean of some stamps, with the sync-quality of the last element at or before it. -/
def Element.meanStamp (l : List Element) (e : Element) : Element :=
  let n := max 1 l.length
  let at' := (l.map fun x => x.instant).sum / n
  let sync := match (l.filter fun x => decide (x.instant ≤ at')).getLast? with
    | some x => x.sync
    | none => e.sync
  { e with instant := at', time := (l.map fun x => x.time).sum / n, sync := sync }

/-! ### Operation words (R161, R162) -/

/-- The fields of an operation word (R161). -/
def opCode (w : Nat) : Nat := bits w 63 59
def opSrcA (w : Nat) : Nat := bits w 58 53
def opSrcB (w : Nat) : Nat := bits w 52 47
def opDst (w : Nat) : Nat := bits w 46 41
def opParam (w : Nat) : Nat := bits w 40 32
def opArg (w : Nat) : Nat := bits w 31 0

/-- The operand kinds of R162. -/
def isIn (c : Nat) : Bool := decide (1 ≤ c) && decide (c ≤ 8)
def isVec (c : Nat) : Bool := decide (0x0C ≤ c) && decide (c ≤ 0x0F)
def isScalar (c : Nat) : Bool := decide (0x10 ≤ c) && decide (c ≤ 0x1F)
def isPv (c : Nat) : Bool := decide (0x20 ≤ c) && decide (c ≤ 0x2F)
def isOut (c : Nat) : Bool := decide (0x30 ≤ c) && decide (c ≤ 0x32)

/-- The operation words of a lane's table: from OP_0 to the first END or to OP_47 (R161). -/
def tableOf (word : Nat → Nat) : List (Nat × Nat) :=
  ((List.range 48).map fun j => (j, word j)).takeWhile fun p => opCode p.2 != 0

/-! ### Parameter blocks (R164, R6) -/

/-- The F32 field k of a block. -/
def blockF (b : List Byte) (k : Nat) : F32 := BitVec.ofNat 32 (ofBe ((b.drop (4 * k)).take 4))

/-- The U32 field k of a block. -/
def blockU (b : List Byte) (k : Nat) : Nat := ofBe ((b.drop (4 * k)).take 4)

/-- The I32 field k of a block. -/
def blockI (b : List Byte) (k : Nat) : Int := signed 32 (blockU b k)

/-- The U16 field k of a block. -/
def blockH (b : List Byte) (k : Nat) : Nat := ofBe ((b.drop (2 * k)).take 2)

/-! ### Costs (R164) -/

/-- The fixed cycles of an operation. -/
def baseCost (op : Nat) : Nat :=
  [0, 100, 100, 500, 120, 100, 160, 300, 120, 100, 100, 200, 6800, 100, 160, 80, 1200, 2600, 3200, 300, 3000].getD op 0

/-- The cycles of an operation for each element of SRC_A. -/
def perCost (op arg : Nat) : Nat :=
  match op with
  | 1 => 6
  | 2 => bits arg 2 0 + 4
  | 3 => 32
  | 4 => ceilDiv (bits arg 6 0 + 1) 2 + 4
  | 5 => 6 * (bits arg 2 0 + 1)
  | 6 => 4
  | 7 => 10
  | 8 => 4
  | 9 => 3
  | 10 => 6
  | 11 => 8
  | 12 => 12
  | 13 => 6
  | 14 => 10
  | 15 => 4
  | 19 => 4
  | _ => 0

/-- The lane overhead of a slot (R164). -/
def laneOverhead : Nat := 400

end Sys2Proof.Machine
end

