-- ==== Sys2Proof/Machine/Time.lean ====
section
/-! DEFINITION. Course time, its sources, strokes, marks, the angle course and the course alarms (chapter 02). -/

namespace Sys2Proof.Machine

/-! ### Sync states and sources (R34–R44) -/

/-- Changes the course state. -/
def Dev.setCourse (f : Course → Course) (d : Dev) : Dev := { d with course := f d.course }

/-- Seconds of history that a result can reach back (R71, R72: D is at most 2.5 s), in ticks. -/
def historyTicks : Nat := 3 * secTicks

/-- Keeps of a history, newest first, what reaches back to an instant: one entry at or before it, and all after. -/
def keepBack {α : Type} (start : α → Nat) (t : Nat) : List α → List α
  | [] => []
  | a :: rest => if start a ≤ t then [a] else a :: keepBack start t rest

/-- Notes the sync-quality field where it has changed (R48, R170). -/
def Dev.noteQuality (d : Dev) : Dev :=
  let q := d.syncQuality
  if (d.course.qualities.head?.map Prod.snd) = some q then d
  else d.setCourse fun c => { c with
    qualities := keepBack Prod.fst (c.elapsed - historyTicks) ((c.elapsed, q) :: c.qualities) }

/-- The sync-quality field at a past instant (R170, log 8). -/
def Dev.qualityAt (d : Dev) (t : Nat) : Nat :=
  match d.course.qualities.find? fun p => decide (p.1 ≤ t) with
  | some p => p.2
  | none => d.syncQuality

/-- Notes ERROR_BOUND at a stroke boundary where it has changed (R192). -/
def Dev.noteBound (d : Dev) : Dev :=
  let b := d.errorBound
  if (d.course.bounds.head?.map Prod.snd) = some b then d
  else d.setCourse fun c => { c with
    bounds := keepBack Prod.fst (c.elapsed - historyTicks) ((c.elapsed, b) :: c.bounds) }

/-- ERROR_BOUND at the boundary of the stroke that holds a past instant (R192). -/
def Dev.boundAt (d : Dev) (t : Nat) : Option Nat :=
  match d.course.bounds.find? fun p => decide (p.1 ≤ t) with
  | some p => p.2
  | none => d.errorBound

/-- The segment that holds a past instant. -/
def Dev.segmentAt (d : Dev) (t : Nat) : Segment :=
  match d.course.segments.find? fun s => decide (s.start ≤ t) with
  | some s => s
  | none => ⟨d.course.elapsed, d.course.ticks, 0⟩

/-- Course time in ticks at a past instant. -/
def Dev.ticksAt (d : Dev) (t : Nat) : Nat :=
  let s := d.segmentAt t
  (s.ticks + courseModulus * (s.start / courseModulus + 1) + t - s.start) % courseModulus

/-- Course time in nanoseconds at a past instant (R75). -/
def Dev.nsAt (d : Dev) (t : Nat) : Nat := nsOfTicks (d.ticksAt t) % 2 ^ 64

/-- The start of the stroke that contains an instant; in a stretched stroke, start plus P from there on (R111). -/
def Dev.strokeOf (d : Dev) (t : Nat) : Nat :=
  let s := d.segmentAt t
  if s.period = 0 || t < s.start then s.start else t - (t - s.start) % s.period

/-- The state of a source. -/
def Dev.source (d : Dev) (src : Source) : SourceState := d.course.sources.getD (src.code - 1) ⟨false, 0, none, none⟩

/-- Changes the state of a source. -/
def Dev.setSource (src : Source) (f : SourceState → SourceState) (d : Dev) : Dev :=
  d.setCourse fun c => { c with sources := c.sources.modify (src.code - 1) f }

/-- Enters a sync state (R42): bound and DISCIPLINED_TIME at entry are kept, DISCIPLINED_TIME restarts at FREE and at
ACQUIRING from UNSET, FREE or RC (R43); the flags and events of HOLDOVER, FREE and RC. -/
def Dev.enterSync (st : SyncState) (d : Dev) : Dev :=
  let b := d.errorBound
  let was := d.course.sync
  let unsynced := was == .unset || was == .free || was == .rc
  let restart := st == .free || (st == .acquiring && unsynced)
  let disc := if restart then 0 else d.course.disc
  let d := d.setCourse fun c => { c with
    sync := st
    boundEntry := b
    since := c.elapsed
    disc := disc
    discAtEntry := disc
    good := 0
    bad := 0
    sleepGrowth := 0
    fromUnsynced := if st == .acquiring then (if was == .acquiring then c.fromUnsynced else unsynced) else false }
  let d := { d with engine := { d.engine with skipped := if was = SyncState.unset then d.engine.skipped else 0 } }
  let d := d.noteQuality
  match st with
  | .holdover => d.flagRaise Obj.COURSE_FLAGS 3 0xA005 []
  | .free => d.flagRaise Obj.COURSE_FLAGS 4 0xA006 []
  | .rc => d.flagRaise Obj.COURSE_FLAGS 10 0xA00C []
  | _ => d

/-- The source codes of the priority list, first first (R38). -/
def Dev.prioList (d : Dev) : List Nat := (List.range 5).map fun j => d.u (Obj.SOURCE_PRIO j)

/-- The first qualified source of the priority list (R38). -/
def Dev.firstQualified (d : Dev) : Option Source :=
  d.prioList.findSome? fun k => match Source.ofCode k with
    | some s => if (d.source s).qualified then some s else none
    | none => none

/-- Whether a source's time of day is on the ARB timescale (R35). -/
def Dev.arbOf (d : Dev) : Source → Bool
  | .ptpRing => d.course.arbRing
  | .ptpS => d.course.arbS
  | _ => false

/-- Whether STEP_POLICY permits a step now (R39). -/
def Dev.stepPermitted (d : Dev) : Bool :=
  match d.u Obj.STEP_POLICY with
  | 0 => true
  | 1 => d.course.sync == .unset || d.course.sync == .free || d.course.sync == .rc ||
      (d.course.sync == .acquiring && d.course.fromUnsynced)
  | _ => false

/-- Nanoseconds as the nearest whole number of ticks, halves to even (R26). -/
def ticksOfOffset (off : Int) : Int := if off < 0 then -(ticksOfNs off.natAbs : Int) else ticksOfNs off.natAbs

/-- The range of the frequency correction in units of 1e-12: ±200 ppm (R33). -/
def freqRange : Int := 200000000

/-- What a slew adds to the disciplined frequency (R33, R39, R518): towards the offset, at most SLEW_MAX, and not out of
the range of R33; how much of it is a free value (log 6). -/
def Dev.slewFor (d : Dev) (off : Int) : Int :=
  let most : Int := d.u Obj.SLEW_MAX * 1000000
  let rate := clampInt 0 most d.freshInt
  let f := d.i Obj.FREQ_ADJ
  if off = 0 then 0
  else if off < 0 then max (f - rate) (-freqRange) - f
  else min (f + rate) freqRange - f

/-- A measured offset is corrected (R39): by a step at the next boundary, or by a slew. -/
def Dev.correctOffset (off : Int) (d : Dev) : Dev :=
  if d.u Obj.STEP_LIMIT < off.natAbs && d.stepPermitted then
    d.setCourse fun c => { c with step := some (.byOffset (ticksOfOffset off)) }
  else
    let r := d.slewFor off
    d.tickFresh.setCourse fun c => { c with slewOffset := off, slewRate := r }

/-- The offset is measured after a selection (R39, R44): that of the source's last sample, which the filter takes whole
(DEDUCED, log 66). -/
def Dev.measureSelected (src : Source) (d : Dev) : Dev :=
  match (d.source src).offset with
  | some off =>
    let d := (d.putI Obj.OFFSET_LAST off).setCourse fun c => { c with filtered := off }
    if d.course.step.isSome then d else d.correctOffset off
  | none => d

/-- A source becomes the active one (R36, R38, R39, R42, R518): ARB follows the source, the state is ACQUIRING unless it is RC,
the filtered offset starts anew, and the offset is measured. -/
def Dev.selectSource (src : Source) (d : Dev) : Dev :=
  let isPtp := src == .ptpRing || src == .ptpS
  let arb := if isPtp then d.arbOf src
    else if src == .pps then d.course.arb || !d.course.traced else d.course.arb
  let d := if d.course.sync = .rc then d else d.enterSync .acquiring
  let d := d.setCourse fun c => { c with
    active := some src
    lastCode := qualityCode src c.ringPort
    arb := arb
    traced := c.traced || (isPtp && !arb)
    everSet := true
    filtered := 0
    settling := none
    good := 0
    bad := 0 }
  ((d.put Obj.ACTIVE_SOURCE (qualityCode src d.course.ringPort)).measureSelected src).noteQuality

/-- A switch of the active source (R38): SOURCE_SWITCHED and event 0xA003. -/
def Dev.switchSource (src : Source) (d : Dev) : Dev :=
  (d.flagRaise Obj.COURSE_FLAGS 2 0xA003 []).selectSource src

/-- The active source is gone (R38, R42): the first qualified source takes over, or HOLDOVER or FREE is entered. -/
def Dev.loseActive (d : Dev) : Dev :=
  match d.firstQualified with
  | some s => d.switchSource s
  | none =>
    -- the bound at entry is that of the source that is lost (R44)
    let d := if d.course.sync = .acquiring ∨ d.course.sync = .locked then
        d.enterSync (if 3600 * secTicks ≤ d.course.disc then .holdover else .free)
      else d
    ((d.setCourse fun c => { c with lastCode := d.sourceCode, active := none }).put Obj.ACTIVE_SOURCE 0).noteQuality

/-- Selection after a change of the list or of a qualification (R38): with no active source the first qualified one is
selected, which is no switch; an active source taken off the list is handled as lost. -/
def Dev.reselect (d : Dev) : Dev :=
  match d.course.active with
  | none => (match d.firstQualified with | some s => d.selectSource s | none => d)
  | some a => if d.prioList.contains a.code then d else d.loseActive

/-- SOURCE_QUALIFIED (R34): the source qualifies, 0xA001 is raised, selection is looked at again. -/
def Dev.sourceQualified (src : Source) (d : Dev) : Dev :=
  if (d.source src).qualified then d else
    let d := d.setSource src fun s => { s with qualified := true, since := d.course.elapsed }
    let d := d.put Obj.SOURCE_QUALIFIED (setBit (d.u Obj.SOURCE_QUALIFIED) src.code)
    (d.raise 0xA001 (u8 src.code)).reselect

/-- Places of a source's sample series: ports A, B and S, PPS, the loop marker (R34). -/
def sourcePlaces : Source → List Nat
  | .ptpRing => [0, 1]
  | .ptpS => [2]
  | .pps => [3]
  | .loopMarker => [4]

/-- Ticks without a sample that break a series of qualifying samples: LOSS_TIME, and for PPS the longest interval of R34
(DEDUCED, log 67). -/
def Dev.seriesGap (d : Dev) (place : Nat) : Nat :=
  if place = 3 then secTicks + ceilDiv secTicks 10000 else d.u Obj.LOSS_TIME * secTicks

/-- The sample series of a place. -/
def Dev.seriesAt (d : Dev) (place : Nat) : Option Series := d.course.series.getD place none

/-- Sets the sample series of a place. -/
def Dev.setSeries (place : Nat) (s : Option Series) (d : Dev) : Dev :=
  d.setCourse fun c => { c with series := c.series.set place s }

/-- A sample is added to the series of its place (R34): it goes on where the offsets differ by less than 10 µs and no gap
broke it, and begins anew otherwise. -/
def Dev.noteSeries (place : Nat) (off : Int) (d : Dev) : Dev :=
  let now := d.course.elapsed
  let fresh : Series := ⟨now, now, off⟩
  match d.seriesAt place with
  | some s =>
    d.setSeries place (some (if (off - s.offset).natAbs < 10000 && decide (now ≤ s.last + d.seriesGap place)
      then { s with last := now, offset := off } else fresh))
  | none => d.setSeries place (some fresh)

/-- A marker is added to its series (R34): it goes on where it agrees with the marker before to within 4 ms and came within
QUAL_TIME of it. -/
def Dev.noteMarkerSeries (off : Int) (d : Dev) : Dev :=
  let now := d.course.elapsed
  d.setSeries 4 (some (match d.seriesAt 4 with
    | some s =>
      if (off - s.offset).natAbs ≤ 4000000 && decide (now ≤ s.last + d.u Obj.QUAL_TIME * secTicks)
        then ⟨s.last, now, off⟩ else ⟨now, now, off⟩
    | none => ⟨now, now, off⟩))

/-- When a series completes the qualification of its source (R34): after QUAL_TIME of unbroken samples, or at the second of
two markers that agree. -/
def Dev.seriesDue (d : Dev) (place : Nat) : Option Nat :=
  match d.seriesAt place with
  | some s =>
    if place = 4 then (if s.since < s.last then some s.last else none)
    else
      let due := s.since + d.u Obj.QUAL_TIME * secTicks
      if due ≤ s.last + d.seriesGap place then some due else none
  | none => none

/-- When a source qualifies (R34). -/
def Dev.qualifyDue (d : Dev) (src : Source) : Option Nat := ((sourcePlaces src).filterMap d.seriesDue).min?

/-- When a source is lost for want of a valid sample (R34): LOSS_TIME after the last, 600 s for markers. -/
def Dev.lossDue (d : Dev) (src : Source) : Nat :=
  match (d.source src).last with
  | some t => t + (if src = .loopMarker then 600 else d.u Obj.LOSS_TIME) * secTicks
  | none => 0

/-- SOURCE_LOST (R34, R38): a qualified source is lost, 0xA002 is raised; the active one gives way. -/
def Dev.sourceLost (src : Source) (d : Dev) : Dev :=
  if !(d.source src).qualified then d else
    let d := d.setSource src fun s => { s with qualified := false, last := none, offset := none }
    let d := (sourcePlaces src).foldl (fun d k => d.setSeries k none) d
    let d := d.put Obj.SOURCE_QUALIFIED (clearBit (d.u Obj.SOURCE_QUALIFIED) src.code)
    let d := d.setCourse fun c => match src with
      | .pps => { c with ppsEdge := none }
      | .loopMarker => { c with marker := none }
      | .ptpRing => { c with offsetsA := [], offsetsB := [] }
      | .ptpS => c
    let d := d.raise 0xA002 (u8 src.code)
    if d.course.active = some src then d.loseActive else d

/-- The qualified sources listed before the active one (R38). -/
def Dev.higherSources (d : Dev) : List Source :=
  match d.course.active with
  | none => []
  | some a => (d.prioList.takeWhile (· != a.code)).filterMap fun k => match Source.ofCode k with
      | some s => if (d.source s).qualified then some s else none
      | none => none

/-- SWITCH_HOLD_EXPIRY (R38): the higher-priority source whose SWITCH_HOLD ends first takes over when it ends. -/
def Dev.switchHoldExpiry (d : Dev) : Dev :=
  match d.higherSources with
  | [] => d
  | s :: rest =>
    let best := rest.foldl (fun b x => if (d.source x).since < (d.source b).since then x else b) s
    (d.advanceTo ((d.source best).since + d.u Obj.SWITCH_HOLD * secTicks)).switchSource best

/-- The elapsed tick at which a HOLDOVER bound first exceeds HOLDOVER_LIMIT (R42, R44). -/
def Dev.holdoverDue (d : Dev) : Nat :=
  let b := (d.course.boundEntry.getD 0) + d.course.sleepGrowth
  let rate := if 86400 * secTicks ≤ d.course.discAtEntry then 20000 else 100000
  if d.u Obj.HOLDOVER_LIMIT < b then d.course.since
  else d.course.since + (d.u Obj.HOLDOVER_LIMIT - b) * (3600 * secTicks) / rate + 1

/-- HOLDOVER_LIMIT_REACHED (R42). -/
def Dev.holdoverLimit (d : Dev) : Dev :=
  if d.course.sync = .holdover then (d.advanceTo d.holdoverDue).enterSync .free else d

/-- How far the filtered offset may lie from an offset that has stood for n ticks, where it began r away (R518): none
within PLL_TC, 37 % of r from then on, 5 % of it for every 3 × PLL_TC. -/
def settleBound (tc r n : Nat) : Option Nat :=
  if n < tc then none
  else if n < 3 * tc then some (r * 37 / 100)
  else some (r / 20 ^ min 64 (n / (3 * tc)))

/-- The offset that the filtered offset settles to, with this sample (R518). -/
def Dev.settlingWith (d : Dev) (off : Int) : Settling :=
  match d.course.settling with
  | some s => if s.offset = off then s else ⟨d.course.elapsed, d.course.filtered, off⟩
  | none => ⟨d.course.elapsed, d.course.filtered, off⟩

/-- The discipline takes a sample (R33, R518): the filtered offset, FREQ_ADJ and the further bound are free values (log 6)
within the bounds of R518 and R33. -/
def Dev.filterSample (off : Int) (d : Dev) : Dev :=
  let s := d.settlingWith off
  let f := match settleBound (d.u Obj.PLL_TC * secTicks) (s.start - off).natAbs (d.course.elapsed - s.since) with
    | none => d.freshInt
    | some b => off + clampInt (-b) b d.freshInt
  let d := d.tickFresh
  let adj := clampInt (-freqRange) freqRange d.freshInt
  let d := d.tickFresh
  let extra := d.freshNat
  let d := d.tickFresh
  (d.putI Obj.FREQ_ADJ adj).setCourse fun c => { c with filtered := f, settling := some s, lockedExtra := extra }

/-- The ACQUIRING and LOCKED transitions that a sample of the active source drives (R42). -/
def Dev.judgeSample (src : Source) (off : Int) (d : Dev) : Dev :=
  match d.course.sync, src with
  | .acquiring, .loopMarker => d.enterSync .locked
  | .acquiring, _ =>
    if d.course.filtered.natAbs ≤ 200 then
      if 16 ≤ d.course.good + 1 then d.enterSync .locked
      else d.setCourse fun c => { c with good := c.good + 1 }
    else d.setCourse fun c => { c with good := 0 }
  | .locked, .loopMarker =>
    if 4000000 < off.natAbs then
      if 2 ≤ d.course.bad + 1 then d.enterSync .acquiring
      else d.setCourse fun c => { c with bad := c.bad + 1 }
    else d.setCourse fun c => { c with bad := 0 }
  | .locked, _ =>
    if 2000 < d.course.filtered.natAbs then
      if 4 ≤ d.course.bad + 1 then d.enterSync .acquiring
      else d.setCourse fun c => { c with bad := c.bad + 1 }
    else d.setCourse fun c => { c with bad := 0 }
  | _, _ => d

/-- An offset sample (R39, R42): every sample renews its source; one of the active source is filtered, corrected by a
step or a slew, and drives the transitions of R42. A step is scheduled once: while one waits, samples change nothing
more. -/
def Dev.offsetSample (src : Source) (off : Int) (d : Dev) : Dev :=
  let d := d.setSource src fun s => { s with last := some d.course.elapsed, offset := some off }
  if d.course.active ≠ some src then d else
    let d := d.putI Obj.OFFSET_LAST off
    if d.course.step.isSome then d
    else (((d.filterSample off).correctOffset off).judgeSample src off).noteQuality

/-! ### PPS (R36, R37) -/

/-- The signed distance in ns from a course time to the whole second that labels it: the nearest, the later of two
(R36). -/
def ppsOffset (ns : Nat) : Int :=
  let r := ns % 1000000000
  if 2 * r < 1000000000 then -(r : Int) else 1000000000 - r

/-- Whether the phase of an edge is captured however far it lies from its second (R36). -/
def Dev.phaseCapture (d : Dev) : Bool :=
  d.course.sync == .unset || d.course.sync == .free || d.course.sync == .rc ||
    (d.course.sync == .acquiring && decide (250000000 ≤ d.errorBound.getD 0))

/-- A rejected PPS edge (R36): counted, flagged, 0xA00B. -/
def Dev.rejectPps (d : Dev) : Dev := (d.bump Obj.PPS_REJECTED).flagRaise Obj.COURSE_FLAGS 9 0xA00B []

/-- PPS_EDGE (R36, R37): the first edge starts the interval; an edge out of the interval, or too far from its second
while the phase is held, is rejected; any other gives an offset sample. -/
def Dev.ppsEdge (instant : Nat) (d : Dev) : Dev :=
  if d.stopped then d else
  let d := d.advanceTo instant
  let t := d.course.elapsed
  let before := d.course.ppsEdge
  let d := d.setCourse fun c => { c with ppsEdge := some t }
  match before with
  | none => d.setSeries 3 (some ⟨t, t, 0⟩)
  | some t0 =>
    -- 1 s ± 100 µs in ticks of 15625/1024 ns
    let dt := (t - t0) * 15625
    if dt < 999900000 * 1024 || 1000100000 * 1024 < dt then (d.setSeries 3 (some ⟨t, t, 0⟩)).rejectPps else
      let d := d.setSeries 3 (some ⟨((d.seriesAt 3).map Series.since).getD t, t, 0⟩)
      let ns : Int := (nsOfTicks d.course.ticks : Int) - d.i Obj.PPS_DELAY
      let off := ppsOffset (ns % 2 ^ 64).toNat
      if !d.phaseCapture && 250000000 < off.natAbs then d.rejectPps else d.offsetSample .pps off

/-! ### Strokes and steps (R27–R31, R40, R53) -/

/-- The ticks of the stroke period in force. -/
def Dev.strokeTicks (d : Dev) : Nat := periodTicks d.course.period

/-- The length of a stroke that begins at a course time: P, or stretched to the boundary after (R40, R53). -/
def strokeLength (p ticks : Nat) : Nat := if ticks % p = 0 then p else 2 * p - ticks % p

/-- Whether a step from one course time to another counts as a wrap (R31): a positive offset past 2 ^ 64 ns. -/
def stepWraps (oldNs newNs : Nat) : Bool :=
  let off := signed 64 (newNs + 2 ^ 64 - oldNs)
  decide (0 < off) && decide (2 ^ 64 ≤ (oldNs : Int) + off)

/-- The course time a pending step gives at the boundary (R40, R41). -/
def Dev.stepTarget (d : Dev) : PendingStep → Nat
  | .byOffset off => (((d.course.ticks : Int) + off) % courseModulus).toNat
  | .toTime ticks => ticks % courseModulus

/-- Notes that course time was stepped or set, for the catches whose windows hold this instant (R197). -/
def Dev.noteStep (d : Dev) : Dev :=
  { d with capture := { d.capture with
      steps := keepBack id (d.course.elapsed - 3600 * secTicks) (d.course.elapsed :: d.capture.steps) } }

/-- The step of R40 at a boundary: course time takes its new value, the filtered offset restarts at 0, STEPPED is
set; 0xA004 follows with 1, or 3 where the stroke is stretched. -/
def Dev.applyStep (st : PendingStep) (d : Dev) : Dev :=
  let t := d.stepTarget st
  let wraps := stepWraps d.courseNs (nsOfTicks t % 2 ^ 64)
  let stretched := t % d.strokeTicks != 0 && !d.angle
  -- the step removes its offset from what was measured, and ends a slew
  let gone := signed 64 (nsOfTicks t + 2 ^ 64 - d.courseNs)
  let d := d.setCourse fun c => { c with
    ticks := t, step := none, filtered := 0, settling := none, slewOffset := 0, slewRate := 0, everSet := true
    sources := c.sources.map fun s => { s with offset := s.offset.map (· - gone) }
    series := c.series.map fun o => o.map fun s => { s with offset := s.offset - gone } }
  let d := d.noteStep
  let d := d.setFlag Obj.COURSE_FLAGS 0
  let d := d.when stretched (Dev.setFlag Obj.COURSE_FLAGS 1)
  let d := d.raise 0xA004 (u8 (if stretched then 3 else 1))
  d.when wraps (Dev.flagRaise Obj.COURSE_FLAGS 11 0xA00D [])

/-- An angle stroke stalls after 1.024 s (R55). -/
def stallTicks : Nat := 67108864

/-- STROKE_COUNT moves on by one (R29, R30). -/
def Dev.countStroke (d : Dev) : Dev :=
  let wraps := d.u Obj.STROKE_COUNT == 0xFFFFFFFF
  let d := d.bump Obj.STROKE_COUNT
  d.when wraps fun d => (d.bump Obj.STROKE_WRAPS).flagRaise Obj.COURSE_FLAGS 5 0xA007 []

/-- A PC write that its apply has made running: the shadow then equals it, unless written since (R323). Outside CONFIG the
shadow is discarded (R163), but for the subscriptions', which are written in every state (R280). -/
def Dev.promote (w : Write) (d : Dev) : Dev :=
  let dflt := dfltOf w.key
  let kept := decide (d.device.state = .config) || decide (0x5100 ≤ w.key / 256 ∧ w.key / 256 < 0x5110)
  let sv := if kept then d.shadow.get w.key (d.live.get w.key dflt) else w.value
  let d := d.setKey w
  { d with shadow := d.shadow.set w.key (d.live.get w.key dflt) sv }

/-- An accepted mark table becomes the running one (R52). -/
def Dev.switchMarks (d : Dev) : Dev :=
  match d.course.marks with
  | none => d
  | some ws => (ws.foldl (fun d w => d.promote w) d).setCourse fun c => { c with marks := none }

/-- The Cox's own work at a stroke boundary of the time course or of the angle course (R29, R30, R40, R52, R53): the
count, the mark table, a new period, a step, the length of the stroke that begins. -/
def Dev.coxBoundary (d : Dev) : Dev :=
  let d := (d.countStroke).switchMarks
  let k := if d.angle then d.u Obj.ANGLE_FALLBACK_PERIOD else d.u Obj.STROKE_PERIOD
  let changed := !d.angle && k != d.course.period
  let d := d.setCourse fun c => { c with period := k }
  let stepped := d.course.step.isSome
  let d := match d.course.step with | some st => d.applyStep st | none => d
  let p := periodTicks k
  let len := if !d.angle then strokeLength p d.course.ticks else if d.course.fallback then p else stallTicks
  let regular := d.course.running && !stepped && !changed && !d.course.stretched && !d.angle && len == p
  let d := d.setCourse fun c => { c with
    running := true, awaiting := false, strokeStart := c.elapsed, strokeLen := len, stretched := !d.angle && decide (p < len)
    segments := if regular && (c.segments.head?.map Segment.period) == some p then c.segments
      else keepBack Segment.start (c.elapsed - historyTicks) (⟨c.elapsed, c.ticks, if d.angle then 0 else p⟩ :: c.segments) }
  let d := d.noteQuality.noteBound
  d.when (changed && !stepped && decide (p < len)) (Dev.flagRaise Obj.COURSE_FLAGS 1 0xA004 (u8 2))

/-! ### Marks (R49–R52, R55) -/

/-- A mark slot of a table: offset, action, target, divider, phase. -/
structure MarkSlot where
  offset : Nat
  action : Nat
  target : Nat
  divider : Nat
  phase : Nat
deriving DecidableEq, Repr

/-- A slot of the running table. -/
def Dev.mark (d : Dev) (m : Nat) : MarkSlot :=
  ⟨d.u (Obj.MARK_OFFSET m), d.u (Obj.MARK_ACTION m), d.u (Obj.MARK_TARGET m), d.u (Obj.MARK_DIVIDER m),
    d.u (Obj.MARK_PHASE m)⟩

/-- A slot of the shadow table. -/
def Dev.shadowMark (d : Dev) (m : Nat) : MarkSlot :=
  ⟨d.su (Obj.MARK_OFFSET m), d.su (Obj.MARK_ACTION m), d.su (Obj.MARK_TARGET m), d.su (Obj.MARK_DIVIDER m),
    d.su (Obj.MARK_PHASE m)⟩

/-- The running table's slots. -/
def Dev.marksRunning (d : Dev) : List MarkSlot := (List.range 128).map d.mark

/-- Whether a slot fires in a stroke (R49). -/
def MarkSlot.firesIn (m : MarkSlot) (stroke : Nat) : Bool :=
  m.action != 0 && m.divider != 0 && stroke % m.divider == m.phase

/-- GATE_OPEN and GATE_CLOSE count as one action for collisions (R51). -/
def MarkSlot.actionClass (m : MarkSlot) : Nat := if m.action == 6 then 5 else m.action

/-- Whether a lower-numbered slot fires the same action at the same target in the same tick (R51). -/
def Dev.markCollides (d : Dev) (slot : Nat) : Bool :=
  let m := d.mark slot
  (List.range slot).any fun k =>
    let n := d.mark k
    n.firesIn (d.u Obj.STROKE_COUNT) && n.offset == m.offset && n.actionClass == m.actionClass && n.target == m.target

/-- The ticks of the present stroke in which marks fire (R40, R55): P, also in a stretched stroke; in a stroke of the angle
course they fire until it ends. -/
def Dev.markLimit (d : Dev) : Nat := if d.angle && !d.course.fallback then stallTicks else d.strokeTicks

/-- A mark of an action comes due (R40, R49–R51, R55): the clock goes to its offset; a collision is counted and the slot
does not fire; otherwise the action acts. A slot of another action, or one that does not fire in this stroke, gives
nothing; before the end of STARTING only strobes, gates and PWM marks fire, and none before the configuration is loaded
(R489). -/
def Dev.fireMark (slot action : Nat) (act : MarkSlot → Dev → Dev) (d : Dev) : Dev :=
  let m := d.mark slot
  if !d.course.running || !d.start.configured || (d.device.state == .starting && action < 4) || m.action != action || !m.firesIn (d.u Obj.STROKE_COUNT) ||
      !decide (m.offset < d.markLimit) then d
  else
    let d := d.advanceTo (d.course.strokeStart + m.offset)
    if d.markCollides slot then (d.bump Obj.MARK_COLLISIONS).flagRaise Obj.COURSE_FLAGS 6 0xA008 []
    else act m d

/-- The targets that R50 gives an action. -/
def targetOk (action target : Nat) : Bool :=
  match action with
  | 1 | 2 => decide (target ≤ 3)
  | 3 => decide (target ≤ 31)
  | 4 => target == 0
  | 5 | 6 => decide (1 ≤ target) && decide (target ≤ 7)
  | 7 => decide (target ≤ 1)
  | _ => false

/-- The end of the alarm window and its guard band, in ticks of the stroke (R52, R355). -/
def alarmGuardEnd : Nat := 15952

/-- Whether a slot of the shadow breaks a rule of R52. -/
def MarkSlot.bad (m : MarkSlot) (angle : Bool) (p : Nat) : Bool :=
  m.action != 0 &&
    ((!angle && decide (p ≤ m.offset)) ||
      !((List.range 11).any fun k => m.divider == 2 ^ k) ||
      decide (m.divider ≤ m.phase) ||
      !targetOk m.action m.target ||
      ((m.action == 5 || m.action == 6) && decide (m.offset < alarmGuardEnd)))

/-- The first slot of the shadow that COX_APPLY refuses (R52). -/
def Dev.coxConflict (d : Dev) : Option Nat :=
  (List.range 128).find? fun m => (d.shadowMark m).bad d.angle (periodTicks (d.u Obj.STROKE_PERIOD))

/-- The first running slot that a new period would leave beyond the stroke (R53). -/
def Dev.periodConflict (d : Dev) (k : Nat) : Option Nat :=
  (List.range 128).find? fun m => (d.mark m).action != 0 && decide (periodTicks k ≤ (d.mark m).offset)

/-- The records of the mark shadow that differ from the running table (R52, R300). -/
def Dev.shadowIn (d : Dev) (lo hi : Nat) : List Write :=
  (d.shadow.filter fun c => decide (lo * 256 ≤ c.1) && decide (c.1 < (hi + 1) * 256)).map fun c => ⟨c.1, c.2⟩

/-- Marks that the angle stroke just ended never reached (R55). -/
def Dev.dropMarks (len : Nat) (d : Dev) : Dev :=
  let n := (d.marksRunning.filter fun m => m.firesIn (d.u Obj.STROKE_COUNT) && decide (len ≤ m.offset)).length
  d.add Obj.MARKS_DROPPED n

/-! ### The angle course (R54, R55) -/

/-- Encoder counts between boundaries (R54). -/
def Dev.encStep (d : Dev) : Nat := d.u Obj.ENC_COUNTS_REV / max 1 (d.u Obj.STROKES_PER_REV)

/-- Whether a boundary at an instant comes less than 125 µs after the one before (R55). -/
def Dev.overspeed (d : Dev) (t : Nat) : Bool :=
  match d.course.encBoundary with
  | some b => decide (t < b + 8192)
  | none => false

/-- The tick at which strokes stall: 1.024 s after the last encoder boundary (R55). -/
def Dev.stallDue (d : Dev) : Nat := (d.course.encBoundary.getD d.course.strokeStart) + stallTicks

/-! ### The course alarms (R56) -/

/-- Ticks from now until course time is at or beyond a value. -/
def Dev.ticksUntil (d : Dev) (ns : Nat) : Nat := ceilDiv (ns * 1024) 15625 - d.course.ticks

/-- COURSE_ALARM_FIRE (R56), its flag and disarming. -/
def Dev.fireAlarm (n : Nat) (d : Dev) : Dev :=
  if d.course.armed.getD n false && d.u (Obj.COURSE_ALARM n) != 0 then
    let t := d.course.elapsed + d.ticksUntil (d.u (Obj.COURSE_ALARM n))
    -- in STOW at the next tick of the 32.768 kHz oscillator
    let t := if d.power.mode = .stow then d.power.asleepAt + ceilDiv (t - d.power.asleepAt) stowTicks * stowTicks else t
    let d := d.advanceTo t
    (d.setFlag Obj.ALARM_FLAGS n).setCourse fun c => { c with armed := c.armed.set n false }
  else d

/-- COURSE_WRAP (R31): the counter passes from its highest value to 0. -/
def Dev.courseWrap (d : Dev) : Dev :=
  let d := d.advance (courseModulus - d.course.ticks)
  d.flagRaise Obj.COURSE_FLAGS 11 0xA00D []

end Sys2Proof.Machine
end

