-- ==== Sys2Proof/Machine/FrontEnd.lean ====
section
/-! DEFINITION. The converters (chapter 03): entry words, filter timing, the calibration stage, overload, the reference
monitor, and the words of the tagged queue and the result registers (R94, R110–R114). -/

namespace Sys2Proof.Machine

/-! ### Sequence entries (R94, R95) -/

/-- The fields of an entry word (R94). -/
def inpOf (w : Nat) : Nat := bits w 63 59
def innOf (w : Nat) : Nat := bits w 58 54
def gainOf (w : Nat) : Nat := bits w 53 51
def filterOf (w : Nat) : Nat := bits w 50 49
def rateOf (w : Nat) : Nat := bits w 48 44
def repeatOf (w : Nat) : Nat := bits w 43 32
def hostOf (w : Nat) : Bool := bit w 31
def tagOf (w : Nat) : Nat := bits w 30 24
/-- DELAY in ticks. -/
def delayOf (w : Nat) : Nat := 8 * bits w 22 0

/-- Input pair, gain, filter and rate of an entry: what R77 and R97 compare. -/
def settingsOf (w : Nat) : Nat := w / 2 ^ 44

/-- Whether an entry word holds a reserved value or bit (R94, R95). -/
def entryReserved (w : Nat) : Bool :=
  bit w 23 || decide (28 ≤ inpOf w) || decide (28 ≤ innOf w) || filterOf w == 3 || decide (18 ≤ rateOf w) ||
    repeatOf w == 0

/-- Whether paddle mode forbids an entry (R79). -/
def paddleForbids (w : Nat) : Bool := decide (1 < gainOf w) || decide (9 < rateOf w) || decide (1 < filterOf w)

/-- Whether an entry word is refused (R95). -/
def entryBad (paddle : Bool) (w : Nat) : Bool :=
  entryReserved w || (filterOf w == 2 && decide (rateOf w < 7)) || (paddle && paddleForbids w)

/-- Whether an injected entry is refused (R105). -/
def injectedBad (paddle : Bool) (w : Nat) : Bool := entryBad paddle w || repeatOf w != 1 || delayOf w != 0

/-! ### Timing (R71–R76) -/

/-- Output rates of R72 in samples a second. -/
def odrTable : List Nat :=
  [1, 2, 5, 10, 20, 50, 100, 250, 500, 1000, 2000, 4000, 8000, 16000, 32000, 64000, 128000, 256000]

/-- T in ticks of a rate code (R72). -/
def rateTicks (r : Nat) : Nat := secTicks / odrTable.getD r 1

/-- Group delay D in ticks of a filter and rate code (R71). -/
def groupDelay (f r : Nat) : Nat :=
  match f with
  | 0 => rateTicks r * 3 / 2
  | 1 => rateTicks r * 5 / 2
  | _ => 19 * rateTicks r

/-- Ticks of 25 modulator clocks (R74). -/
def pipeline (paddle : Bool) : Nat := if paddle then 3200 else 200

/-- Edge spacing of the modulator clocks (R76). -/
def edgeSpacing (paddle : Bool) : Nat := if paddle then 128 else 8

/-- 2 µs of settling, in whole ticks (R73: 131.072). -/
def settleTicks : Nat := 132

/-- The first modulator edge at or after an instant (R76): edges stand at every stroke boundary plus whole multiples of
the spacing. -/
def Dev.edge (d : Dev) (paddle : Bool) (t : Nat) : Nat :=
  let s := edgeSpacing paddle
  let next := d.course.strokeStart + d.course.strokeLen
  if next ≤ t then next + ceilDiv (t - next) s * s
  else min next (d.course.strokeStart + ceilDiv (t - d.course.strokeStart) s * s)

/-- T and D of a batch. -/
def Batch.T (b : Batch) : Nat := rateTicks (rateOf b.word)
def Batch.D (b : Batch) : Nat := groupDelay (filterOf b.word) (rateOf b.word)

/-- When the next result of a batch is ready (R74). -/
def Batch.ready (b : Batch) : Nat := b.first + b.D + pipeline b.paddle

/-- The sample instant of the last result of a batch. -/
def Batch.lastInstant (b : Batch) : Nat := b.first + (b.count - 1) * b.T

/-- The first sample instant after a change at an instant (R73). -/
def Dev.changeInstant (d : Dev) (paddle : Bool) (word t : Nat) : Nat :=
  d.edge paddle (t + settleTicks + groupDelay (filterOf word) (rateOf word))

/-- The part of a batch whose instants lie before an instant, and the part that does not. -/
def Batch.splitAt (b : Batch) (t : Nat) : Batch × Batch :=
  let k := min b.count (ceilDiv (t - b.first) b.T)
  ({ b with count := k }, { b with first := b.first + k * b.T, count := b.count - k })

/-- Batches without the empty ones. -/
def liveBatches (l : List Batch) : List Batch := l.filter fun b => b.count != 0

/-- The results of a batch at or after an instant. -/
def Batch.from (b : Batch) (t : Nat) : Batch := (b.splitAt t).2

/-! ### Converters -/

/-- A converter. -/
def Dev.conv (d : Dev) (c : Nat) : Conv := d.convs.getD c Conv.reset

/-- Changes a converter. -/
def Dev.setConv (c : Nat) (f : Conv → Conv) (d : Dev) : Dev := { d with convs := d.convs.modify c f }

/-- A seat. -/
def Dev.seat (d : Dev) (n : Nat) : Seat := d.seats.getD n (Seat.reset none)

/-- Changes a seat. -/
def Dev.setSeat (n : Nat) (f : Seat → Seat) (d : Dev) : Dev := { d with seats := d.seats.modify n f }

/-- Changes chapter 05's state. -/
def Dev.setXcheck (f : Xcheck → Xcheck) (d : Dev) : Dev := { d with xcheck := f d.xcheck }

/-- The seat whose results a converter delivers. -/
def Dev.seatOf (d : Dev) (c : Nat) : Option Nat := (List.range 4).find? fun n => (d.seat n).conv == some c

/-- The seat whose settings a converter uses: the one it holds, joins or shadows (R126, R129, R132). -/
def Dev.servedSeat (d : Dev) (c : Nat) : Option Nat :=
  match d.seatOf c with
  | some n => some n
  | none =>
    match d.xcheck.join with
    | some j => if j.conv = c then some j.seat else none
    | none => match d.xcheck.comparison with
      | some m => if m.b = c then some m.seat else none
      | none => none

/-- The converter that a self-test has under test (R139). -/
def Dev.underTest (d : Dev) : Option Nat :=
  match d.xcheck.test with
  | none => none
  | some t => match t.phase with
    | .testFirst => some t.b
    | .testSecond => some t.a
    | _ => none

/-- The work seats of XCHK_MODE (R125). -/
def Dev.workSeats (d : Dev) : Nat := if d.u Obj.XCHK_MODE = 0 then 3 else 4

/-- Whether a converter is retired and powered down: the bits of RETIRED, of which a clear takes effect at the next base
assignment (R144). -/
def Dev.retired (d : Dev) (c : Nat) : Bool := bit d.xcheck.down c

/-- The mode of a converter: NORMAL under test (R140); else that of the seat it serves; OFF where retired; NORMAL for a
spare that serves none. -/
def Dev.convMode (d : Dev) (c : Nat) : Nat :=
  if d.underTest = some c then 1
  else match d.servedSeat c with
    | some n => (d.seat n).mode
    | none => if d.retired c then 0 else 1

/-- Whether a converter uses the external reference (R68, R126); under test it uses the internal one (R140). -/
def Dev.refExternal (d : Dev) (c : Nat) : Bool :=
  d.underTest != some c && match d.servedSeat c with
    | some n => d.u (Obj.REF_SEL n) == 1
    | none => false

/-- Whether the input buffer of a seat is on: in paddle mode it counts as OFF whatever INBUF holds (R79). -/
def Dev.inbufOn (d : Dev) (n : Nat) : Bool := d.u (Obj.INBUF n) == 1 && (d.seat n).mode != 2

/-- The ticks for which a past interval may still overlap the filter window of a result to come: no window and pipeline
last longer (R71, R72, R74). -/
def longestWindow : Nat := 6 * secTicks

/-- The offset and gain registers of a converter for a gain code and mode (R79, R89). -/
def offsetReg (c g : Nat) (paddle : Bool) : Reg := if paddle then Obj.PADDLE_OFFSET_G c g else Obj.CAL_OFFSET_G c g
def gainReg (c g : Nat) (paddle : Bool) : Reg := if paddle then Obj.PADDLE_GAIN_G c g else Obj.CAL_GAIN_G c g

/-- The overrange codes (R65). -/
def ovrCode (negative : Bool) : Int := if negative then -8388608 else 8388607

/-- Whether a code is an overrange code (R65). -/
def isOvr (c : Int) : Bool := c == 8388607 || c == -8388608

/-- The calibration stage (R82). -/
def calStage (r offset : Int) (gain : Nat) : Int :=
  let c := ((r - offset) * gain / 2 ^ 30 + 128) / 2 ^ 8
  if 8388606 < c then ovrCode false else if c < -8388607 then ovrCode true else c

/-- A filter output through the calibration stage of a converter. -/
def Dev.calibrated (d : Dev) (c g : Nat) (paddle : Bool) : FilterOut → Int
  | .code r => calStage r (d.i (offsetReg c g paddle)) (d.u (gainReg c g paddle))
  | .overload negative => ovrCode negative

/-! ### The reference monitor (R68) -/

/-- The fault intervals that may still count. -/
def Dev.recentRefs (d : Dev) (l : List (Nat × Option Nat)) : List (Nat × Option Nat) :=
  l.filter fun p => match p.2 with | some e => decide (d.course.elapsed ≤ e + longestWindow) | none => true

/-- REF_FAULT (R68): the difference has lain below 0.70 V for more than 10 µs. -/
def Dev.refFault (c : Nat) (instant : Nat) (d : Dev) : Dev :=
  if !d.refExternal c || (d.conv c).refActive then d else
    let d := d.advanceTo (instant + 656)
    let d := d.setConv c fun v => { v with refs := (instant, none) :: d.recentRefs v.refs, refActive := true }
    d.flagRaise (Obj.CV_FLAGS c) 2 0x2003 (u8 c)

/-- REF_FAULT_CLEAR (R68): the difference has stayed at or above 0.80 V for 1 ms. -/
def Dev.refFaultClear (c : Nat) (d : Dev) : Dev :=
  if !(d.conv c).refActive then d else
    (d.setConv c fun v => { v with
      refActive := false
      refs := v.refs.map fun p => (p.1, match p.2 with | some e => some e | none => some d.course.elapsed) }).raise 0x2004 (u8 c)

/-- Monitoring ends where a converter's reference is INTERNAL (R68): an active fault clears with 0x2004, and no later
result carries it; faults that had cleared before are not concerned. -/
def Dev.refMonitor (c : Nat) (d : Dev) : Dev :=
  if d.refExternal c then d else
    let was := (d.conv c).refActive
    let d := d.setConv c fun v => { v with refs := v.refs.filter fun p => p.2.isSome, refActive := false }
    d.when was (Dev.raise 0x2004 (u8 c))

/-- The monitors of all four converters, after a change of REF_SEL or of the seats. -/
def Dev.refMonitors (d : Dev) : Dev := (List.range 4).foldl (fun d c => d.refMonitor c) d

/-- Whether a window overlaps a fault interval of the converter (R68). -/
def Conv.refOverlaps (v : Conv) (lo hi : Nat) : Bool :=
  v.refs.any fun p => decide (p.1 ≤ hi) && match p.2 with
    | some e => decide (lo ≤ e)
    | none => true

/-- Microamperes of an excitation level (R70). -/
def iexcMicroamps (level : Nat) : Nat := [0, 10, 50, 100, 250, 500, 750, 1000, 1500].getD level 0

/-- The microamperes that the sources deliver to a pin (R70): the sum of the levels routed there while the pin stays within
compliance; out of it the current is unspecified (none). -/
def Dev.pinMicroamps (d : Dev) (pin : Nat) (within : Bool) : Option Nat :=
  if within then some (((List.range 4).filter fun s => d.u (Obj.IEXC_PIN s) == pin).map fun s => iexcMicroamps (d.u (Obj.IEXC_LEVEL s))).sum
  else none

/-- IEXC_COMPLIANCE (R70): the source's flag and 0x2005, for a source that delivers current. -/
def Dev.iexcCompliance (s : Nat) (d : Dev) : Dev :=
  d.when (d.u (Obj.IEXC_LEVEL s) != 0) (Dev.flagRaise Obj.IEXC_FLAGS s 0x2005 (u8 s))

/-! ### Words for the host (R110–R114) -/

/-- The result flags of R109 as bits of the FLAGS field (R110). -/
def flagOVR : Nat := 64
def flagREF : Nat := 32
def flagOW : Nat := 16
def flagOWD : Nat := 8
def flagINJ : Nat := 4
def flagPRECAL : Nat := 2
def flagSWAP : Nat := 1

/-- OFFSET of a sample instant (R110, R114). -/
def Dev.offsetField (d : Dev) (t : Nat) : Nat := (t - d.strokeOf t) / 8 % 2 ^ 23

/-- A RESULT word (R110). -/
def Dev.resultWord (d : Dev) (seat tag flags t : Nat) (code : Int) : Nat :=
  seat * 2 ^ 61 + tag * 2 ^ 54 + flags * 2 ^ 47 + d.offsetField t * 2 ^ 24 + unsigned 24 code

/-- A REFERENCE word (R110). -/
def referenceWord (ns : Nat) : Nat := 2 ^ 63 + ns % 2 ^ 60

/-- A LOSS word (R110). -/
def lossWord (n : Nat) : Nat := 2 ^ 63 + 2 ^ 60 + min n 0xFFFFFFFF

/-- The EMPTY word (R110). -/
def emptyWord : Nat := 0xFFFFFFFFFFFFFFFF

/-- Whether a queue word is a RESULT word. -/
def isResultWord (w : Nat) : Bool := decide (w < 2 ^ 63)

/-- Puts a host copy in the queue, with the LOSS and REFERENCE words that must precede it, or drops it (R111, R112). Of the two the
LOSS word stands first (DESIGN CHOICE, log 79). -/
def Dev.queueResult (seat t : Nat) (word : Nat) (d : Dev) : Dev :=
  let ref := d.nsAt (d.strokeOf t)
  let q := d.queue
  let new := (if q.lost = 0 then [] else [lossWord q.lost]) ++
    (if q.reference = some ref then [] else [referenceWord ref]) ++ [word]
  if q.words.length + new.length + 1 ≤ 2048 then
    let reach := decide (q.words.length < d.u Obj.QUEUE_WATERMARK) &&
      decide (d.u Obj.QUEUE_WATERMARK ≤ q.words.length + new.length)
    let d := { d with queue := ⟨q.words ++ new, some ref, 0⟩ }
    d.when reach (Dev.setFlag Obj.QUEUE_FLAGS 1)
  else
    let d := { d with queue := { q with lost := q.lost + 1 } }
    (d.bump Obj.QUEUE_LOST).flagFirst Obj.QUEUE_FLAGS 0 0x2013 (u8 seat)

/-- Writes a result register, or INJ_RESULT (R114). -/
def Dev.writeResult (r : Reg) (flags t : Nat) (code : Int) (d : Dev) : Dev :=
  let count := (bits (d.u r) 31 24 + 1) % 256
  d.put r (flags * 2 ^ 57 + d.offsetField t * 2 ^ 32 + count * 2 ^ 24 + unsigned 24 code)

/-- Takes the oldest words of the queue (R113). -/
def Dev.takeWords (n : Nat) (d : Dev) : Dev := { d with queue := { d.queue with words := d.queue.words.drop n } }

/-- QUEUE_FLUSH (R113): the queue empties; its RESULT words count as lost. -/
def Dev.flushQueue (d : Dev) : Dev :=
  let n := (d.queue.words.filter isResultWord).length
  ({ d with queue := { d.queue with words := [] } }).add Obj.QUEUE_LOST n

end Sys2Proof.Machine
end

