-- ==== Sys2Proof/Machine/Inputs.lean ====
section
/-! DEFINITION. The inputs of the lanes (R156–R159): delivery, overflow, failure and restoration. -/

namespace Sys2Proof.Machine

/-- Changes the engine's state. -/
def Dev.setEngine (f : Engine → Engine) (d : Dev) : Dev := { d with engine := f d.engine }

/-! ### What the consumers of a tick see (R16, R153, R210) -/

/-- Keeps what stands in some objects, and in the engine's outputs, for the consumers of this tick (R16, R153). -/
def Dev.keepEarlier (rs : List Reg) (d : Dev) : Dev :=
  d.setEngine fun e =>
    let x : Earlier := if e.earlier.tick = d.course.elapsed then e.earlier
      else ⟨d.course.elapsed, [], e.outs, e.written, e.pvInstants⟩
    let new := rs.filter fun r => !(x.writes.any fun w => w.key == r.key)
    { e with earlier := { x with writes := x.writes ++ new.map fun r => ⟨r.key, d.get r⟩ } }

/-- The same for an object given by its key. -/
def Dev.keepKey (key : Nat) (d : Dev) : Dev := d.keepEarlier [⟨key, 4, dfltOf key⟩]

/-- The device as a consumer of this tick sees it: what was written in this tick is not there yet (R16). -/
def Dev.seen (d : Dev) : Dev :=
  let x := d.engine.earlier
  if x.tick ≠ d.course.elapsed then d else
    (x.writes.foldl (fun d w => d.setKey w) d).setEngine fun e => { e with
      outs := x.outs, written := x.written, pvInstants := x.pvInstants }

/-- An operation that consumes what this tick finds: it acts on the device as seen, and what was written in this tick stands
again after it (R16). -/
def Dev.consume (f : Dev → Dev) (d : Dev) : Dev :=
  let now := d.engine.earlier.writes.map fun w => (⟨w.key, d.live.get w.key (dfltOf w.key)⟩ : Write)
  if d.engine.earlier.tick ≠ d.course.elapsed then f d else
    (now.foldl (fun d w => d.setKey w) (f d.seen)).setEngine fun e => { e with
      outs := d.engine.outs, written := d.engine.written, pvInstants := d.engine.pvInstants }

/-- A lane. -/
def Dev.lane (d : Dev) (l : Nat) : Lane := d.engine.lanes.getD l (Lane.reset l)

/-- Changes a lane. -/
def Dev.setLane (l : Nat) (f : Lane → Lane) (d : Dev) : Dev :=
  d.setEngine fun e => { e with lanes := e.lanes.modify l f }

/-- An input of a lane. -/
def Dev.input (d : Dev) (l k : Nat) : LaneInput := (d.lane l).ins.getD k LaneInput.reset

/-- Changes an input of a lane. -/
def Dev.setInput (l k : Nat) (f : LaneInput → LaneInput) (d : Dev) : Dev :=
  d.setLane l fun v => { v with ins := v.ins.modify k f }

/-- The fields of IN_BIND (R180). -/
def bindEn (w : Nat) : Bool := bit w 15
def bindInjOk (w : Nat) : Bool := bit w 14
def bindSeat (w : Nat) : Nat := bits w 8 7
def bindTag (w : Nat) : Nat := bits w 6 0

/-- Whether an input is bound (R156), its lane enabled or not. -/
def Dev.inputBound (d : Dev) (l k : Nat) : Bool := bindEn (d.u (Obj.IN_BIND l k))

/-- The output period of the entries of a seat's table that carry a tag: the shortest, 0 where none does (R154, R175). -/
def Dev.minPeriod (d : Dev) (seat tag : Nat) : Nat :=
  let es := (List.range (d.u (Obj.SEQ_LAST seat) + 1)).map fun e => d.u (Obj.SEQ_ENTRY seat e)
  let ts := (es.filter fun w => tagOf w == tag).map fun w => rateTicks (rateOf w)
  match ts with
  | [] => 0
  | t :: rest => rest.foldl min t

/-- Every lane input, as pairs. -/
def allInputs : List (Nat × Nat) := (List.range 32).flatMap fun l => (List.range 8).map fun k => (l, k)

/-- The strokes counted since the reset, wraps included (R29, R30). -/
def Dev.strokeNumber (d : Dev) : Nat := d.u Obj.STROKE_WRAPS * 2 ^ 32 + d.u Obj.STROKE_COUNT

/-- The element of a result (R159). -/
def elementOf (code : Int) (flags t time sync : Nat) : Element :=
  let e : Element := ⟨F32.ofRat code (2 ^ 23), 0, 0, false, false, t, time, sync, some code⟩
  let on := fun f => decide (flags / f % 2 = 1)
  let e := if on flagOVR then e.mark catS 0x01 else e
  let e := if on flagREF then e.mark catF 0x02 else e
  let e := if on flagOW then e.mark catF 0x03 else e
  if on flagOWD then e.mark catS 0x04 else e

/-- An element arrives at an input (R157, R158); at a full one the oldest gives way, and the oldest that remains takes status S with
cause 0x0B in place of its own. -/
def Dev.appendInput (l k : Nat) (e : Element) (d : Dev) : Dev :=
  let i := d.input l k
  let lane := u8 l ++ u8 k
  let over' := decide (512 ≤ i.buf.length)
  let buf := if over' then
      (match i.buf.drop 1 with | x :: rest => (x.1, { x.2 with cat := catS, cause := 0x0B }) :: rest | [] => [])
    else i.buf
  let d := d.setInput l k fun i => { i with buf := buf ++ [(d.course.elapsed, e)], stroke := d.strokeNumber, failed := none }
  let d := d.when over' fun d => (d.bump (Obj.IN_OVERFLOWS l)).flagFirst (Obj.LANE_FLAGS l) 1 0x3007 lane
  d.when i.failed.isSome fun d => (d.put (Obj.IN_FAILED l) (clearBit (d.u (Obj.IN_FAILED l)) k)).raise 0x3006 lane

/-- A settled result of a seat goes to every input bound to it and its tag (R156). -/
def Dev.deliverInputs (seat tag : Nat) (injected : Bool) (e : Element) (d : Dev) : Dev :=
  allInputs.foldl (fun d p =>
    let w := d.u (Obj.IN_BIND p.1 p.2)
    d.when (d.inputBound p.1 p.2 && bindSeat w == seat && bindTag w == tag && (!injected || bindInjOk w))
      (Dev.appendInput p.1 p.2 e)) d

/-- An input is bound (R158, R163): it has no elements yet, and IN_TIMEOUT_k counts from here (DEDUCED, log 55). -/
def Dev.bindInput (l k : Nat) (d : Dev) : Dev :=
  d.setInput l k fun i => { i with buf := [], stroke := d.strokeNumber }

/-- An input fails (R158): 0x05 for a timeout, 0x06 for a seat without a converter. -/
def Dev.failInput (l k cause : Nat) (d : Dev) : Dev :=
  if (d.input l k).failed.isSome then d else
    let d := d.setInput l k fun i => { i with failed := some cause }
    let d := d.put (Obj.IN_FAILED l) (setBit (d.u (Obj.IN_FAILED l)) k)
    d.flagRaise (Obj.LANE_FLAGS l) 4 0x3005 (u8 l ++ u8 k)

/-- IN_TIMEOUT (R158): no element for IN_TIMEOUT_k strokes. An input is bound once the configuration is loaded (R489). -/
def Dev.inTimeout (l k : Nat) (d : Dev) : Dev :=
  let t := d.u (Obj.IN_TIMEOUT l k)
  d.when (d.start.configured && d.inputBound l k && t != 0 && decide ((d.input l k).stroke + t ≤ d.strokeNumber)) (Dev.failInput l k 0x05)

/-- The inputs bound to a seat without a converter fail at once (R145, R158). -/
def Dev.failSeatless (d : Dev) : Dev :=
  allInputs.foldl (fun d p =>
    d.when (d.inputBound p.1 p.2 && (d.seat (bindSeat (d.u (Obj.IN_BIND p.1 p.2)))).conv.isNone)
      (Dev.failInput p.1 p.2 0x06)) d

/-- The elements that an input holds for a snapshot at a tick: those delivered before it (R16, R151). -/
def LaneInput.ready (i : LaneInput) (tick : Nat) : List Element :=
  (i.buf.takeWhile fun p => decide (p.1 < tick)).map Prod.snd

/-- What an input supplies to a slot (R151, R158): its buffered elements, or the one element of a failed input. -/
def LaneInput.supply (i : LaneInput) (tick : Nat) : List Element :=
  match i.failed with
  | some cause => [{ ((i.ready tick).getLast?.getD i.last) with cat := catF, cause := cause }]
  | none => i.ready tick

/-- An input after a snapshot at a tick: what was delivered in that tick waits for the following slot (R151). -/
def LaneInput.taken (i : LaneInput) (tick : Nat) : LaneInput :=
  { i with buf := i.buf.dropWhile fun p => decide (p.1 < tick), last := (i.ready tick).getLast?.getD i.last }

end Sys2Proof.Machine
end

