-- ==== Sys2Proof/Machine/Ledger.lean ====
section
/-! DEFINITION. The ledger store (chapter 11) and the acceptance of entries (chapter 10): the commit buffer and its
groups, rounds and seals, the client table, the rate counts, acknowledgements, NVM faults. -/

namespace Sys2Proof.Machine

/-- Changes the ledger's state. -/
def Dev.setLedger (f : Ledger → Ledger) (d : Dev) : Dev := { d with ledger := f d.ledger }

/-! ### Rounds and energy (R296–R299) -/

/-- The key of the epoch selector record, 1400:00 (R300). -/
def selectorKey : Nat := 0x140000

/-- The reserved blocks of publication counters as a ring holds them (R374); no object has this address. -/
def publicationBlocks : Reg := ⟨0x160000, 4, .num 0⟩

/-- The copy records that an item writes, each with the apply that it is staged for (R299, R300). -/
def Item.records : Item → List (Option ApplyKind × Write)
  | .applyPart kind copies => copies.map fun w => (some kind, w)
  | .selector _ => [(none, ⟨selectorKey, .bytes []⟩)]
  | i => i.copies.map fun w => (none, w)

/-- Records in which the last write of each alone stands: a group writes a record once (R299). -/
def lastRecords (l : List (Option ApplyKind × Write)) : List (Option ApplyKind × Write) :=
  l.foldl (fun acc r => acc.filter (fun x => !(decide (x.1 = r.1) && x.2.key == r.2.key)) ++ [r]) []

/-- Ring slots that an item writes (R297, R302). -/
def Item.rings : Item → Nat
  | .ring .. => 1
  | .internal (.generation ..) _ => 1
  | .internal .indexReserved _ => 1
  | .internal .pubReserved _ => 1
  | _ => 0

/-- COPY pairs that some items write (R299; each record in pairs of its own, log 21). -/
def copyPairsOf (items : List Item) : Nat := ((lastRecords (items.flatMap Item.records)).map fun r => r.2.pairs).sum

/-- The rounds of a group of items (R297): three for each distinct COPY pair, one for each ring slot, one for each LOG page. -/
def roundsOf (items : List Item) : Nat :=
  3 * copyPairsOf items + (items.map Item.rings).sum + ceilDiv (items.map Item.logBytes).sum 60

/-- Whether an item forms a group alone (R269, R296, R300, R472). -/
def Item.alone : Item → Bool
  | .internal (.retire _) _ => true
  | .internal (.generation ..) _ => true
  | .internal .indexReserved _ => true
  | .selector _ => true
  | _ => false

/-- ENERGY_AVAILABLE in mJ: 0.5 · C · (V² − 9.0) (R298). -/
def Dev.energyAvailable (d : Dev) : F32 :=
  let v := d.f Obj.STORE_VOLTAGE
  F32.mul (F32.mul (F32.ofRat 1 2) (d.f Obj.STORE_C_LOW)) (F32.sub (F32.mul v v) (F32.ofInt 9))

/-- ENERGY_NEEDED in mJ of a group of r rounds (R298). -/
def energyNeeded (r : Nat) : F32 :=
  F32.mul (F32.ofRat 3 2) (F32.add (F32.ofRat 16 100) (F32.mul (F32.ofInt r) (F32.ofRat 20 100)))

/-- Whether the store covers r rounds (R298). -/
def Dev.energyCovers (d : Dev) (r : Nat) : Bool := !(F32.lt d.energyAvailable (energyNeeded r))

/-- Whether an entry would open a generation that is not committed (R269), the stream's next position being given. -/
def Dev.needsGeneration (d : Dev) (next : Nat) (stream : Nat) : Bool :=
  serialCmp (d.ledger.generation.getD stream 0) (next / 2 ^ 32) 16 == .before

/-- The first generation commit that the entries of an item call for, positions taken in order (R269). -/
def Dev.generationFor (d : Dev) (next : List Nat) : List Entry → Option (Nat × Nat)
  | [] => none
  | e :: es =>
    let p := next.getD e.stream 0
    if d.needsGeneration p e.stream then some (e.stream, p / 2 ^ 32)
    else d.generationFor (next.set e.stream ((p + 1) % 2 ^ 48)) es

/-- The next positions after some entries. -/
def nextAfter (next : List Nat) (es : List Entry) : List Nat :=
  es.foldl (fun n e => n.set e.stream ((n.getD e.stream 0 + 1) % 2 ^ 48)) next

/-- The longest prefix of items that a group may hold (R296): at most 32 rounds, covered by the store, no item that
forms a group alone but the first, no entry of a generation not yet committed. -/
def Dev.prefixLen (d : Dev) (next : List Nat) (taken : List Item) : List Item → Nat
  | [] => 0
  | i :: rest =>
    let r := roundsOf (taken ++ [i])
    if 32 < r || !d.energyCovers r || (i.alone && !taken.isEmpty) || (d.generationFor next i.entries).isSome then 0
    else if i.alone then 1
    else 1 + d.prefixLen (nextAfter next i.entries) (taken ++ [i]) rest

/-- The number of the next group: modulo 2 ^ 29, 0x1FFFFFFF skipped (R293). -/
def nextGroupNo (n : Nat) : Nat := let m := (n + 1) % 2 ^ 29; if m = 0x1FFFFFFF then 0 else m

/-- The energy check of a number of rounds, with its two objects (R298, R314). -/
def Dev.checkEnergy (r : Nat) (d : Dev) : Dev :=
  (d.putF Obj.ENERGY_AVAILABLE d.energyAvailable).putF Obj.ENERGY_NEEDED (energyNeeded r)

/-- A deferral (R298): counted at each boundary; the first of a run sets DEFERRED and raises 0x5010. -/
def Dev.deferGroup (d : Dev) : Dev :=
  let d := d.bump Obj.GROUPS_DEFERRED
  if d.ledger.deferring then d else
    let d := d.setLedger fun l => { l with deferring := true }
    d.flagRaise Obj.NVM_FLAGS 0 0x5010 (f32b (d.f Obj.ENERGY_AVAILABLE) ++ f32b (d.f Obj.ENERGY_NEEDED))

/-! ### The regions and their orders (R292, R294, R308) -/

/-- The region of a pair (R292). -/
def regionOf (pair : Nat) : Nat := if pair < 256 then 0 else if pair < 768 then 1 else if pair < 6400 then 2 else 3

/-- The first pair of a target's order and the pairs in it (R292, R302). -/
def PageTarget.order : PageTarget → Nat × Nat
  | .ring r => (32 * r, 32)
  | .journal => (256, 512)
  | .copy p => (p, 1)
  | .log => (6400, 9984)

/-- Whether a pair is retired (R308). -/
def Dev.pairRetired (d : Dev) (pair : Nat) : Bool := d.ledger.retiredPairs.any fun x => x.2 == pair

/-- The first place of an order at or after a head whose pair is in service (R308). -/
def Dev.inService (d : Dev) (base size : Nat) : Nat → Nat → Nat
  | 0, h => h
  | n + 1, h => if d.pairRetired (base + h % size) then d.inService base size n (h + 1) else h

/-- The next places that an order claims (R294). -/
def Dev.claimPlaces (d : Dev) (base size : Nat) : Nat → Nat → List Nat
  | 0, _ => []
  | n + 1, h => let p := d.inService base size size h; p :: d.claimPlaces base size n (p + 1)

/-- The places of the LOG that its next pages take. -/
def Dev.nextLog (d : Dev) (n : Nat) : List Nat := d.claimPlaces 6400 9984 n d.ledger.heads.log

/-- Whether a structure holds a page that the LOG comes to before a head (R304). -/
def LogItem.reached (i : LogItem) (head : Nat) : Bool := i.pages.any fun p => decide (p + 9984 < head)

/-- The head of the LOG once it has taken some more pages. -/
def Dev.logAfter (d : Dev) (n : Nat) : Nat := match (d.nextLog n).getLast? with | some p => p + 1 | none => d.ledger.heads.log

/-- Unreleased structures whose page the LOG comes to within its next pages (R304). -/
def Dev.inTheWay (d : Dev) (n : Nat) : List LogItem :=
  let head := d.logAfter n
  d.ledger.log.filter fun i => i.reached head && d.unreleased i

/-- Unreleased structures whose page lies within the 64 pages that the LOG claims next (R304). -/
def Dev.toCarry (d : Dev) : List LogItem := d.inTheWay 64

/-- Bytes of a structure of the LOG. -/
def LogContent.bytes : LogContent → Nat
  | .entry _ e => e.size
  | .acked .. => noteBytes
  | .checkpoint _ => checkpointBytes

/-- The longest prefix of structures to carry that fits some LOG pages. -/
def carryPrefix (pages : Nat) (used : Nat) : List LogItem → List LogItem
  | [] => []
  | i :: rest =>
    if pages * 60 < used + i.content.bytes then [] else i :: carryPrefix pages (used + i.content.bytes) rest

/-! ### Seals (R268, R297, R304) -/

/-- Structures placed one after the other, from a byte offset, in the LOG places that a group has taken. -/
def placeLog (places : List Nat) : Nat → List LogContent → List LogItem
  | _, [] => []
  | off, c :: rest =>
    ⟨c, (places.drop (off / 60)).take ((off + c.bytes - 1) / 60 + 1 - off / 60)⟩ :: placeLog places (off + c.bytes) rest

/-- Entries with the positions that a seal gives them, in order (R268). -/
def withPositions (next : List Nat) : List Entry → List (Nat × Entry)
  | [] => []
  | e :: es => (next.getD e.stream 0, e) :: withPositions (nextAfter next [e]) es

/-- What the notes of an item put in the LOG (R303). -/
def Item.notes : Item → List LogContent
  | .acked u p _ => [.acked u p]
  | .checkpoint t _ => [.checkpoint t]
  | _ => []

/-- What a group puts in the LOG: entries in position order, then notes, then what it carries forward (R297, R303, R304). -/
def logContents (next : List Nat) (items : List Item) (carried : List LogItem) : List LogContent :=
  (withPositions next (items.flatMap Item.entries)).map (fun pe => LogContent.entry pe.1 pe.2) ++ items.flatMap Item.notes ++
    carried.map (fun i => i.content)

/-- A stream's objects and counts after one of its entries is accepted at a position (R268, R273). -/
def Dev.acceptEntry (pe : Nat × Entry) (d : Dev) : Dev :=
  let e := pe.2
  let d := (d.put (Obj.STREAM_HEAD e.stream) pe.1).bump (Obj.STREAM_ACCEPTED e.stream)
  d.when (e.type == .record || e.type == .command || e.type == .event) fun d =>
    d.setLedger fun l => { l with rate := l.rate.modify e.stream (· ++ [d.course.elapsed + 3600 * secTicks]) }

/-- LOG_FULL on entry to its condition (R305): the flag and 0x5014; it ends when the pages fall again. -/
def Dev.checkLogFull (d : Dev) : Dev :=
  let full := d.logFull
  let was := d.ledger.full
  let d := d.setLedger fun l => { l with full := full }
  d.when (full && !was) (Dev.flagRaise Obj.NVM_FLAGS 3 0x5014 (u16 d.unreleasedPages))

/-- A place that a group has written, in the list of places (R299). -/
def putPlace (ps : List Place) (p : Place) : List Place :=
  ps.filter (fun x => !(x.key == p.key && decide (x.stage = p.stage))) ++ [p]

/-- The store's part of a seal (R268, R294, R297, R304): positions, heads, the LOG without what lay in the pages now claimed, the
places of the records, the group's number and counters; what waited for room enters the buffer. -/
def Dev.sealLog (g : Group) (d : Dev) : Dev :=
  let items := d.ledger.buffer.take g.count
  let placed := withPositions d.ledger.next (items.flatMap Item.entries)
  let d := d.setLedger fun l => { l with
    next := nextAfter l.next (items.flatMap Item.entries)
    log := ((l.log.filter fun i => !g.carried.contains i) ++
      placeLog g.logAt 0 (logContents l.next items g.carried)).filter fun i => !i.reached g.heads.log
    heads := g.heads
    places := g.places.foldl putPlace l.places
    buffer := l.buffer.drop g.count
    group := none }
  let d := placed.foldl (fun d pe => d.acceptEntry pe) d
  let d := (d.put Obj.GROUP_LAST g.number).bump Obj.GROUPS_SEALED
  let d := d.add Obj.LOG_CARRIED (g.carried.flatMap LogItem.pages).eraseDups.length
  d.checkLogFull.drainOutside

/-! ### The client table (R278) -/

/-- Whether an ID is marked accepted in a slot (R278). -/
def ClientSlot.accepted (c : ClientSlot) (id : Nat) : Bool :=
  let back := (c.high + 2 ^ 32 - id) % 2 ^ 32
  decide (back < 256) && bit c.map back

/-- A slot after an ID is accepted (R278, R270). -/
def ClientSlot.mark (c : ClientSlot) (id now : Nat) : ClientSlot :=
  match serialCmp c.high id 32 with
  | .equal => { c with map := setBit c.map 0, last := now }
  | .before =>
    let k := (id + 2 ^ 32 - c.high) % 2 ^ 32
    { c with high := id, map := (if 256 ≤ k then 1 else setBit (c.map * 2 ^ k % 2 ^ 256) 0), last := now }
  | _ =>
    let back := (c.high + 2 ^ 32 - id) % 2 ^ 32
    { c with map := (if back < 256 then setBit c.map back else c.map), last := now }

/-- A client table slot is idle for at least REQ_HOLD (R278 step 5). -/
def Dev.slotIdle (d : Dev) (c : ClientSlot) : Bool := decide (d.u Obj.REQ_HOLD * secTicks ≤ d.course.elapsed - c.last)

/-- The pending journaled requests, in arrival order (R279). -/
def Dev.pendingRequests (d : Dev) : List PendingRequest :=
  d.ledger.buffer.filterMap fun i => match i with | .request p _ _ => some p | _ => none

/-- A request's writes that start an apply (R300). -/
def applyKeys : List Nat := [Obj.COX_APPLY.key, Obj.ENGINE_APPLY.key, Obj.WASH_APPLY.key]

/-- Whether a request starts an apply: it is accepted with the apply's selector (R300). -/
def PendingRequest.applies (p : PendingRequest) : Bool := p.writes.any fun w => applyKeys.contains w.key

/-- The slots kept for clients whose first request is pending, fed or accepted meanwhile. -/
def Dev.takenSlots (d : Dev) : List (Nat × Nat) :=
  let waiting := (d.pendingRequests ++ d.ledger.applies.map fun a => a.request).map fun p => p.rq.client.toNat
  d.ledger.taken.filter fun x => waiting.contains x.1

/-- The slot of a client, none once another client has taken it (R278). -/
def Dev.clientSlot (d : Dev) (client : Nat) : Option ClientSlot :=
  (d.ledger.clients.zipIdx.find? fun x => x.1.client == client && !(d.takenSlots.map Prod.snd).contains x.2).map Prod.fst

/-- The slot for a client that has none (R278 step 5): the lowest free one; else, of those idle for at least REQ_HOLD and with no
request pending, the one whose last accepted request is oldest, the lower-numbered on a tie; none that another client has taken
(DEDUCED, log 89). -/
def Dev.slotFor (d : Dev) (client : Nat) : Option Nat :=
  let l := d.ledger.clients
  match d.takenSlots.find? fun x => x.1 == client with
  | some x => some x.2
  | none =>
    let kept := d.takenSlots.map Prod.snd
    let busy := d.pendingRequests.map fun p => p.rq.client.toNat
    if l.any fun c => c.client == client then none
    else match (List.range 16).find? fun k => decide (l.length ≤ k) && !kept.contains k with
    | some k => some k
    | none =>
      match l.zipIdx.filter fun x => d.slotIdle x.1 && !kept.contains x.2 && !busy.contains x.1.client with
      | [] => none
      | c :: rest => some (rest.foldl (fun b x => if x.1.last < b.1.last then x else b) c).2

/-- Whether a client has a slot or can have one (R278 step 5). -/
def Dev.slotAvailable (d : Dev) (client : Nat) : Bool := (d.clientSlot client).isSome || (d.slotFor client).isSome

/-- Keeps a slot for the client of a request that becomes pending (R278 steps 5 and 7). -/
def Dev.reserveSlot (client : Nat) (d : Dev) : Dev :=
  if (d.clientSlot client).isSome then d else
    match d.slotFor client with
    | some k => d.setLedger fun l => { l with taken := (d.takenSlots.filter fun x => x.1 != client) ++ [(client, k)] }
    | none => d

/-- Marks an ID accepted, in the client's slot or the one kept for it, whose client it replaces (R278, R279). -/
def Dev.markAccepted (client id : Nat) (d : Dev) : Dev :=
  let now := d.course.elapsed
  let l := d.ledger.clients
  let table : List ClientSlot × List (Nat × Nat) := match d.clientSlot client with
    | some _ => (l.map fun c => if c.client == client then c.mark id now else c, d.ledger.taken)
    | none =>
      let k := (d.slotFor client).getD 0
      let others := d.ledger.taken.filter fun x => x.1 != client
      if k < l.length then (l.set k ⟨client, id, 1, now⟩, others)
      -- a free slot kept for another client is filled first: that client has this one's
      else (l ++ [⟨client, id, 1, now⟩], others.map fun x => if x.2 == l.length then (x.1, k) else x)
  (d.setLedger fun l => { l with clients := table.1, taken := table.2 }).put Obj.CLIENTS_IN_USE table.1.length

/-! ### Withdrawal and rate counts (R273, R279) -/

/-- Whether an item is a request that ACK_WAIT may withdraw: not the write of an apply (R300). -/
def Item.withdrawable : Item → Bool
  | .request p _ _ => !(p.writes.any fun w =>
      w.key == Obj.COX_APPLY.key || w.key == Obj.ENGINE_APPLY.key || w.key == Obj.WASH_APPLY.key)
  | _ => false

/-- The items that no running group holds. -/
def Dev.waitingItems (d : Dev) : List Item :=
  d.ledger.buffer.drop (match d.ledger.group with | some g => g.count | none => 0)

/-- A withdrawn request (R279): counted, flagged, 0x5002, answered DEFERRED unless the application core is in reset. -/
def Dev.withdrawOne (p : PendingRequest) (d : Dev) : Dev :=
  let d := (d.bump Obj.REQ_WITHDRAWN).flagRaise Obj.ENTRY_FLAGS 1 0x5002 (u16 p.rq.client.toNat ++ u32 p.rq.id.toNat)
  if !d.device.appRunning then d
  else (p.rq.via :: p.joined).foldl
    (fun d v => d.reply ⟨v, p.rq.client.toNat, p.rq.id.toNat, 0x0C, 0, 255, []⟩) d

/-- REQUEST_WITHDRAWN (R279): the oldest pending request that no group holds reaches ACK_WAIT; it and every pending
request after it are withdrawn. -/
def Dev.withdrawRequests (d : Dev) : Dev :=
  match d.waitingItems.findSome? fun i => match i with | .request p _ _ => if i.withdrawable then some p else none | _ => none with
  | none => d
  | some p =>
    let d := d.advanceTo (p.arrived + d.u Obj.ACK_WAIT * msTicks)
    let n := match d.ledger.group with | some g => g.count | none => 0
    let gone := d.waitingItems.filterMap fun i => match i with
      | .request p _ _ => if i.withdrawable then some p else none
      | _ => none
    let d := d.setLedger fun l => { l with
      buffer := l.buffer.take n ++ (l.buffer.drop n).filter fun i => !i.withdrawable }
    (gone.foldl (fun d p => d.withdrawOne p) d).drainOutside

/-- RATE_COUNT_EXPIRY (R273): the entries whose 3600 s of elapsed time have passed leave the stream's rate count. -/
def Dev.rateExpiry (stream : Nat) (d : Dev) : Dev :=
  match d.ledger.rate.getD stream [] with
  | [] => d
  | t :: rest =>
    let d := d.advanceTo (rest.foldl min t)
    d.setLedger fun l => { l with rate := l.rate.modify stream fun r => r.filter fun t => decide (d.course.elapsed < t) }

/-! ### Acknowledgements (R281–R283) -/

/-- The state of a subscription. -/
def Dev.sub (d : Dev) (u : Nat) : SubState := d.ledger.subs.getD u 
  ⟨none, 0, 0x8000000000000000, 0, false, 0x8000000000000000, 0x8000000000000000⟩

/-- Changes the state of a subscription. -/
def Dev.setSub (u : Nat) (f : SubState → SubState) (d : Dev) : Dev :=
  d.setLedger fun l => { l with subs := l.subs.modify u f }

/-- The first position below those that a subscription delivers (R280). -/
def Dev.subStart (d : Dev) (u : Nat) : Nat :=
  let from' := d.u (Obj.SUB_FROM u)
  let head := d.u (Obj.STREAM_HEAD (d.u (Obj.SUB_STREAM u)))
  if bit from' 63 then (if bit head 63 then 2 ^ 48 - 1 else head) else (from' + 2 ^ 48 - 1) % 2 ^ 48

/-- Whether sent positions of a subscription are not acknowledged (R282). -/
def Dev.outstanding (d : Dev) (u : Nat) : Bool :=
  serialCmp (d.u (Obj.SUB_ACKED u)) (d.u (Obj.SUB_SENT u)) 48 == .before

/-- ACK (R281): acknowledges every position up to one; stale and invalid ones change nothing but the counter. The first
advance of a STALLED subscription returns it to ACTIVE (R282). -/
def Dev.acknowledge (u pos : Nat) (d : Dev) : Dev :=
  if !d.on (Obj.SUB_ENABLE u) then d else
    match serialCmp (d.u (Obj.SUB_ACKED u)) pos 48 with
    | .before =>
      match serialCmp (d.u (Obj.SUB_SENT u)) pos 48 with
      | .before | .unordered => d.bump (Obj.SUB_ACK_INVALID u)
      | _ =>
        let stalled := d.u (Obj.SUB_STATE u) == 2
        let d := d.put (Obj.SUB_ACKED u) pos
        let d := d.setSub u fun s => { s with timeouts := 0, timer := some d.course.elapsed }
        let d := if d.outstanding u then d else d.setSub u fun s => { s with timer := none, resend := false }
        d.when stalled fun d => (d.put (Obj.SUB_STATE u) 1).raise 0x5005 (u8 u)
    | .unordered => d.bump (Obj.SUB_ACK_INVALID u)
    | _ => d

/-- SUB_RTO_EXPIRY (R282): SUB_ACKED has not advanced for SUB_RTO, or 8 × SUB_RTO once STALLED; every outstanding
position goes out again, and the eighth timeout in succession stalls the subscription. -/
def Dev.rtoExpiry (u : Nat) (d : Dev) : Dev :=
  match (d.sub u).timer with
  | none => d
  | some t =>
    if !d.on (Obj.SUB_ENABLE u) || !d.outstanding u || d.u (Obj.SUB_STATE u) == 3 then d else
      let stalled := d.u (Obj.SUB_STATE u) == 2
      let d := d.advanceTo (t + (if stalled then 8 else 1) * d.u (Obj.SUB_RTO u) * msTicks)
      let n := (d.sub u).timeouts + 1
      let d := d.setSub u fun s => { s with timer := some d.course.elapsed, timeouts := n, resend := true }
      let d := d.bump (Obj.SUB_RETX u)
      d.when (n == 8 && !stalled) fun d =>
        (d.put (Obj.SUB_STATE u) 2).flagRaise Obj.ENTRY_FLAGS 2 0x5004 (u8 u ++ u64 (d.u (Obj.SUB_ACKED u)))

/-- ACK_PERSIST_EXPIRY (R283, R303): SUB_ACKED goes to the ledger as a note, at most once per ACK_PERSIST. -/
def Dev.ackPersist (u : Nat) (d : Dev) : Dev :=
  if d.u (Obj.SUB_ACKED u) = (d.sub u).committed || !d.on (Obj.SUB_ENABLE u) then d else
    let d := d.advanceTo ((d.sub u).lastCommit + d.u Obj.ACK_PERSIST * secTicks)
    (d.bufferWait (.acked u (d.u (Obj.SUB_ACKED u)) d.course.elapsed)).setSub u fun s => { s with lastCommit := d.course.elapsed }

/-! ### Endurance (R313) -/

/-- LEDGER_CYCLE_BUDGET (R313). -/
def Dev.cycleBudget (d : Dev) : Nat :=
  d.logPages * d.u Obj.NVM_CYCLE_LIMIT * 95 / 100 - 3600 / d.u Obj.ACK_PERSIST * 8766 * d.u Obj.SERVICE_LIFE

/-- LEDGER_LIFE in days (R313). -/
def Dev.ledgerLife (d : Dev) : Nat :=
  d.logPages * d.u Obj.NVM_CYCLE_LIMIT * 95 / 100 / max 1 (d.u Obj.LEDGER_WEAR + 3600 / d.u Obj.ACK_PERSIST) / 24

/-- LIFE_SHORT after a retirement (R313): the admitted wear exceeds the budget. -/
def Dev.checkLife (d : Dev) : Dev :=
  d.when (decide (d.cycleBudget < d.u Obj.LEDGER_WEAR * 8766 * d.u Obj.SERVICE_LIFE))
    (Dev.flagRaise Obj.NVM_FLAGS 6 0x5018 (u32 d.ledgerLife))

end Sys2Proof.Machine
end

