-- ==== Sys2Proof/Machine/Sequencing.lean ====
section
/-! DEFINITION. Sequence tables, triggers, protected activities, injected conversions, open-wire checks and
calibrations (chapter 04, and R83–R87 of chapter 03). -/

namespace Sys2Proof.Machine

/-! ### Conditions (R96) -/

/-- The conditions of R96, with STOPPED for a table that is not armed (R121). -/
inductive Condition where
  | stopped | idle | pending | converting | delaying | guarded
deriving DecidableEq, Repr

/-- Whether a calibration runs on a converter. -/
def Dev.calibrating (d : Dev) (c : Nat) : Bool := match (d.conv c).cal with | some k => k.running | none => false

/-- Whether a calibration waits on a converter. -/
def Dev.calWaiting (d : Dev) (c : Nat) : Bool := match (d.conv c).cal with | some k => !k.running | none => false

/-- Whether the self-test holds a converter's seat paused: it is under test, or failed its test first (R139, R142). -/
def Dev.paused (d : Dev) (c : Nat) : Bool :=
  d.underTest == some c || match d.xcheck.test with
    | some t => t.phase == .testSecond && t.b == c && t.firstFailed.isSome
    | none => false

/-- Whether a seat's converter is in a protected activity (R96). -/
def Dev.guarded (d : Dev) (n : Nat) : Bool :=
  let s := d.seat n
  s.check.isSome || s.inj.isSome || match s.conv with
    | some c => d.calibrating c || d.paused c
    | none => false

/-- Whether a seat's table answers triggers (R80, R99, R127). -/
def Dev.armed (d : Dev) (n : Nat) : Bool := let s := d.seat n; s.armed && s.conv.isSome && s.mode != 0

/-- The condition of a seat (R96). -/
def Dev.condition (d : Dev) (n : Nat) : Condition :=
  let s := d.seat n
  if d.guarded n then .guarded
  else if !d.armed n then .stopped
  else if s.run.isSome then .converting
  else if s.delayEnd.isSome then .delaying
  else if s.startAt.isSome then .pending
  else .idle

/-- SEQ_STATE (R121). -/
def Condition.code : Condition → Nat
  | .stopped => 0
  | .idle => 1
  | .pending => 2
  | .converting => 3
  | .delaying => 4
  | .guarded => 5

/-! ### Planning results (R73, R77, R97) -/

/-- Sample instants from a first one on, as runs (first, count), re-phased by the marks in their order (R77). -/
def phased (T : Nat) : List (Nat × Nat) → Nat → Nat → List (Nat × Nat)
  | [], first, count => [(first, count)]
  | (m, base) :: rest, first, count =>
    if first < m then
      let k := min count (ceilDiv (m - first) T)
      (first, k) :: phased T rest base (count - k)
    else phased T rest first count

/-- Runs without their first instant. -/
def dropFirst (T : Nat) : List (Nat × Nat) → List (Nat × Nat)
  | [] => []
  | (f, c) :: rest => if c ≤ 1 then rest else (f + T, c - 1) :: rest

/-- The results that follow an instant of a running conversion, as runs (R97). -/
def Seat.following (s : Seat) (T last count : Nat) : List (Nat × Nat) :=
  (dropFirst T (phased T s.aligns last (count + 1))).filter fun p => p.2 != 0

/-- The converters that follow a seat's sequencer beside its own: one that joins, and a spare that shadows the entry
(R129, R132). -/
def Dev.followers (d : Dev) (n entry : Nat) : List (Nat × Use × Nat) :=
  (match d.xcheck.join with
    | some j => if j.seat = n ∧ (d.seat n).conv ≠ some j.conv then [(j.conv, Use.entry, j.settled)] else []
    | none => []) ++
  (match d.xcheck.comparison with
    | some m => if m.seat = n ∧ m.entry = entry ∧ d.xcheck.spare = some m.b ∧ (d.conv m.b).cal.isNone ∧ !d.refMeasures m.b then [(m.b, Use.shadow, m.settled)] else []
    | none => [])

/-- A converter that follows has taken the settings anew at a change: its results settle with the seat's. -/
def Dev.followChange (n first : Nat) (d : Dev) : Dev :=
  d.setXcheck fun x => { x with
    join := x.join.map fun j => if j.seat = n then { j with settled := first } else j
    comparison := x.comparison.map fun m => if m.seat = n then { m with settled := first } else m }

/-- A number of results that no conversion reaches: a spare that shadows converts on till its next start (R132). -/
def endless : Nat := 2 ^ 64

/-- The flight of a follower with a run of the seat's results from its own first settled instant: a joining converter takes the
run as it is (R129); a spare that shadows goes over to it, a change ending the windows still open, and converts on after it
(R132). -/
def followFlight (use : Use) (settled now : Nat) (change : Bool) (b : Batch) (flight : List Batch) : List Batch :=
  if use ≠ .shadow then flight ++ liveBatches [{ b with use := use }.from settled]
  else
    let cut := if change then fun (x : Batch) => (x.splitAt (now + 1 - x.D)).1 else fun (x : Batch) => (x.splitAt b.first).1
    liveBatches (flight.map fun x => if x.use = .shadow then cut x else x) ++
      liveBatches [{ b with use := .shadow, count := endless }.from settled]

/-- Adds a run of results of an entry to the seat's converter and to those that follow it. -/
def Dev.addBatch (n entry word : Nat) (change : Bool) (p : Nat × Nat) (d : Dev) : Dev :=
  let s := d.seat n
  let b : Batch := ⟨.entry, n, entry, word, d.u (Obj.REF_SEL n) == 1, s.mode == 2, p.1, p.2⟩
  let d := match s.conv with
    | some c => d.setConv c fun v => { v with flight := v.flight ++ liveBatches [b] }
    | none => d
  (d.followers n entry).foldl (fun d f =>
    d.setConv f.1 fun v => { v with flight := followFlight f.2.1 f.2.2 d.course.elapsed change b v.flight }) d

/-- The spare shadows an entry from now on (R132): it converts its settings from the next modulator edge, results settled as after a
change; where the seat runs the entry it goes in step with the seat. -/
def Dev.startShadow (m : Comparison) (d : Dev) : Dev :=
  let s := d.seat m.seat
  let w := d.u (Obj.SEQ_ENTRY m.seat m.entry)
  let own := fun (v : Conv) => liveBatches (v.flight.map fun x =>
    if x.use = .shadow then (x.splitAt (d.course.elapsed + 1 - x.D)).1 else x)
  if s.mode = 0 || (d.conv m.b).cal.isSome then d.setConv m.b fun v => { v with flight := own v }
  else
    let running : List Batch := match s.run, s.conv with
      | some r, some y => if r.entry = m.entry then
          (d.conv y).flight.filter fun (b : Batch) => b.seat == m.seat && b.use == Use.entry && b.entry == m.entry else []
      | _, _ => []
    let alone : Batch := ⟨.shadow, m.seat, m.entry, w, d.u (Obj.REF_SEL m.seat) == 1, s.mode == 2, m.settled, endless⟩
    let next := match running.getLast? with
      | none => [alone]
      | some b => (running.dropLast ++ [{ b with count := endless }]).map fun (b : Batch) =>
        { b.from m.settled with use := Use.shadow }
    d.setConv m.b fun v => { v with flight := own v ++ liveBatches next }

/-- The spare that shadows a seat takes its settings anew, after a change of mode or a calibration (R73, R132). -/
def Dev.shadowAgain (n : Nat) (d : Dev) : Dev :=
  match d.xcheck.comparison with
  | some m =>
    if m.seat = n && d.xcheck.spare == some m.b then
      let paddle := (d.seat n).mode == 2
      let first := d.changeInstant paddle (d.u (Obj.SEQ_ENTRY n m.entry)) (d.edge paddle d.course.elapsed)
      let m := { m with settled := first }
      (d.setXcheck fun x => { x with comparison := some m }).startShadow m
    else d
  | none => d

/-- Adds some runs. -/
def Dev.addBatches (n entry word : Nat) (change : Bool) (ps : List (Nat × Nat)) (d : Dev) : Dev :=
  ps.foldl (fun d p => d.addBatch n entry word change p) d

/-- Takes from every flight the results of a seat's entries that fail a test of their batch; a spare that shadows converts on
(R132). -/
def Dev.cutFlights (n : Nat) (keep : Batch → List Batch) (d : Dev) : Dev :=
  { d with convs := d.convs.map fun v => { v with
      flight := v.flight.flatMap fun b => if b.seat = n ∧ b.use = .entry then liveBatches (keep b) else [b] } }

/-- How many results of a seat's flight a cut takes from its converter. -/
def Dev.flightCount (d : Dev) (n : Nat) : Nat :=
  match (d.seat n).conv with
  | some c => (((d.conv c).flight.filter fun b => b.seat == n && b.use == .entry).map Batch.count).sum
  | none => 0

/-- Takes away the results whose filter windows are open (R80, R102, R119). -/
def Dev.dropOpen (n : Nat) (d : Dev) : Dev :=
  d.cutFlights n fun b => [(b.splitAt (d.course.elapsed + 1 - b.D)).1]

/-- Takes away the results whose sample instants do not lie before an instant (R77), those of a spare that shadows the running
entry among them. -/
def Dev.dropFrom (n t : Nat) (d : Dev) : Dev :=
  let now := (d.seat n).run.map EntryRun.entry
  { d with convs := d.convs.map fun v => { v with
      flight := v.flight.flatMap fun b =>
        if b.seat = n ∧ (b.use = .entry ∨ (b.use = .shadow ∧ now = some b.entry)) then liveBatches [(b.splitAt t).1] else [b] } }

/-- Takes away the results whose sample instants have not come (R77). -/
def Dev.dropAhead (n : Nat) (d : Dev) : Dev := d.dropFrom n d.course.elapsed

/-- How many results a seat's converter has to deliver with instants at or after an instant. -/
def Dev.countFrom (d : Dev) (n t : Nat) : Nat := d.flightCount n - (d.dropFrom n t).flightCount n

/-- Starts an entry with its runs of results (R97). -/
def Dev.runEntry (n entry : Nat) (ps : List (Nat × Nat)) (change : Bool) (d : Dev) : Dev :=
  let w := d.u (Obj.SEQ_ENTRY n entry)
  let T := rateTicks (rateOf w)
  let last := match ps.getLast? with | some p => p.1 + (p.2 - 1) * T | none => (d.seat n).lastInstant
  let first := match ps.head? with | some p => p.1 | none => last
  let d := d.when change (Dev.followChange n first)
  let d := d.addBatches n entry w change ps
  d.setSeat n fun s => { s with
    run := some ⟨entry, w, last + groupDelay (filterOf w) (rateOf w)⟩
    entryNow := entry
    cont := some w
    lastInstant := last
    settled := if change then first else s.settled
    aligns := if change then [] else s.aligns.filter fun a => decide (last < a.1)
    delayEnd := none }

/-- Starts an entry as a change (R73), with some results to deliver. -/
def Dev.changeEntry (n entry count : Nat) (d : Dev) : Dev :=
  let w := d.u (Obj.SEQ_ENTRY n entry)
  d.runEntry n entry [(d.changeInstant ((d.seat n).mode == 2) w d.course.elapsed, count)] true

/-- The next entry starts, the table loops, or the converter goes idle (R97, R98). -/
def Dev.nextEntry (n : Nat) (d : Dev) : Dev :=
  let s := d.seat n
  let last := d.u (Obj.SEQ_LAST n)
  if last ≤ s.entryNow && d.u (Obj.SEQ_LOOP n) == 1 then d.setSeat n fun s => { s with run := none, cont := none, delayEnd := none }
  else
    let e := if last ≤ s.entryNow then 0 else s.entryNow + 1
    let w := d.u (Obj.SEQ_ENTRY n e)
    match s.cont with
    | some w0 =>
      if delayOf w0 = 0 && settingsOf w0 == settingsOf w then
        d.runEntry n e (s.following (rateTicks (rateOf w)) s.lastInstant (repeatOf w)) false
      else d.changeEntry n e (repeatOf w)
    | none => d.changeEntry n e (repeatOf w)

/-- Whether an open-wire check of the entry just ended is due (R84, R85); the intervals run from the start of the device (DESIGN
CHOICE, log 78). -/
def Dev.checkDue (d : Dev) (n : Nat) : Bool :=
  let s := d.seat n
  let e := s.entryNow
  let len := d.u (Obj.OW_INTERVAL n) * secTicks
  bit (d.u (Obj.OW_MASK n)) e && (bit s.recheck e || match s.checked.find? fun p => p.1 == e with
    | some p => p.2 / len != d.course.elapsed / len
    | none => true)

/-- After an entry and its delay: a check that is due, or the next entry (R84, R97). -/
def Dev.afterEntry (n : Nat) (d : Dev) : Dev :=
  let d := d.setSeat n fun s => { s with delayEnd := none }
  if d.checkDue n then d.setSeat n fun s => { s with check := some .due } else d.nextEntry n

/-- Whether a calibration takes the converter from its seat now (R119): while a self-test runs it waits, and the table goes on
(DEDUCED, log 73). -/
def Dev.calTakes (d : Dev) (n : Nat) : Bool :=
  match (d.seat n).conv with
  | some c => d.calWaiting c && d.xcheck.test.isNone
  | none => false

/-- Whether a self-test that waits will pause a seat as soon as it starts (R139, R143). -/
def Dev.callTakes (d : Dev) (n : Nat) : Bool :=
  match d.xcheck.call, d.xcheck.spare with
  | some k, none => (d.seat n).conv == some (max k.a k.b)
  | _, _ => false

/-- ENTRY_WINDOW_END (R96, R97): the window of the entry's last result ends; its DELAY runs from here. -/
def Dev.entryWindowEnd (n : Nat) (d : Dev) : Dev :=
  match (d.seat n).run with
  | none => d
  | some r =>
    let d := (d.advanceTo r.windowEnd).setSeat n fun s => { s with run := none }
    if d.calTakes n then d.setSeat n fun s => { s with cont := none }
    else if delayOf r.word = 0 then d.afterEntry n
    else d.setSeat n fun s => { s with delayEnd := some (r.windowEnd + delayOf r.word) }

/-- DELAY_END (R97, R104): inside a protected activity it takes effect at the activity's end. -/
def Dev.delayEndNow (n : Nat) (d : Dev) : Dev :=
  match (d.seat n).delayEnd with
  | none => d
  | some t =>
    let d := d.advanceTo t
    if d.guarded n then d else d.afterEntry n

/-! ### Triggers and starts (R100–R104) -/

/-- An abandonment (R102): counted, and its flag set. -/
def Dev.countAbandoned (n : Nat) (d : Dev) : Dev := (d.bump (Obj.SEQ_ABANDONED n)).setFlag (Obj.SEQ_FLAGS n) 3

/-- The first edge that a mark gives the running conversion, never before its first settled instant (R77). -/
def Dev.phaseBase (d : Dev) (n T : Nat) : Nat :=
  let s := d.seat n
  let e := d.edge (s.mode == 2) d.course.elapsed
  if e < s.settled then e + ceilDiv (s.settled - e) T * T else e

/-- Results of entries that continue the running conversion and whose instants lie before the present tick: a mark that
re-phases still delivers them (R77). -/
def Dev.flushChain (n : Nat) : Nat → Dev → Dev
  | 0, d => d
  | fuel + 1, d =>
    let s := d.seat n
    match s.cont with
    | none => d
    | some w0 =>
      let last := d.u (Obj.SEQ_LAST n)
      let e := if last ≤ s.entryNow then 0 else s.entryNow + 1
      let w := d.u (Obj.SEQ_ENTRY n e)
      if delayOf w0 != 0 || (decide (last ≤ s.entryNow) && d.u (Obj.SEQ_LOOP n) == 1) ||
          settingsOf w0 != settingsOf w || decide (d.course.elapsed ≤ s.lastInstant) then d
      else
        let d := d.runEntry n e (s.following (rateTicks (rateOf w)) s.lastInstant (repeatOf w)) false
        (d.dropAhead n).flushChain n fuel

/-- Entry 0 starts as a CONV_START (R77, R101, R102): unchanged settings go on at the mark's phase; else the conversion
running is abandoned and the start is a change. -/
def Dev.startTable (n : Nat) (d : Dev) : Dev :=
  let d := d.setSeat n fun s => { s with started := true, startAt := none }
  let w := d.u (Obj.SEQ_ENTRY n 0)
  let s := d.seat n
  if s.run.isSome && (s.cont.map settingsOf) == some (settingsOf w) then
    let base := d.phaseBase n (rateTicks (rateOf w))
    let d := (d.dropAhead n).flushChain n 20
    let d := d.setSeat n fun s => { s with aligns := [] }
    d.runEntry n 0 [(base, repeatOf w)] false
  else
    let d := if s.run.isSome then (d.dropOpen n).countAbandoned n else d
    d.changeEntry n 0 (repeatOf w)

/-- A start is pended from now by TRIG_DELAY; without delay it comes now (R101, R103). -/
def Dev.pendStart (n : Nat) (d : Dev) : Dev :=
  let w := d.u (Obj.TRIG_DELAY n)
  if w = 0 then d.startTable n
  else d.setSeat n fun s => { s with startAt := some (d.course.elapsed + 8 * w) }

/-- TRIG_MISSED counts; its first since the flag was clear raises 0x2012 (R102, R104). -/
def Dev.countMissed (n : Nat) (d : Dev) : Dev :=
  (d.bump (Obj.TRIG_MISSED n)).flagFirst (Obj.SEQ_FLAGS n) 0 0x2012 (u8 n)

/-- A trigger of a seat (R99, R102, R103). -/
def Dev.trigger (n : Nat) (d : Dev) : Dev :=
  if !d.armed n then d else
    let ignore := d.u (Obj.RETRIG n) == 1
    let s := d.seat n
    match d.condition n with
    | .guarded =>
      let d := d.when (ignore || s.held) (Dev.countMissed n)
      d.when (!ignore) (Dev.setSeat n fun s => { s with held := true })
    | .stopped => d
    | .idle => d.pendStart n
    | _ => if ignore then d.countMissed n else (d.when s.startAt.isSome (Dev.countMissed n)).pendStart n

/-- A trigger from a source of R100. -/
def Dev.triggerFrom (n src : Nat) (d : Dev) : Dev := d.when (d.u (Obj.TRIG_SRC n) == src) (Dev.trigger n)

/-- TRIGGER_START_INSTANT (R101, R104): inside a protected activity it takes effect at the activity's end. -/
def Dev.triggerStart (n : Nat) (d : Dev) : Dev :=
  match (d.seat n).startAt with
  | none => d
  | some t =>
    let d := d.advanceTo t
    if d.guarded n then d else if d.armed n then d.startTable n else d.setSeat n fun s => { s with startAt := none }

/-- The results of the running conversion from an instant on fall on a phase (R77); those before it stay. -/
def Dev.rephase (n : Nat) (r : EntryRun) (t base : Nat) (d : Dev) : Dev :=
  let left := d.countFrom n t
  let d := d.setSeat n fun s => { s with aligns := s.aligns ++ [(t, base)] }
  if left = 0 then d else (d.dropFrom n t).runEntry n r.entry [(base, left)] false

/-- An ALIGN mark for a seat (R77): the instants not yet come fall on the mark's phase; results before it stay. -/
def Dev.alignSeat (n : Nat) (d : Dev) : Dev :=
  if d.condition n ≠ .converting then d else
    match (d.seat n).run with
    | none => d
    | some r => d.rephase n r d.course.elapsed (d.phaseBase n (rateTicks (rateOf r.word)))

/-- After the end of an overload reset the conversion of a seat goes on as after a change (R67, R73): the first settled result has
its instant at the change plus 2 µs plus D; those before it, which are overrange codes, stay (DEDUCED, log 72). -/
def Dev.overloadPhase (c done : Nat) (d : Dev) : Dev :=
  match d.seatOf c with
  | none => d
  | some n => match (d.seat n).run with
    | none => d
    | some r =>
      let base := d.changeInstant ((d.seat n).mode == 2) r.word done
      (d.rephase n r base base).setSeat n fun s => { s with settled := max s.settled base }

/-- MODULATOR_OVERLOAD (R67): the loop filter resets within 1 µs (a free value); the first overload of an episode is
flagged, counted and reported. The sign that its results take is that of the latest overload (DESIGN CHOICE, log 71). -/
def Dev.modulatorOverload (c : Nat) (negative : Bool) (d : Dev) : Dev :=
  let first := (d.conv c).overload.isNone
  let done := d.course.elapsed + d.freshNat % 66
  let d := d.tickFresh.setConv c fun v => { v with overload := some negative, clean := done + settleTicks }
  let d := d.overloadPhase c done
  d.when first fun d => (d.bump (Obj.OVERLOAD_COUNT c)).flagRaise (Obj.CV_FLAGS c) 1 0x2002 (u8 c)

/-- After a protected activity (R103, R104): a waiting calibration or self-test goes first; then a held trigger, which replaces a
start still pending (R102); then the table goes on, or restarts after a calibration or self-test. A first start of a FREE table that
was still pending then is dropped (DESIGN CHOICE, log 70). -/
def Dev.release (n : Nat) (restart : Bool) (resume : Dev → Dev) (d : Dev) : Dev :=
  if d.guarded n || d.calTakes n || ((d.seat n).held && d.callTakes n) then d
  else if !d.armed n then d.setSeat n fun s => { s with held := false }
  else if (d.seat n).held then
    let d := d.when (d.seat n).startAt.isSome (Dev.countMissed n)
    let d := d.setSeat n fun s => { s with held := false, delayEnd := none, startAt := none, run := none, cont := none }
    ((d.bump (Obj.TRIG_LATE n)).setFlag (Obj.SEQ_FLAGS n) 1).pendStart n
  else if restart then
    let d := d.setSeat n fun s => { s with delayEnd := none, startAt := none, run := none, cont := none }
    d.when (d.u (Obj.SEQ_LOOP n) == 0 && (d.seat n).started) (Dev.startTable n)
  else resume d

/-- Whether an instant is set and has come. -/
def past (now : Nat) (t : Option Nat) : Bool := match t with | some x => decide (x ≤ now) | none => false

/-- The table goes on where it stood: an end of a delay or a start that fell inside the activity comes now (R104). -/
def Dev.resumeTable (n : Nat) (d : Dev) : Dev :=
  let s := d.seat n
  if past d.course.elapsed s.startAt then d.startTable n
  else if past d.course.elapsed s.delayEnd then d.afterEntry n
  else d

/-- A seat runs nothing any more: its converter goes idle; a protected activity goes on. -/
def Dev.haltSeat (n : Nat) (d : Dev) : Dev :=
  d.setSeat n fun s => { s with
    started := false, run := none, cont := none, delayEnd := none, startAt := none, held := false
    check := (match s.check with | some .due => none | c => c) }

/-- SEQ_CTRL STOP (R99): the entry being run ends, none of its results is delivered any more, the converter goes
idle; a protected activity goes on. -/
def Dev.stopTable (n : Nat) (d : Dev) : Dev :=
  let d := match (d.seat n).run with
    | some r => d.cutFlights n fun b => if b.entry = r.entry then [] else [b]
    | none => d
  (d.haltSeat n).setSeat n fun s => { s with armed := false }

/-- Arms a table (R99); an armed one stays as it is. -/
def Dev.armTable (n : Nat) (d : Dev) : Dev :=
  if (d.seat n).armed then d else d.setSeat n fun s => { s with armed := true, started := false, ovr := 0 }

/-- On leaving CONFIG or STARTING every seat whose SEQ_CTRL is RUN is armed (R99, R492). -/
def Dev.armTables (d : Dev) : Dev :=
  (List.range 4).foldl (fun d n => d.when (d.u (Obj.SEQ_CTRL n) == 1) (Dev.armTable n)) d

/-- On entering CONFIG no sequence runs (R99). -/
def Dev.stopTables (d : Dev) : Dev := (List.range 4).foldl (fun d n => d.stopTable n) d

/-! ### CV_MODE and BURNOUT at the boundary (R80, R83) -/

/-- The mode that a seat is to run in: its CV_MODE, or OFF while a forced profile change has powered it down (R411). -/
def Dev.modeWanted (d : Dev) (n : Nat) : Nat := if bit d.power.seatsDown n then 0 else d.u (Obj.CV_MODE n)

/-- The end of the filter window of a seat's injected conversion that runs. -/
def Dev.injWindow (d : Dev) (n : Nat) : Option Nat :=
  match (d.seat n).conv with
  | none => none
  | some c => ((d.conv c).flight.filter fun b => b.use == .injected && b.seat == n).getLast?.map fun b => b.first + b.D

/-- A change during an injected conversion (R73, R107): it settles anew, and its result comes with the first settled instant. One
whose window has ended stays. -/
def Dev.injChange (n : Nat) (d : Dev) : Dev :=
  match (d.seat n).inj, (d.seat n).conv with
  | some _, some c =>
    let paddle := (d.seat n).mode == 2
    let settles := fun (b : Batch) => d.changeInstant paddle b.word d.course.elapsed
    let anew := fun (b : Batch) => if b.use = .injected ∧ b.seat = n ∧ d.course.elapsed < b.first + b.D then
        { b with refExt := d.u (Obj.REF_SEL n) == 1, paddle := paddle, first := settles b }
      else b
    let d := d.setConv c fun v => { v with flight := v.flight.map anew }
    d.setSeat n fun s => { s with inj := d.injWindow n }
  | _, _ => d

/-- An injected conversion whose window is open is given up where its converter goes OFF (R80) (DESIGN CHOICE, log 74). -/
def Dev.injGiveUp (n : Nat) (d : Dev) : Dev :=
  match (d.seat n).inj with
  | none => d
  | some _ =>
    let d : Dev := { d with convs := d.convs.map fun v => { v with
      flight := v.flight.filter fun (b : Batch) => !(b.use == .injected && b.seat == n && decide (d.course.elapsed < b.first + b.D)) } }
    (d.setSeat n fun s => { s with inj := none }).put (Obj.INJ_STATUS n) 0

/-- A new CV_MODE takes effect (R80): OFF ends what runs, the results whose windows have ended still coming; else the running entry
goes on as a change, delivering what remains of its REPEAT results. -/
def Dev.applyMode (n : Nat) (d : Dev) : Dev :=
  let new := d.modeWanted n
  if (d.seat n).mode = new then d else
    let d := d.setSeat n fun s => { s with mode := new }
    if new = 0 then (((d.dropOpen n).haltSeat n).injGiveUp n).shadowAgain n
    else
      let d := (d.injChange n).shadowAgain n
      match (d.seat n).run with
      | none => d.setSeat n fun s => { s with cont := none }
      | some r =>
        let before := d.flightCount n
        let d := d.dropOpen n
        let left := before - d.flightCount n
        if left = 0 then d.setSeat n fun s => { s with cont := none } else d.changeEntry n r.entry left

/-- What the boundary brings a seat: CV_MODE and BURNOUT (R80, R83). -/
def Dev.seatBoundary (n : Nat) (d : Dev) : Dev :=
  (d.applyMode n).setSeat n fun s => { s with burnout := d.u (Obj.BURNOUT n) }

/-! ### The diagnostic DAC (R86, R138) -/

/-- Whether some open-wire check runs. -/
def Dev.checkRuns (d : Dev) : Bool := d.seats.any fun s => match s.check with | some (.running _) => true | _ => false

/-- Whether some calibration runs. -/
def Dev.calRuns (d : Dev) : Bool := (List.range 4).any d.calibrating

/-- Whether a self-test holds the DAC: from its start to the end of its last path (R138) (DEDUCED, log 73). -/
def Dev.testHolds (d : Dev) : Bool := match d.xcheck.test with | some t => t.phase != .rejoin | none => false

/-- Whether the DAC is in use for a check, a self-test or a calibration (R86). -/
def Dev.dacBusy (d : Dev) : Bool := d.checkRuns || d.calRuns || d.testHolds

/-- DIAG_OWNER (R148). -/
def Dev.diagOwner (d : Dev) : Nat :=
  if d.testHolds then 2 else if d.checkRuns then 1 else if d.calRuns then 4
  else if d.on Obj.DIAG_MANUAL then 3 else 0

/-! ### Open-wire checks (R84–R86) -/

/-- 200 µs in whole ticks (13107.2). -/
def checkTicks : Nat := 13108

/-- 95.75 µs and 194.55 µs in whole ticks (R84): the output changes its sign, and the decision. -/
def checkTurn : Nat := 6276
def checkDecision : Nat := 12751

/-- Whether a check of a lower-numbered converter is due too (R86). -/
def Dev.lowerDue (d : Dev) (n : Nat) : Bool :=
  (List.range 4).any fun m => m != n && (d.seat m).check == some .due && match (d.seat m).conv, (d.seat n).conv with
    | some x, some y => decide (x < y)
    | _, _ => false

/-- OW_CHECK_START (R84, R86): a due check takes the DAC, or is deferred to the entry's next occurrence. -/
def Dev.checkStart (n : Nat) (d : Dev) : Dev :=
  if (d.seat n).check ≠ some .due then d
  else if d.dacBusy || d.lowerDue n then
    let d := d.setSeat n fun s => { s with check := none }
    let d := d.bump (Obj.OW_DEFERRED n)
    let d := match (d.seat n).conv with | some c => d.setFlag (Obj.CV_FLAGS c) 5 | none => d
    d.nextEntry n
  else
    let t := d.course.elapsed
    d.setSeat n fun s => { s with
      check := some (.running t), cont := none
      spans := (t, t + checkTicks, d.u (Obj.SEQ_ENTRY n s.entryNow)) ::
        s.spans.filter fun p => decide (t ≤ p.2.1 + longestWindow) }

/-- Whether a check's two readings find open (R85): an overrange, or half their distance beyond OW_THRESHOLD of A. -/
def findsOpen (thresholdPct amplitudeMv : Nat) : Reading → Reading → Bool
  | .volts p, .volts m => decide (2 * thresholdPct * (amplitudeMv * 1000000) < (p - m).natAbs * 100)
  | _, _ => true

/-- A finding of an open-wire check of an entry (R85). -/
def Dev.checkFinding (n e : Nat) (isOpen : Bool) (d : Dev) : Dev :=
  let s := d.seat n
  let flags := Obj.CV_FLAGS (s.conv.getD n)
  let declared := bit (d.u (Obj.OW_OPEN n)) e
  if isOpen then
    if declared then d
    else if bit s.recheck e then
      let d := d.setSeat n fun s => { s with recheck := clearBit s.recheck e }
      (d.put (Obj.OW_OPEN n) (setBit (d.u (Obj.OW_OPEN n)) e)).flagRaise flags 3 0x2006 (u8 n ++ u8 e)
    else d.setSeat n fun s => { s with marked := setBit s.marked e, recheck := setBit s.recheck e }
  else
    if declared then
      let d := d.setSeat n fun s => { s with marked := clearBit s.marked e }
      (d.put (Obj.OW_OPEN n) (clearBit (d.u (Obj.OW_OPEN n)) e)).flagRaise flags 4 0x2007 (u8 n ++ u8 e)
    else if bit s.recheck e then
      (d.setSeat n fun s => { s with marked := clearBit s.marked e, recheck := clearBit s.recheck e }).bump
        (Obj.OW_TRANSIENT n)
    else d

/-- OW_CHECK_END (R84, R85): the decision is taken 194.55 µs after the start; at 200 µs the check ends, and the next entry, or a
start whose instant fell inside the check, comes (R101, R104). -/
def Dev.checkEnd (n : Nat) (xp xm : Reading) (d : Dev) : Dev :=
  match (d.seat n).check with
  | some (.running t) =>
    let d := d.advanceTo (t + checkDecision)
    let e := (d.seat n).entryNow
    let d := d.checkFinding n e (findsOpen (d.u (Obj.OW_THRESHOLD n)) (d.u (Obj.OW_AMPLITUDE n)) xp xm)
    let d := (d.advanceTo (t + checkTicks)).bump (Obj.OW_CHECKS n)
    let d := d.setSeat n fun s => { s with check := none, checked := (e, t) :: s.checked.filter fun p => p.1 != e }
    d.release n false fun d => if past d.course.elapsed (d.seat n).startAt then d.startTable n else d.nextEntry n
  | _ => d

/-- Whether another seat's check disturbed a result (R87): it drove a pin of the result's input pair, in the result's
filter window. -/
def Dev.disturbed (d : Dev) (c word lo hi : Nat) : Bool :=
  d.seats.any fun s => s.conv != some c && s.spans.any fun p =>
    decide (p.1 < hi) && decide (lo < p.2.1) &&
      ([inpOf p.2.2, innOf p.2.2].any fun i => decide (i < 16) && (i == inpOf word || i == innOf word))

/-! ### Injected conversions (R105–R107) -/

/-- Whether a seat's injected conversion is pending: accepted, its result not delivered (R107). -/
def Dev.injPending (d : Dev) (n : Nat) : Bool := d.u (Obj.INJ_STATUS n) == 1

/-- The answer of INJ_REQUEST (R106): dropped BUSY, refused, or accepted. A seat without a converter and an INJ_ENTRY that the mode
in force forbids are refused RANGE (DESIGN CHOICE, log 75). -/
def Dev.injCheck (d : Dev) (n : Nat) : Option Fail :=
  let c := d.condition n
  let cal := match (d.seat n).conv with | some k => (d.conv k).cal.isSome | none => false
  if c == .converting || c == .guarded || cal then failBusy
  else if (d.seat n).conv.isNone || (d.seat n).mode == 0 then failRange 0
  else failIf (injectedBad ((d.seat n).mode == 2) (d.u (Obj.INJ_ENTRY n))) (failRange 0)

/-- A dropped injection request (R106). -/
def Dev.injDrop (n : Nat) (d : Dev) : Dev := (d.bump (Obj.INJ_DROPPED n)).setFlag (Obj.SEQ_FLAGS n) 2

/-- An accepted injection (R106): the conversion starts at the next modulator edge, as a change. -/
def Dev.injStart (n : Nat) (d : Dev) : Dev :=
  let s := d.seat n
  let w := d.u (Obj.INJ_ENTRY n)
  let paddle := s.mode == 2
  let i := d.changeInstant paddle w (d.edge paddle d.course.elapsed)
  let b : Batch := ⟨.injected, n, 255, w, d.u (Obj.REF_SEL n) == 1, paddle, i, 1⟩
  let d := match s.conv with
    | some c => d.setConv c fun v => { v with flight := v.flight ++ [b] }
    | none => d
  (d.setSeat n fun s => { s with inj := some (i + b.D), injPrecal := false, cont := none }).put (Obj.INJ_STATUS n) 1

/-- INJ_WINDOW_END (R107). -/
def Dev.injWindowEnd (n : Nat) (d : Dev) : Dev :=
  match (d.seat n).inj with
  | none => d
  | some t => ((d.advanceTo t).setSeat n fun s => { s with inj := none }).release n false (Dev.resumeTable n)

/-! ### Calibration (R116–R120) -/

/-- CAL_STATUS (R123). -/
def calStatus (state reason done : Nat) : Nat := state * 2 ^ 12 + reason * 2 ^ 8 + done % 256

/-- The seat whose table a converter's system calibration reads: the one it holds, or its own block's. -/
def Dev.calSeat (d : Dev) (c : Nat) : Nat := (d.seatOf c).getD c

/-- The gain codes of a procedure (R116). -/
def Dev.calGains (d : Dev) (c proc mask : Nat) : List Nat :=
  if proc ≤ 2 then bitList (if d.convMode c = 2 then 2 else 8) mask
  else [gainOf (d.u (Obj.SEQ_ENTRY (d.calSeat c) (d.u (Obj.CAL_ENTRY c))))]

/-- The measurements of a procedure, in ascending gain order (R116, R117). -/
def measurements (proc : Nat) (gains : List Nat) : List Measurement :=
  gains.flatMap fun g => if proc = 2 then [⟨g, false⟩, ⟨g, true⟩] else [⟨g, false⟩]

/-- Whether a calibration request is accepted (R118): the state, then BUSY, then RANGE; an empty selection of gains is refused RANGE
too (DESIGN CHOICE, log 75). -/
def Dev.calCheck (d : Dev) (c proc : Nat) : Option Fail :=
  let st := d.device.state
  let stopped := match d.seatOf c with | some n => d.u (Obj.SEQ_CTRL n) == 0 | none => false
  let ok := st == .config || st == .service ||
    ((st == .run || st == .hold) && (d.xcheck.spare == some c || stopped))
  orFail (failIf (!ok) d.failState)
    (orFail (failIf (d.conv c).cal.isSome failBusy)
      (orFail (failIf (d.convMode c == 0) (failRange 0))
        (failIf (d.calGains c proc (d.u (Obj.CAL_GAIN_MASK c))).isEmpty (failRange 0))))

/-- The end of the filter window of the running entry's next result (R119). -/
def Dev.nextWindowEnd (d : Dev) (n : Nat) : Option Nat :=
  match (d.seat n).run, (d.seat n).conv with
  | some _, some c =>
    (d.conv c).flight.findSome? fun b =>
      if b.seat = n ∧ b.use = .entry then
        let r := b.from (d.course.elapsed + 1 - b.D)
        if r.count = 0 then none else some (r.first + r.D)
      else none
  | _, _ => none

/-- A calibration is accepted and waits (R119). -/
def Dev.calAccept (c proc mask : Nat) (d : Dev) : Dev :=
  let k : Calibration := ⟨proc, measurements proc (d.calGains c proc mask), d.convMode c == 2, d.i (Obj.CAL_TARGET c),
    false, (match d.seatOf c with | some n => d.nextWindowEnd n | none => none), 0, 0, [], 0, false⟩
  let d := (d.setConv c fun v => { v with cal := some k }).put (Obj.CAL_STATUS c) (calStatus 1 0 0)
  match d.seatOf c with
  | some n => d.when (d.injPending n) (Dev.setSeat n fun s => { s with injPrecal := true })
  | none => d

/-- Whether what R119 names has yet to end. -/
def Dev.calBlocked (d : Dev) (c : Nat) : Bool :=
  d.refMeasures c || d.checkRuns || d.xcheck.test.isSome || match d.seatOf c with
    | some n => (d.seat n).inj.isSome || (d.seat n).check.isSome
    | none => false

/-- CAL_START (R119): the running entry gives way at the end of its next result's window, unless it has ended before (R99); the
first measurement starts at a modulator edge. -/
def Dev.calStart (c : Nat) (d : Dev) : Dev :=
  match (d.conv c).cal with
  | none => d
  | some k =>
    if k.running || d.calBlocked c then d else
      let after := match d.seatOf c with
        | some n => if (d.seat n).run.isNone then none
          else (match k.after with
            | some t => if d.course.elapsed ≤ t then some t else d.nextWindowEnd n
            | none => d.nextWindowEnd n)
        | none => k.after
      let d := match after with | some t => d.advanceTo t | none => d
      let d := match d.seatOf c with
        | none => d.setConv c fun v => { v with flight := [] }
        | some n =>
          let before := d.flightCount n
          let run := (d.seat n).run.isSome
          let d := if run then d.dropOpen n else d
          let d := d.when (run && decide (d.flightCount n < before)) (Dev.countAbandoned n)
          d.setSeat n fun s => { s with run := none, cont := none }
      let s := d.edge k.paddle d.course.elapsed
      (d.setConv c fun v => { v with cal := some { k with running := true, start := s } }).put (Obj.CAL_STATUS c)
        (calStatus 2 0 0)

/-- When the present measurement ends: its 16th output is ready, 13,107,536 ticks after its start (R117). -/
def measurementEnd (k : Calibration) : Nat := k.start + 13107536

/-- The gain coefficient of a measurement; none where it fails with reason 2 (R117). -/
def gainCoefficient (num den : Int) : Option Nat :=
  if den ≤ 0 then none else
    let g := (num * 2 ^ 30 + den / 2) / den
    if g < 0x20000000 ∨ 0x80000000 < g then none else some g.toNat

/-- A calibration's converter is free again: its seat's table goes on (R104), a spare shadows again (R118, R132). -/
def Dev.calFreed (c : Nat) (d : Dev) : Dev :=
  match d.seatOf c, d.xcheck.comparison with
  | some n, _ => d.release n true id
  | none, some m => d.when (m.b == c) (Dev.shadowAgain m.seat)
  | none, none => d

/-- Ends a calibration in FAILED with a reason (R120). -/
def Dev.calFail (c : Nat) (k : Calibration) (reason : Nat) (d : Dev) : Dev :=
  let d := (d.setConv c fun v => { v with cal := none }).put (Obj.CAL_STATUS c) (calStatus 4 reason k.done)
  (d.raise 0x2011 (u8 c ++ u8 k.procedure ++ u8 reason)).calFreed c

/-- A coefficient is formed: the next measurement starts, at a modulator edge (log 80), or all coefficients go to the ledger together
(R117, R120). -/
def Dev.calProceed (c : Nat) (k : Calibration) (rest : List Measurement) (d : Dev) : Dev :=
  let k := { k with todo := rest, start := d.edge k.paddle d.course.elapsed, handed := rest.isEmpty }
  let d := (d.setConv c fun v => { v with cal := some k }).put (Obj.CAL_STATUS c) (calStatus 2 0 k.done)
  d.when rest.isEmpty (Dev.bufferInternal (.calibration ⟨c % 4, Nat.mod_lt _ (by decide)⟩) k.writes)

/-- CAL_MEASUREMENT_END (R117, R120). -/
def Dev.measured (c : Nat) (outputs : List Int) (overload : Bool) (d : Dev) : Dev :=
  match (d.conv c).cal with
  | none => d
  | some k =>
    match k.todo with
    | [] => d
    | m :: rest =>
      if !k.running then d else
        let d := d.advanceTo (measurementEnd k)
        let off := offsetReg c m.gain k.paddle
        let bad := overload || outputs.any fun r => isOvr (d.calibrated c m.gain k.paddle (.code r))
        let mean := (outputs.sum + 8) / 16
        if bad then d.calFail c k 1
        else if k.procedure = 1 ∨ k.procedure = 3 then
          if 2147484 < mean.natAbs then d.calFail c k 3
          else d.calProceed c { k with
            writes := k.writes ++ [off.write (unsigned 32 mean)], done := setBit k.done m.gain } rest
        else if k.procedure = 2 ∧ !m.second then d.calProceed c { k with meanPlus := mean } rest
        else
          let g := if k.procedure = 2 then gainCoefficient 3435973837 (k.meanPlus - mean)
            else gainCoefficient (k.target * 256) (mean - d.i off)
          match g with
          | none => d.calFail c k 2
          | some g => d.calProceed c { k with
              writes := k.writes ++ [(gainReg c m.gain k.paddle).write g], done := setBit k.done m.gain } rest

/-- The seal of a calibration's coefficients (R120): DONE, 0x2010, and the converter is free. A group that the recovery after a reset
completes brings the coefficients into force and shows DONE (DEDUCED, log 76). -/
def Dev.calSealed (c : Nat) (d : Dev) : Dev :=
  match (d.conv c).cal with
  | none =>
    let s := d.u (Obj.CAL_STATUS c)
    d.when (bits s 15 8 == 0x44) (Dev.put (Obj.CAL_STATUS c) (calStatus 3 0 s))
  | some k =>
    let d := (d.setConv c fun v => { v with cal := none }).put (Obj.CAL_STATUS c) (calStatus 3 0 k.done)
    (d.raise 0x2010 (u8 c ++ u8 k.procedure)).calFreed c

/-! ### Edges that a boundary moves (R76) -/

/-- A planned instant on the edges of the stroke that has begun; one that lies in the past stays. -/
def Dev.onEdge (d : Dev) (paddle : Bool) (t : Nat) : Nat := if t < d.course.elapsed then t else d.edge paddle t

/-- A run of results on the edges of the stroke that has begun. -/
def Dev.batchOnEdges (d : Dev) (b : Batch) : List Batch :=
  let p := b.splitAt d.course.elapsed
  liveBatches [p.1, { p.2 with first := d.edge b.paddle p.2.first }]

/-- At a stroke boundary every planned instant goes to the edge of the new stroke that follows it (R76); where the boundary stands on
the edges of the last stroke nothing moves. -/
def Dev.replanEdges (d : Dev) : Dev :=
  let d : Dev := { d with convs := d.convs.map fun v => { v with flight := v.flight.flatMap d.batchOnEdges } }
  let d := (List.range 4).foldl (fun d n => d.setSeat n fun s =>
    let e := d.onEdge (s.mode == 2)
    { s with
      run := s.run.map fun r =>
        let D := groupDelay (filterOf r.word) (rateOf r.word)
        { r with windowEnd := e (r.windowEnd - D) + D }
      lastInstant := e s.lastInstant
      settled := e s.settled
      aligns := s.aligns.map fun a => (a.1, e a.2)
      inj := if s.inj.isSome then d.injWindow n else none }) d
  d.setXcheck fun x => { x with
    join := x.join.map fun j => { j with settled := d.onEdge ((d.seat j.seat).mode == 2) j.settled }
    comparison := x.comparison.map fun m => { m with settled := d.onEdge ((d.seat m.seat).mode == 2) m.settled } }

end Sys2Proof.Machine
end

