-- ==== Sys2Proof/Machine/CrossCheck.lean ====
section
/-! DEFINITION. Seats, joins, rotation, comparison, the self-test after an error and retirement (chapter 05). -/

namespace Sys2Proof.Machine

/-! ### Seats (R125–R128, R149) -/

/-- The converters that RETIRED leaves for the seats (R128). -/
def Dev.working (d : Dev) : List Nat := (List.range 4).filter fun c => !bit (d.u Obj.RETIRED) c

/-- The base assignment (R128): the working converters take the seats in ascending order; in ROTATE a fourth is spare. -/
def Dev.baseAssign (d : Dev) : Dev :=
  let ws := d.working
  let k := d.workSeats
  let d := (List.range 4).foldl (fun d n =>
    (d.setSeat n fun s => { s with conv := if n < k then ws[n]? else none, swap := false }).setConv n fun v =>
      { v with flight := v.flight.filter fun b => b.use != .shadow }) d
  let d := d.setXcheck fun _ => { Xcheck.reset with
    spare := if k = 3 then ws[3]? else none
    down := d.u Obj.RETIRED
    pair := 5, pairLeft := 0, paired := true
    degraded := decide (ws.length < 4) }
  (d.put Obj.ROTATE_COUNTDOWN (d.u Obj.ROTATE_STROKES)).refMonitors

/-- The nibble of SEAT_MAP (R149): a seat, 0xC for spare, 0xF for retired or without a seat. -/
def Dev.seatNibble (d : Dev) (c : Nat) : Nat :=
  if d.retired c then 0xF
  else if d.xcheck.spare = some c then 0xC
  else match d.seatOf c with
    | some n => n
    | none => (match d.xcheck.test with
      | some t => if t.a = c then t.seat.getD 0xF else 0xF
      | none => 0xF)

/-- SEAT_MAP (R149). -/
def Dev.seatMap (d : Dev) : Nat := ((List.range 4).map fun c => d.seatNibble c * 16 ^ c).sum

/-- XCHK_STATUS (R149). -/
def Dev.xchkStatus (d : Dev) : Nat :=
  let x := d.xcheck
  let p : Nat × Nat × Nat := match x.test with
    | some t =>
      ((match t.phase with | .testFirst => 3 | .join => 4 | .testSecond => 5 | .rejoin => 6),
        if t.phase == .join && t.spare then (t.a, t.b) else (t.b, t.a))
    | none => match x.join with
      | some j => (2, ((d.seat j.seat).conv.getD j.conv, j.conv))
      | none => match x.comparison with
        | some m => (1, (m.a, m.b))
        | none => (0, (0, 0))
  p.1 * 2 ^ 13 + flag x.degraded * 2 ^ 12 + p.2.1 * 2 ^ 10 + p.2.2 * 2 ^ 8

/-! ### Following a seat (R129, R132) -/

/-- A converter takes on the results of a seat's running entry whose instants lie at or after its own first settled
one. -/
def Dev.mirror (n conv : Nat) (use : Use) (settled : Nat) (d : Dev) : Dev :=
  match (d.seat n).run, (d.seat n).conv with
  | some r, some y =>
    let bs := (d.conv y).flight.filter fun b => b.seat == n && b.use == .entry && b.entry == r.entry
    d.setConv conv fun v => { v with flight := v.flight ++ liveBatches (bs.map fun b => { b.from settled with use := use }) }
  | _, _ => d

/-- The first settled instant of a converter that takes a seat's settings at the next modulator edge (R73, R129, R132). -/
def Dev.settledFrom (d : Dev) (n : Nat) (word : Nat) : Nat :=
  let paddle := (d.seat n).mode == 2
  d.changeInstant paddle word (d.edge paddle d.course.elapsed)

/-- Results that a converter was to deliver to the comparator only are dropped. -/
def Dev.dropShadow (c : Nat) (d : Dev) : Dev :=
  d.setConv c fun v => { v with flight := v.flight.filter fun b => b.use != .shadow }

/-- Comparison ends: the open block is discarded (R135). -/
def Dev.endComparison (d : Dev) : Dev :=
  let d := match d.xcheck.comparison with
    | some m => if d.xcheck.spare = some m.b then d.dropShadow m.b else d
    | none => d
  d.setXcheck fun x => { x with comparison := none, block := none }

/-- A skipped third or period (R132). -/
def Dev.skipCheck (d : Dev) : Dev := (d.bump Obj.XCHK_SKIPPED).flagFirst Obj.XCHK_FLAGS 5 0x2025 []

/-- Whether XCHK_ENTRY of a seat names an entry that can be shared (R63, R132). -/
def Dev.sharable (d : Dev) (n : Nat) : Bool :=
  let e := d.u (Obj.XCHK_ENTRY n)
  let w := d.u (Obj.SEQ_ENTRY n e)
  e != 0xFF && decide (e ≤ d.u (Obj.SEQ_LAST n)) &&
    !(gainOf w == 0 && !d.inbufOn n && (decide (inpOf w < 16) || decide (innOf w < 16)))

/-! ### The noise of a pair (R134, R136) -/

/-- Element e of the noise model (R134). -/
def Dev.noiseElement (d : Dev) (e : Nat) : Nat :=
  let o := [Obj.NOISE_MODEL_0, Obj.NOISE_MODEL_1, Obj.NOISE_MODEL_2, Obj.NOISE_MODEL_3].getD (e / 216) Obj.NOISE_MODEL_3
  blockH (d.b o) (e % 216)

/-- kc, codes per volt (R136). -/
def codesPerVolt (g : Nat) : F32 :=
  F32.div (F32.mul (F32.ofInt (2 ^ g)) (F32.ofInt 8388608)) (F32.ofRat 5 2)

/-- A shadowing or pairing as it starts (R136): the pair sigma and the floor of the entry, in codes. -/
def Dev.comparison (d : Dev) (a b n e settled : Nat) : Comparison :=
  let word := d.u (Obj.SEQ_ENTRY n e)
  let g := gainOf word
  let noise := d.noiseElement (((flag ((d.seat n).mode == 2) * 8 + g) * 3 + filterOf word) * 18 + rateOf word)
  let kc := codesPerVolt g
  { a, b, seat := n, entry := e, settled
    sigma := F32.mul (F32.mul (F32.mul (F32.ofInt noise) (F32.ofRat 1 1000000000)) kc) (F32.ofRat 141421356 100000000)
    floor := F32.mul (F32.mul (F32.ofInt (d.u Obj.XCHK_FLOOR_NV)) (F32.ofRat 1 1000000000)) kc }

/-- The threshold of a block of k pairs (R136). -/
def Dev.mismatchThreshold (d : Dev) (m : Comparison) (k : Nat) (ma : F32) : F32 :=
  let ppm := F32.mul (F32.mul (F32.ofInt (d.u Obj.XCHK_FLOOR_PPM)) (F32.ofRat 1 1000000)) (F32.abs ma)
  F32.max (F32.div (F32.mul (F32.ofInt 6) m.sigma) (F32.sqrt (F32.ofInt k))) (F32.add m.floor ppm)

/-- The spare shadows the shared entry of the seat that a converter holds (R131, R132), or the third is skipped. -/
def Dev.shadowSeat (s y : Nat) (d : Dev) : Dev :=
  let d := d.endComparison
  match d.seatOf y with
  | none => d
  | some n =>
    if !d.sharable n then d.skipCheck else
      let e := d.u (Obj.XCHK_ENTRY n)
      let m := d.comparison y s n e (d.settledFrom n (d.u (Obj.SEQ_ENTRY n e)))
      (d.setXcheck fun x => { x with comparison := some m }).startShadow m

/-- The converters after one, in cyclic order, that are not retired (R130, R131). -/
def Dev.followingConvs (d : Dev) (s : Nat) : List Nat :=
  ((List.range 3).map fun k => (s + 1 + k) % 4).filter fun c => !d.retired c

/-- The countdown values at which the thirds of a spare period start (R131). -/
def Dev.thirdStarts (d : Dev) : List Nat :=
  let r := d.u Obj.ROTATE_STROKES
  [r, r - r / 3, r - 2 * r / 3]

/-- The third in which the countdown stands. -/
def Dev.thirdNow (d : Dev) : Nat :=
  let past := d.u Obj.ROTATE_STROKES - d.u Obj.ROTATE_COUNTDOWN
  let r := d.u Obj.ROTATE_STROKES
  if past < r / 3 then 0 else if past < 2 * r / 3 then 1 else 2

/-- Whether the device runs in LEAN, where the spare shadows nothing and cross-check rests (R408). -/
def Dev.lean (d : Dev) : Bool := d.u Obj.PROFILE_ACTIVE == 2

/-- The spare shadows what the present third gives it; nothing in LEAN (R408). -/
def Dev.resumeShadow (d : Dev) : Dev :=
  if d.lean then d else
  match d.xcheck.spare with
  | none => d
  | some s => match (d.followingConvs s)[d.thirdNow]? with
    | some y => d.shadowSeat s y
    | none => d.endComparison

/-- SPARE_THIRD (R131): at the start of a third, where neither a join nor a self-test is in progress; a third that falls
in LEAN counts as nothing (R408). -/
def Dev.spareThird (d : Dev) : Dev :=
  d.when (d.u Obj.XCHK_MODE == 0 && !d.lean && d.thirdStarts.contains (d.u Obj.ROTATE_COUNTDOWN) && d.xcheck.join.isNone &&
    d.xcheck.test.isNone) Dev.resumeShadow

/-! ### Joins and rotation (R129, R130) -/

/-- A converter starts to join a seat (R129). -/
def Dev.startJoin (n x : Nat) (why : JoinFor) (d : Dev) : Dev :=
  let d := d.endComparison
  match (d.seat n).run with
  | some r =>
    let t := d.settledFrom n r.word
    (d.setXcheck fun v => { v with join := some ⟨n, x, why, t⟩ }).mirror n x .entry t
  | none => d.setXcheck fun v => { v with join := some ⟨n, x, why, d.course.elapsed⟩ }

/-- The seat's results come from the joining converter from now on; the other is released (R129). -/
def Dev.takeSeat (n x : Nat) (swap : Bool) (d : Dev) : Dev :=
  let d := match (d.seat n).conv with
    | some y => if y = x then d else d.setConv y fun v => { v with
        flight := v.flight.filter fun b => b.seat != n || b.use == Use.injected }
    | none => d
  (d.setSeat n fun s => { s with conv := some x, swap := swap }).refMonitors

/-- Whether a rotation must wait (R130): a self-test or one of its joins is in progress, or the spare is calibrating or measures the
reference (R455). -/
def Dev.rotationBlocked (d : Dev) : Bool :=
  d.xcheck.test.isSome || d.xcheck.join.isSome ||
    match d.xcheck.spare with | some s => (d.conv s).cal.isSome || d.refMeasures s | none => true

/-- ROTATION (R130): the countdown has reached 0; at a stroke boundary the spare joins the seat of the next converter, or is
deferred. -/
def Dev.rotation (d : Dev) : Dev :=
  if !d.xcheck.rotationDue || d.course.elapsed ≠ d.course.strokeStart then d
  else if d.rotationBlocked then d.setFlag Obj.XCHK_FLAGS 7
  else match d.xcheck.spare with
    | none => d
    | some s => match ((d.followingConvs s).head?).bind d.seatOf with
      | none => d
      | some n => (d.setXcheck fun x => { x with rotationDue := false }).startJoin n s .rotation

/-- The countdown and the pairing period at a stroke boundary (R130, R133); both rest in LEAN (R408, log 32). -/
def Dev.xcheckBoundary (d : Dev) : Dev :=
  if d.lean then d else
  match d.u Obj.XCHK_MODE with
  | 0 =>
    if d.xcheck.spare.isNone || d.u Obj.ROTATE_COUNTDOWN == 0 then d else
      let d := d.put Obj.ROTATE_COUNTDOWN (d.u Obj.ROTATE_COUNTDOWN - 1)
      d.when (d.u Obj.ROTATE_COUNTDOWN == 0) (Dev.setXcheck fun x => { x with rotationDue := true })
  | 1 => d.setXcheck fun x => { x with pairLeft := x.pairLeft - 1 }
  | _ => d

/-! ### Pairing in FULL4 (R133) -/

/-- The pairs of R133. -/
def pairCycle : List (Nat × Nat) := [(0, 1), (2, 3), (0, 2), (1, 3), (0, 3), (1, 2)]

/-- The next place of the cycle whose converters both hold a seat (R133). -/
def Dev.nextPair (d : Dev) : Option Nat :=
  ((List.range 6).map fun k => (d.xcheck.pair + 1 + k) % 6).find? fun k =>
    let p := pairCycle.getD k (0, 1)
    (d.seatOf p.1).isSome && (d.seatOf p.2).isSome && !d.retired p.1 && !d.retired p.2

/-- Whether two seats share an entry as a pairing needs (R132, R133). -/
def Dev.pairable (d : Dev) (n m : Nat) : Bool :=
  let w := d.u (Obj.SEQ_ENTRY n (d.u (Obj.XCHK_ENTRY n)))
  let v := d.u (Obj.SEQ_ENTRY m (d.u (Obj.XCHK_ENTRY m)))
  d.sharable n && d.sharable m && settingsOf w == settingsOf v && d.u (Obj.REF_SEL n) == d.u (Obj.REF_SEL m) &&
    d.u (Obj.INBUF n) == d.u (Obj.INBUF m) && (d.seat n).mode == (d.seat m).mode

/-- The pair at the present place of the cycle is compared, where both converters hold seats that share an entry (R133). -/
def Dev.startPair (d : Dev) : Option Dev :=
  let p := pairCycle.getD d.xcheck.pair (0, 1)
  match d.seatOf p.1, d.seatOf p.2 with
  | some n, some m =>
    if d.pairable n m then
      some (d.setXcheck fun x => { x with comparison := some (d.comparison p.1 p.2 n (d.u (Obj.XCHK_ENTRY n)) 0) })
    else none
  | _, _ => none

/-- FULL4_PAIR_ADVANCE (R133): a period that was not skipped and has completed no block is starved; the next pair is compared or
skipped. -/
def Dev.pairAdvance (d : Dev) : Dev :=
  if d.u Obj.XCHK_MODE ≠ 1 || d.xcheck.pairLeft ≠ 0 || d.lean then d else
    let d := d.when (!d.xcheck.paired) fun d => (d.bump Obj.XCHK_STARVED).flagFirst Obj.XCHK_FLAGS 6 0x2026 []
    let d := d.endComparison.setXcheck fun x => { x with pairLeft := d.u Obj.FULL4_PAIR_PERIOD, paired := true }
    match d.nextPair with
    | none => d
    | some k =>
      let d := d.setXcheck fun x => { x with pair := k }
      -- during a self-test the pair waits for its end (R139)
      match d.startPair with
      | some e => ((if d.xcheck.test.isSome then d else e)).setXcheck fun x => { x with paired := false }
      | none => d.skipCheck

/-- The comparison that the present third or pairing period calls for begins again, after a self-test (R133, R142). -/
def Dev.resumeCompare (d : Dev) : Dev :=
  if d.u Obj.XCHK_MODE = 1 ∧ !d.lean ∧ d.xcheck.pairLeft ≠ 0 then (d.startPair).getD d else d.resumeShadow

/-- A write of XCHK_ENTRY of a seat (R131, R135): the comparison that uses it begins anew on the entry now named, its open block
discarded, or is skipped. -/
def Dev.entryShared (n : Nat) (d : Dev) : Dev :=
  if d.lean || d.xcheck.join.isSome || d.xcheck.test.isSome then d
  else if d.u Obj.XCHK_MODE = 0 then
    let third := (d.xcheck.spare.bind fun s => (d.followingConvs s)[d.thirdNow]?).bind d.seatOf
    d.when (third == some n) Dev.resumeShadow
  else
    let p := pairCycle.getD d.xcheck.pair (0, 1)
    if d.u Obj.XCHK_MODE = 1 ∧ d.xcheck.pairLeft ≠ 0 ∧ (d.seatOf p.1 = some n ∨ d.seatOf p.2 = some n) then
      let d := d.endComparison
      (d.startPair).getD (d.skipCheck.setXcheck fun x => { x with paired := true })
    else d

/-! ### The mismatch decision (R135, R136) -/

/-- A mismatch (R136): counted, flagged, reported; it calls for a self-test unless the DAC is at fault (R142). -/
def Dev.mismatch (m : Comparison) (md thr : F32) (time : Nat) (d : Dev) : Dev :=
  let d := (d.bump (Obj.XCHK_ERRORS m.a)).bump (Obj.XCHK_ERRORS m.b)
  let d := (d.putF (Obj.XCHK_LAST_DIFF m.a) md).putF (Obj.XCHK_LAST_THR m.a) thr
  let d := d.flagRaise Obj.XCHK_FLAGS 0 0x2020 (u8 m.a ++ u8 m.b ++ u8 m.seat ++ u8 m.entry ++ u64 time)
  let call : TestCall := ⟨m.a, m.b, some m.seat, gainOf (d.u (Obj.SEQ_ENTRY m.seat m.entry)), false⟩
  d.setXcheck fun x => { x with
    block := none
    call := if bit (d.u Obj.DIAG_FLAGS) 1 || x.call.isSome || x.test.isSome then x.call else some call }

/-- A block decided at once (R135): no mean is formed, so what XCHK_LAST_DIFF and XCHK_LAST_THR take is free (log 6). -/
def Dev.mismatchNow (m : Comparison) (time : Nat) (d : Dev) : Dev :=
  let md := Config.freeF32 d.device.fresh
  let thr := Config.freeF32 (d.device.fresh + 1)
  let start := match d.xcheck.block with | some b => b.time | none => time
  (d.tickFresh.tickFresh.setXcheck fun x => { x with paired := true }).mismatch m md thr start

/-- A pair enters the block (R136). -/
def Dev.pairIn (m : Comparison) (x y : Taken) (d : Dev) : Dev :=
  let b := d.xcheck.block.getD ⟨0, 0, 0, x.time⟩
  let b : Block := ⟨b.sumD + (x.code - y.code), b.sumA + x.code, b.k + 1, b.time⟩
  if b.k < d.u Obj.XCHK_BLOCK then d.setXcheck fun v => { v with block := some b }
  else
    let k := F32.ofInt b.k
    let md := F32.div (F32.ofInt b.sumD) k
    let ma := F32.div (F32.ofInt b.sumA) k
    let thr := d.mismatchThreshold m b.k ma
    let d := (d.bump (Obj.XCHK_PAIRS m.a)).setXcheck fun v => { v with block := none, paired := true }
    if F32.lt thr (F32.abs md) then d.mismatch m md thr b.time else d

/-- Two coinciding results at the comparator (R135). -/
def Dev.comparePair (m : Comparison) (x y : Taken) (d : Dev) : Dev :=
  let excluded := fun (t : Taken) => t.flags &&& (flagREF ||| flagOWD ||| flagINJ ||| flagPRECAL) != 0
  let high := fun (c : Int) => decide (7549745 < c.natAbs)
  if excluded x || excluded y then d
  else match isOvr x.code, isOvr y.code with
    | true, true => if x.code = y.code then d else d.mismatchNow m x.time
    | true, false => if high y.code then d else d.mismatchNow m x.time
    | false, true => if high x.code then d else d.mismatchNow m x.time
    | false, false => d.pairIn m x y

/-- Whether a result counts for a side of the comparison (R132, R133). -/
def Dev.compared (d : Dev) (m : Comparison) (c : Nat) (t : Taken) : Bool :=
  if c = m.a then t.use == .entry && t.seat == m.seat && t.entry == m.entry
  else if d.xcheck.spare = some c then t.use == .shadow && t.seat == m.seat && t.entry == m.entry
  else t.use == .entry && d.seatOf c == some t.seat && t.entry == d.u (Obj.XCHK_ENTRY t.seat)

/-- A result reaches the comparator (R135): with the other converter's result of the same instant it forms a pair. No
block is formed while a self-test runs or in OFF (R136, R139). -/
def Dev.compare (c : Nat) (t : Taken) (d : Dev) : Dev :=
  if d.xcheck.test.isSome || d.u Obj.XCHK_MODE = 2 then d else
    match d.xcheck.comparison with
    | none => d
    | some m =>
      if !d.compared m c t then d else
        let other := if c = m.a then m.b else m.a
        if c ≠ m.a && c ≠ m.b then d else
          match (d.conv other).last with
          | none => d
          | some u =>
            if u.instant = t.instant && d.compared m other u then
              (if c = m.a then d.comparePair m t u else d.comparePair m u t)
            else d

/-! ### Retirement (R144, R145) -/

/-- An internal write put before every other group that has not started (R144); where the buffer has no room it is the first
to enter (R295). -/
def Dev.bufferFirst (i : Item) (d : Dev) : Dev :=
  let n := match d.ledger.group with | some g => g.count | none => 0
  if d.bufferRoom i.bytes then d.setLedger fun l => { l with buffer := l.buffer.take n ++ i :: l.buffer.drop n }
  else d.setLedger fun l => { l with outside := i :: l.outside }

/-- A seat is left without a converter (R145): it stops, its inputs fail, 0x2027. -/
def Dev.seatWithout (n : Nat) (d : Dev) : Dev :=
  ((((d.stopTable n).setSeat n fun s => { s with conv := none, swap := false, check := none, inj := none }).failSeatless)).raise
    0x2027 (u8 n)

/-- A converter is retired (R144, R145). -/
def Dev.retire (c reason : Nat) (d : Dev) : Dev :=
  let nibble := d.seatNibble c
  let holds := d.seatOf c
  let rotate := d.u Obj.XCHK_MODE == 0
  let first := d.u Obj.RETIRED == 0
  let mask := setBit (d.u Obj.RETIRED) c
  let d := (d.put Obj.RETIRED mask).bufferFirst (.internal (.retire mask) [Obj.RETIRED.write mask])
  let d := d.setConv c fun v => { v with flight := [], cal := none, last := none }
  let d := d.flagRaise Obj.XCHK_FLAGS 2 0x2022 (u8 c ++ u8 nibble ++ u8 reason)
  let d := (d.setXcheck fun x => { x with
    spare := if x.spare = some c then none else x.spare, down := setBit x.down c, rotationDue := false, degraded := true }).setFlag Obj.XCHK_FLAGS 3
  let d := d.when (rotate && first) (Dev.raise 0x2023 [])
  let d := d.when (d.refMeasures c) fun d => { d with thermal := { d.thermal with refRun := none } }
  let d := match holds with
    | some n => d.seatWithout n
    | none => d
  d.judgeAge 9

/-! ### The self-test (R137–R143) -/

/-- Ticks of a level (R140). -/
def levelTicks : Nat := 149104

/-- The attenuation of the DAC for a gain, as DIAG_ATT has it, and the level code c (R137). -/
def testAtt (g : Nat) : Nat := g / 3
def levelCode (g : Nat) : Int := [6554, 3277, 1638].getD (g % 3) 0

/-- What the diagnostic DAC drives between DIAG_P and DIAG_N, about AVDD / 2 (R84, R137, R140, R148). -/
inductive DacDrive where
  /-- no difference: both at the common mode -/
  | common
  /-- DIAG_CODE × 2.5 V / 8192 × ATT -/
  | code (code : Int) (att : Nat)
  /-- +A or −A of an open-wire check, in mV -/
  | millivolts (v : Int)
deriving DecidableEq, Repr

/-- The outputs of the diagnostic DAC at the present instant (R84, R137, R138, R140, R148). -/
def Dev.dacDrive (d : Dev) : DacDrive :=
  match d.underTest, d.xcheck.test with
  | some _, some t => .code ([-1, 0, 1].getD t.level 0 * levelCode t.gain) (testAtt t.gain)
  | _, _ =>
    match (List.range 4).findSome? (fun n => match (d.seat n).check with | some (.running t) => some (n, t) | _ => none) with
    | some (n, t) =>
      let a : Int := d.u (Obj.OW_AMPLITUDE n)
      let at' := d.course.elapsed - t
      if at' < checkTurn then .millivolts a else if at' < checkDecision then .millivolts (-a) else .common
    | none =>
      if d.diagOwner = 3 then .code (d.i Obj.DIAG_CODE) (d.u Obj.DIAG_ATT) else .common

/-- Whether the test switches of a seat's converter connect the DAC to its pins (R84). -/
def Dev.testSwitches (d : Dev) (n : Nat) : Bool :=
  match (d.seat n).check with
  | some (.running t) => decide (d.course.elapsed < t + checkDecision)
  | _ => false

/-- The expected code of a gain (R137). -/
def expectedCode (g : Nat) : Int := if g = 2 || g = 5 then 6709248 else 6711296

/-- A seat pauses for a self-test (R139): it delivers nothing until its rejoin. -/
def Dev.pauseSeat (n : Nat) (d : Dev) : Dev :=
  (d.cutFlights n fun _ => []).setSeat n fun s => { s with run := none, cont := none }

/-- The present path test starts its first level on a modulator edge, against the internal reference (R68, R140). -/
def Dev.startPath (t : SelfTest) (d : Dev) : Dev :=
  (d.setXcheck fun x => { x with
    test := some { t with level := 0, means := [], ovr := false, start := d.edge false d.course.elapsed } }).refMonitors

/-- A self-test starts (R138, R139, R143): the roles are those that the converters have now. Of a pair the path that does not deliver
the disputed seat is tested first. -/
def Dev.beginTest (call : TestCall) (d : Dev) : Dev :=
  let d := d.when (d.on Obj.DIAG_MANUAL) fun d => (d.putOn Obj.DIAG_MANUAL false).setFlag Obj.DIAG_FLAGS 0
  let d := (d.endComparison).setXcheck fun x => { x with call := none }
  let seat := if call.alone then d.seatOf call.a else call.seat
  let test := fun (phase : TestPhase) (a b : Nat) (spare : Bool) =>
    (⟨a, b, seat, call.gain, spare, call.alone, phase, 0, 0, [], false, none⟩ : SelfTest)
  match d.xcheck.spare, call.alone with
  | some s, true =>
    (match seat with
    | some n => (d.setXcheck fun x => { x with test := some (test .join call.a s true) }).startJoin n s .swap
    | none => d.startPath (test .testSecond call.a s false))
  | none, true =>
    let d := match seat with | some n => d.pauseSeat n | none => d
    d.startPath (test .testSecond call.a call.a false)
  | spare, false =>
    if spare = some call.b then d.startPath (test .testFirst call.a call.b true)
    else if spare = some call.a then d.startPath (test .testFirst call.b call.a true)
    else
      let a := min call.a call.b
      let b := max call.a call.b
      let d := match d.seatOf b with | some n => d.pauseSeat n | none => d
      d.startPath (test .testFirst a b false)

/-- SELF_TEST_START (R139): a mismatch or a request calls for it, no open-wire check, calibration, reference check or join is in progress, and the DAC
is not held to be at fault (R142). -/
def Dev.selfTestStart (d : Dev) : Dev :=
  match d.xcheck.call with
  | none => d
  | some c =>
    if d.checkRuns || d.calRuns || d.thermal.refRun.isSome || d.xcheck.join.isSome || bit (d.u Obj.DIAG_FLAGS) 1 then d else d.beginTest c

/-- The self-test is over; the spare returns to shadowing, a pair of FULL4 to being compared. -/
def Dev.endTest (d : Dev) : Dev := (d.setXcheck fun x => { x with test := none, join := none }).resumeCompare

/-- A converter rejoins its own paused seat (R139): the table goes on; the phase lasts to its first result. -/
def Dev.rejoinOwn (c : Nat) (d : Dev) : Dev :=
  match d.seatOf c with
  | none => d
  | some n =>
    (d.setXcheck fun x => { x with join := some ⟨n, c, .rejoin, d.course.elapsed⟩ }).release n true (Dev.resumeTable n)

/-- The judgement of a path (R141): the reason of its failure. -/
def Dev.judgePath (d : Dev) (g : Nat) (ovr : Bool) (mn mz mp : Int) : Option Nat :=
  let e := expectedCode g
  let fs : Int := 8388608
  if ovr then some 1
  else if (d.u Obj.ST_ZERO_TOL : Int) * fs < mz.natAbs * 1000000 then some 2
  else if (d.u Obj.ST_GAIN_TOL : Int) * e < (mp - e).natAbs * 1000000 then some 3
  else if (d.u Obj.ST_GAIN_TOL : Int) * e < (mn + e).natAbs * 1000000 then some 3
  else if 2 * (d.u Obj.ST_LIN_TOL : Int) * fs < (mp + mn - 2 * mz).natAbs * 1000000 then some 4
  else none

/-- Both paths have passed (R142). -/
def Dev.testTransient (t : SelfTest) (d : Dev) : Dev :=
  let d := d.bump (Obj.XCHK_TRANSIENT t.a)
  let d := d.when (t.a != t.b) (Dev.bump (Obj.XCHK_TRANSIENT t.b))
  d.flagRaise Obj.XCHK_FLAGS 1 0x2021 []

/-- The second path rejoins after a pass, or its converter is retired (R142). -/
def Dev.secondJudged (t : SelfTest) (reason : Option Nat) (d : Dev) : Dev :=
  match reason with
  | none =>
    let d := if t.firstFailed.isSome || t.alone then d else d.testTransient t
    let d := match t.firstFailed with | some r => d.retire t.b r | none => d
    let d := d.setXcheck fun x => { x with test := some { t with phase := .rejoin } }
    (match t.spare, t.seat with
    | true, some n => d.startJoin n t.a .rejoin
    | _, _ => if (d.seatOf t.a).isSome then d.rejoinOwn t.a else d.endTest)
  | some r =>
    match t.firstFailed with
    | some _ =>
      let d := (d.setFlag Obj.XCHK_FLAGS 4).flagRaise Obj.DIAG_FLAGS 1 0x2024 []
      let d := d.setXcheck fun x => { x with test := some { t with phase := .rejoin, firstFailed := none } }
      let d := match d.seatOf t.b with | some n => d.release n true (Dev.resumeTable n) | none => d
      d.rejoinOwn t.a
    | none =>
      let s := d.xcheck.spare
      let d := if t.spare then d.setXcheck fun x => { x with spare := none } else d
      let d := (d.retire t.a r).setXcheck fun x => { x with test := none, join := none }
      match t.spare, t.seat, s with
      | true, some n, some _ => d.setSeat n fun v => { v with swap := false }
      | _, _, _ => d.resumeCompare

/-- The first path is judged (R142). -/
def Dev.firstJudged (t : SelfTest) (reason : Option Nat) (d : Dev) : Dev :=
  match reason, t.spare with
  | none, true =>
    match t.seat with
    | some n => (d.setXcheck fun x => { x with test := some { t with phase := .join } }).startJoin n t.b .swap
    | none => d.endTest
  | none, false => (d.setXcheck fun x => { x with test := some { t with phase := .join } }).rejoinOwn t.b
  | some r, true => (d.retire t.b r).setXcheck fun x => { x with test := none, join := none }
  | some r, false =>
    let d := match d.seatOf t.a with | some n => d.pauseSeat n | none => d
    d.startPath { t with phase := .testSecond, firstFailed := some r }

/-- A path's three levels are over (R141). -/
def Dev.pathDone (t : SelfTest) (d : Dev) : Dev :=
  let c := if t.phase == .testFirst then t.b else t.a
  let mn := t.means.getD 0 0
  let mz := t.means.getD 1 0
  let mp := t.means.getD 2 0
  let reason := d.judgePath t.gain t.ovr mn mz mp
  let d := ((d.putI (Obj.ST_MEAN_N c) mn).putI (Obj.ST_MEAN_Z c) mz).putI (Obj.ST_MEAN_P c) mp
  let d := (d.bump (Obj.ST_RUNS c)).when reason.isSome (Dev.bump (Obj.ST_FAILS c))
  if t.phase == .testFirst then d.firstJudged t reason else d.secondJudged t reason

/-- SELF_TEST_LEVEL_END (R140): the 16 results of the level are averaged; the next level starts or the path is
judged. -/
def Dev.levelEnd (results : List FilterOut) (d : Dev) : Dev :=
  match d.xcheck.test, d.underTest with
  | some t, some c =>
    let d := d.advanceTo (t.start + levelTicks)
    let codes := results.map (d.calibrated c t.gain false)
    let t := { t with
      level := t.level + 1, start := d.course.elapsed, ovr := t.ovr || codes.any isOvr
      means := t.means ++ [(codes.sum + 8) / 16] }
    let d := d.setXcheck fun x => { x with test := some t }
    if t.level < 3 then d else d.pathDone t
  | _, _ => d

/-- A join ends (R129, R139): rotation, the temporary swap, or the return. -/
def Dev.endJoin (j : Join) (d : Dev) : Dev :=
  let old := (d.seat j.seat).conv
  let d := d.setXcheck fun x => { x with join := none }
  match j.purpose with
  | .rotation =>
    let d := (d.takeSeat j.seat j.conv false).setXcheck fun x => { x with spare := old, rotationDue := false }
    ((d.bump Obj.ROTATIONS).put Obj.ROTATE_COUNTDOWN (d.u Obj.ROTATE_STROKES))
  | .swap =>
    let d := d.takeSeat j.seat j.conv true
    (match d.xcheck.test with
    | some t => d.startPath { t with phase := .testSecond }
    | none => d)
  | .rejoin =>
    let d := d.takeSeat j.seat j.conv false
    (match d.xcheck.test with
    | some t =>
      if t.phase == .join then
        let d := match d.seatOf t.a with | some n => d.pauseSeat n | none => d
        d.startPath { t with phase := .testSecond }
      else d.endTest
    | none => d)

/-- ST_REQUEST of a converter (R143) (DESIGN CHOICE, log 28). -/
def Dev.stRequest (c : Nat) (d : Dev) : Dev :=
  let call : TestCall := ⟨c, c, none, d.freshNat % 8, true⟩
  let d := d.tickFresh.setXcheck fun x => { x with call := some call }
  d.selfTestStart

/-- The checks of ST_REQUEST (R143). -/
def Dev.stCheck (d : Dev) (v : Nat) : Option Fail :=
  let st := d.device.state
  orFail (failIf (decide (3 < v)) (failRange 0))
    (orFail (failIf (st != .run && st != .hold && st != .service) d.failState)
      (failIf (d.xcheck.test.isSome || d.xcheck.call.isSome) failBusy))

/-- UNRETIRE (R144): the bits written leave RETIRED; power and seats follow at the next base assignment. -/
def Dev.unretire (mask : Nat) (d : Dev) : Dev := d.put Obj.RETIRED ((bitList 4 mask).foldl clearBit (d.u Obj.RETIRED))

end Sys2Proof.Machine
end

