-- ==== Sys2Proof/Machine/Onset.lean ====
section
/-! DEFINITION. The onset fit of a front (R191–R193), in binary64. -/

namespace Sys2Proof.Machine

/-- Whole numbers in binary64. -/
def F64.nat (n : Nat) : F64 := F64.ofInt n

/-- A sum from 0, in order. -/
def F64.sum (l : List F64) : F64 := l.foldl F64.add (F64.nat 0)

/-- The least-squares line through points: intercept and slope, by the normal equations about the means. -/
def leastSquares (pts : List (F64 × F64)) : F64 × F64 :=
  let n := F64.nat pts.length
  let mt := F64.div (F64.sum (pts.map Prod.fst)) n
  let my := F64.div (F64.sum (pts.map Prod.snd)) n
  let sxx := F64.sum (pts.map fun p => F64.mul (F64.sub p.1 mt) (F64.sub p.1 mt))
  let sxy := F64.sum (pts.map fun p => F64.mul (F64.sub p.1 mt) (F64.sub p.2 my))
  let b1 := F64.div sxy sxx
  (F64.sub my (F64.mul b1 mt), b1)

/-- What a fit gives (R191): arrival after the trigger in ns, A, yb, e1, sn, sf, and whether the baseline is noisy and
a position of the edge absent. -/
structure Fit where
  ns : Int
  amplitude : F64
  baseline : F64
  rise : F64
  noise : F64
  sf : F64
  noisy : Bool
  gap : Bool
deriving DecidableEq, Repr

/-- What a fit that fails has formed before (R191): its cause, A, yb and sn, and the edge's slope e1. -/
structure FitFail where
  cause : Nat
  formed : Option (F64 × F64 × F64)
  rise : Option F64
deriving DecidableEq, Repr

/-- The amplitude of a fit, failed or not, where it has been formed (R191). -/
def fitAmplitude : Except FitFail Fit → Option F64
  | .error x => x.formed.map fun v => v.1
  | .ok r => some r.amplitude

/-- The baseline, the fit noise and the rise rate of a fit in the same way. -/
def fitBaseline : Except FitFail Fit → Option F64
  | .error x => x.formed.map fun v => v.2.1
  | .ok r => some r.baseline
def fitNoise : Except FitFail Fit → Option F64
  | .error x => x.formed.map fun v => v.2.2
  | .ok r => some r.noise
def fitRise : Except FitFail Fit → Option F64
  | .error x => x.rise
  | .ok r => some r.rise

/-- The least element of a list by position that meets a test. -/
def firstPos (f : Int × F64 → Bool) (l : List (Int × F64)) : Option Int := (l.find? f).map Prod.fst

/-- The onset fit (R191): `pts` are the present positions with their values in ascending order, counted from the
trigger element, `spacing` is in ticks, `minStep` is MIN_STEP; else the failure with what was formed before it. -/
def onsetFit (pts : List (Int × F64)) (spacing np ng nq : Nat) (minStep : F64) : Except FitFail Fit :=
  let t := fun (i : Int) => F64.div (F64.ofInt (i * spacing)) (F64.nat secTicks)
  let B := pts.filter fun p => decide (-(ng : Int) - np ≤ p.1) && decide (p.1 < -(ng : Int))
  let Q := pts.filter fun p => decide (0 ≤ p.1) && decide (p.1 < (nq : Int))
  if B.length < 16 ∨ Q.length < 16 then .error ⟨0x23, none, none⟩ else
    let line := leastSquares (B.map fun p => (t p.1, p.2))
    let base := fun (i : Int) => F64.add line.1 (F64.mul line.2 (t i))
    let res := B.map fun p => F64.sub (F64.sub p.2 line.1) (F64.mul line.2 (t p.1))
    let sn := F64.sqrt (F64.div (F64.sum (res.map fun r => F64.mul r r)) (F64.nat (B.length - 2)))
    let p := F64.div (F64.sum ((Q.drop (Q.length - 16)).map Prod.snd)) (F64.nat 16)
    let yb := base 0
    let A := F64.sub p yb
    let fail := fun (rise : Option F64) => (.error ⟨0x20, some (A, yb, sn), rise⟩ : Except FitFail Fit)
    if F64.lt (F64.abs A) minStep then fail none else
      let R := pts.filter fun p => decide (-(ng : Int) ≤ p.1) && decide (p.1 < (nq : Int))
      let q := fun (p : Int × F64) => F64.div (F64.sub (F64.sub p.2 line.1) (F64.mul line.2 (t p.1))) A
      match firstPos (fun p => F64.le (F64.ofRat 2 10) (q p)) R with
      | none => fail none
      | some ia =>
        let above := firstPos (fun (p : Int × F64) => decide (ia < p.1) && F64.lt (F64.ofRat 8 10) (q p)) R
        let before : List (Int × F64) := match above with
          | some iu => R.filter fun p => decide (p.1 < iu)
          | none => R
        let iz := match before.getLast? with | some p => p.1 | none => ia
        let E := R.filter fun p => decide (ia ≤ p.1) && decide (p.1 ≤ iz)
        if E.length < 2 then fail none else
          let edge := leastSquares (E.map fun p => (t p.1, p.2))
          if F64.eq edge.2 line.2 then fail (some edge.2) else
            let d := F64.sub edge.2 line.2
            let t0 := F64.div (F64.sub line.1 edge.1) d
            let sf := F64.mul (F64.div sn (F64.abs d))
              (F64.sqrt (F64.add (F64.div (F64.nat 1) (F64.nat B.length)) (F64.div (F64.nat 1) (F64.nat E.length))))
            let six := F64.mul (F64.nat 6) sn
            .ok {
              ns := F64.round (F64.mul t0 (F64.nat 1000000000))
              amplitude := A
              baseline := yb
              rise := edge.2
              noise := sn
              sf := sf
              noisy := res.any fun r => F64.lt six (F64.abs r)
              gap := decide ((E.length : Int) < iz - ia + 1) }

/-- The status a fit gives (R191): F with the cause of its failure, S for a noisy baseline or an absent position, the
lower cause where both apply. -/
def fitStatus : Except FitFail Fit → Nat × Nat
  | .error x => (catF, x.cause)
  | .ok f => if f.noisy then (catS, 0x21) else if f.gap then (catS, 0x22) else (0, 0)

/-- The least whole number at or above a finite binary64 number. -/
def F64.ceil (x : F64) : Int := -(F64.floor (F64.neg x))

/-- The arrival uncertainty in ns from sf and ERROR_BOUND (R192). -/
def arrivalUnc (sf : F64) (bound : Option Nat) : Nat :=
  match bound with
  | none => 0xFFFFFFFF
  | some b =>
    min 0xFFFFFFFF ((F64.ceil (F64.mul (F64.mul (F64.nat 2) sf) (F64.nat 1000000000))).toNat + b + 50)

end Sys2Proof.Machine
end

