-- ==== Sys2Proof/Machine/Operations.lean ====
section
/-! DEFINITION. The operations of the engine on elements (R166–R168, R185, R189, R190, R271): each takes its operands,
its parameter block and its state, and gives its output and its next state. -/

namespace Sys2Proof.Machine

/-- A vector with a function on its elements. -/
def Vec.map (f : Element → Element) (v : Vec) : Vec := { v with elems := v.elems.map f }

/-! ### CORRECT, LIN, SCALE, LIMIT, MIX (R166, R167) -/

/-- CORRECT (R166). -/
def correct (off : Int) (gain : Nat) (e : Element) : Element :=
  let x := e.code.getD 0
  if x = 8388607 then e.result F32.one
  else if x = -8388608 then e.result (F32.neg F32.one)
  else e.result (F32.div (F32.ofInt ((x * 256 - off) * gain / 2 ^ 30)) (F32.ofInt (2 ^ 31)))

/-- LIN of order K by Horner's rule (R167). -/
def lin (b : List Byte) (K : Nat) (e : Element) : Element :=
  e.result ((List.range K).reverse.foldl (fun y k => F32.add (F32.mul y e.value) (blockF b k)) (blockF b K))

/-- SCALE (R167). -/
def scale (b : List Byte) (e : Element) : Element :=
  let y := F32.add (blockF b 2) (F32.div
    (F32.mul (F32.sub e.value (blockF b 0)) (F32.sub (blockF b 3) (blockF b 2))) (F32.sub (blockF b 1) (blockF b 0)))
  let r := e.result y
  if F32.lt y (blockF b 4) || F32.lt (blockF b 5) y then r.mark catS 0x0C else r

/-- LIMIT (R167). -/
def limit (b : List Byte) (e : Element) : Element :=
  let r := e.result (F32.clamp (blockF b 0) (blockF b 1) e.value)
  { r with limLo := r.limLo || F32.lt e.value (blockF b 0), limHi := r.limHi || F32.lt (blockF b 1) e.value }

/-- MIX of two elements (R167). -/
def mix (p : List Byte) (x y : Element) : Element :=
  let a := x.value
  let b := y.value
  let k := blockF p
  (x.joined y).result (F32.add (F32.add (F32.add (F32.add (k 0) (F32.mul (k 1) a)) (F32.mul (k 2) b))
    (F32.mul (F32.mul (k 3) a) b)) (F32.div (F32.mul (k 4) a) b))

/-- MIX of a vector with a vector of the same count, or with an element (R167). -/
def mixVec (p : List Byte) (a : Vec) (b : List Element) : Vec :=
  if a.elems.length = b.length then { a with elems := List.zipWith (mix p) a.elems b }
  else match b.getLast? with
    | some y => a.map fun x => mix p x y
    | none => ⟨[], a.spacing⟩

/-! ### TCOMP (R167) -/

/-- The cell of an axis that holds a value: the last of the first seven points at or below it. -/
def axisCell (axis : Nat → F32) (x : F32) : Nat :=
  (((List.range 7).filter fun i => F32.le (axis i) x).getLast?).getD 0

/-- Linear interpolation. -/
def lerp (a b w : F32) : F32 := F32.add a (F32.mul (F32.sub b a) w)

/-- TCOMP of an element at a temperature (R167). -/
def tcomp (p : List Byte) (t e : Element) : Element :=
  let xa := blockF p
  let ta := fun k => blockF p (8 + k)
  let z := fun j i => blockF p (16 + 8 * j + i)
  let x := F32.clamp (xa 0) (xa 7) e.value
  let τ := F32.clamp (ta 0) (ta 7) t.value
  let i := axisCell xa x
  let j := axisCell ta τ
  let wx := F32.div (F32.sub x (xa i)) (F32.sub (xa (i + 1)) (xa i))
  let wt := F32.div (F32.sub τ (ta j)) (F32.sub (ta (j + 1)) (ta j))
  let z0 := lerp (z j i) (z j (i + 1)) wx
  let z1 := lerp (z (j + 1) i) (z (j + 1) (i + 1)) wx
  let r := (e.joined t).result (F32.add e.value (lerp z0 z1 wt))
  let outside := F32.lt e.value (xa 0) || F32.lt (xa 7) e.value || F32.lt t.value (ta 0) || F32.lt (ta 7) t.value
  if outside then r.mark catS 0x09 else r

/-! ### FIR and BIQUAD (R167) -/

/-- The Q1.31 number of a value, saturated. -/
def toQ31 (x : F32) : Int :=
  match fmt32.read x.toNat with
  | .nan => clampInt (-(2 ^ 31)) (2 ^ 31 - 1) Config.fixedOfNan
  | .inf neg => if neg then -(2 ^ 31) else 2 ^ 31 - 1
  | .finite .. =>
    let r := fmt32.toRat x.toNat
    clampInt (-(2 ^ 31)) (2 ^ 31 - 1) (roundHalfEven (r.1 * 2 ^ 31) r.2)

/-- A 64-bit sum. -/
def wrap64 (i : Int) : Int := signed 64 (unsigned 64 i)

/-- A Q2.62 sum in F32. -/
def fromQ62 (i : Int) : F32 := F32.ofRat i (2 ^ 62)

/-- One FIR output from the newest inputs, newest first. -/
def firOut (b : List Byte) (fixed : Bool) (K : Nat) (xs : List F32) : F32 :=
  if fixed then
    fromQ62 ((List.range K).foldl (fun acc j => wrap64 (acc + blockI b j * toQ31 (xs.getD j 0))) 0)
  else
    (List.range K).foldl (fun acc j => F32.add acc (F32.mul (blockF b j) (xs.getD j 0))) F32.zero

/-- FIR over a slot's elements: outputs and the last K − 1 inputs. -/
def fir (b : List Byte) (fixed : Bool) (K : Nat) : List Element → List F32 → List Element × List F32
  | [], h => ([], h)
  | e :: rest, h =>
    let xs := (e.value :: h).take K
    let r := fir b fixed K rest (xs.take (K - 1))
    (e.result (firOut b fixed K xs) :: r.1, r.2)

/-- The sections of a BIQUAD in F32 (direct form II transposed): the output and the next state. -/
def biquadStep (b : List Byte) : Nat → Nat → F32 → List (F32 × F32) → F32 × List (F32 × F32)
  | 0, _, x, _ => (x, [])
  | n + 1, s, x, zs =>
    let z := zs.head?.getD (0, 0)
    let k := fun i => blockF b (5 * s + i)
    let y := F32.add (F32.mul (k 0) x) z.1
    let z1 := F32.add (F32.sub (F32.mul (k 1) x) (F32.mul (k 3) y)) z.2
    let z2 := F32.sub (F32.mul (k 2) x) (F32.mul (k 4) y)
    let r := biquadStep b n (s + 1) y zs.tail
    (r.1, (z1, z2) :: r.2)

/-- The sections of a BIQUAD in fixed point: the last section's sum and the next state. -/
def biquadStepQ (b : List Byte) : Nat → Nat → Int → Int → List (Int × Int) → Int × List (Int × Int)
  | 0, _, _, sum, _ => (sum, [])
  | n + 1, s, x, _, zs =>
    let z := zs.head?.getD (0, 0)
    let k := fun i => blockI b (5 * s + i)
    let sum := wrap64 (k 0 * x + z.1)
    let y := Config.narrowQ sum
    let z1 := wrap64 (k 1 * x - k 3 * y + z.2)
    let z2 := wrap64 (k 2 * x - k 4 * y)
    let r := biquadStepQ b n (s + 1) y sum zs.tail
    (r.1, (z1, z2) :: r.2)

/-- BIQUAD over a slot's elements in F32. -/
def biquad (b : List Byte) (S : Nat) : List Element → List (F32 × F32) → List Element × List (F32 × F32)
  | [], z => ([], z)
  | e :: rest, z =>
    let s := biquadStep b S 0 e.value z
    let r := biquad b S rest s.2
    (e.result s.1 :: r.1, r.2)

/-- BIQUAD over a slot's elements in fixed point. -/
def biquadQ (b : List Byte) (S : Nat) : List Element → List (Int × Int) → List Element × List (Int × Int)
  | [], z => ([], z)
  | e :: rest, z =>
    let s := biquadStepQ b S 0 (toQ31 e.value) 0 z
    let r := biquadQ b S rest s.2
    (e.result (fromQ62 s.1) :: r.1, r.2)

/-! ### DEMOD and RATE (R167) -/

/-- π / 2 in units of 2⁻¹²⁸. -/
def halfPi : Nat := 534514292032483373929840186580935391650

/-- The sine of x / 2³⁰ quarter turns, in units of 2⁻¹²⁸: twenty terms of the series of the sine. -/
def sineQuarter (x : Nat) : Int :=
  let y : Nat := halfPi * x / 2 ^ 30
  let y2 : Nat := y * y / 2 ^ 128
  ((List.range 20).foldl (fun (p : Int × Nat) k =>
    let t : Nat := p.2 * y2 / 2 ^ 128 / ((2 * k + 2) * (2 * k + 3))
    (if k % 2 = 0 then p.1 - (t : Int) else p.1 + (t : Int), t)) (Int.ofNat y, y)).1

/-- The sine of a phase in 2⁻³² of a turn, in units of 2⁻¹²⁸. -/
def sinePoint (phase : Nat) : Int :=
  let p := phase % 2 ^ 32
  let r := p % 2 ^ 30
  let s := sineQuarter (if p / 2 ^ 30 % 2 = 0 then r else 2 ^ 30 - r)
  if p < 2 ^ 31 then s else -s

/-- The sine of a phase in 2⁻³² of a turn, rounded to binary32 (R10, R167). -/
def sineTurn (phase : Nat) : F32 := F32.ofRat (sinePoint phase) (2 ^ 128)

/-- DEMOD of an element (R167): `theta` is the phase of the XDAC at its instant, none outside AC mode. -/
def demod (offset : Nat) (theta : Option Nat) (e : Element) : Element :=
  match theta with
  | some θ => e.result (F32.mul (F32.mul (F32.ofInt 2) e.value) (sineTurn ((θ + offset * 65536) % 2 ^ 32)))
  | none => { e.result (Config.noFit 0) with cat := catF, cause := 0x0D }

/-- RATE over a slot's elements after the last one of the slot before (R167); as of every element-wise operation an output takes the
status of the input element that it stands for (R169) (DEDUCED, log 83). -/
def rate (spacing : Nat) : Option Element → List Element → List Element
  | _, [] => []
  | none, e :: rest => rate spacing (some e) rest
  | some p, e :: rest =>
    let ts := F32.div (F32.ofInt spacing) (F32.ofInt secTicks)
    e.result (F32.div (F32.sub e.value p.value) ts) :: rate spacing (some e) rest

/-! ### The reducing operations (R168, R169) -/

/-- An F32 sum from 0, in order (DEDUCED, log 64). -/
def sumF (l : List F32) : F32 := l.foldl F32.add F32.zero

/-- The mean of a group, stamped with the mean of their instants. -/
def meanOf (l : List Element) (e : Element) : Element :=
  ((e.joinAll l).meanStamp l).result (F32.div (sumF (l.map fun x => x.value)) (F32.ofInt l.length))

/-- Full groups of M elements, and what remains. -/
def groupsOf (M : Nat) : Nat → List Element → List (List Element) × List Element
  | 0, l => ([], l)
  | fuel + 1, l =>
    if l.length < M then ([], l)
    else
      let r := groupsOf M fuel (l.drop M)
      (l.take M :: r.1, r.2)

/-- DECIM (R168): MEAN or PICK of each full group; the rest is carried. -/
def decim (pick : Bool) (M : Nat) (l carry : List Element) : List Element × List Element :=
  let g := groupsOf M ((carry ++ l).length + 1) (carry ++ l)
  (g.1.filterMap fun grp => grp.getLast?.map fun e => if pick then (e.joinAll grp).result e.value else meanOf grp e, g.2)

/-- RMS of a slot's elements (R168). -/
def rms (l : List Element) : Option Element :=
  l.getLast?.map fun e => ((e.joinAll l).meanStamp l).result
    (F32.sqrt (F32.div (sumF (l.map fun x => F32.mul x.value x.value)) (F32.ofInt l.length)))

/-- The first element that no other exceeds in an order. -/
def extreme (better : F32 → F32 → Bool) : List Element → Option Element
  | [] => none
  | e :: rest => some (rest.foldl (fun b x => if better x.value b.value then x else b) e)

/-- MINMAX of a slot's elements (R168). -/
def minmax (kind : Nat) (l : List Element) : Option Element :=
  match extreme F32.lt l, extreme (fun x b => F32.lt b x) l with
  | some lo, some hi =>
    match kind with
    | 0 => some ((lo.joinAll l).result lo.value)
    | 1 => some ((hi.joinAll l).result hi.value)
    | _ =>
      let late := if lo.instant < hi.instant then hi else lo
      some ((late.joinAll l).result (F32.sub hi.value lo.value))
  | _, _ => none

/-! ### THRESH (R189) -/

/-- The state of a THRESH: 0 SETTLING, 1 ARMED, 2 ACTIVE with its side, the count of elements inside, and the latest
firing element. -/
structure ThreshState where
  phase : Nat
  up : Bool
  count : Nat
  fire : Option Element
deriving DecidableEq, Repr

/-- Whether d is inside with margin (R189). -/
def threshInside (kind : Nat) (hi lo hyst d : F32) : Bool :=
  let below := F32.le d (F32.sub hi hyst)
  let above := F32.le (F32.add lo hyst) d
  match kind with
  | 0 => below
  | 1 => above
  | _ => below && above

/-- The side on which d crosses (R189; true: above). -/
def threshCross (kind : Nat) (hi lo d : F32) : Option Bool :=
  if kind != 1 && F32.lt hi d then some true
  else if kind != 0 && F32.lt d lo then some false
  else none

/-- An element at a THRESH (R189). -/
def threshStep (kind : Nat) (p : List Byte) (b : Option F32) (s : ThreshState) (e : Element) : ThreshState :=
  if e.failed then s else
    let d := match b with | some y => F32.sub e.value y | none => e.value
    if s.phase = 1 then
      match threshCross kind (blockF p 0) (blockF p 1) d with
      | some up => ⟨2, up, 0, some e⟩
      | none => s
    else if threshInside kind (blockF p 0) (blockF p 1) (blockF p 2) d then
      if blockU p 3 ≤ s.count + 1 then { s with phase := 1, count := 0 } else { s with count := s.count + 1 }
    else { s with count := 0 }

/-- THRESH over a slot's elements: the next state and the firing elements in order (R189). -/
def threshRun (kind : Nat) (p : List Byte) (b : Option F32) : List Element → ThreshState → ThreshState × List Element
  | [], s => (s, [])
  | e :: rest, s =>
    let t := threshStep kind p b s e
    let r := threshRun kind p b rest t
    (r.1, if s.phase = 1 ∧ t.phase = 2 then e :: r.2 else r.2)

/-- What THRESH writes after a slot (R189): ±1.0 with the latest firing element's stamp while ACTIVE, else 0.0 with the
slot's last. -/
def ThreshState.out (s : ThreshState) (last : Option Element) : Option Element :=
  if s.phase = 2 then s.fire.map fun e => { e with value := if s.up then F32.one else F32.neg F32.one, code := none }
  else last.map fun e => { e with value := F32.zero, code := none }

/-! ### WAVEFRONT (R190) -/

/-- The nearest whole number of spacings between two clock positions. -/
def posOf (spacing from' at' : Nat) : Int := roundHalfEven ((at' : Int) - from') (max 1 spacing)

/-- The state of a WAVEFRONT: the last 1024 elements, whether SRC_B was not 0.0, and the clock position it armed at. -/
structure WaveState where
  history : List Element
  nonzero : Bool
  trigger : Option Nat
deriving DecidableEq, Repr

/-- WAVEFRONT in a slot (R190). -/
def wavefront (p : List Byte) (spacing : Nat) (l : List Element) (b : Element) (s : WaveState) :
    WaveState × Option Element :=
  let all := s.history ++ l
  let hist := all.drop (all.length - 1024)
  let nz := !(F32.eq b.value F32.zero)
  let trig := match s.trigger with
    | some t => some t
    | none => if nz && !s.nonzero then some b.instant else none
  let wait : WaveState := ⟨hist, nz, trig⟩
  match trig.bind fun t => hist.find? fun e => decide (t ≤ e.instant) with
  | none => (wait, none)
  | some i0 =>
    let nq := blockH p 2
    let held : Int := match hist.getLast? with | some e => posOf spacing i0.instant e.instant + 1 | none => 0
    if held < nq then (wait, none) else
      let pts := (hist.filter fun e => !e.failed).map fun e =>
        (posOf spacing i0.instant e.instant, F64.ofF32 e.value)
      let f := onsetFit pts spacing (blockH p 0) (blockH p 1) nq (F64.ofF32 (blockF p 2))
      let st := fitStatus f
      let e := match f with
        | .error x => { i0 with
            value := (x.formed.map fun v => F32.ofF64 v.1).getD (Config.noFit 1)
            code := none, cat := st.1, cause := st.2 }
        | .ok r => { i0 with
            value := F32.ofF64 r.amplitude, code := none, cat := st.1, cause := st.2
            instant := ((i0.instant : Int) + roundHalfEven (r.ns * 1024) 15625).toNat
            time := unsigned 64 ((i0.time : Int) + r.ns) }
      ({ wait with trigger := none }, some e)

/-! ### WASH samples (R185) -/

/-- The gap code of a wash channel. -/
def gapCode : Int := -32768

/-- A sample of a wash channel from an element (R185). -/
def washSample (offset scl : F32) (e : Element) : Int :=
  let v := F32.mul (F32.sub e.value offset) scl
  if e.failed || !(F32.isFinite v) then gapCode else clampInt (-32767) 32767 (F32.round v)

/-! ### STORE and PUBLISH (R271) -/

/-- Whether a slot qualifies (R271): WHEN, the block, the condition c, its reference and the slots since the last
action. -/
def emitQualifies (when' : Nat) (p : List Byte) (c : F32) (reference : Option F32) (lastRun : Option Nat) (run : Nat) :
    Bool :=
  (match when' with
    | 0 => true
    | 1 => !(F32.eq c F32.zero)
    | _ => match reference with
      | none => true
      | some r => F32.lt (blockF p 0) (F32.abs (F32.sub c r))) &&
  (match lastRun with
    | none => true
    | some r => decide (blockU p 1 ≤ run - r))

end Sys2Proof.Machine
end

