-- ==== Sys2Proof/Machine/Outputs.lean ====
section
/-! DEFINITION. The loop current, the actuator output, the excitation and the buttons (chapter 08). -/

namespace Sys2Proof.Machine

/-- Changes the output block's state. -/
def Dev.setOutputs (f : Outputs → Outputs) (d : Dev) : Dev := { d with outputs := f d.outputs }

/-! ### Process values as read (R170, R172) -/

/-- PV_STATUS as read: at least C with 0x0A in SERVICE; C with 0x0A and STALE in CONFIG (R172). -/
def Dev.pvStatus (d : Dev) (n : Nat) : Nat :=
  let s := d.u (Obj.PV_STATUS n)
  match d.device.state with
  | .config => catC * 2 ^ 13 + 2 ^ 12 + bits s 11 8 * 2 ^ 8 + 0x0A
  | .service => markStatus catC 0x0A s
  | _ => s

/-- A process value as an element (R160, R162). -/
def Dev.pvElement (d : Dev) (n : Nat) : Element :=
  let s := d.pvStatus n
  ⟨d.f (Obj.PV_VALUE n), catOf s, causeOf s, bit s 10, bit s 11, d.engine.pvInstants.getD n 0, d.u (Obj.PV_TIME n),
    d.u (Obj.PV_SYNC n), none⟩

/-- The lane that writes a destination: an enabled lane whose table names it (R173, R235). -/
def Dev.writerOf (d : Dev) (dst : Nat) : Option Nat :=
  (List.range 32).find? fun l => d.on (Obj.LANE_ENABLE l) &&
    (tableOf fun j => d.u (Obj.OP l j)).any fun p => opDst p.2 == dst

/-! ### Loop codes (R216, R219, R228) -/

/-- The codes of R216. -/
def codeDown : Nat := 142000
def codeUp : Nat := 870000
def codeFeathered : Nat := 160000

/-- A current in mA as a code: round(i / 0.000025), in binary64 (R219, R228). -/
def codeOfMa (i : F64) : Int := F64.round (F64.div i (F64.ofRat 25 1000000))

/-- The mapping of R219: target code, SAT_LO and SAT_HI. -/
def loopMap (x lrv urv : F32) : Int × Bool × Bool :=
  let f := F64.div (F64.sub (F64.ofF32 x) (F64.ofF32 lrv)) (F64.sub (F64.ofF32 urv) (F64.ofF32 lrv))
  let i := F64.add (F64.nat 4) (F64.mul (F64.nat 16) f)
  let lo := F64.lt i (F64.ofRat 380 100)
  let hi := F64.lt (F64.ofRat 2050 100) i
  (codeOfMa (if lo then F64.ofRat 380 100 else if hi then F64.ofRat 2050 100 else i), lo, hi)

/-- The trim of R228. -/
def loopTrim (t : Int) (gain : Nat) (offset : Int) : Nat :=
  (clampInt 0 960000 (160000 + ((t - 160000) * gain + 2 ^ 29) / 2 ^ 30 + offset)).toNat

/-- LRV and URV of a LOOP_RANGE record. -/
def rangeLo (b : List Byte) : F32 := blockF b 0
def rangeHi (b : List Byte) : F32 := blockF b 1

/-- The code of the fault current of LOOP_FAULT_DIR. -/
def Dev.faultCode (d : Dev) : Nat := if d.u Obj.LOOP_FAULT_DIR = 1 then codeUp else codeDown

/-! ### The rows of R218 -/

/-- Whether the process value of the loop has been written since the reset (R221). -/
def Dev.loopWritten (d : Dev) : Bool := bit d.engine.written (d.u Obj.LOOP_PV)

/-- Whether row 1 is left at a strobe (R221). -/
def Dev.leavesStart (d : Dev) : Bool :=
  d.start.configured &&
    (match d.device.state with | .run | .hold | .safe | .config => true | _ => false) &&
    ((d.u Obj.LOOP_PV != 0xFF && d.loopWritten) || d.u Obj.LOOP_PV == 0xFF || d.device.state == .safe ||
      d.on Obj.MULTIDROP)

/-- Whether the process value fails (R220), the count of stale strobes being up to date. -/
def Dev.loopFails (d : Dev) : Bool :=
  catOf (d.pvStatus (d.u Obj.LOOP_PV)) == catF || decide (d.u Obj.LOOP_STALE_STROKES ≤ d.outputs.staleStrobes)

/-- The first row of R218 whose condition holds. -/
def Dev.loopRow (d : Dev) : Nat :=
  if !d.outputs.loaded then 1
  else if d.outputs.watchdog then 2
  else if d.outputs.thermal then 3
  else if d.on Obj.MULTIDROP then 4
  else if d.device.state == .service && !(F32.eq (d.f Obj.LOOP_FIXED) F32.zero) then 5
  else if d.device.state == .safe then 6
  else if d.device.state == .config then 7
  else if d.device.state == .hold then 8
  else if d.u Obj.LOOP_PV == 0xFF then 9
  else if d.loopFails then 10
  else 11

/-- The target code of a row, SAT_LO, SAT_HI, and whether it is a fault current (R218); rows 10 and 11 map the process value
(R219); a loop in source mode that a forced profile change has switched off drives 0 mA (R411). -/
def Dev.loopTarget (d : Dev) (row : Nat) : Int × Bool × Bool × Bool :=
  if bit d.power.outputsOff 0 then (0, false, false, false) else
  let r := d.b Obj.LOOP_RANGE
  let m := loopMap (d.pvElement (d.u Obj.LOOP_PV)).value (rangeLo r) (rangeHi r)
  match row with
  | 4 => (codeFeathered, false, false, false)
  | 5 => (codeOfMa (F64.ofF32 (d.f Obj.LOOP_FIXED)), false, false, false)
  | 6 => (d.faultCode, false, false, true)
  | 7 => if d.u Obj.LOOP_CONFIG_ACTION = 1 then (d.faultCode, false, false, true)
    else (d.outputs.target, d.outputs.satLo, d.outputs.satHi, false)
  | 8 => (d.outputs.holdCode, d.outputs.satLo, d.outputs.satHi, false)
  | 9 => (0, false, false, false)
  | 10 => (d.faultCode, m.2.1, m.2.2, true)
  | 11 => (m.1, m.2.1, m.2.2, false)
  | _ => (codeDown, false, false, false)

/-- The code that the slew limit demands now (R222); the limiter's current of rows 1 to 3 is not slewed. -/
def Dev.slewedNow (d : Dev) : F64 :=
  let o := d.outputs
  let goal := F64.nat (d.u Obj.LOOP_CODE)
  let rate := d.f Obj.LOOP_SLEW
  if o.row ≤ 3 then F64.nat codeDown
  else if F32.eq rate F32.zero then goal else
    let step := F64.div (F64.mul (F64.mul (F64.ofF32 rate) (F64.nat 40000)) (F64.nat (d.course.elapsed - o.slewTick)))
      (F64.nat secTicks)
    if F64.lt o.slewed goal then
      let x := F64.add o.slewed step
      if F64.lt x goal then x else goal
    else
      let x := F64.sub o.slewed step
      if F64.lt goal x then x else goal

/-- LOOP_AGE at a load of row 11 (R223). -/
def Dev.loadAge (d : Dev) : Dev :=
  let age := ticksOfNs ((d.courseNs + 2 ^ 64 - d.u (Obj.PV_TIME (d.u Obj.LOOP_PV))) % 2 ^ 64)
  let d := d.put Obj.LOOP_AGE age
  d.when (decide (d.u Obj.LOOP_AGE_MAX < d.u Obj.LOOP_AGE)) fun d => d.put Obj.LOOP_AGE_MAX (d.u Obj.LOOP_AGE)

/-- LOOP_AGE_MAX restarts at ENGINE_APPLY and COX_APPLY (R223). -/
def Dev.restartAge (d : Dev) : Dev := d.put Obj.LOOP_AGE_MAX 0

/-- The loop's part of a load strobe (R218–R223). -/
def Dev.strobeLoop (d : Dev) : Dev :=
  let pv := d.u Obj.LOOP_PV
  let stale := pv != 0xFF && bit (d.pvStatus pv) staleBit
  let d := d.setOutputs fun o => { o with
    loaded := o.loaded || d.leavesStart
    watchdog := o.watchdog && !o.beating
    thermal := o.thermal && o.hot
    staleStrobes := if stale then o.staleStrobes + 1 else 0 }
  let row := d.loopRow
  if row ≤ 3 then
    (d.setOutputs fun o => { o with
      row := row, satLo := false, satHi := false, slewed := F64.nat codeDown, slewTick := d.course.elapsed }).putF
        Obj.LOOP_TARGET (F32.ofRat 355 100)
  else
    let t := d.loopTarget row
    let code := if bit d.power.outputsOff 0 then 0 else loopTrim t.1 (d.u Obj.LOOP_TRIM_GAIN) (d.i Obj.LOOP_TRIM_OFFSET)
    let was := d.outputs.fault && d.outputs.row == row
    let slewed := d.slewedNow
    let d := d.setOutputs fun o => { o with
      row := row, target := t.1.toNat, satLo := t.2.1, satHi := t.2.2.1, fault := t.2.2.2
      slewed := slewed, slewTick := d.course.elapsed }
    let d := (d.putF Obj.LOOP_TARGET (F32.ofRat t.1 40000)).put Obj.LOOP_CODE code
    let cause := if pv = 0xFF then 0 else causeOf (d.pvStatus pv)
    let d := d.when (t.2.2.2 && !was) (Dev.flagRaise Obj.LOOP_FLAGS 0 0x4003 (u8 row ++ u8 cause))
    d.when (row == 11) Dev.loadAge

/-- LOOP_STATUS (R244). -/
def Dev.loopStatus (d : Dev) : Nat :=
  let o := d.outputs
  (o.row - 1) * 2 ^ 12 + flag o.source * 2 ^ 11 + flag (d.on Obj.MULTIDROP) * 2 ^ 10 + flag d.device.wpLow * 2 ^ 9 +
    flag (decide (o.row ≤ 3)) * 2 ^ 8 + flag o.satHi * 2 ^ 7 + flag o.satLo * 2 ^ 6 + flag o.compliance * 2 ^ 5

/-! ### Sense, compliance, thermal limit (R215, R224–R227) -/

/-- Whether the compliance detector is active (R224): not on rows 1 to 3 and 9. -/
def Dev.complianceActive (d : Dev) : Bool := decide (4 ≤ d.outputs.row) && d.outputs.row != 9

/-- How far the sensed current lies from the one that the active code and the slew limit demand, in mA (R224). -/
def Dev.loopDifference (d : Dev) : F64 :=
  F64.abs (F64.sub (F64.ofF32 (d.f Obj.LOOP_MEASURED)) (F64.mul d.slewedNow (F64.ofRat 25 1000000)))

/-- The comparison of a 1 ms mean with the demand (R224): since when they have differed by more than 0.10 mA, or by no more than
0.05 mA. -/
def Dev.compareLoop (d : Dev) : Dev :=
  let x := d.loopDifference
  let since := fun (on : Bool) (t : Option Nat) => if on then some (t.getD d.course.elapsed) else none
  d.setOutputs fun o => { o with
    offSince := since (d.complianceActive && F64.lt (F64.ofRat 10 100) x) o.offSince
    nearSince := since (d.complianceActive && F64.le x (F64.ofRat 5 100)) o.nearSince }

/-- LOOP_SENSE (R224, R227): the sensed current and voltage; a draw above the demand is flagged where it begins. -/
def Dev.loopSense (current voltage : F32) (draw : Bool) (d : Dev) : Dev :=
  let d := ((d.putF Obj.LOOP_MEASURED current).putF Obj.LOOP_VOLTAGE voltage).compareLoop
  let draw := draw && !d.outputs.source
  let was := d.outputs.drawHigh
  let d := d.setOutputs fun o => { o with drawHigh := draw }
  d.when (draw && !was) (Dev.flagRaise Obj.LOOP_FLAGS 5 0x400D [])

/-- LOOP_COMPLIANCE_SET (R224): the difference has held for 10 ms. -/
def Dev.complianceSet (d : Dev) : Dev :=
  match d.outputs.offSince with
  | none => d
  | some t =>
    if !d.complianceActive || d.outputs.compliance then d else
      let d := (d.advanceTo (t + 10 * msTicks)).setOutputs fun o => { o with compliance := true }
      let openLoop := F32.lt (d.f Obj.LOOP_MEASURED) (F32.ofRat 1 2) && F64.le (F64.nat codeDown) d.slewedNow
      let d := d.when openLoop (Dev.setFlag Obj.LOOP_FLAGS 2)
      d.flagRaise Obj.LOOP_FLAGS 1 0x4001 (f32b (d.f Obj.LOOP_MEASURED))

/-- LOOP_COMPLIANCE_CLEAR (R224): the difference has stayed small for 100 ms. -/
def Dev.complianceClear (d : Dev) : Dev :=
  match d.outputs.nearSince with
  | none => d
  | some t =>
    if !d.complianceActive || !d.outputs.compliance then d
    else ((d.advanceTo (t + 100 * msTicks)).setOutputs fun o => { o with compliance := false }).raise 0x4002 []

/-- Whether ACT is enabled, and not switched off by a forced profile change (R235, R411). -/
def Dev.adacEnabled (d : Dev) : Bool := d.on Obj.ADAC_ENABLE && !bit d.power.outputsOff 1
/-- Whether ACT is on: its thermal limit has not switched it off either (R237). -/
def Dev.adacOn (d : Dev) : Bool := d.adacEnabled && !d.outputs.adacThermal
/-- Whether the excitation is on (R238, R411). -/
def Dev.xdacOn (d : Dev) : Bool := d.on Obj.XDAC_ENABLE && !bit d.power.outputsOff 2

/-- Full scale of an ADAC range: volts, or mA (R234). -/
def adacFullScale (range : Nat) : F32 := F32.ofInt ([5, 10, 24].getD range 5)

/-- VBB_ADJUST (R215, R234): the larger of the loop's and the actuator's need, capped at 24 V; the limiter in source
mode holds the cap (R217). -/
def Dev.vbbAdjust (loopDrop actDrop : F32) (d : Dev) : Dev :=
  let o := d.outputs
  let cap := F32.ofInt 24
  let two := F32.ofInt 2
  let loopNeed := if !o.source then F32.zero
    else if o.row ≤ 3 then cap else F32.add loopDrop (d.f Obj.LOOP_HEADROOM_SET)
  let out := F32.div (F32.mul (F32.ofInt (d.u Obj.ADAC_CODE)) (adacFullScale o.adacRange)) (F32.ofInt 1000000)
  let actNeed := if !d.adacOn then F32.zero
    else if o.adacRange = 2 then F32.add actDrop two else F32.add out two
  d.setOutputs fun o => { o with vbb := F32.min cap (F32.max loopNeed actNeed) }

/-- HV_THERMAL_LIMIT (R226): TS6 at or above 125 °C drives the limiter; below 115 °C the next strobe releases it. -/
def Dev.hvThermal (reading : F32) (d : Dev) : Dev :=
  if F32.le (F32.ofInt 125) reading then
    let was := d.outputs.hot && d.outputs.thermal
    let d := d.setOutputs fun o => { o with
      thermal := true, hot := true, row := if 3 < o.row then 3 else o.row, slewed := F64.nat codeDown }
    d.when (!was) (Dev.flagRaise Obj.LOOP_FLAGS 4 0x4005 [])
  else if F32.lt reading (F32.ofInt 115) then d.setOutputs fun o => { o with hot := false }
  else d

/-- What the HV die holds against its limits (R448): the higher of its own reading and the keeper's value, which the last heartbeat
brought; 1 s after it its own reading alone. -/
def Dev.hvReading (d : Dev) (own sent : F32) : F32 :=
  if d.outputs.beating && decide (d.course.elapsed < d.outputs.beatAt + secTicks) then F32.max own sent else own

/-- HV_THERMAL_LIMIT (R226, R448). -/
def Dev.hvLimit (reading : F32) (d : Dev) : Dev := d.hvThermal (d.hvReading reading d.outputs.sent6)

/-! ### Fixed current, trim and range (R229–R233) -/

/-- R229: LOOP_FIXED is 0.0 or lies in 3.50–23.00 mA. -/
def loopFixedOk (x : F32) : Bool :=
  F32.eq x F32.zero || (F32.le (F32.ofRat 350 100) x && F32.le x (F32.ofInt 23))

/-- R229, R218: the check of a write of LOOP_FIXED. -/
def Dev.loopFixedCheck (d : Dev) (x : F32) : Option Fail :=
  orFail (failIf (d.device.state != .service) d.failState)
    (orFail (failIf (d.on Obj.MULTIDROP) (failAccess 5 0)) (failIf (!loopFixedOk x) (failRange 0)))

/-- The offset of a zero trim (R230). -/
def Dev.trimZero (d : Dev) (m : F32) : Int :=
  d.i Obj.LOOP_TRIM_OFFSET + codeOfMa (F64.sub (F64.nat 4) (F64.ofF32 m))

/-- The gain of a span trim (R230). -/
def Dev.trimSpan (d : Dev) (m : F32) : Int :=
  F64.round (F64.div (F64.mul (F64.nat (d.u Obj.LOOP_TRIM_GAIN)) (F64.nat 16)) (F64.sub (F64.ofF32 m) (F64.nat 4)))

/-- The gains that R230 permits. -/
def gainOk (g : Int) : Bool := decide (1063004406 ≤ g) && decide (g ≤ 1084479242)
/-- The offsets that R230 permits. -/
def offsetOk (o : Int) : Bool := decide (-8000 ≤ o) && decide (o ≤ 8000)

/-- State and WP_N checks of the trim writes (R230, R233) (DEDUCED, log 48). -/
def Dev.trimCheck (d : Dev) (wp : Bool) : Option Fail :=
  orFail (failIf (d.device.state != .service) d.failState) (failIf wp (failAccess 3 0))

/-- The check of LOOP_TRIM_ZERO_MEAS (R230). -/
def Dev.trimZeroCheck (d : Dev) (wp : Bool) (m : F32) : Option Fail :=
  orFail (d.trimCheck wp)
    (failIf (!(F32.eq (d.f Obj.LOOP_FIXED) (F32.ofInt 4)) || !(F32.isFinite m) || !offsetOk (d.trimZero m)) (failRange 0))

/-- The check of LOOP_TRIM_SPAN_MEAS (R230). -/
def Dev.trimSpanCheck (d : Dev) (wp : Bool) (m : F32) : Option Fail :=
  orFail (d.trimCheck wp)
    (failIf (!(F32.eq (d.f Obj.LOOP_FIXED) (F32.ofInt 20)) || !(F32.isFinite m) || !gainOk (d.trimSpan m)) (failRange 0))

/-- The values of a trim go to the ledger before they apply (R230). -/
def Dev.trimTo (ws : List Write) (d : Dev) : Dev := d.bufferInternal .trim ws

/-- A trim value applies (R230). -/
def Dev.trimApplied (w : Write) (d : Dev) : Dev :=
  ((d.keepKey w.key).setKey w).flagRaise Obj.LOOP_FLAGS 6 0x4006 (u32 (d.setKey w |>.u ⟨w.key, 4, dfltOf w.key⟩))

/-- Whether a range breaks the rules of R231; the reason of R232 (4 or 5). -/
def Dev.rangeBad (d : Dev) (lrv urv : F32) : Option Nat :=
  let out := fun (x : F32) => F32.lt x (d.f Obj.LOOP_LIMIT_LO) || F32.lt (d.f Obj.LOOP_LIMIT_HI) x || !(F32.isFinite x)
  if F32.lt (F32.abs (F32.sub urv lrv)) (d.f Obj.LOOP_MIN_SPAN) then some 4
  else if out lrv || out urv then some 5
  else none

/-- The check of a write of LOOP_RANGE (R231, R233). -/
def Dev.loopRangeCheck (d : Dev) (wp : Bool) (b : List Byte) : Option Fail :=
  let ok := match d.device.state with | .run | .hold | .config | .service => true | _ => false
  orFail (failIf (!ok) d.failState)
    (orFail (failIf wp (failAccess 3 0)) (failIf (d.rangeBad (rangeLo b) (rangeHi b)).isSome (failRange 0)))

/-- A range applies at its commit (R231): RERANGED and 0x4007 with its source, 0 command, 1 ZERO_N, 2 SPAN_N. -/
def Dev.reranged (source : Nat) (d : Dev) : Dev :=
  (d.bump Obj.RERANGE_COUNT).flagRaise Obj.LOOP_FLAGS 7 0x4007 (u8 source)

/-- The range a button asks for (R232). -/
def Dev.buttonRange (d : Dev) (span : Bool) : List Byte :=
  let x := (d.pvElement (d.u Obj.LOOP_PV)).value
  let r := d.b Obj.LOOP_RANGE
  if span then f32b (rangeLo r) ++ f32b x
  else f32b x ++ f32b (F32.add x (F32.sub (rangeHi r) (rangeLo r)))

/-- Why a press is refused (R232). -/
def Dev.buttonReason (d : Dev) (span wp : Bool) : Option Nat :=
  let pv := d.u Obj.LOOP_PV
  let s := d.pvStatus pv
  if wp then some 1
  else if d.device.state != .run || !d.on Obj.BUTTON_ENABLE then some 2
  else if pv == 0xFF || decide (1 < catOf s) || bit s staleBit then some 3
  else d.rangeBad (rangeLo (d.buttonRange span)) (rangeHi (d.buttonRange span))

/-- Whether a button is ignored as stuck (R232). -/
def Dev.buttonIgnored (d : Dev) (span : Bool) : Bool := bit d.outputs.stuck (if span then 1 else 0)

/-- A refused press (R232). -/
def Dev.buttonRefused (reason : Nat) (d : Dev) : Dev := d.flagRaise Obj.LOOP_FLAGS 8 0x4008 (u8 reason)

/-- BUTTON_STUCK (R232). -/
def Dev.buttonStuck (span : Bool) (d : Dev) : Dev :=
  let k := if span then 1 else 0
  (d.setOutputs fun o => { o with stuck := setBit o.stuck k }).flagRaise Obj.LOOP_FLAGS 9 0x400C (u8 k)

/-- BUTTON_STUCK_RELEASED (R232). -/
def Dev.buttonReleased (span : Bool) (d : Dev) : Dev :=
  d.setOutputs fun o => { o with stuck := clearBit o.stuck (if span then 1 else 0) }

/-! ### The actuator output (R234–R237) -/

/-- A fraction as an ADAC code (R234). -/
def adacCode (x : F32) : Nat := (clampInt 0 1000000 (F32.round (F32.mul x (F32.ofInt 1000000)))).toNat

/-- The code and SOURCE that RUN gives (R235). -/
def Dev.adacRun (d : Dev) : Nat × Nat :=
  let safe := (adacCode (d.f Obj.ADAC_SAFE), 1)
  match d.writerOf 0x30, d.engine.outs.getD 0 none with
  | some _, some e =>
    if e.failed then (if d.u Obj.ADAC_FAULT_ACTION = 0 then (d.u Obj.ADAC_CODE, 3) else safe)
    else (adacCode e.value, 2)
  | _, _ => safe

/-- Whether a fixed fraction is in force (R235, R260). -/
def fixedInForce (x : F32) : Bool := F32.le F32.zero x && F32.le x F32.one

/-- The pending ADAC code and its SOURCE (R235): while the heartbeat watchdog acts, the HV die's copy of ADAC_SAFE. -/
def Dev.adacPending (d : Dev) : Nat × Nat :=
  let safe := (adacCode (d.f Obj.ADAC_SAFE), 1)
  if !d.adacOn then (0, 0)
  else if d.outputs.watchdog then (d.outputs.adacSafe, 1) else
    match d.device.state with
    | .starting => safe
    | .run => d.adacRun
    | .hold => (d.outputs.holdAdac, 3)
    | .config => if d.u Obj.ADAC_CONFIG_ACTION = 0 then (d.u Obj.ADAC_CODE, 3) else safe
    | .service =>
      if fixedInForce (d.f Obj.ADAC_FIXED) then (adacCode (d.f Obj.ADAC_FIXED), 4) else d.adacRun
    | .safe => safe

/-- 200 µs of clamp in ticks (R236). -/
def clampTicks : Nat := 13108

/-- Whether a clamp runs (R236). -/
def Dev.clampRuns (d : Dev) : Bool :=
  match d.outputs.adacClamp with | some e => decide (d.course.elapsed < e) | none => false

/-- The actuator's part of a load strobe (R235–R237). -/
def Dev.strobeAdac (d : Dev) : Dev :=
  if !d.start.configured then d else
    let safe := adacCode (d.f Obj.ADAC_SAFE)
    let d := d.setOutputs fun o => { o with
      adacSafe := safe, adacThermal := o.adacThermal && o.adacHot }
    if d.u Obj.ADAC_RANGE ≠ d.outputs.adacRange then
      let d := d.setOutputs fun o => { o with
        adacRange := d.u Obj.ADAC_RANGE, adacClamp := some (d.course.elapsed + clampTicks), adacWait := false
        adacSource := flag d.adacOn, adacLoaded := true }
      (d.put Obj.ADAC_CODE (if d.adacOn then safe else 0)).flagRaise Obj.ADAC_FLAGS 3 0x400A []
    else if d.clampRuns then d
    else
      let p := d.adacPending
      (d.setOutputs fun o => { o with
        adacClamp := none, adacWait := false, adacSource := p.2, adacLoaded := true }).put Obj.ADAC_CODE p.1

/-- ADAC_CLAMP_END (R236): the clamp is over; the next strobe loads. -/
def Dev.clampEnd (d : Dev) : Dev :=
  match d.outputs.adacClamp with
  | none => d
  | some e => (d.advanceTo e).setOutputs fun o => { o with adacClamp := none, adacWait := true }

/-- The check of a write of ADAC_RANGE (R236). -/
def Dev.adacRangeCheck (d : Dev) (v : Nat) : Option Fail :=
  let current := v == 2 || d.u Obj.ADAC_RANGE == 2
  let ok := match d.device.state with
    | .config => true
    | .run | .hold | .service => !current
    | _ => false
  orFail (failIf (!ok) d.failState) (failIf d.clampRuns failBusy)

/-- ADAC_STATUS (R244) (DEDUCED, log 24). -/
def Dev.adacStatus (d : Dev) : Nat :=
  let o := d.outputs
  o.adacRange * 2 ^ 14 + flag d.adacEnabled * 2 ^ 13 + flag (o.adacClamp.isSome || o.adacWait) * 2 ^ 12 +
    o.adacSource * 2 ^ 9 + flag o.adacCompliance * 2 ^ 8 + flag (bit (d.u Obj.ADAC_FLAGS) 1) * 2 ^ 7 +
    flag o.adacThermal * 2 ^ 6

/-- ADAC_COMPLIANCE_SET (R237): in MA24 only. -/
def Dev.adacComplianceSet (d : Dev) : Dev :=
  if d.outputs.adacRange ≠ 2 || d.outputs.adacCompliance then d else
    (d.setOutputs fun o => { o with adacCompliance := true }).flagRaise Obj.ADAC_FLAGS 0 0x4009 []

/-- ADAC_COMPLIANCE_CLEAR (R237). -/
def Dev.adacComplianceClear (d : Dev) : Dev := d.setOutputs fun o => { o with adacCompliance := false }

/-- ADAC_OVERCURRENT (R237): in the voltage ranges only. -/
def Dev.adacOvercurrent (d : Dev) : Dev :=
  d.when (d.outputs.adacRange != 2 && d.adacOn) (Dev.flagRaise Obj.ADAC_FLAGS 1 0x4009 [])

/-- ACT is switched off at its thermal limit (R237, R447). -/
def Dev.actOff (d : Dev) : Dev :=
  (d.setOutputs fun o => { o with adacThermal := true, adacHot := true, adacSource := 0 }).put Obj.ADAC_CODE 0

/-- ACT_THERMAL_LIMIT (R237): TS7 at or above 125 °C switches ACT off; below 115 °C the next strobe returns it. -/
def Dev.actThermal (reading : F32) (d : Dev) : Dev :=
  if F32.le (F32.ofInt 125) reading then
    let was := d.outputs.adacThermal && d.outputs.adacHot
    d.actOff.when (!was) (Dev.flagRaise Obj.ADAC_FLAGS 2 0x4009 [])
  else if F32.lt reading (F32.ofInt 115) then d.setOutputs fun o => { o with adacHot := false }
  else d

/-- ACT_THERMAL_LIMIT (R237, R448). -/
def Dev.actLimit (reading : F32) (d : Dev) : Dev := d.actThermal (d.hvReading reading d.outputs.sent7)

/-! ### The excitation (R238–R240) -/

/-- The phase of a run of the XDAC at an instant (R239). -/
def runPhase (r : Nat × Nat × Nat) (t : Nat) : Nat := (r.2.1 + r.2.2 * ((t - r.1) / 16)) % 2 ^ 32

/-- θ at an instant, none outside AC mode (R239). -/
def Dev.theta (d : Dev) (t : Nat) : Option Nat :=
  (d.outputs.xdacRuns.find? fun r => decide (r.1 ≤ t)).map fun r => runPhase r t

/-- The excitation's part of a load strobe (R239, R240): AC mode starts at XDAC_PHASE0; a frequency change keeps θ. -/
def Dev.strobeXdac (d : Dev) : Dev :=
  if !d.start.configured then d else
    let ac := d.xdacOn && d.u Obj.XDAC_MODE == 1
    let t := d.course.elapsed
    let ftw := d.u Obj.XDAC_FTW
    let runs := match ac, d.outputs.xdacRuns with
      | false, _ => []
      | true, [] => [(t, d.u Obj.XDAC_PHASE0, ftw)]
      | true, r :: rest =>
        if r.2.2 = ftw then r :: rest
        else keepBack Prod.fst (t - historyTicks) ((r.1 + (t - r.1) / 16 * 16, runPhase r t, ftw) :: r :: rest)
    d.setOutputs fun o => { o with
      xdacLevel := if d.xdacOn then d.i Obj.XDAC_LEVEL else 0
      xdacAc := ac, xdacRuns := runs, xdacLoaded := true }

/-- The product of a level and the interpolated sine of a phase, rounded to the nearest code (R239) (DESIGN CHOICE, log 84). -/
def sineCode (level : Int) (phase : Nat) : Int :=
  let k := phase / 2 ^ 22
  let r := phase % 2 ^ 22
  (level * (sinePoint (k * 2 ^ 22) * (2 ^ 22 - r : Nat) + sinePoint ((k + 1) * 2 ^ 22) * r) + 2 ^ 149) / 2 ^ 150

/-- The code on which the XDAC runs at an instant (R238, R239): 0, AVDD / 2 at both pins, while it is off. -/
def Dev.xdacCode (d : Dev) (t : Nat) : Int :=
  match d.theta t with
  | some θ => sineCode d.outputs.xdacLevel θ
  | none => d.outputs.xdacLevel

/-- XDAC_OVERCURRENT (R238). -/
def Dev.xdacOvercurrent (d : Dev) : Dev :=
  d.when (d.xdacOn) (Dev.flagRaise Obj.XDAC_FLAGS 0 0x400B [])

/-! ### The load strobe (R210) and the device states -/

/-- A new HART loop mode takes effect at the first load strobe after its commit (R382). -/
def Dev.takeLoopMode (d : Dev) : Dev :=
  let new := d.u Obj.HART_LOOP_MODE == 0
  if d.on Obj.MULTIDROP = new then d
  else (d.putOn Obj.MULTIDROP new).raise 0x6080 (u8 (d.u Obj.HART_POLL_ADDR) ++ u8 (flag new))

/-- A load strobe: all three channels in the same tick, with what was pending before this tick (R16, R210). -/
def Dev.loadStrobe (d : Dev) : Dev :=
  if d.stopped then d else d.consume fun d => d.takeLoopMode.strobeLoop.strobeAdac.strobeXdac

/-- On entry to HOLD the active codes are held (R218, R235). -/
def Dev.holdOutputs (d : Dev) : Dev :=
  d.setOutputs fun o => { o with holdCode := o.target, holdAdac := d.u Obj.ADAC_CODE }

end Sys2Proof.Machine
end

