-- ==== Sys2Proof/Machine/Control.lean ====
section
/-! DEFINITION. Pressure control, the surge limiter and the PWM outputs (chapter 09). -/

namespace Sys2Proof.Machine

/-! ### Setpoints and schedules (R251, R252) -/

/-- The points of a schedule: second of the day and setpoint (R252). -/
def schedPoints (b : List Byte) : List (Nat × F32) :=
  (List.range (b.length / 8)).map fun i => (blockU b (2 * i), blockF b (2 * i + 1))

/-- Whether a write of SCHED_POINTS is refused (R252). -/
def schedBad (b : List Byte) : Bool :=
  let ps := schedPoints b
  b.length % 8 != 0 || decide (b.length < 8) || decide (64 < b.length) ||
    !(ps.Pairwise fun p q => p.1 < q.1) || ps.any fun p => decide (86399 < p.1) || !(F32.isFinite p.2)

/-- The time of day of a controller (R252). -/
def Dev.timeOfDay (d : Dev) (c : Nat) : Nat :=
  (((d.courseNs / 1000000000 : Nat) + d.i (Obj.SCHED_TZ_OFFSET c)) % 86400).toNat

/-- The point in force (R252). -/
def Dev.schedPoint (d : Dev) (c : Nat) : Option F32 :=
  let ps := schedPoints (d.b (Obj.SCHED_POINTS c))
  match (ps.filter fun p => decide (p.1 ≤ d.timeOfDay c)).getLast? with
  | some p => some p.2
  | none => ps.getLast?.map Prod.snd

/-- Whether the schedule gives the target (R251). -/
def Dev.scheduled (d : Dev) (c : Nat) : Bool := d.on (Obj.SCHED_ENABLE c) && decide (d.course.sync ≠ .unset)

/-- The target of a controller (R251). -/
def Dev.spTarget (d : Dev) (c : Nat) : F32 :=
  if d.scheduled c then (d.schedPoint c).getD (d.f (Obj.CTRL_SP c)) else d.f (Obj.CTRL_SP c)

/-- The setpoint moved towards its target (R251). -/
def rampTo (ramp dt sp target : F32) : F32 :=
  if F32.eq ramp F32.zero then target else
    let step := F32.mul ramp dt
    if F32.lt sp target then
      let x := F32.add sp step
      if F32.lt x target then x else target
    else
      let x := F32.sub sp step
      if F32.lt target x then x else target

/-- A schedule not applied while UNSET (R252): flagged once per entry to UNSET, which forgets what was flagged. -/
def Dev.noteSkipped (c : Nat) (d : Dev) : Dev :=
  let skip := d.on (Obj.SCHED_ENABLE c) && decide (d.course.sync = .unset)
  if !skip || bit d.engine.skipped c then d else
    (d.setEngine fun e => { e with skipped := setBit e.skipped c }).flagRaise Obj.CTRL_FLAGS 5 0x9006 (u8 c)

/-! ### The PID operation (R246–R250) -/

/-- The active code of an OUT destination and the code of its full scale (R246). -/
def Dev.activeCode (d : Dev) (dst : Nat) : Nat × Nat :=
  if dst = 0x30 then (d.u Obj.ADAC_CODE, 1000000)
  else (d.u (Obj.PWM_DUTY (dst - 0x31)), d.u (Obj.PWM_PERIOD (dst - 0x31)))

/-- The active code of an OUT destination as a fraction: in binary32 for PID (R246), in binary64 for SURGE (R255). -/
def Dev.activeFraction (d : Dev) (dst : Nat) : F32 :=
  F32.div (F32.ofInt (d.activeCode dst).1) (F32.ofInt (d.activeCode dst).2)
def Dev.activeFraction64 (d : Dev) (dst : Nat) : F64 :=
  F64.div (F64.nat (d.activeCode dst).1) (F64.nat (d.activeCode dst).2)

/-- Whether a fixed value of SERVICE is in force at an OUT destination (R249). -/
def Dev.outFixed (d : Dev) (dst : Nat) : Bool :=
  isOut dst && fixedInForce (if dst = 0x30 then d.f Obj.ADAC_FIXED else d.f (Obj.PWM_FIXED (dst - 0x31)))

/-- The effective mode (R249): 0 MANUAL, 1 AUTO, 2 TRACK. -/
def Dev.ctrlMode (d : Dev) (c trk : Nat) : Nat :=
  if d.device.state = .hold ∨ d.device.state = .safe then 2
  else if d.device.state = .service ∧ d.outFixed trk then 2
  else if d.u (Obj.CTRL_MODE c) = 0 then 0
  else 1

/-- What a PID slot computes (R248). -/
structure PidOut where
  u : F32
  e : F32
  integral : F32
  derivative : F32
  satHi : Bool
  satLo : Bool
deriving DecidableEq, Repr

/-- The PID arithmetic (R248), in binary32: `p` is the block, `y` the value the actuator received. -/
def pidCompute (p : List Byte) (sgn dt sp x ff y manual xPrev I D : F32) (first : Bool) (mode : Nat) : PidOut :=
  let kp := blockF p 0
  let ti := blockF p 1
  let td := blockF p 2
  let tf := blockF p 3
  let kff := blockF p 4
  let bias := blockF p 5
  let lo := blockF p 6
  let hi := blockF p 7
  let e0 := F32.mul sgn (F32.sub sp x)
  let e := if F32.le (F32.abs e0) (blockF p 8) then F32.zero else e0
  let D := if first then F32.zero
    else F32.div (F32.sub (F32.mul tf D) (F32.mul (F32.mul (F32.mul sgn kp) td) (F32.sub x xPrev))) (F32.add tf dt)
  let I := if first then F32.sub (F32.sub (F32.sub y (F32.mul kp e)) (F32.mul kff ff)) bias else I
  if mode = 1 then
    let raw := F32.add (F32.add (F32.add (F32.add (F32.mul kp e) I) D) (F32.mul kff ff)) bias
    let ratio := F32.div dt ti
    let I' := if F32.lt F32.zero ti then
        F32.add (F32.add I (F32.mul (F32.div (F32.mul kp dt) ti) e))
          (F32.mul (F32.min ratio F32.one) (F32.sub y raw))
      else I
    ⟨F32.clamp lo hi raw, e, I', D, F32.lt hi raw, F32.lt raw lo⟩
  else
    let raw := if mode = 0 then manual else y
    let u := F32.clamp lo hi raw
    ⟨u, e, F32.sub (F32.sub (F32.sub (F32.sub u (F32.mul kp e)) D) (F32.mul kff ff)) bias, D, F32.lt hi raw, F32.lt raw lo⟩

/-- Notes the effective mode in CTRL_STATUS and reports its change (R249). -/
def Dev.noteMode (c mode : Nat) (d : Dev) : Dev :=
  let s := d.u (Obj.CTRL_STATUS c)
  if bits s 15 14 = mode then d else
    (d.put (Obj.CTRL_STATUS c) (s % 2 ^ 14 + mode * 2 ^ 14)).flagRaise Obj.CTRL_FLAGS 3 0x9001 (u8 c ++ u8 mode)

/-- The state of a PID operation: integral, derivative, previous measurement, setpoint. -/
def pidState : OpState → F32 × F32 × F32 × F32
  | .pid i v x s => (i, v, x, s)
  | _ => (0, 0, 0, 0)

/-- Whether a PID operation has not run since its lane's reset: its next slot is then the first one of R248 and R251 (DEDUCED,
log 86). -/
def pidFresh : OpState → Bool
  | .pid .. => false
  | _ => true

/-- The element of a PID whose measurement has failed (R250): u stays, HELD and its event once for each run of such slots. -/
def Dev.pidHold (c : Nat) (x : Element) (d : Dev) : Element × Dev :=
  let s := d.u (Obj.CTRL_STATUS c)
  let d := (d.put (Obj.CTRL_STATUS c) (if bit s 11 then s else s + 2 ^ 11)).when (!bit s 11)
    (Dev.flagRaise Obj.CTRL_FLAGS 4 0x9005 (u8 c))
  ({ x with value := d.f (Obj.CTRL_OUTPUT c), code := none, cat := catS, cause := 0x30 }, d)

/-- A PID slot while the application core is in reset (R14, R249, R250): the output and the operation's state are held. -/
def Dev.pidInReset (c : Nat) (x : Element) (d : Dev) : Element × Dev :=
  if x.failed then d.pidHold c x else
    ({ x with value := d.f (Obj.CTRL_OUTPUT c), code := none },
      d.put (Obj.CTRL_STATUS c) (clearBit (d.u (Obj.CTRL_STATUS c)) 11))

/-- A PID slot (R248–R250): DT in ticks, measurement, feedforward, and the TRK value where TRK is set. -/
def Dev.pidSlot (arg : Nat) (p : List Byte) (dtTicks : Nat) (x : Element) (ff : Option Element) (trk : Option F32)
    (st : OpState) (d : Dev) : Element × OpState × Dev :=
  let c := bits arg 2 0
  let u0 := d.f (Obj.CTRL_OUTPUT c)
  let s := pidState st
  if !d.device.appRunning then
    let o := d.pidInReset c x
    (o.1, st, o.2)
  else
    let first := dtTicks == 0 || pidFresh st
    let dt := F32.div (F32.ofInt dtTicks) (F32.ofInt secTicks)
    let d := d.noteSkipped c
    let target := d.spTarget c
    let sp := if first then target else rampTo (d.f (Obj.CTRL_SP_RAMP c)) dt s.2.2.2 target
    let d := d.putF (Obj.CTRL_SP_EFFECTIVE c) sp
    let mode := d.ctrlMode c (bits arg 15 8)
    let d := d.noteMode c mode
    let held := bit (d.u (Obj.CTRL_STATUS c)) 11
    let low := flag (d.scheduled c) * 2 ^ 10 + flag (!F32.eq sp target) * 2 ^ 9
    if x.failed then
      let sat := bits (d.u (Obj.CTRL_STATUS c)) 13 12
      let o := (d.put (Obj.CTRL_STATUS c) (mode * 2 ^ 14 + sat * 2 ^ 12 + flag held * 2 ^ 11 + low)).pidHold c x
      (o.1, if pidFresh st then st else .pid s.1 s.2.1 s.2.2.1 sp, o.2)
    else
      let sgn := if bit arg 3 then F32.neg F32.one else F32.one
      let r := pidCompute p sgn dt sp x.value ((ff.map fun e => e.value).getD 0) (trk.getD u0)
        (d.f (Obj.CTRL_MANUAL c)) s.2.2.1 s.1 s.2.1 first mode
      let d := d.put (Obj.CTRL_STATUS c) (mode * 2 ^ 14 + flag r.satHi * 2 ^ 13 + flag r.satLo * 2 ^ 12 + low)
      let d := (d.putF (Obj.CTRL_OUTPUT c) r.u).putF (Obj.CTRL_ERROR c) r.e
      let e := match ff with | some f => x.joined f | none => x
      (e.result r.u, .pid r.integral r.derivative x.value sp, d)

/-- The states in which a controller object may be written (R249). -/
def Dev.ctrlStateCheck (d : Dev) : Option Fail :=
  match d.device.state with
  | .run | .hold | .config | .service => none
  | _ => d.failState

/-- A write of CTRL_MODE (R249): from AUTO to MANUAL the manual value is the last u. -/
def Dev.ctrlModeApplied (c v : Nat) (d : Dev) : Dev :=
  let d := d.when (d.u (Obj.CTRL_MODE c) == 1 && v == 0) fun d =>
    d.putF (Obj.CTRL_MANUAL c) (d.f (Obj.CTRL_OUTPUT c))
  d.put (Obj.CTRL_MODE c) v

/-- The check of a write of CTRL_SP (R249, R251). -/
def Dev.ctrlSpCheck (d : Dev) (c : Nat) : Option Fail :=
  orFail d.ctrlStateCheck (failIf (d.on (Obj.SCHED_ENABLE c)) (failAccess 5 0))

/-! ### The SURGE limiter (R253–R257) -/

/-- The valve table of a block: positions and flows (R254). -/
def surgePos (p : List Byte) (i : Nat) : F64 := F64.ofF32 (blockF p (7 + 2 * i))
def surgeFlow (p : List Byte) (i : Nat) : F64 := F64.ofF32 (blockF p (8 + 2 * i))

/-- a + (b − a) · (x − u) / (v − u). -/
def interp (a b u v x : F64) : F64 := F64.add a (F64.div (F64.mul (F64.sub b a) (F64.sub x u)) (F64.sub v u))

/-- flow(s) (R254). -/
def flowAt (p : List Byte) (s : F64) : F64 :=
  let i := (((List.range 15).filter fun i => F64.le (surgePos p i) s).getLast?).getD 0
  interp (surgeFlow p i) (surgeFlow p (i + 1)) (surgePos p i) (surgePos p (i + 1)) s

/-- at_least(q): the smallest position whose flow is at least q (R254). -/
def atLeast (p : List Byte) (q : F64) : F64 :=
  match (List.range 16).find? fun i => F64.le q (surgeFlow p i) with
  | none => F64.nat 1
  | some 0 => F64.nat 0
  | some (i + 1) => interp (surgePos p i) (surgePos p (i + 1)) (surgeFlow p i) (surgeFlow p (i + 1)) q

/-- at_most(q): the largest position whose flow is at most q (R254). -/
def atMost (p : List Byte) (q : F64) : F64 :=
  match ((List.range 16).filter fun i => F64.le (surgeFlow p i) q).getLast? with
  | none => F64.nat 0
  | some 15 => F64.nat 1
  | some i => interp (surgePos p i) (surgePos p (i + 1)) (surgeFlow p i) (surgeFlow p (i + 1)) q

/-- A value recorded in the newest bin. -/
def recordBin (x : F64) : List Bin → List Bin
  | [] => [some (x, x)]
  | none :: rest => some (x, x) :: rest
  | some (hi, lo) :: rest => some (if F64.lt hi x then x else hi, if F64.lt x lo then x else lo) :: rest

/-- Bins shifted by n, those beyond 64 dropped. -/
def shiftBins (n : Nat) (l : List Bin) : List Bin := (List.replicate n none ++ l).take 65

/-- The maximum and the minimum of some bins, none where all are empty. -/
def binsRange (l : List Bin) : Option (F64 × F64) :=
  l.foldl (fun acc b => match acc, b with
    | none, b => b
    | a, none => a
    | some a, some b => some (if F64.lt a.1 b.1 then b.1 else a.1, if F64.lt b.2 a.2 then b.2 else a.2)) none

/-- Sixty-five empty bins. -/
def emptyBins : List Bin := List.replicate 65 none

/-- A fraction clamped to 0–1 in binary64. -/
def clamp01 (x : F64) : F64 := if F64.lt x (F64.nat 0) then F64.nat 0 else if F64.lt (F64.nat 1) x then F64.nat 1 else x

/-- The larger of two binary64 numbers. -/
def F64.max (x y : F64) : F64 := if F64.lt x y then y else x

/-- tw in ticks (R255). -/
def surgeWindow (p : List Byte) : Nat :=
  let len := F64.ofF32 (blockF p 3)
  let a := F64.ofF32 (blockF p 0)
  (F64.ceil (F64.mul (F64.div (F64.mul (F64.nat 2) len) a) (F64.nat secTicks))).toNat

/-- The history of a limiter. -/
structure SurgeState where
  hv : List Bin
  hp : List Bin
  age : Nat
  last : F64
  frozen : Bool
  onFail : Bool
  timer : Nat
deriving DecidableEq, Repr

/-- The history moved on by DT ticks in bins of bw ticks (R255). -/
def SurgeState.shift (bw dt : Nat) (s : SurgeState) : SurgeState :=
  let age := s.age + dt
  let n := min (age / bw) 65
  { s with hv := shiftBins n s.hv, hp := shiftBins n s.hp, age := age - age / bw * bw }

/-- The freeze of R256 at an instant: the next state, and whether it was entered or released. -/
def SurgeState.freeze (s : SurgeState) (enabled : Bool) (now hold : Nat) (over' pFailed low : Bool) :
    SurgeState × Bool × Bool :=
  let bad := over' || pFailed
  if !s.frozen then
    if enabled && bad then ({ s with frozen := true, onFail := pFailed, timer := now + hold }, true, false)
    else (s, false, false)
  else if bad then ({ s with timer := now + hold }, false, false)
  else if decide (s.timer ≤ now) && low then ({ s with frozen := false }, false, true)
  else (s, false, false)

/-- A SURGE slot (R255–R257): the snapshot tick, DT, command, pressure, s_init and, for an OUT destination, its active
fraction; while the application core is in reset the output is held (R14) and everything else goes on. -/
def Dev.surgeSlot (arg : Nat) (p : List Byte) (tick dt : Nat) (x pr : Element) (init : F64) (active : Option F64)
    (st : OpState) (d : Dev) : Element × OpState × Dev :=
  let k := bits arg 1 0
  let area := F64.ofF32 (blockF p 2)
  let vel := fun (s : F64) => F64.div (flowAt p s) area
  let rhoA := F64.mul (F64.ofF32 (blockF p 1)) (F64.ofF32 (blockF p 0))
  let dpMax := F64.ofF32 (blockF p 4)
  let dvmax := F64.div dpMax rhoA
  let tw := surgeWindow p
  let bw := max 1 ((tw + 63) / 64)
  let s0 : SurgeState := match st with
    | .surge hv hp age last frozen onFail timer => ⟨hv, hp, age, last, frozen, onFail, timer⟩
    | _ =>
      let s := clamp01 init
      ⟨recordBin (vel s) emptyBins, emptyBins, 0, s, false, false, 0⟩
  let s1 := s0.shift bw dt
  let s1 := match active with | some a => { s1 with hv := recordBin (vel a) s1.hv } | none => s1
  let s1 := if pr.failed then s1 else { s1 with hp := recordBin (F64.ofF32 pr.value) s1.hp }
  let v0 := vel s1.last
  let hv := (binsRange s1.hv).getD (v0, v0)
  let pv := F64.ofF32 pr.value
  let ps := match binsRange s1.hp with
    | some r => F64.mul (F64.max (F64.sub pv r.2) (F64.sub r.1 pv)) (F64.ofF32 (blockF p 5))
    | none => F64.nat 0
  let hold := (F64.ceil (F64.mul (F64.ofF32 (blockF p 6)) (F64.nat secTicks))).toNat
  let over' := F64.lt dpMax ps
  let low := F64.le ps (F64.div dpMax (F64.nat 2))
  let running := d.device.appRunning
  let fz := s1.freeze (bit arg 3) tick hold over' pr.failed low
  let s2 := fz.1
  let want := clamp01 (F64.ofF32 x.value)
  let v := vel want
  let heldNow := s2.frozen || x.failed || !running
  let closing := F64.lt v (F64.sub hv.1 dvmax)
  let opening := bit arg 2 && F64.lt (F64.add hv.2 dvmax) v
  let s := if heldNow then s2.last
    else if closing then atLeast p (F64.mul (F64.sub hv.1 dvmax) area)
    else if opening then atMost p (F64.mul (F64.add hv.2 dvmax) area)
    else want
  let limited := !heldNow && (closing || opening)
  let s3 := { s2 with hv := recordBin (vel s) s2.hv, last := s }
  let psF := F32.ofF64 ps
  let d := (d.put (Obj.SURGE_WINDOW k) tw).putF (Obj.SURGE_DV_MAX k) (F32.ofF64 dvmax)
  let d := (d.putF (Obj.SURGE_MEASURED k) psF).putF (Obj.SURGE_COMMAND k) x.value
  let d := d.putF (Obj.SURGE_PREDICTED k) (F32.ofF64 (F64.mul rhoA (F64.max (F64.sub hv.1 (vel s)) (F64.nat 0))))
  let d := d.put (Obj.SURGE_STATUS k)
    ((if s3.frozen then 2 else 1) * 2 ^ 14 + flag limited * 2 ^ 13 + flag (bit arg 2) * 2 ^ 12 + flag (bit arg 3) * 2 ^ 11)
  let d := d.when fz.2.1 fun d =>
    (d.bump (Obj.SURGE_FREEZES k)).flagRaise Obj.CTRL_FLAGS 1 0x9002 (u8 k ++ f32b psF)
  let d := d.when fz.2.2 (Dev.flagRaise Obj.CTRL_FLAGS 2 0x9003 (u8 k))
  let d := d.when limited fun d =>
    (d.bump (Obj.SURGE_LIMITED_SLOTS k)).flagFirst Obj.CTRL_FLAGS 0 0x9004 (u8 k)
  let e := x.result (F32.ofF64 s)
  let cause := if x.failed then some 0x31 else if limited then some 0x32
    else if s3.frozen then some (if s3.onFail then 0x34 else 0x33) else none
  let e := match cause with | some c => { e with cat := catS, cause := c } | none => e
  (e, .surge s3.hv s3.hp s3.age s3.last s3.frozen s3.onFail s3.timer, d)

/-! ### PWM (R258–R260) -/

/-- A PWM channel. -/
def Dev.pwmOf (d : Dev) (n : Nat) : Pwm := d.pwm.getD n ⟨none, 0⟩

/-- The duty that RUN gives (R260). -/
def Dev.pwmRun (d : Dev) (n : Nat) : F32 :=
  match d.writerOf (0x31 + n), d.engine.outs.getD (1 + n) none with
  | some _, some e =>
    if e.failed then (if d.u (Obj.PWM_FAULT_ACTION n) = 0 then (d.pwmOf n).duty else d.f (Obj.PWM_SAFE n))
    else e.value
  | _, _ => d.f (Obj.PWM_SAFE n)

/-- The duty that a period start takes (R259, R260). -/
def Dev.pwmPending (d : Dev) (n : Nat) : F32 :=
  match d.device.state with
  | .starting | .safe => d.f (Obj.PWM_SAFE n)
  | .run => d.pwmRun n
  | .hold => (d.pwmOf n).duty
  | .config => if d.u (Obj.PWM_CONFIG_ACTION n) = 0 then (d.pwmOf n).duty else d.f (Obj.PWM_SAFE n)
  | .service => if fixedInForce (d.f (Obj.PWM_FIXED n)) then d.f (Obj.PWM_FIXED n) else d.pwmRun n

/-- A trigger source reaches every seat (R100). -/
def Dev.triggerAll (src : Nat) (d : Dev) : Dev := (List.range 4).foldl (fun d n => d.triggerFrom n src) d

/-- The on-time of a duty in a period: the exact product, rounded (R258) (DEDUCED, log 87). -/
def pwmTicks (x : F32) (period : Nat) : Nat :=
  (clampInt 0 period (F64.round (F64.mul (F64.ofF32 x) (F64.nat period)))).toNat

/-- A period starts (R258, R259): the duty is taken, and the start triggers. -/
def Dev.pwmBegin (n : Nat) (d : Dev) : Dev :=
  let x := d.seen.pwmPending n
  let on := pwmTicks x (d.u (Obj.PWM_PERIOD n))
  let d := { d with pwm := d.pwm.set n ⟨some d.course.elapsed, x⟩ }
  (d.put (Obj.PWM_DUTY n) on).triggerAll (1 + 2 * n)

/-- PWM_PERIOD_START (R258): the next period starts at the end of the present one. -/
def Dev.pwmPeriodStart (n : Nat) (d : Dev) : Dev :=
  if !d.start.configured then d else
    (match (d.pwmOf n).start with
      | some t => d.advanceTo (t + d.u (Obj.PWM_PERIOD n))
      | none => d).pwmBegin n

/-- PWM_CENTRE (R258): the centre trigger; a period without on-pulse gives none. -/
def Dev.pwmCentre (n : Nat) (d : Dev) : Dev :=
  match (d.pwmOf n).start with
  | none => d
  | some t =>
    let on := d.u (Obj.PWM_DUTY n)
    if on = 0 then d else
      (d.advanceTo (t + (if d.u (Obj.PWM_ALIGN n) = 1 then d.u (Obj.PWM_PERIOD n) else on) / 2)).triggerAll (2 + 2 * n)

/-- A PWM_SYNC mark (R258): a period in progress is cut; at a period that has just started the mark finds nothing to do. -/
def Dev.pwmSync (n : Nat) (d : Dev) : Dev :=
  if !d.start.configured || (d.pwmOf n).start == some d.course.elapsed then d else
    let cut := match (d.pwmOf n).start with
      | some t => decide (d.course.elapsed < t + d.u (Obj.PWM_PERIOD n))
      | none => false
    let d := d.when cut fun d => (d.bump (Obj.PWM_RESYNC n)).flagFirst Obj.CTRL_FLAGS 6 0x9007 (u8 n)
    d.pwmBegin n

/-- Whether the on-pulse of the present period runs (R258). -/
def Dev.pwmPulse (d : Dev) (n : Nat) : Bool :=
  match (d.pwmOf n).start with
  | none => false
  | some t =>
    let on := d.u (Obj.PWM_DUTY n)
    let first := t + (if d.u (Obj.PWM_ALIGN n) = 1 then (d.u (Obj.PWM_PERIOD n) - on) / 2 else 0)
    decide (first ≤ d.course.elapsed) && decide (d.course.elapsed < first + on)

/-- Whether the pin of a PWM channel is high (R258–R260): low until the configuration is loaded, and with PWM_ENABLE 0. -/
def Dev.pwmPin (d : Dev) (n : Nat) : Bool :=
  d.start.configured && !d.stopped && d.on (Obj.PWM_ENABLE n) && d.pwmPulse n != (d.u (Obj.PWM_POLARITY n) == 1)

end Sys2Proof.Machine
end

