-- ==== Sys2Proof/Machine/Capture.lean ====
section
/-! DEFINITION. The wash channels, catches, bulk samples and wavefront location (chapter 07). -/

namespace Sys2Proof.Machine

/-- Changes the capture state. -/
def Dev.setCapture (f : Capture → Capture) (d : Dev) : Dev := { d with capture := f d.capture }

/-- A wash channel. -/
def Dev.channel (d : Dev) (ch : Nat) : Channel := d.capture.channels.getD ch Channel.reset

/-- Changes a wash channel. -/
def Dev.setChannel (ch : Nat) (f : Channel → Channel) (d : Dev) : Dev :=
  d.setCapture fun c => { c with channels := c.channels.modify ch f }

/-! ### Wash channels (R182–R188) -/

/-- Samples in a block. -/
def blockSamples : Nat := 32768

/-- Capacity of a channel in samples (R184). -/
def Channel.capacity (c : Channel) : Nat := c.blocks.length * blockSamples

/-- Depth in µs of a capacity at a spacing (R184). -/
def washDepth (capacity spacing : Nat) : Nat := capacity * spacing * 1000 / 65536

/-- An emptied channel, which restarts in FILLING (R187). -/
def Channel.emptied (c : Channel) : Channel := { c with samples := [], newest := none }

/-- Every channel empties and restarts (R187). -/
def Dev.emptyChannels (d : Dev) : Dev := d.setCapture fun c => { c with channels := c.channels.map Channel.emptied }

/-- WASH_STATE (R206). -/
def Channel.state (c : Channel) : Nat :=
  if c.blocks.isEmpty then 0 else if c.samples.length = c.capacity then 2 else 1

/-- The blocks of the banks in service (R182, R188). -/
def Dev.washBlocks (d : Dev) : List Nat := (List.range 64).filter fun b => !bit d.capture.banks (b / 8)

/-- WASH_DEPTH follows the blocks and the spacing (R184). -/
def Dev.updateDepths (d : Dev) : Dev :=
  (List.range 8).foldl (fun d ch =>
    d.put (Obj.WASH_DEPTH ch) (washDepth (d.channel ch).capacity (d.u (Obj.WASH_SPACING ch)))) d

/-- The blocks of the channels for some sizes: ascending from the first block in service (R182, log 10). -/
def placeBlocks : List Nat → List Nat → List (List Nat)
  | _, [] => []
  | free, n :: rest => free.take n :: placeBlocks (free.drop n) rest

/-- The applied sizes take effect: every channel gets its blocks and restarts (R182). -/
def Dev.placeChannels (d : Dev) : Dev :=
  let placed := placeBlocks d.washBlocks ((List.range 8).map fun ch => d.u (Obj.WASH_BLOCKS ch))
  (d.setCapture fun c => { c with
    channels := List.zipWith (fun b v => { Channel.emptied v with blocks := b }) placed c.channels }).updateDepths

/-- The first channel whose blocks take the sum of the shadow's sizes beyond what is in service (R182). -/
def Dev.washConflict (d : Dev) : Option Nat :=
  let sizes := (List.range 8).map fun ch => d.su (Obj.WASH_BLOCKS ch)
  (List.range 8).find? fun ch => decide (d.washBlocks.length < (sizes.take (ch + 1)).sum)

/-- One element at a channel (R185, R186). -/
def Dev.washElement (ch : Nat) (offset scl : F32) (d : Dev) (e : Element) : Dev :=
  let c := d.channel ch
  let s := washSample offset scl e
  let cap := c.capacity
  let write := fun (gaps : Nat) (d : Dev) =>
    ((d.setChannel ch fun c => { c with
      samples := (s :: List.replicate gaps gapCode ++ c.samples).take cap
      newest := some e.instant, time := e.time, offset := offset, scale := scl }).add (Obj.WASH_GAPS ch) gaps).put
        (Obj.WASH_NEWEST ch) e.time
  match c.newest with
  | none => write 0 d
  | some p =>
    let n := posOf (d.u (Obj.WASH_SPACING ch)) p e.instant
    if n ≤ 0 then (d.bump (Obj.WASH_DISCARDED ch)).setFlag Obj.CAPTURE_FLAGS 3
    else write (min cap (n.toNat - 1)) d

/-- WASH hands its elements to its channel (R185). -/
def Dev.washWrite (ch : Nat) (offset scl : F32) (l : List Element) (d : Dev) : Dev :=
  if (d.channel ch).blocks.isEmpty then d else l.foldl (fun d e => d.washElement ch offset scl e) d

/-! ### Windows of a definition (R194, R197) -/

/-- PRE_COUNT and POST_COUNT of a definition (R194). -/
def Dev.preCount (d : Dev) (c : Nat) : Nat :=
  d.u (Obj.CATCH_PRE c) * 65536 / max 1 (d.u (Obj.WASH_SPACING (d.u (Obj.CATCH_CHANNEL c))))
def Dev.postCount (d : Dev) (c : Nat) : Nat :=
  d.u (Obj.CATCH_POST c) * 65536 / max 1 (d.u (Obj.WASH_SPACING (d.u (Obj.CATCH_CHANNEL c))))

/-- The channels of a definition, its primary included. -/
def Dev.catchMask (d : Dev) (c : Nat) : Nat := setBit (d.u (Obj.CATCH_MASK c)) (d.u (Obj.CATCH_CHANNEL c))

/-- Whether a definition fails the checks of R194. -/
def Dev.catchBad (d : Dev) (c : Nat) : Bool :=
  let ch := d.u (Obj.CATCH_CHANNEL c)
  let ms := d.u (Obj.CATCH_PRE c) + d.u (Obj.CATCH_POST c)
  let pre := d.u (Obj.FIT_PRE c)
  let guard' := d.u (Obj.FIT_GUARD c)
  let post := d.u (Obj.FIT_POST c)
  (d.channel ch).blocks.isEmpty || d.u (Obj.WASH_SPACING ch) == 0 ||
    ((bitList 8 (d.catchMask c)).any fun k => decide (d.u (Obj.WASH_DEPTH k) < ms * 1000)) ||
    decide (d.preCount c < pre + guard') || decide (d.postCount c < post) ||
    decide (pre < 16) || decide (post < 16) || decide (1024 < pre + guard' + post)

/-- The first enabled definition that fails the checks (R194). -/
def Dev.catchConflict (d : Dev) : Option Nat :=
  (List.range 8).find? fun c => d.on (Obj.CATCH_ENABLE c) && d.catchBad c

/-- WASH_CONFLICT names a definition (R206). -/
def conflictDefinition (c : Nat) : Nat := 256 + c

/-- A wash bank is retired (R22, R188): its channels lose their blocks and restart with 0x3022; definitions that no
longer fit are disabled (DEDUCED, log 22). -/
def Dev.retireWashBank (bank : Nat) (d : Dev) : Dev :=
  let hit := (List.range 8).filter fun ch => (d.channel ch).blocks.any fun b => b / 8 == bank
  let d := d.setCapture fun c => { c with banks := setBit c.banks bank }
  let d := hit.foldl (fun d ch =>
    let left := (d.channel ch).blocks.filter fun b => b / 8 != bank
    let d := d.setChannel ch fun c => { c.emptied with blocks := left }
    let d := d.put (Obj.WASH_BLOCKS ch) left.length
    d.flagRaise Obj.CAPTURE_FLAGS 2 0x3022 (u8 ch)) d
  let d := d.updateDepths
  (List.range 8).foldl (fun d c =>
    d.when (d.on (Obj.CATCH_ENABLE c) && d.catchBad c) fun d =>
      (d.putOn (Obj.CATCH_ENABLE c) false).put Obj.WASH_CONFLICT (conflictDefinition c)) d

/-! ### Triggers (R195, R196) -/

/-- An open catch of a definition. -/
def Dev.openCatch (d : Dev) (c : Nat) : Option OpenCatch := d.capture.catches.find? fun o => o.definition == c

/-- The catches of a definition in the last 3600 s (R195). -/
def Dev.recentCatches (d : Dev) (c : Nat) : List Nat :=
  (d.capture.made.getD c []).filter fun t => decide (d.course.elapsed < t + 3600 * secTicks)

/-- A trigger is handled (R195). -/
def Dev.handleTrigger (c : Nat) (e : Element) (d : Dev) : Dev :=
  if !d.on (Obj.CATCH_ENABLE c) then d
  else if (d.openCatch c).isSome then
    (d.setCapture fun s => { s with
      catches := s.catches.map fun o => if o.definition == c then { o with multi := true } else o }).bump
        (Obj.CATCH_MERGED c)
  else
    let near := match d.capture.lastTrigger.getD c none with
      | some t => decide ((e.instant : Int) - t ≤ (d.u (Obj.CATCH_POST c) + d.u (Obj.CATCH_HOLDOFF c)) * msTicks)
      | none => false
    if near then d.bump (Obj.CATCH_MERGED c)
    else if d.u (Obj.CATCH_RATE_MAX c) ≤ (d.recentCatches c).length then
      (d.bump (Obj.CATCH_SUPPRESSED c)).flagFirst Obj.CAPTURE_FLAGS 0 0x3020 (u8 c)
    else
      let made := d.recentCatches c ++ [d.course.elapsed]
      d.setCapture fun s => { s with
        catches := s.catches ++ [⟨c, e, false, d.boundAt e.instant⟩]
        lastTrigger := s.lastTrigger.set c (some e.instant)
        made := s.made.set c made }

/-- A lost trigger (R196): counted and flagged; the event carries definition and stamp. -/
def Dev.loseTrigger (c time : Nat) (d : Dev) : Dev :=
  (d.bump Obj.CATCH_LOST).flagRaise Obj.CAPTURE_FLAGS 1 0x3021 (u8 c ++ u64 time)

/-- A trigger enters the queue of R196, which the application core empties at once while it runs; a full queue loses
the newest. -/
def Dev.catchTrigger (c : Nat) (e : Element) (d : Dev) : Dev :=
  if d.device.appRunning then d.handleTrigger c e
  else if d.capture.triggers.length < 16 then
    d.setCapture fun s => { s with triggers := s.triggers ++ [(c, e)] }
  else
    ((d.bump Obj.CATCH_LOST).setFlag Obj.CAPTURE_FLAGS 1).setCapture fun s => { s with lost := s.lost ++ [(c, e.time)] }

/-- The place of a trigger in its channel: how many samples back from the newest it lies. -/
def Dev.samplesBack (d : Dev) (ch at' : Nat) : Int :=
  posOf (d.u (Obj.WASH_SPACING ch)) at' ((d.channel ch).newest.getD at')

/-- Whether the window of a trigger is still held (R14, R196). -/
def Dev.windowHeld (d : Dev) (c : Nat) (e : Element) : Bool :=
  let v := d.channel (d.u (Obj.CATCH_CHANNEL c))
  decide (v.samples.length < v.capacity) ||
    decide (d.samplesBack (d.u (Obj.CATCH_CHANNEL c)) e.instant + d.preCount c < v.samples.length)

/-- After a restart of the application core (R14, R196): the queued triggers are handled, those whose windows are gone
are lost, and so are open catches. -/
def Dev.drainTriggers (d : Dev) : Dev :=
  let queued := d.capture.triggers
  let opened := d.capture.catches
  let lost := d.capture.lost
  let d := d.setCapture fun s => { s with triggers := [], lost := [] }
  let d := lost.foldl (fun d p => d.flagRaise Obj.CAPTURE_FLAGS 1 0x3021 (u8 p.1 ++ u64 p.2)) d
  let d := opened.foldl (fun d o =>
    if d.windowHeld o.definition o.trigger then d
    else (d.setCapture fun s => { s with catches := s.catches.filter fun x => x.definition != o.definition }).loseTrigger
      o.definition o.trigger.time) d
  queued.foldl (fun d p =>
    if d.on (Obj.CATCH_ENABLE p.1) && !d.windowHeld p.1 p.2 then d.loseTrigger p.1 p.2.time else d.handleTrigger p.1 p.2) d

/-! ### Assembly (R191–R193, R197–R199) -/

/-- A time some positions after a stamp, through clock positions (R197). -/
def timeAfter (stamp : Nat) (positions : Int) (spacing : Nat) : Nat :=
  unsigned 64 ((stamp : Int) + positions * spacing * 15625 / 1024)

/-- Present samples of a channel around a trigger, ascending: position from the trigger and value (R191, R197). -/
def Dev.windowPoints (d : Dev) (ch : Nat) (back lo hi : Int) : List (Int × F64) :=
  let v := d.channel ch
  let value := fun (s : Int) =>
    F64.add (F64.div (F64.ofInt s) (F64.ofF32 v.scale)) (F64.ofF32 v.offset)
  ((v.samples.zipIdx.map fun p => (back - (p.2 : Int), p.1)).reverse.filter fun p =>
    decide (lo ≤ p.1) && decide (p.1 < hi) && p.2 != gapCode).map fun p => (p.1, value p.2)

/-- CLASS of a fit (R199). -/
def fitClass (fast : F32) : Except FitFail Fit → Nat
  | .error _ => 0
  | .ok f =>
    let isFast := F64.le (F64.ofF32 fast) (F64.abs f.rise)
    if F64.lt f.amplitude (F64.nat 0) then (if isFast then 1 else 2) else (if isFast then 3 else 4)

/-- The extreme of some points in the sign of an amplitude, the first of equals (R198). -/
def peakOf (up : Bool) : List (Int × F64) → Option (Int × F64)
  | [] => none
  | p :: rest => some (rest.foldl (fun b x => if (if up then F64.lt b.2 x.2 else F64.lt x.2 b.2) then x else b) p)

/-- The free values of a catch whose fit failed before it formed them (R198, log 9). -/
def Dev.freeF32 (d : Dev) (k : Nat) : F32 := Config.freeF32 (d.device.fresh + k)

/-- The payload of a catch entry (R198): its definition, ID, flags of its window and its fit; what a failed fit has formed stands
in it too, and PEAK_DELAY then counts from the trigger. -/
def Dev.catchPayload (d : Dev) (o : OpenCatch) (id : Nat) (start stop : Int) (shortened : Bool) (f : Except FitFail Fit)
    (post : List (Int × F64)) : List Byte :=
  let c := o.definition
  let ch := d.u (Obj.CATCH_CHANNEL c)
  let sp := d.u (Obj.WASH_SPACING ch)
  let windowStart := timeAfter o.trigger.time start sp
  let stepped := d.capture.steps.any fun t =>
    decide ((o.trigger.instant : Int) + start * sp ≤ t) && decide ((t : Int) ≤ o.trigger.instant + stop * sp)
  let st := fitStatus f
  let flags := (match f with
      | .error _ => 128
      | .ok r => flag r.noisy * 64 + flag r.gap * 32) +
    flag stepped * 16 + flag o.multi * 8 + flag shortened
  let arrival := match f with | .ok r => unsigned 64 ((o.trigger.time : Int) + r.ns) | .error _ => 0
  let unc := match f with
    | .ok r => arrivalUnc r.sf o.bound
    | .error _ => if o.bound.isNone then 0xFFFFFFFF else (d.freeF32 0).toNat
  let q := fun (x : Option F64) k => match x with | some x => F32.ofF64 x | none => d.freeF32 k
  let peak := (fitAmplitude f).bind fun a => peakOf (F64.lt (F64.nat 0) a) post
  let front := match f with | .ok r => r.ns | .error _ => 0
  let peakDelay := match peak with
    | some p => unsigned 32 ((p.1 * sp * 15625 / 1024 - front) / 1000)
    | none => (d.freeF32 5).toNat
  u8 0 ++ u8 c ++ u8 (fitClass (d.f (Obj.CLASS_FAST_RATE c)) f) ++ u8 flags ++ u32 id ++
    u64 o.trigger.time ++ u64 arrival ++ u32 unc ++ u16 o.trigger.sync ++ u8 ch ++ u8 (d.catchMask c) ++
    f32b (q (fitAmplitude f) 1) ++ f32b (q (fitBaseline f) 2) ++ f32b (q (fitRise f) 3) ++ f32b (q (fitNoise f) 4) ++
    f32b (match peak with | some p => F32.ofF64 p.2 | none => d.freeF32 6) ++
    u32 peakDelay ++ u64 windowStart ++ u32 sp ++ u32 (unsigned 32 (-start)) ++ u32 (unsigned 32 stop) ++
    u64 (timeAfter windowStart (d.channel ch).capacity sp) ++ u16 (st.1 * 2 ^ 13 + st.2) ++
    u8 (d.u (Obj.CATCH_UNIT c)) ++ u8 0

/-- A catch is assembled and handed to the ledger (R197, R198); its window joins the table of R200. -/
def Dev.assemble (o : OpenCatch) (d : Dev) : Dev :=
  let c := o.definition
  let ch := d.u (Obj.CATCH_CHANNEL c)
  let v := d.channel ch
  let sp := d.u (Obj.WASH_SPACING ch)
  let back := d.samplesBack ch o.trigger.instant
  let oldest := back - v.samples.length + 1
  let start : Int := max (-(d.preCount c : Int)) (min 0 oldest)
  let stop : Int := max 0 (min (d.postCount c) (back + 1))
  let shortened := decide (-(d.preCount c : Int) < start) || decide (stop < d.postCount c)
  let pts := d.windowPoints ch back start stop
  let f := onsetFit pts sp (d.u (Obj.FIT_PRE c)) (d.u (Obj.FIT_GUARD c)) (d.u (Obj.FIT_POST c))
    (F64.ofF32 (d.f (Obj.MIN_STEP c)))
  let id := (d.u Obj.CATCH_LAST_ID + 1) % 2 ^ 32
  let payload := d.catchPayload o id start stop shortened f (pts.filter fun p => decide (0 ≤ p.1))
  let d := { d with device := { d.device with fresh := d.device.fresh + 7 } }
  let held : HeldCatch := ⟨id, d.catchMask c, c, ch, ofBe ((payload.drop 76).take 8),
    ((o.trigger.instant : Int) + start * sp).toNat, (stop - start).toNat * sp⟩
  let d := d.setCapture fun s => { s with
    catches := s.catches.filter fun x => x.definition != c
    held := (held :: s.held).take 32 }
  let d := (d.put Obj.CATCH_LAST_ID id).bump (Obj.CATCH_COUNT c)
  d.waitEntry (d.stamp .catch (d.u (Obj.CATCH_STREAM c)) payload)

/-- Whether a catch of the same stream with an earlier trigger is still open: catches of one stream are handed over in
order (R197). -/
def Dev.earlierOpen (d : Dev) (o : OpenCatch) : Bool :=
  d.capture.catches.any fun x =>
    d.u (Obj.CATCH_STREAM x.definition) == d.u (Obj.CATCH_STREAM o.definition) &&
      (decide (x.trigger.instant < o.trigger.instant) ||
        (x.trigger.instant == o.trigger.instant && decide (x.definition < o.definition)))

/-- CATCH_ASSEMBLY (R197): the last sample of the post window has been written. -/
def Dev.catchAssembly (c : Nat) (d : Dev) : Dev :=
  match d.openCatch c with
  | none => d
  | some o =>
    let back := d.samplesBack (d.u (Obj.CATCH_CHANNEL c)) o.trigger.instant
    if !d.device.appRunning || decide (back + 1 < d.postCount c) || d.earlierOpen o then d else d.assemble o

/-- Assembles the open catches in order of trigger position, at most n of them. -/
def Dev.assembleAll : Nat → Dev → Dev
  | 0, d => d
  | n + 1, d =>
    match d.capture.catches.find? fun o => !d.earlierOpen o with
    | some o => (d.assemble o).assembleAll n
    | none => d

/-- Entry to CONFIG assembles every open catch from what is written (R197). -/
def Dev.closeCatches (d : Dev) : Dev := d.assembleAll 8

/-! ### Bulk samples (R200, R201) -/

/-- The bytes of CATCH_HELD (R200). -/
def Dev.catchHeld (d : Dev) : List Byte :=
  d.capture.held.flatMap fun h => u32 h.id ++ u8 h.mask ++ u8 h.definition ++ u16 0 ++ u64 h.expiry

/-- The fetch set of a requester (R200). -/
def Dev.fetchSet (d : Dev) (v : Via) : FetchSet :=
  (d.capture.fetch.find? fun f => decide (f.owner = v)).getD ⟨v, 0, 0, 0⟩

/-- Whether a requester can have a fetch set (R200). -/
def Dev.fetchRoom (d : Dev) (v : Via) : Bool :=
  (d.capture.fetch.any fun f => decide (f.owner = v)) || decide (d.capture.fetch.length < 8)

/-- Changes the fetch set of a requester. -/
def Dev.setFetch (f : FetchSet) (d : Dev) : Dev :=
  d.setCapture fun s => { s with fetch := (s.fetch.filter fun x => decide (x.owner ≠ f.owner)) ++ [f] }

/-- A catch of the table. -/
def Dev.heldCatch (d : Dev) (id : Nat) : Option HeldCatch := d.capture.held.find? fun h => h.id == id

/-- What a read of FETCH_DATA returns, and how many samples (R201). -/
def Dev.fetchData (d : Dev) (v : Via) : List Byte × Nat :=
  let f := d.fetchSet v
  let c := d.channel f.channel
  let sp := d.u (Obj.WASH_SPACING f.channel)
  let reply := fun (flags : Nat) (samples : List Int) =>
    (u32 f.id ++ u8 f.channel ++ u8 flags ++ u16 samples.length ++ u32 f.offset ++ u32 sp ++ f32b c.offset ++
      f32b c.scale ++ samples.flatMap fun s => beBytes 2 (unsigned 16 s), samples.length)
  match d.heldCatch f.id with
  | none => reply 1 []
  | some h =>
    let total := h.length / max 1 sp
    -- the sample of window position j lies this many places behind the newest
    let back := posOf sp (h.start + f.offset * sp) (c.newest.getD 0)
    if (c.samples.length : Int) ≤ back then reply 1 []
    else
      let want := min 224 (total - f.offset)
      let got := ((c.samples.take (back.toNat + 1)).reverse).take (if back < 0 then 0 else want)
      reply (if total ≤ f.offset + got.length then 2 else 0) got

/-! ### Location (R202–R205) -/

/-- The pairing window w in seconds (R202). -/
def Dev.pairWindow (d : Dev) : F64 :=
  F64.add (F64.div (F64.ofF32 (d.f Obj.LOC_LENGTH))
      (F64.sub (F64.ofF32 (d.f Obj.LOC_WAVE_SPEED)) (F64.ofF32 (d.f Obj.LOC_WAVE_SPEED_UNC))))
    (F64.ofRat (d.u Obj.LOC_MARGIN) 1000000)

/-- Whether the location objects break a rule of R202 (DEDUCED, log 16). -/
def Dev.locBad (d : Dev) : Bool :=
  F32.le (d.f Obj.LOC_LENGTH) F32.zero || F32.le (d.f Obj.LOC_WAVE_SPEED) (d.f Obj.LOC_WAVE_SPEED_UNC) ||
    F64.lt (F64.ofRat (d.u Obj.LOC_WAIT) 1000) (F64.add d.pairWindow (F64.nat 1))

/-- w in ticks, rounded up. -/
def Dev.windowTicks (d : Dev) : Nat := (F64.ceil (F64.mul d.pairWindow (F64.nat secTicks))).toNat

/-- What location needs of a catch payload (R198). -/
def catchFacts (payload : List Byte) (stream position since : Nat) : CatchFacts :=
  let f := fun at' n => ofBe ((payload.drop at').take n)
  ⟨f 4 4, f 16 8, f 24 4, BitVec.ofNat 32 (f 32 4), f 28 2, bit (f 3 1) 7, position, stream, since⟩

/-- Whether a payload is a catch, not a location (R198, R205). -/
def isCatchPayload (payload : List Byte) : Bool := payload.length == 88 && payload.head? == some 0

/-- An own catch is accepted: it waits for pairing (R203). -/
def Dev.ownCatch (stream position : Nat) (payload : List Byte) (d : Dev) : Dev :=
  d.when (d.on Obj.LOC_ENABLE && isCatchPayload payload) fun d =>
    d.setCapture fun s => { s with own := s.own ++ [catchFacts payload stream position d.course.elapsed] }

/-- A discard of an unpaired upstream catch (R202). -/
def Dev.discardUpstream (n : Nat) (d : Dev) : Dev :=
  ((d.setCapture fun s => { s with upstream := s.upstream.drop n }).add Obj.LOC_UNPAIRED n)

/-- An upstream catch arrives (R202). -/
def Dev.upstreamCatch (stream position : Nat) (payload : List Byte) (d : Dev) : Dev :=
  let d := d.when (decide (16 ≤ d.capture.upstream.length)) (Dev.discardUpstream 1)
  d.setCapture fun s => { s with upstream := s.upstream ++ [catchFacts payload stream position d.course.elapsed] }

/-- LOC_UNPAIRED_EXPIRY (R202): an unpaired upstream catch grows older than LOC_WAIT + w. -/
def Dev.unpairedExpiry (d : Dev) : Dev :=
  match d.capture.upstream with
  | [] => d
  | u :: _ => (d.advanceTo (u.since + d.u Obj.LOC_WAIT * msTicks + d.windowTicks + 1)).discardUpstream 1

/-- The distance of two arrivals. -/
def arrivalGap (u c : CatchFacts) : Nat := ((u.arrival : Int) - c.arrival).natAbs

/-- The upstream catch that pairs with an own one (R203). -/
def Dev.partner (d : Dev) (c : CatchFacts) : Option CatchFacts :=
  let ok := d.capture.upstream.filter fun u =>
    !u.failed && (F32.lt u.amplitude F32.zero == F32.lt c.amplitude F32.zero) &&
      F64.le (F64.ofRat (arrivalGap u c) 1000000000) d.pairWindow
  match ok with
  | [] => none
  | u :: rest => some (rest.foldl (fun b x =>
      if arrivalGap x c < arrivalGap b c ∨ (arrivalGap x c = arrivalGap b c ∧ x.id < b.id) then x else b) u)

/-- Whether a SYNC field is LOCKED or HOLDOVER (R48, R203). -/
def syncAdmissible (sync : Nat) : Bool := bits sync 12 10 == 2 || bits sync 12 10 == 3

/-- An estimate (R204): result, clamped, x and ux. -/
structure Estimate where
  result : Nat
  clamped : Bool
  x : F64
  ux : F64
deriving DecidableEq, Repr

/-- R204: the sum of the two U32 uncertainties wraps (R10). -/
def Dev.locate (d : Dev) (u c : CatchFacts) : Estimate :=
  let L := F64.ofF32 (d.f Obj.LOC_LENGTH)
  let dL := F64.ofF32 (d.f Obj.LOC_LENGTH_UNC)
  let a := F64.ofF32 (d.f Obj.LOC_WAVE_SPEED)
  let da := F64.ofF32 (d.f Obj.LOC_WAVE_SPEED_UNC)
  let nano := F64.ofRat 1 1000000000
  let two := F64.nat 2
  let dt := F64.ofInt ((u.arrival : Int) - c.arrival)
  let x := F64.div (F64.add L (F64.mul (F64.mul a dt) nano)) two
  let ux := F64.add (F64.add
      (F64.mul (F64.mul (F64.div a two) (F64.nat ((u.unc + c.unc) % 2 ^ 32))) nano)
      (F64.div (F64.mul (F64.mul (F64.abs dt) nano) da) two)) (F64.div dL two)
  let result := if F64.le x ux then 1 else if F64.le (F64.sub L ux) x then 2 else 0
  let low := F64.lt x (F64.nat 0)
  let high := F64.lt L x
  ⟨result, low || high, if low then F64.nat 0 else if high then L else x, ux⟩

/-- The payload of a location entry (R205). -/
def Dev.locationPayload (d : Dev) (c : CatchFacts) (result : Nat) (u : Option (CatchFacts × Estimate)) : List Byte :=
  let nan := F32.qnan
  let up := fun (g : CatchFacts → Nat) => match u with | some p => g p.1 | none => 0
  u8 1 ++ u8 result ++ u8 (match u with | some p => flag p.2.clamped | none => 0) ++ u8 0 ++ u32 c.id ++
    u32 (up fun u => u.id) ++ u32 (up fun u => u.position % 2 ^ 32) ++ u16 (up fun u => u.position / 2 ^ 32) ++
    u8 (up fun u => u.stream) ++ u8 0 ++ u64 c.arrival ++ u64 (up fun u => u.arrival) ++
    u64 (up fun u => unsigned 64 ((u.arrival : Int) - c.arrival)) ++
    f32b (match u with | some p => F32.ofF64 p.2.x | none => nan) ++
    f32b (match u with | some p => F32.ofF64 p.2.ux | none => nan) ++
    f32b (d.f Obj.LOC_LENGTH) ++ f32b (d.f Obj.LOC_WAVE_SPEED) ++ u16 c.sync ++ u16 (up fun u => u.sync)

/-- Writes a location entry (R205). -/
def Dev.locationEntry (c : CatchFacts) (result : Nat) (u : Option (CatchFacts × Estimate)) (d : Dev) : Dev :=
  let d := d.put Obj.LOC_LAST_RESULT result
  d.waitEntry (d.stamp .catch (d.u Obj.LOC_STREAM) (d.locationPayload c result u))

/-- LOC_PAIRING (R203–R205): LOC_WAIT after the acceptance of the oldest own catch that waits. -/
def Dev.pairing (d : Dev) : Dev :=
  match d.capture.own with
  | [] => d
  | c :: rest =>
    let d := d.advanceTo (c.since + d.u Obj.LOC_WAIT * msTicks)
    let d := d.setCapture fun s => { s with own := rest }
    if c.failed || !d.on Obj.LOC_ENABLE then d else
      match d.partner c with
      | none => d.locationEntry c 3 none
      | some u =>
        let d := d.setCapture fun s => { s with upstream := s.upstream.filter fun x => decide (x ≠ u) }
        if !(syncAdmissible c.sync) || !(syncAdmissible u.sync) then d.locationEntry c 4 none
        else
          let e := d.locate u c
          let d := ((d.putF Obj.LOC_LAST_X (F32.ofF64 e.x)).putF Obj.LOC_LAST_UX (F32.ofF64 e.ux)).bump Obj.LOC_PAIRED
          let d := d.locationEntry c e.result (some (u, e))
          d.when (e.result == 0) (Dev.flagRaise Obj.CAPTURE_FLAGS 4 0x3025 (u32 c.id ++ f32b (F32.ofF64 e.x)))

end Sys2Proof.Machine
end

