-- ==== Sys2Proof/Machine/Crypto.lean ====
section
/-! DEFINITION. The checks and digests the part computes: CRC-8 (R390), CRC-32C (R266), SHA-256 (R267, R474) and
HMAC-SHA-256 (R369). -/

namespace Sys2Proof.Machine

/-- One bit of the reflected CRC-32C register (R266: polynomial 0x1EDC6F41, reflected 0x82F63B78). -/
def crc32cBit (c : Nat) : Nat := if c % 2 = 1 then (c / 2).xor 0x82F63B78 else c / 2

/-- CRC-32C as iSCSI uses it (R266). -/
def crc32c (data : List Byte) : Nat :=
  (data.foldl (fun c b => (List.range 8).foldl (fun c _ => crc32cBit c) (c.xor b.toNat)) 0xFFFFFFFF).xor 0xFFFFFFFF

/-- Rotation of a 32-bit word to the right. -/
def rotr (n x : Nat) : Nat := x / 2 ^ n + x % 2 ^ n * 2 ^ (32 - n)

/-- The complement of a 32-bit word. -/
def not32 (x : Nat) : Nat := 0xFFFFFFFF - x

/-- The round constants of SHA-256. -/
def shaK : List Nat :=
  [0x428A2F98, 0x71374491, 0xB5C0FBCF, 0xE9B5DBA5, 0x3956C25B, 0x59F111F1, 0x923F82A4, 0xAB1C5ED5,
   0xD807AA98, 0x12835B01, 0x243185BE, 0x550C7DC3, 0x72BE5D74, 0x80DEB1FE, 0x9BDC06A7, 0xC19BF174,
   0xE49B69C1, 0xEFBE4786, 0x0FC19DC6, 0x240CA1CC, 0x2DE92C6F, 0x4A7484AA, 0x5CB0A9DC, 0x76F988DA,
   0x983E5152, 0xA831C66D, 0xB00327C8, 0xBF597FC7, 0xC6E00BF3, 0xD5A79147, 0x06CA6351, 0x14292967,
   0x27B70A85, 0x2E1B2138, 0x4D2C6DFC, 0x53380D13, 0x650A7354, 0x766A0ABB, 0x81C2C92E, 0x92722C85,
   0xA2BFE8A1, 0xA81A664B, 0xC24B8B70, 0xC76C51A3, 0xD192E819, 0xD6990624, 0xF40E3585, 0x106AA070,
   0x19A4C116, 0x1E376C08, 0x2748774C, 0x34B0BCB5, 0x391C0CB3, 0x4ED8AA4A, 0x5B9CCA4F, 0x682E6FF3,
   0x748F82EE, 0x78A5636F, 0x84C87814, 0x8CC70208, 0x90BEFFFA, 0xA4506CEB, 0xBEF9A3F7, 0xC67178F2]

/-- The initial hash value of SHA-256. -/
def shaInit : List Nat :=
  [0x6A09E667, 0xBB67AE85, 0x3C6EF372, 0xA54FF53A, 0x510E527F, 0x9B05688C, 0x1F83D9AB, 0x5BE0CD19]

/-- The message schedule extended by one word. -/
def shaExtend (w : List Nat) : List Nat :=
  let n := w.length
  let a := w.getD (n - 15) 0
  let b := w.getD (n - 2) 0
  let s0 := ((rotr 7 a).xor (rotr 18 a)).xor (a / 8)
  let s1 := ((rotr 17 b).xor (rotr 19 b)).xor (b / 1024)
  w ++ [(w.getD (n - 16) 0 + s0 + w.getD (n - 7) 0 + s1) % 2 ^ 32]

/-- The working words of a SHA-256 round. -/
structure ShaWork where
  a : Nat
  b : Nat
  c : Nat
  d : Nat
  e : Nat
  f : Nat
  g : Nat
  h : Nat
deriving DecidableEq, Repr

/-- One round of SHA-256. -/
def shaRound (v : ShaWork) (kw : Nat × Nat) : ShaWork :=
  let s1 := ((rotr 6 v.e).xor (rotr 11 v.e)).xor (rotr 25 v.e)
  let ch := (v.e.land v.f).xor ((not32 v.e).land v.g)
  let t1 := (v.h + s1 + ch + kw.1 + kw.2) % 2 ^ 32
  let s0 := ((rotr 2 v.a).xor (rotr 13 v.a)).xor (rotr 22 v.a)
  let maj := ((v.a.land v.b).xor (v.a.land v.c)).xor (v.b.land v.c)
  ⟨(t1 + s0 + maj) % 2 ^ 32, v.a, v.b, v.c, (v.d + t1) % 2 ^ 32, v.e, v.f, v.g⟩

/-- The hash value after one 16-word block. -/
def shaBlock (h : List Nat) (block : List Nat) : List Nat :=
  let w := (List.range 48).foldl (fun w _ => shaExtend w) block
  let g := fun k => h.getD k 0
  let v := (shaK.zip w).foldl shaRound ⟨g 0, g 1, g 2, g 3, g 4, g 5, g 6, g 7⟩
  [(g 0 + v.a) % 2 ^ 32, (g 1 + v.b) % 2 ^ 32, (g 2 + v.c) % 2 ^ 32, (g 3 + v.d) % 2 ^ 32,
   (g 4 + v.e) % 2 ^ 32, (g 5 + v.f) % 2 ^ 32, (g 6 + v.g) % 2 ^ 32, (g 7 + v.h) % 2 ^ 32]

/-- Bytes padded to whole blocks. -/
def shaPad (data : List Byte) : List Byte :=
  data ++ [0x80#8] ++ List.replicate ((119 - data.length % 64) % 64) 0 ++ beBytes 8 (8 * data.length)

/-- Word `k` of block `n` of padded bytes. -/
def shaWord (p : List Byte) (n k : Nat) : Nat := ofBe ((p.drop (64 * n + 4 * k)).take 4)

/-- SHA-256 of bytes. -/
def sha256 (data : List Byte) : List Byte :=
  let p := shaPad data
  ((List.range (p.length / 64)).foldl
    (fun h n => shaBlock h ((List.range 16).map (shaWord p n))) shaInit).flatMap (beBytes 4)

/-- HMAC-SHA-256. -/
def hmac (key msg : List Byte) : List Byte :=
  let k := if 64 < key.length then sha256 key else key
  let k := k ++ List.replicate (64 - k.length) 0
  sha256 (k.map (fun x => x ^^^ 0x5C#8) ++ sha256 (k.map (fun x => x ^^^ 0x36#8) ++ msg))

/-- The bytes of an ASCII text. -/
def ascii (s : String) : List Byte := s.toList.map fun c => BitVec.ofNat 8 c.toNat

end Sys2Proof.Machine
end

