-- ==== Sys2Proof/Machine/Switch.lean ====
section
/-! DEFINITION. The ports, queues, gates, HSR ring and RedBox of the switch (R345–R359). -/

namespace Sys2Proof.Machine

/-- Changes the network's state. -/
def Dev.setNet (f : Net → Net) (d : Dev) : Dev := { d with net := f d.net }

/-- A port of the switch by number: 0 A, 1 B, 2 S. -/
def Dev.port (d : Dev) (p : Nat) : PortState := d.net.ports.getD p PortState.reset

/-- Changes a port. -/
def Dev.setPort (p : Nat) (f : PortState → PortState) (d : Dev) : Dev :=
  d.setNet fun n => { n with ports := n.ports.modify p f }

/-- Whether a port is in service (R346, R347). -/
def Dev.portUp (d : Dev) (p : Nat) : Bool := d.u (Obj.LINK_STATE p) == 2 && (d.port p).testing.isNone

/-- The device's MAC address (R363). -/
def Dev.mac (d : Dev) : Nat := d.u Obj.NET_MAC % 2 ^ 48

/-! ### Frame times (R345, R355, R357) -/

/-- Ticks of some bytes on a port: 0.8 µs a byte on A and B, 0.08 µs on S. -/
def byteTicks (p n : Nat) : Nat := if p = 2 then ceilDiv (n * 524288) 100000 else ceilDiv (n * 524288) 10000

/-- Ticks from a frame's first preamble bit to its last bit. -/
def frameTicks (p size : Nat) : Nat := byteTicks p (size + 8)

/-- The slot of a 512-byte frame with preamble and gap (R357). -/
def slotTicks (p : Nat) : Nat := byteTicks p 532

/-- The alarm window of a stroke (R355). -/
def alarmWindowTicks : Nat := 8192

/-- 0.15 ms rounded up (R284, R359). -/
def hopTicks : Nat := 9831

/-- The latency of a frame forwarded cut-through, 26.0 µs (R350; log 30). -/
def cutTicks : Nat := 1704

/-! ### Periods (R356) -/

/-- Offset of an instant in the present stroke. -/
def Dev.offsetAt (d : Dev) (t : Nat) : Nat := t - d.course.strokeStart

/-- The offsets after a given one at which marks of an action, at a target, fire in the present stroke. -/
def Dev.marksAfter (d : Dev) (action : Nat) (target : Option Nat) (off : Nat) : List Nat :=
  ((List.range 128).filter fun k =>
    let m := d.mark k
    m.action == action && (target.isNone || target == some m.target) && m.firesIn (d.u Obj.STROKE_COUNT) &&
      decide (off < m.offset) && decide (m.offset < d.course.strokeLen) && !d.markCollides k).map fun k => (d.mark k).offset

/-- The end of an open gate's window: its GATE_CLOSE or the next stroke boundary (R356). -/
def Dev.gateEnd (d : Dev) (g off : Nat) : Nat := (d.marksAfter 6 (some g) off).foldl min d.course.strokeLen

/-- The end of the open period: the next opening of any gate, 0 included (R356). -/
def Dev.openEnd (d : Dev) (off : Nat) : Nat := (d.marksAfter 5 none off).foldl min d.course.strokeLen

/-- The gates 1 to 7 that are open. -/
def Dev.openGates (d : Dev) : List Nat := (bitList 8 d.net.gates).filter (· != 0)

/-- The queues in the order in which they are served at an offset (R355, R356). -/
def Dev.service (d : Dev) (off : Nat) : List QueueName :=
  if !d.course.running then [.time, .transit, .best]
  else if off < alarmWindowTicks then [.alarm]
  else if off < alarmGuardEnd then []
  else if d.openGates.isEmpty then [.time, .transit, .best]
  else .transit :: d.openGates.map .gate ++ [.time, .best]

/-- The offset at which the period of a queue ends (R356). -/
def Dev.periodEnd (d : Dev) (q : QueueName) (off : Nat) : Nat :=
  match q with
  | .alarm => alarmGuardEnd
  | .gate g => d.gateEnd g off
  | _ => if d.openGates.isEmpty then d.openEnd off else (d.openGates.map fun g => d.gateEnd g off).foldl max 0

/-- Whether an alarm frame may leave in the present window: frames in transit wait for the stroke after their arrival
(R355). -/
def Dev.alarmDue (d : Dev) (f : Frame) : Bool := f.kind != .transit || decide (f.arrived < d.course.strokeStart)

/-- The frames of a queue in the order in which they leave: first transmissions before retransmissions (R356); alarm frames that a
window has left over before newer ones (R359), and of either those in transit before the device's own (R355). -/
def Dev.inOrder (d : Dev) (q : QueueName) (l : List Frame) : List Frame :=
  let l := l.filter fun f => f.queue == q
  match q with
  | .alarm =>
    let l := l.filter d.alarmDue
    let sorted := fun (l : List Frame) => (l.filter fun f => f.kind == .transit) ++ l.filter fun f => f.kind != .transit
    sorted (l.filter Frame.left) ++ sorted (l.filter fun f => !f.left)
  | .gate _ => (l.filter fun f => !f.retx) ++ l.filter Frame.retx
  | _ => l

/-- The frame at the head of a queue. -/
def Dev.headOf (d : Dev) (q : QueueName) (l : List Frame) : Option Frame := (d.inOrder q l).head?

/-- Whether a frame is of a publication. -/
def Frame.publishes (f : Frame) : Bool := match f.kind with | .publication _ => true | _ => false

/-- Whether a frame is one of a subscription's own (R356). -/
def Frame.delivers (f : Frame) : Bool := match f.queue with | .gate _ => !f.publishes | _ => false

/-- Whether two frames are copies of one frame. -/
def Frame.same (f g : Frame) : Bool := f.kind == g.kind && f.data == g.data

/-- Whether a frame that starts at an instant leaves before its period ends, its last bit leaving at another
(R356). -/
def Dev.fits (d : Dev) (q : QueueName) (start stop : Nat) : Bool :=
  !d.course.running ||
    (decide (start < d.course.strokeStart + d.course.strokeLen) &&
      (q == .alarm || decide (d.offsetAt stop ≤ d.periodEnd q (d.offsetAt start))))

/-- Whether the copy of a subscription's own ring frame that waits on the other ring port leaves within the present period behind
what leaves there before it, so that both leave in the same period (R356; DEDUCED, log 100). -/
def Dev.leavesTogether (d : Dev) (p : Nat) (f : Frame) : Bool :=
  let q := 1 - p
  let v := d.port q
  match v.waiting.find? f.same with
  | none => true
  | some copy =>
    if p = 2 || !f.delivers || !d.portUp q || !d.course.running then true else
      let start := match v.sending with | some s => s.stop + byteTicks q 12 | none => max d.course.elapsed v.free
      let first := ((d.service (d.offsetAt start)).takeWhile fun x => x != f.queue).flatMap fun x => d.inOrder x v.waiting
      let ahead := first ++ (d.inOrder f.queue v.waiting).takeWhile fun x => !x.same copy
      let stop := start + (ahead.map fun x => frameTicks q x.size + byteTicks q 12).sum + frameTicks q copy.size
      decide (d.offsetAt stop ≤ d.periodEnd f.queue (d.offsetAt d.course.elapsed))

/-- The frame that a port starts next, at the earliest instant it may (R356). -/
def Dev.nextFrame (d : Dev) (p : Nat) : Option (Frame × Nat) :=
  let v := d.port p
  let start := max d.course.elapsed v.free
  ((d.service (d.offsetAt start)).findSome? fun q => (d.headOf q v.waiting).bind fun f =>
    if d.fits q start (start + frameTicks p f.size) && d.leavesTogether p f then some (f, start) else none)

/-- A port that sends nothing starts the next frame that fits its period (R356). -/
def Dev.pump (p : Nat) (d : Dev) : Dev :=
  if !d.portUp p || (d.port p).sending.isSome then d else
    match d.nextFrame p with
    | none => d
    | some (f, start) => d.setPort p fun v => { v with
        waiting := v.waiting.erase f, sending := some ⟨f, start, start + frameTicks p f.size⟩ }

/-- Every port starts what it may. -/
def Dev.pumpAll (d : Dev) : Dev := ((d.pump 0).pump 1).pump 2

/-- Whether a publication frame gives way to a delivery frame: formed in the same tick, in the same queue (R356). -/
def Frame.yields (f g : Frame) : Bool :=
  f.delivers && !f.retx && g.publishes && g.queue == f.queue && g.arrived == f.arrived

/-- A port with a frame in its queue: of deliveries and publications formed in one tick the deliveries go first, also where a
publication had started (R356). -/
def PortState.joined (v : PortState) (now : Nat) (f : Frame) : PortState :=
  let v : PortState := match v.sending with
    | some s => if f.yields s.frame && decide (now ≤ s.start) then { v with waiting := s.frame :: v.waiting, sending := none } else v
    | none => v
  { v with waiting := v.waiting.filter (fun g => !f.yields g) ++ [f] ++ v.waiting.filter f.yields }

/-- A frame joins its queue on a port that is in service. -/
def Dev.enqueue (p : Nat) (f : Frame) (d : Dev) : Dev :=
  if d.portUp p then (d.setPort p fun v => v.joined d.course.elapsed f).pump p else d

/-- An own frame leaves on A and B with one HSR sequence number (R352): both copies are queued before either starts. -/
def Dev.sendRing (f : Frame) (d : Dev) : Dev :=
  let d := d.setNet fun n => { n with sequence := (n.sequence + 1) % 65536 }
  let join := fun (p : Nat) (d : Dev) => d.when (d.portUp p) (Dev.setPort p fun v => v.joined d.course.elapsed f)
  ((join 1 (join 0 d)).pump 0).pump 1

/-- An own frame on the ring or on S. -/
def Dev.sendOn (p : Port) (f : Frame) (d : Dev) : Dev :=
  match p with
  | .S => d.enqueue 2 f
  | _ => d.sendRing f

/-- A GATE_OPEN mark (R356). -/
def Dev.gateOpen (g : Nat) (d : Dev) : Dev := (d.setNet fun n => { n with gates := setBit n.gates g }).pumpAll

/-- A GATE_CLOSE mark (R356). -/
def Dev.gateClose (g : Nat) (d : Dev) : Dev := (d.setNet fun n => { n with gates := clearBit n.gates g }).pumpAll

/-- The network's part of a stroke boundary: every gate window ends and the alarm window opens (R355, R356). -/
def Dev.netBoundary (d : Dev) : Dev := (d.setNet fun n => { n with gates := 0 }).pumpAll

/-- ALARM_WINDOW_CLOSE (R359): an alarm frame left over waits for the next window and is counted. -/
def Dev.alarmWindowClose (d : Dev) : Dev :=
  if !d.course.running then d else
    let d := d.advanceTo (d.course.strokeStart + alarmWindowTicks)
    (List.range 3).foldl (fun d p =>
      let due := fun (f : Frame) => f.queue == .alarm && d.alarmDue f
      let left := ((d.port p).waiting.filter due).length
      let d := d.setPort p fun v => { v with waiting := v.waiting.map fun f => if due f then { f with left := true } else f }
      (List.range left).foldl (fun d _ => (d.bump Obj.ALARM_DEFERRED).flagFirst Obj.PORT_FLAGS 3 0x600A (u8 p)) d) d

/-- ALARM_GUARD_END (R356): the open period begins. -/
def Dev.alarmGuardDone (d : Dev) : Dev :=
  if !d.course.running then d else (d.advanceTo (d.course.strokeStart + alarmGuardEnd)).pumpAll

/-! ### The end of a frame (R282, R356, R359) -/

/-- A delivery frame has left (R280, R282): the positions sent, and the timer where it carries the oldest outstanding
entry. -/
def Dev.deliverySent (u first last : Nat) (retx : Bool) (stop : Nat) (d : Dev) : Dev :=
  let d := d.when (serialCmp (d.u (Obj.SUB_SENT u)) last 48 == .before) (Dev.put (Obj.SUB_SENT u) last)
  let oldest := (d.u (Obj.SUB_ACKED u) + 1) % 2 ^ 48
  let holds := serialCmp first oldest 48 != .after && serialCmp oldest last 48 != .after
  if !holds || !d.on (Obj.SUB_ENABLE u) then d
  else if retx && (d.sub u).timer.isSome then d
  else d.setSub u fun s => { s with timer := some (max stop (s.timer.getD 0)) }

/-- Bytes of a Sync or Follow_Up on a port, Annex E of IEEE 1588-2019. -/
def ptpSize (p : Nat) : Nat := if p = 2 then 64 else 72

/-- The Follow_Up of a Sync that the transparent clock has passed on (R361): the residence time, the ingress port's delay and its
asymmetry are in its correction. -/
def Dev.followUps (d : Dev) : Dev :=
  let ready := d.net.bridges.filter fun b => b.residence.isSome && b.follow.isSome
  let d := d.setNet fun n => { n with bridges := n.bridges.filter fun b => !(b.residence.isSome && b.follow.isSome) }
  ready.foldl (fun d b =>
    match b.follow, b.residence with
    | some (origin, correction), some r =>
      d.enqueue b.port ⟨.transit, .time, false, ptpSize b.port, d.course.elapsed,
        u8 8 ++ u64 b.source ++ u16 b.sequence ++ beBytes 10 origin ++ beBytes 8 (unsigned 64 (correction + b.link + r)), false⟩
    | _, _ => d) d

/-- A Sync has left a port: its residence time (R361). -/
def Dev.syncSent (p source sequence residence : Nat) (d : Dev) : Dev :=
  let d := d.when (decide (d.u Obj.TC_RESIDENCE_MAX < residence)) (Dev.put Obj.TC_RESIDENCE_MAX residence)
  (d.setNet fun n => { n with bridges := n.bridges.map fun (b : Bridge) =>
    if b.port = p ∧ b.source = source ∧ b.sequence = sequence then { b with residence := some residence } else b }).followUps

/-- The stroke period P, in the angle course the longest that is admitted (R284, R359). -/
def Dev.longestPeriod (d : Dev) : Nat := periodTicks (if d.angle then d.u Obj.ANGLE_ADMIT_MAX else d.course.period)

/-- What the end of a frame on a port brings about. -/
def Dev.frameSent (p : Nat) (s : Sending) (d : Dev) : Dev :=
  let d := d.bump (Obj.TX_FRAMES p)
  let f := s.frame
  let held := fun (q : Nat) => (d.port q).waiting.any f.same || (match (d.port q).sending with | some x => f.same x.frame | none => false)
  match f.kind with
  | .publication n => d.when (!((List.range 3).any held)) (Dev.bump (Obj.PUB_FRAMES n))
  | .delivery u first last => d.deliverySent u first last f.retx s.stop
  | .sync source sequence => d.syncSent p source sequence (nsOfTicks (s.start - f.arrived))
  | .transit => d.when (f.queue == .transit && decide (f.arrived + d.longestPeriod + hopTicks < s.stop)) fun d =>
      (d.bump Obj.TRANSIT_LATE).flagFirst Obj.PORT_FLAGS 4 0x600B (u8 p)
  | _ => d

/-- FRAME_TX_END (R356): the frame's last bit leaves the port; after the gap of 12 bytes the next that fits starts. -/
def Dev.frameTxEnd (p : Nat) (d : Dev) : Dev :=
  match (d.port p).sending with
  | none => d
  | some s =>
    let d := d.advanceTo s.stop
    let d := d.setPort p fun v => { v with sending := none, free := s.stop + byteTicks p 12 }
    (d.frameSent p s).pump p

/-! ### Ring state and delivery paths (R282, R353) -/

/-- Whether an open session of the CLIENT in SUB_DEST, at level L1 or above, exists (R373). -/
def Dev.subSession (d : Dev) (u : Nat) : Option Nat :=
  let client := ofBe ((d.b (Obj.SUB_DEST u)).drop 18)
  (List.range 16).find? fun n => match d.net.sessions.getD n none with
    | some s => s.isOpen && !s.upstream && s.client == client && decide (1 ≤ s.level)
    | none => false

/-- Whether the path of a subscription is up (R24, R353, R373). -/
def Dev.pathUp (d : Dev) (u : Nat) : Bool :=
  match d.u (Obj.SUB_PORT u) with
  | 0 => d.u Obj.RING_STATE != 3 && (d.subSession u).isSome
  | 1 => d.portUp 2 && (d.subSession u).isSome
  | 2 => (d.subSession u).isSome
  | _ => true

/-- The paths looked at again (R282): a path lost stops the timer; a path that returns makes the subscription ACTIVE,
restarts the count of timeouts and has every outstanding position sent again. -/
def Dev.checkPaths (d : Dev) : Dev :=
  (List.range 16).foldl (fun d u =>
    if !d.on (Obj.SUB_ENABLE u) then d
    else if d.pathUp u then
      d.when (d.u (Obj.SUB_STATE u) == 3) fun d =>
        (d.put (Obj.SUB_STATE u) 1).setSub u fun s =>
          { s with timeouts := 0, timer := none, resend := true, formed := d.u (Obj.SUB_SENT u) }
    else
      d.when (d.u (Obj.SUB_STATE u) != 3) fun d =>
        (d.put (Obj.SUB_STATE u) 3).setSub u fun s => { s with timer := none }) d

/-- RING_STATE from the links and the returns of the own supervision frames (R353). -/
def Dev.ringNow (d : Dev) : Nat :=
  let back := fun (p : Nat) => (d.port p).returned && decide ((d.port p).missed < 3)
  let gone := fun (p : Nat) => decide (3 ≤ (d.port p).missed)
  match d.portUp 0, d.portUp 1 with
  | false, false => 3
  | false, true => 1
  | true, false => 2
  | true, true =>
    if back 0 && back 1 then 0
    else if gone 0 && back 1 then 1
    else if gone 1 && back 0 then 2
    else d.u Obj.RING_STATE

/-- RING_STATE is set; a change to an OPEN state and a return to CLOSED are reported (R353). -/
def Dev.updateRing (d : Dev) : Dev :=
  let was := d.u Obj.RING_STATE
  let now := d.ringNow
  if now = was then d else
    let d := d.put Obj.RING_STATE now
    let d := if now = 0 then d.raise 0x6004 []
      else if now = 3 then d
      else d.flagRaise Obj.PORT_FLAGS 1 0x6003 (u8 now)
    d.checkPaths

/-! ### Links and PHYs (R346–R348) -/

/-- Whether a profile powers a port's PHY (R407): A and B but in LEAN, S in FULL alone. -/
def phyPermitted (profile p : Nat) : Bool := if p = 2 then profile == 0 else profile != 2

/-- Whether a port may come up: the PHYs powered (R489), in the profile too (R407), the port enabled and not retired. -/
def Dev.portUsable (d : Dev) (p : Nat) : Bool :=
  d.start.configured && !d.stopped && phyPermitted (d.u Obj.PROFILE_ACTIVE) p && d.on (Obj.PORT_ENABLE p) &&
    !bit (d.u Obj.PORTS_RETIRED) p

/-- The amplitude with which a link comes up (R346): on A and B the one that PORT_MODE forces, else the one that autonegotiation has
selected; none on S. -/
def Dev.amplitude (d : Dev) (p negotiated : Nat) : Nat :=
  if p = 2 then 0 else match d.u (Obj.PORT_MODE p) with | 1 => 1 | 2 => 2 | _ => negotiated

/-- LINK_UP (R346). -/
def Dev.linkUp (p negotiated : Nat) (d : Dev) : Dev :=
  if !d.portUsable p || d.u (Obj.LINK_STATE p) == 2 then d else
    let amplitude := d.amplitude p negotiated
    let d := (d.put (Obj.LINK_STATE p) 2).put (Obj.LINK_AMPLITUDE p) amplitude
    let d := d.setPort p fun v => { v with
      missed := 0, returned := false, free := d.course.elapsed, exchanges := 0, sync := none, asked := d.course.elapsed }
    let d := d.raise 0x6001 (u8 p ++ u8 amplitude)
    (d.updateRing).checkPaths

/-- LINK_DOWN (R346): what waited on the port is gone. -/
def Dev.linkDown (p : Nat) (d : Dev) : Dev :=
  if d.u (Obj.LINK_STATE p) == 0 then d else
    let d := (d.put (Obj.LINK_STATE p) 0).put (Obj.LINK_AMPLITUDE p) 0
    let d := d.setPort p fun v => { v with waiting := [], sending := none }
    let d := d.flagRaise Obj.PORT_FLAGS 0 0x6002 (u8 p)
    (d.updateRing).checkPaths

/-- PHY_ERROR_BURST (R347): more than PHY_ERR_LIMIT bad frames within 1 s take the port out of service for its
self-test. -/
def Dev.phyErrorBurst (p frames : Nat) (d : Dev) : Dev :=
  if frames ≤ d.u Obj.PHY_ERR_LIMIT || (d.port p).testing.isSome || !d.portUsable p then d else
    let d := d.setPort p fun v => { v with testing := some d.course.elapsed, waiting := [], sending := none }
    (d.updateRing).checkPaths

/-- PHY_SELF_TEST_DONE (R347): 20 ms after the test began, the burst was transient or the port is retired. -/
def Dev.phySelfTestDone (p : Nat) (pass : Bool) (d : Dev) : Dev :=
  match (d.port p).testing with
  | none => d
  | some t =>
    let d := (d.advanceTo (t + 20 * msTicks)).setPort p fun v => { v with testing := none }
    if pass then (((d.bump (Obj.PHY_TRANSIENT p)).raise 0x6005 (u8 p)).updateRing).checkPaths
    else
      let mask := setBit (d.u Obj.PORTS_RETIRED) p
      let d := d.put Obj.PORTS_RETIRED mask
      let d := d.bufferInternal .retired [Obj.PORTS_RETIRED.write (clearMask mask (d.device.unretired % 8))]
      (d.flagRaise Obj.PORT_FLAGS 6 0x6006 (u8 p)).linkDown p

/-- PODL_POWER_ACCEPTED (R348): the port has classified as Class 10 and is powered. -/
def Dev.podlAccepted (p : Nat) (d : Dev) : Dev :=
  ((d.put (Obj.PODL_STATE p) 3).put (Obj.PODL_CLASS p) 10).raise 0x6007 (u8 p ++ u8 10)

/-- PODL_POWER_LOST (R348). -/
def Dev.podlLost (p : Nat) (d : Dev) : Dev :=
  ((d.put (Obj.PODL_STATE p) 0).put (Obj.PODL_CLASS p) 0xFF).flagRaise Obj.PORT_FLAGS 8 0x6008 (u8 p)

/-! ### HSR (R349–R354) -/

/-- The queue of a received frame by its PCP (R349); PCP 1 to 4, which the table does not list, share the queue of PCP 0 (DESIGN CHOICE,
log 100). -/
def queueOfPcp (pcp : Nat) : QueueName :=
  match pcp with
  | 7 => .alarm
  | 6 => .time
  | 5 => .transit
  | _ => .best

/-- The queue of a received frame by its kind and its PCP (R349): supervision frames take the TIME queue. -/
def queueOf (f : RingFrame) : QueueName := if f.supervision then .time else queueOfPcp f.pcp

/-- Whether a MAC address is a group address. -/
def isGroup (mac : Nat) : Bool := bit mac 40

/-- The duplicate table without what 400 ms have made it forget (R352). -/
def Dev.liveDup (d : Dev) : List DupEntry := d.net.dup.filter fun e => decide (d.course.elapsed < e.expiry)

/-- The entry of a source and sequence number. -/
def Dev.dupOf (d : Dev) (source sequence : Nat) : DupEntry :=
  (d.liveDup.find? fun e => e.source == source && e.sequence == sequence).getD
    ⟨source, sequence, d.course.elapsed + 400 * msTicks, false, false, false⟩

/-- An entry put into the table, which holds 512 (R352). -/
def Dev.putDup (e : DupEntry) (d : Dev) : Dev :=
  let has := d.liveDup.any fun x => x.source == e.source && x.sequence == e.sequence
  let l := if has then d.liveDup.map fun x => if x.source = e.source ∧ x.sequence = e.sequence then e else x else d.liveDup ++ [e]
  d.setNet fun n => { n with dup := l.drop (l.length - 512) }

/-- A frame is forwarded out of a ring port (R350): cut-through where the port is idle and the period permits it, stored
otherwise. -/
def Dev.forward (p : Nat) (f : Frame) (d : Dev) : Dev :=
  let t := d.course.elapsed
  let cut := f.queue == .transit || f.queue == .best
  let v := d.port p
  let free := d.portUp p && v.sending.isNone && decide (v.free ≤ t) && (d.headOf f.queue v.waiting).isNone &&
    (d.service (d.offsetAt t)).contains f.queue && d.fits f.queue t (t + cutTicks)
  if cut && free then d.setPort p fun v => { v with sending := some ⟨f, t, t + cutTicks⟩ }
  else d.enqueue p f

/-- Whether a ring frame is oversize (R351). -/
def oversizeFrame (f : RingFrame) : Bool :=
  decide (512 < f.size) || (queueOf f == .alarm && decide (128 < f.size))

/-- An own supervision frame has come back on a ring port (R353). -/
def Dev.supervisionBack (p : Nat) (d : Dev) : Dev :=
  (d.setPort p fun v => { v with missed := 0, returned := true }).updateRing

/-- A supervision frame of another node (R353): the node is counted. -/
def Dev.noteNode (source : Nat) (d : Dev) : Dev :=
  if d.net.nodes.contains source then d else
    let d := d.setNet fun n => { n with nodes := source :: n.nodes }
    d.put Obj.HSR_NODES (min 255 d.net.nodes.length)

/-- A ring frame out of the other port, where R352 has it forwarded. -/
def Dev.relay (p : Nat) (f : RingFrame) (g : Frame) (d : Dev) : Dev :=
  let e := d.dupOf f.source f.sequence
  let other := 1 - p
  let done := if other = 0 then e.outA else e.outB
  if f.dest == d.mac || done then d
  else (d.putDup (if other = 0 then { e with outA := true } else { e with outB := true })).forward other g

/-- The first copy of a ring frame goes to the device or to S; the second is discarded (R352, R354). -/
def Dev.deliverRing (f : RingFrame) (g : Frame) (d : Dev) : Dev :=
  let e := d.dupOf f.source f.sequence
  if e.delivered then d.bump Obj.HSR_DUP_DISCARDED else
    let d := d.putDup { e with delivered := true }
    let d := d.when f.supervision (Dev.noteNode f.source)
    d.when (f.dest != d.mac && (isGroup f.dest || d.net.proxies.contains f.dest))
      (Dev.enqueue 2 { g with size := g.size - 6 })

/-- HSR_FRAME_RX (R350–R354): a frame received on a ring port. -/
def Dev.hsrFrame (p : Nat) (f : RingFrame) (d : Dev) : Dev :=
  if !d.portUp p then d
  else if !f.intact || oversizeFrame f then d.bump (Obj.RX_ERRORS p)
  else
    let d := d.bump (Obj.RX_FRAMES p)
    let g : Frame := ⟨.transit, queueOf f, false, f.size, d.course.elapsed, f.data, false⟩
    if f.source == d.mac then d.when f.supervision (Dev.supervisionBack p)
    else (d.relay p f g).deliverRing f g

/-- HSR_DUP_EXPIRY (R352): the oldest entry is forgotten. -/
def Dev.dupExpiry (d : Dev) : Dev :=
  match d.net.dup with
  | [] => d
  | e :: _ =>
    let d := d.advanceTo e.expiry
    let l := d.liveDup
    d.setNet fun n => { n with dup := l }

/-- HSR_SUPERVISION_TX (R353): returns not seen since the last one are counted, RING_STATE follows, the next frame is
sent (PRESUMED, log 26). -/
def Dev.supervisionTx (d : Dev) : Dev :=
  if !d.start.configured || d.stopped || d.device.state == .starting then d else
  let d := d.advanceTo (d.net.supervised + d.u Obj.HSR_SUPERVISION_INTERVAL * msTicks)
  let d := d.updateRing
  let d := (d.setPort 0 fun v => { v with missed := v.missed + 1 }).setPort 1 fun v => { v with missed := v.missed + 1 }
  let d := d.setNet fun n => { n with supervised := d.course.elapsed }
  d.sendRing ⟨.supervision, .time, false, 74, d.course.elapsed, beBytes 2 d.net.sequence, false⟩

/-- The bytes of a frame of S on the ring, with its HSR tag and priority tag. -/
def shoreRingSize (f : ShoreFrame) : Nat := f.size + 6 + (if f.tagged then 0 else 4)

/-- REDBOX_FRAME_RX (R351, R354): a frame from S is tagged and sent on A and B; one for the device itself, one from a
seventeenth address and one too long for the ring are not. -/
def Dev.redboxFrame (f : ShoreFrame) (d : Dev) : Dev :=
  if !d.portUp 2 then d
  else if !f.intact || decide ((if f.tagged then 1522 else 1518) < f.size) then d.bump (Obj.RX_ERRORS 2)
  else
    let d := d.bump (Obj.RX_FRAMES 2)
    if f.dest == d.mac then d
    else if !d.net.proxies.contains f.source && decide (16 ≤ d.net.proxies.length) then d
    else
      let d := d.when (!d.net.proxies.contains f.source) (Dev.setNet fun n => { n with proxies := n.proxies ++ [f.source] })
      if d.net.proxies.contains f.dest then d
      else if 512 < shoreRingSize f then (d.bump Obj.OVERSIZE_DROPPED).flagFirst Obj.PORT_FLAGS 5 0x600D []
      else
        let d := d.putDup ⟨f.source, d.net.sequence, d.course.elapsed + 400 * msTicks, true, true, true⟩
        d.sendRing ⟨.transit, if f.ptp then .time else .best, false, shoreRingSize f, d.course.elapsed, f.data, false⟩

/-! ### Publications (R275, R374) -/

/-- The ring key of an epoch, during its grace the one before (R470). -/
def Dev.ringKeyOf (d : Dev) (epoch : Nat) : Option (List Byte) :=
  if epoch = d.u Obj.RING_EPOCH then (if d.net.ringKey.isEmpty then none else some d.net.ringKey)
  else match d.net.ringBefore with
    | some (e, k, till) => if e = epoch && decide (d.course.elapsed < till) then some k else none
    | none => none

/-- The publication key of a sender in an epoch (R374). -/
def publicationKey (ringKey : List Byte) (source epoch : Nat) : List Byte :=
  hmac ringKey (ascii "WORED-P" ++ beBytes 6 source ++ u16 epoch)

/-- The MAC of a Wored frame: the first 16 bytes of HMAC-SHA-256 (R369). -/
def woredMac (key header body : List Byte) : List Byte := (hmac key (header ++ body)).take 16

/-- A Wored header (R366). -/
def woredHeader (kind flags frag session length counter : Nat) : List Byte :=
  u8 1 ++ u8 kind ++ u8 flags ++ u8 frag ++ u16 session ++ u16 length ++ u32 counter

/-- The body of a publication (R374). -/
def publicationBody (n : Nat) (items : List (List Byte)) : List Byte :=
  u8 n ++ u8 items.length ++ u16 0 ++ items.flatten

/-- Whether a reservation of publication counters is on its way (R374). -/
def Dev.reservingPublications (d : Dev) : Bool :=
  d.handedOver.any fun i => match i with | .internal .pubReserved _ => true | _ => false

/-- The next block of publication counters is reserved ahead: from half of the last reserved one on (R374; DESIGN CHOICE, log 99). -/
def Dev.reservePublications (d : Dev) : Dev :=
  d.when (decide (d.net.pubBlocks * 65536 ≤ d.net.pubNext + 32768) && !d.reservingPublications) (Dev.bufferInternal .pubReserved [])

/-- The addresses, the priority tag and the EtherType of a publication (R374); the HSR tag, which the switch puts on A and B, and the
FCS are counted in a frame's size and stand not among its bytes. -/
def Dev.publicationHead (d : Dev) (gate : Nat) : List Byte :=
  beBytes 6 (d.u Obj.PUB_MAC % 2 ^ 48) ++ beBytes 6 d.mac ++ u16 0x8100 ++ u16 ((if gate = 0 then 7 else 5) * 8192) ++ u16 0x88B5

/-- The frame of a publication is formed with the next COUNTER (R275, R356, R374): a waiting frame of the same publication is replaced;
the frame goes to the ALARM queue or that of its gate on A, B and S (log 31). -/
def Dev.formPublication (n : Nat) (items : List (List Byte)) (d : Dev) : Dev :=
  let g := d.u (Obj.PUB_GATE n)
  let epoch := d.u Obj.RING_EPOCH
  let counter := d.net.pubNext % 2 ^ 32
  let d := d.setNet fun v => { v with pubNext := v.pubNext + 1 }
  let body := publicationBody n items
  let header := woredHeader 0x30 0 0 epoch body.length counter
  let data := d.publicationHead g ++ header ++ body ++ woredMac (publicationKey d.net.ringKey d.mac epoch) header body
  let f : Frame := ⟨.publication n, if g = 0 then .alarm else .gate g, false, 6 + data.length + 4, d.course.elapsed, data, false⟩
  let waits := (List.range 3).any fun p => (d.port p).waiting.any fun x => x.kind == .publication n
  let d := d.when waits (Dev.bump (Obj.PUB_REPLACED n))
  let d := (List.range 3).foldl (fun d p =>
    d.setPort p fun v => { v with waiting := v.waiting.filter fun x => x.kind != .publication n }) d
  (d.sendRing f).enqueue 2 { f with size := f.size - 6 }

/-- PUBLISH hands over the items of a publication (R275, R374): its frame is formed at once where a counter is reserved for it; else it
waits for the reservation, replacing one that waits already (DESIGN CHOICE, log 99). -/
def Dev.publish (n : Nat) (items : List (List Byte)) (d : Dev) : Dev :=
  if d.net.pubNext < d.net.pubBlocks * 65536 then (d.formPublication n items).reservePublications
  else
    let waits := d.net.pubHeld.any fun x => x.1 == n
    ((d.when waits (Dev.bump (Obj.PUB_REPLACED n))).setNet fun v => { v with
      pubHeld := (v.pubHeld.filter fun x => x.1 != n) ++ [(n, items)] }).reservePublications

/-- The seal of a reservation of publication counters (R374): what has waited for it is formed. -/
def Dev.publicationsReserved (d : Dev) : Dev :=
  let held := d.net.pubHeld
  let d := d.setNet fun v => { v with pubBlocks := (d.committed publicationBlocks).toNat, pubHeld := [] }
  held.foldl (fun d x => d.formPublication x.1 x.2) d

/-- A counter against the highest accepted and the map of the 64 below (R369): accepted with the new pair, or not. -/
def counterStep (high seen counter : Nat) : Option (Nat × Nat) :=
  if high < counter then
    let k := counter - high
    some (counter, (if 64 ≤ k then 1 else seen * 2 ^ k % 2 ^ 64 ||| 1))
  else
    let back := high - counter
    if 64 ≤ back || bit seen back then none else some (high, setBit seen back)

/-- A frame with a bad MAC (R369): counted; the first failure since AUTH_FAIL was clear gives the source address. -/
def Dev.authFail (source : List Byte) (d : Dev) : Dev :=
  (d.bump Obj.AUTH_FAILURES).flagFirst Obj.PORT_FLAGS 2 0x600C source

/-- PUBLISH from another station (R352, R355, R369, R374): relayed as any ring frame; as a receiver the device checks its
MAC and counter by sender. -/
def Dev.publicationRx (p : Nat) (f : RingFrame) (epoch counter : Nat) (body mac : List Byte) (d : Dev) : Dev :=
  if !d.portUp p || f.source == d.mac then d else
    let first := !(d.dupOf f.source f.sequence).delivered
    let d := d.hsrFrame p f
    if !first || !f.intact || oversizeFrame f then d else
      let header := woredHeader 0x30 0 0 epoch body.length counter
      match d.ringKeyOf epoch with
      | none => d.authFail (beBytes 6 f.source)
      | some k =>
        if mac != woredMac (publicationKey k f.source epoch) header body then d.authFail (beBytes 6 f.source) else
          let had := (d.net.pubSeen.find? fun x => x.1 == f.source).map Prod.snd
          match counterStep ((had.map Prod.fst).getD 0) ((had.map Prod.snd).getD 0) counter with
          | none => d.bump Obj.REPLAY_REJECTED
          | some r => d.setNet fun n => { n with
              pubSeen := (f.source, r) :: n.pubSeen.filter fun x => x.1 != f.source }

end Sys2Proof.Machine
end

