-- ==== Sys2Proof/Machine/Engine.lean ====
section
/-! DEFINITION. The signal engine: slots, the operations in a slot, the effects at its end, parity (chapter 06). -/

namespace Sys2Proof.Machine

/-- The engine clock of a power profile: 0 FULL, 1 TRIM, 2 LEAN (R155). -/
def profileHz (profile : Nat) : Nat :=
  match profile with
  | 0 => 200000000
  | 1 => 50000000
  | _ => 8000000

/-- ENGINE_HZ in force. -/
def Dev.engineHz (d : Dev) : Nat := profileHz (d.u Obj.PROFILE_ACTIVE)

/-- Ticks of some cycles (R155). -/
def cycleTicks (hz cycles : Nat) : Nat := ceilDiv (cycles * secTicks) hz

/-- The applied table of a lane (R161). -/
def Dev.laneTable (d : Dev) (l : Nat) : List (Nat × Nat) := tableOf fun j => d.u (Obj.OP l j)

/-- The process values that a lane writes. -/
def Dev.laneWrites (d : Dev) (l : Nat) : List Nat :=
  (((d.laneTable l).map fun p => opDst p.2).filter isPv).map fun c => c - 0x20

/-- The device states in which the engine runs slots (R155, R489). -/
def Dev.engineRuns (d : Dev) : Bool :=
  d.device.state != .config && d.device.state != .starting && !d.stopped

/-! ### Snapshots and the queue (R151, R152) -/

/-- STALE set on process values (R152, R170). -/
def Dev.markStale (pvs : List Nat) (d : Dev) : Dev :=
  pvs.foldl (fun d n => d.put (Obj.PV_STATUS n) (setBit (d.u (Obj.PV_STATUS n)) staleBit)) d

/-- A slot is skipped: the lane is still queued or running (R152). -/
def Dev.overrun (l : Nat) (d : Dev) : Dev :=
  let d := (d.bump (Obj.LANE_OVERRUNS l)).flagFirst (Obj.LANE_FLAGS l) 0 0x3001 (u8 l)
  (d.setLane l fun v => { v with overrun := true }).markStale (d.laneWrites l)

/-- The snapshot of a lane at the present tick (R151, R154, R165). -/
def Dev.snapshotOf (d : Dev) (l : Nat) : Slot :=
  let v := d.lane l
  let t := d.course.elapsed
  let ins := (List.range 8).map fun k =>
    let w := d.u (Obj.IN_BIND l k)
    (⟨if bindEn w then (d.input l k).supply t else [], d.minPeriod (bindSeat w) (bindTag w)⟩ : Vec)
  ⟨l, t, (match v.previous with | some p => t - p | none => 0), ins, v.ins.map fun i => i.last,
    (d.laneTable l).map fun p => (opParam p.2, d.b (Obj.PARAM_BLOCK (opParam p.2)))⟩

/-- A slot put in its place: by snapshot tick, lanes of one tick ascending (R151). -/
def insertSlot (s : Slot) : List Slot → List Slot
  | [] => [s]
  | x :: rest => if s.tick < x.tick ∨ (s.tick = x.tick ∧ s.lane < x.lane) then s :: x :: rest else x :: insertSlot s rest

/-- LANE_SLOT of a lane (R151, R152). -/
def Dev.laneSlot (l : Nat) (d : Dev) : Dev :=
  let v := d.lane l
  if !d.on (Obj.LANE_ENABLE l) || v.testing || v.failed || !d.engineRuns then d
  else if d.engine.queue.any fun s => s.lane == l then d.overrun l
  else
    let s := d.snapshotOf l
    let d := d.setLane l fun v => { v with ins := v.ins.map (LaneInput.taken · s.tick), previous := some s.tick }
    d.setEngine fun e => { e with queue := insertSlot s e.queue }

/-! ### Operations in a slot (R160–R169) -/

/-- What a slot hands over at its end beside process values and outputs (R153). -/
inductive Effect where
  | store (op : Nat) (stream : Nat) (payload : List Byte)
  | wash (channel : Nat) (offset scale : F32) (elems : List Element)
  | publish (n : Nat) (items : List (List Byte))
  | trigger (definition : Nat) (e : Element)
deriving DecidableEq, Repr

/-- A slot as it runs: its variables, operation states, the elements written to process values and outputs in table
order, its hand-overs, and the cycles so far. -/
structure SlotRun where
  dev : Dev
  vecs : List Vec
  scalars : List Element
  ops : List OpState
  outs : List (Nat × Element)
  effects : List Effect
  cycles : Nat
  arith : Bool
deriving DecidableEq, Repr

/-- An operand read as a vector (R160, R162). -/
def SlotRun.vec (r : SlotRun) (s : Slot) (c : Nat) : Vec :=
  if isIn c then s.ins.getD (c - 1) ⟨[], 0⟩
  else if isVec c then r.vecs.getD (c - 0x0C) ⟨[], 0⟩
  else if isScalar c then ⟨[r.scalars.getD (c - 0x10) Element.initial], 0⟩
  else if isPv c then ⟨[r.dev.pvElement (c - 0x20)], 0⟩
  else ⟨[], 0⟩

/-- An operand read as a scalar: its last element (R160); an input that supplied nothing gives its last one. -/
def SlotRun.last (r : SlotRun) (s : Slot) (c : Nat) : Option Element :=
  match (r.vec s c).elems.getLast? with
  | some e => some e
  | none => if isIn c then s.lasts[c - 1]? else none

/-- A vector written to a destination: whole to V, its last element elsewhere (R160). -/
def SlotRun.write (dst : Nat) (v : Vec) (r : SlotRun) : SlotRun :=
  let bad := v.elems.any fun e => e.cause == 0x08 && e.failed && !(F32.isFinite e.value)
  let r := { r with arith := r.arith || bad }
  if isVec dst then { r with vecs := r.vecs.set (dst - 0x0C) v }
  else match v.elems.getLast? with
    | none => r
    | some e =>
      if isScalar dst then { r with scalars := r.scalars.set (dst - 0x10) e }
      else if isPv dst || isOut dst then { r with outs := r.outs ++ [(dst, e)] }
      else r

/-- A scalar result, if there is one. -/
def SlotRun.writeOne (dst : Nat) (e : Option Element) (r : SlotRun) : SlotRun :=
  match e with
  | some e => r.write dst ⟨[e], 0⟩
  | none => r

/-- The state of an operation. -/
def SlotRun.state (r : SlotRun) (j : Nat) : OpState := r.ops.getD j .fresh

/-- The state of an operation changed. -/
def SlotRun.setState (j : Nat) (st : OpState) (r : SlotRun) : SlotRun := { r with ops := r.ops.set j st }

/-- A hand-over added. -/
def SlotRun.effect (e : Effect) (r : SlotRun) : SlotRun := { r with effects := r.effects ++ [e] }

/-- FIR (R167): its history is the last K − 1 inputs, 0 after a reset. -/
def SlotRun.fir (j arg : Nat) (p : List Byte) (a : Vec) (dst : Nat) (r : SlotRun) : SlotRun :=
  let K := bits arg 6 0 + 1
  let h := match r.state j with | .fir h => h | _ => List.replicate (K - 1) F32.zero
  let o := Sys2Proof.Machine.fir p (bit arg 8) K a.elems h
  (r.write dst ⟨o.1, a.spacing⟩).setState j (.fir o.2)

/-- BIQUAD (R167) in its format. -/
def SlotRun.biquad (j arg : Nat) (p : List Byte) (a : Vec) (dst : Nat) (r : SlotRun) : SlotRun :=
  let S := bits arg 2 0 + 1
  if bit arg 8 then
    let z := match r.state j with | .biquadQ z => z | _ => List.replicate S (0, 0)
    let o := Sys2Proof.Machine.biquadQ p S a.elems z
    (r.write dst ⟨o.1, a.spacing⟩).setState j (.biquadQ o.2)
  else
    let z := match r.state j with | .biquad z => z | _ => List.replicate S (F32.zero, F32.zero)
    let o := Sys2Proof.Machine.biquad p S a.elems z
    (r.write dst ⟨o.1, a.spacing⟩).setState j (.biquad o.2)

/-- DECIM (R168): elements that complete no group are carried; the spacing grows M-fold. -/
def SlotRun.decim (j arg : Nat) (a : Vec) (dst : Nat) (r : SlotRun) : SlotRun :=
  let M := bits arg 7 0 + 1
  let carry := match r.state j with | .decim c => c | _ => []
  let o := Sys2Proof.Machine.decim (bit arg 8) M a.elems carry
  (r.write dst ⟨o.1, a.spacing * M⟩).setState j (.decim o.2)

/-- RATE (R167). -/
def SlotRun.rate (j : Nat) (a : Vec) (dst : Nat) (r : SlotRun) : SlotRun :=
  let last := match r.state j with | .rate l => l | _ => none
  (r.write dst ⟨Sys2Proof.Machine.rate a.spacing last a.elems, a.spacing⟩).setState j
    (.rate (a.elems.getLast?.orElse fun _ => last))

/-- THRESH (R189): its DST, and with CATCH_EN a trigger for every firing element. -/
def SlotRun.thresh (s : Slot) (j arg : Nat) (p : List Byte) (a : Vec) (b dst : Nat) (r : SlotRun) : SlotRun :=
  let st : ThreshState := match r.state j with | .thresh ph up n f => ⟨ph, up, n, f⟩ | _ => ⟨0, false, 0, none⟩
  let y := if b = 0 then none else (r.last s b).map fun e => e.value
  let o := threshRun (bits arg 1 0) p y a.elems st
  let r := (r.setState j (.thresh o.1.phase o.1.up o.1.count o.1.fire)).writeOne dst (o.1.out a.elems.getLast?)
  if bit arg 7 then o.2.foldl (fun r e => r.effect (.trigger (bits arg 6 4) e)) r else r

/-- WAVEFRONT (R190). -/
def SlotRun.wavefront (s : Slot) (j : Nat) (p : List Byte) (a : Vec) (b dst : Nat) (r : SlotRun) : SlotRun :=
  let st : WaveState := match r.state j with | .wavefront h z t => ⟨h, z, t⟩ | _ => ⟨[], false, none⟩
  match r.last s b with
  | none => r
  | some e =>
    let o := Sys2Proof.Machine.wavefront p a.spacing a.elems e st
    (r.setState j (.wavefront o.1.history o.1.nonzero o.1.trigger)).writeOne dst o.2

/-- The value that a PID's TRK operand gives (R246). -/
def SlotRun.track (r : SlotRun) (s : Slot) (trk : Nat) : Option F32 :=
  if trk = 0 then none
  else if isOut trk then some (r.dev.activeFraction trk)
  else (r.last s trk).map fun e => e.value

/-- PID (R246–R252). -/
def SlotRun.pid (s : Slot) (j arg : Nat) (p : List Byte) (a b dst : Nat) (r : SlotRun) : SlotRun :=
  match r.last s a with
  | none => r
  | some x =>
    let o := r.dev.pidSlot arg p s.dt x (r.last s b) (r.track s (bits arg 15 8)) (r.state j)
    ({ r with dev := o.2.2 }.setState j o.2.1).writeOne dst (some o.1)

/-- SURGE (R253–R257): s_init is the active fraction of an output, else the value of the destination. -/
def SlotRun.surge (s : Slot) (j arg : Nat) (p : List Byte) (a b dst : Nat) (r : SlotRun) : SlotRun :=
  match r.last s a, r.last s b with
  | some x, some pr =>
    let active := if isOut dst then some (r.dev.activeFraction64 dst) else none
    let init := active.getD (F64.ofF32 (((r.last s dst).map fun e => e.value).getD F32.zero))
    let o := r.dev.surgeSlot arg p s.tick s.dt x pr init active (r.state j)
    ({ r with dev := o.2.2 }.setState j o.2.1).writeOne dst (some o.1)
  | _, _ => r

/-- Whether a STORE or PUBLISH acts in the slot, and its next state (R271). -/
def SlotRun.emit (s : Slot) (j when' : Nat) (p : List Byte) (a b : Nat) (refused : Bool) (r : SlotRun) :
    Option (Element × Option Element × OpState) :=
  match r.last s a with
  | none => none
  | some x =>
    let y := if b = 0 then none else r.last s b
    let c := (y.getD x).value
    let run := (r.dev.lane s.lane).runs
    let st := match r.state j with | .emit c n _ => (c, n) | _ => (none, none)
    if emitQualifies when' p c st.1 st.2 run then some (x, y, .emit (some c) (some run) refused) else none

/-- The payload of a RECORD (R272). -/
def recordPayload (lane tag : Nat) (x : Element) (y : Option Element) (run : Nat) : List Byte :=
  u8 lane ++ u8 tag ++ u8 (flag y.isSome) ++ u8 0 ++ f32b x.value ++ u16 x.status ++ u16 x.sync ++ u64 x.time ++
    f32b ((y.map fun e => e.value).getD F32.zero) ++ u16 ((y.map Element.status).getD 0) ++ u16 0 ++ u32 run

/-- STORE (R271–R273): after a refusal the next record carries at least S with cause 0x40. -/
def SlotRun.store (s : Slot) (j arg : Nat) (p : List Byte) (a b : Nat) (r : SlotRun) : SlotRun :=
  let refused := match r.state j with | .emit _ _ f => f | _ => false
  match r.emit s j (bits arg 4 3) p a b false with
  | none => r
  | some (x, y, st) =>
    let x := if refused && decide (x.cat ≤ catS) then { x with cat := catS, cause := 0x40 } else x
    (r.setState j st).effect (.store j (bits arg 2 0)
      (recordPayload s.lane (bits arg 15 8) x y (r.dev.u (Obj.LANE_RUNS s.lane))))

/-- An item of a publication (R374). -/
def publicationItem (e : Element) : List Byte := f32b e.value ++ u16 e.status ++ u16 e.sync ++ u64 e.time

/-- PUBLISH (R271, R275). -/
def SlotRun.publish (s : Slot) (j arg : Nat) (p : List Byte) (a b : Nat) (r : SlotRun) : SlotRun :=
  match r.emit s j (bits arg 5 4) p a b false with
  | none => r
  | some (x, y, st) =>
    (r.setState j st).effect (.publish (bits arg 3 0) (publicationItem x :: (y.map publicationItem).toList))

/-- One operation of a slot (R164). -/
def SlotRun.op (s : Slot) (r : SlotRun) (jw : Nat × Nat) : SlotRun :=
  let j := jw.1
  let w := jw.2
  let op := opCode w
  let arg := opArg w
  let a := r.vec s (opSrcA w)
  let b := opSrcB w
  let dst := opDst w
  let p := ((s.params.find? fun q => q.1 == opParam w).map Prod.snd).getD []
  let n := if isIn (opSrcA w) || isVec (opSrcA w) then a.elems.length else 1
  let r := { r with cycles := r.cycles + baseCost op + perCost op arg * n }
  match op with
  | 1 => r.write dst (a.map (correct (blockI p 0) (blockU p 1)))
  | 2 => r.write dst (a.map (lin p (bits arg 2 0)))
  | 3 => match r.last s b with
    | some t => r.write dst (a.map (tcomp p t))
    | none => r.write dst ⟨[], a.spacing⟩
  | 4 => r.fir j arg p a dst
  | 5 => r.biquad j arg p a dst
  | 6 => r.decim j arg a dst
  | 7 => r.write dst (a.map fun e => demod (bits arg 15 0) (r.dev.theta e.instant) e)
  | 8 => r.writeOne dst (rms a.elems)
  | 9 => r.writeOne dst (minmax (bits arg 1 0) a.elems)
  | 10 => r.rate j a dst
  | 11 => r.thresh s j arg p a b dst
  | 12 => r.wavefront s j p a b dst
  | 13 => r.write dst (a.map (scale p))
  | 14 => r.write dst (mixVec p a (r.vec s b).elems)
  | 15 => r.write dst (a.map (limit p))
  | 16 => r.pid s j arg p (opSrcA w) b dst
  | 17 => r.surge s j arg p (opSrcA w) b dst
  | 18 => r.store s j arg p (opSrcA w) b
  | 19 => r.effect (.wash (bits arg 2 0) (blockF p 0) (blockF p 1) a.elems)
  | 20 => r.publish s j arg p (opSrcA w) b
  | _ => r

/-- A whole slot run over the device (R153, R161, R164): LANE_RUNS counts it, vectors start empty. -/
def Dev.runSlot (d : Dev) (s : Slot) : SlotRun :=
  let d := (d.bump (Obj.LANE_RUNS s.lane)).setLane s.lane fun v => { v with runs := v.runs + 1 }
  let v := d.lane s.lane
  (d.laneTable s.lane).foldl (SlotRun.op s)
    ⟨d, List.replicate 4 ⟨[], 0⟩, v.scalars, v.ops, [], [], laneOverhead, false⟩

/-! ### The end of a slot (R153) -/

/-- The objects of a process value that a slot writes (R170, R173). -/
def pvObjects (n : Nat) : List Reg :=
  [Obj.PV_VALUE n, Obj.PV_STATUS n, Obj.PV_TIME n, Obj.PV_SYNC n, Obj.PV_WRITER n, Obj.PV_UPDATES n]

/-- A process value takes an element (R168, R170, R173): a value that is not finite keeps the one before. -/
def Dev.writePv (lane n : Nat) (e : Element) (d : Dev) : Dev :=
  let d := d.keepEarlier (pvObjects n)
  let d := d.when (F32.isFinite e.value) (Dev.putF (Obj.PV_VALUE n) e.value)
  let d := (((d.put (Obj.PV_STATUS n) e.status).put (Obj.PV_TIME n) e.time).put (Obj.PV_SYNC n) e.sync).put
    (Obj.PV_WRITER n) lane
  (d.bump (Obj.PV_UPDATES n)).setEngine fun v => { v with
    written := setBit v.written n, pvInstants := v.pvInstants.set n e.instant }

/-- An output destination takes an element; a value that is not finite keeps the one before (R168) (DEDUCED, log 27). -/
def Dev.writeOut (k : Nat) (e : Element) (d : Dev) : Dev :=
  let d := d.keepEarlier []
  let before := (d.engine.outs.getD k none).map fun x => x.value
  let e := if F32.isFinite e.value then e else { e with value := before.getD F32.zero }
  d.setEngine fun v => { v with outs := v.outs.set k (some e) }

/-- The element written last to a destination wins (R173). -/
def lastWrites (l : List (Nat × Element)) : List (Nat × Element) :=
  (l.map Prod.fst).eraseDups.filterMap fun c => (l.filter fun p => p.1 == c).getLast?

/-- A RECORD goes to the ledger, or is refused at source (R272, R273). -/
def Dev.storeRecord (lane op stream : Nat) (payload : List Byte) (d : Dev) : Dev :=
  let e := d.stamp .record stream payload
  if d.refusedAtSource stream 1 e.size (d.heldByLog stream) then
    let d := (d.bump (Obj.STREAM_REFUSED stream)).reportRefused stream 1
    d.setLane lane fun v => { v with ops := v.ops.modify op fun st => match st with
      | .emit c n _ => .emit c n true
      | x => x }
  else d.bufferEntry e

/-- A hand-over of a slot (R153). -/
def Dev.applyEffect (lane : Nat) (d : Dev) : Effect → Dev
  | .store op stream payload => d.storeRecord lane op stream payload
  | .wash ch off scl l => d.washWrite ch off scl l
  | .publish n items => d.publish n items
  | .trigger _ _ => d

/-- The triggers of a slot, by clock position, then definition (R195). -/
def triggersOf (l : List Effect) : List (Nat × Element) :=
  let ts := l.filterMap fun e => match e with | .trigger c x => some (c, x) | _ => none
  ts.mergeSort fun a b => decide (a.2.instant < b.2.instant) || (a.2.instant == b.2.instant && decide (a.1 ≤ b.1))

/-- Publications of one finish are queued in ascending number, after its other hand-overs (R356). -/
def orderEffects (l : List Effect) : List Effect :=
  let no : Effect → Nat := fun e => match e with | .publish n _ => n + 1 | _ => 0
  l.mergeSort fun a b => decide (no a ≤ no b)

/-- Every effect of a finished slot (R153, R168). -/
def Dev.finishSlot (s : Slot) (r : SlotRun) : Dev :=
  let l := s.lane
  let d := r.dev
  let d := (d.put (Obj.LANE_LAST_CYCLES l) r.cycles).put (Obj.LANE_LAST_DT l) s.dt
  let d := d.setLane l fun v => { v with scalars := r.scalars, ops := r.ops, overrun := false }
  let d := (d.laneWrites l).foldl (fun d n =>
    d.put (Obj.PV_STATUS n) (clearBit (d.u (Obj.PV_STATUS n)) staleBit)) d
  let d := (lastWrites r.outs).foldl (fun d p =>
    if isPv p.1 then d.writePv l (p.1 - 0x20) p.2 else d.writeOut (p.1 - 0x30) p.2) d
  let d := d.when r.arith (Dev.flagFirst (Obj.LANE_FLAGS l) 2 0x3008 (u8 l))
  let d := (orderEffects r.effects).foldl (fun d e => d.applyEffect l e) d
  (triggersOf r.effects).foldl (fun d p => d.catchTrigger p.1 p.2) d

/-- Before a change of the engine clock: the cycles that the running slot has had so far count as run, and the rest runs at the new
clock (R155, R411). -/
def Dev.rebaseClock (d : Dev) : Dev :=
  if d.engine.queue.isEmpty then d else
    let s := d.engine.queue.head?.map Slot.tick
    let fresh := match s with | some t => decide (d.engine.idleSince ≤ t) | none => false
    let start := if fresh then s.getD 0 else d.engine.busyTick
    let done : Int := (if fresh then 0 else d.engine.busyCycles) - ((d.course.elapsed - start) * d.engineHz / secTicks : Nat)
    d.setEngine fun e => { e with busyTick := d.course.elapsed, busyCycles := done, idleSince := d.course.elapsed }

/-- LANE_FINISH (R151, R153, R155, R176): the slot at the head of the queue ends after its cycles; slots that follow one another without
a pause end after the sum of their cycles. -/
def Dev.laneFinish (l : Nat) (d : Dev) : Dev :=
  match d.engine.queue with
  | [] => d
  | s :: rest =>
    if s.lane ≠ l then d else
      let cycles := (d.runSlot s).cycles
      let fresh := decide (d.engine.idleSince ≤ s.tick)
      let start := if fresh then s.tick else d.engine.busyTick
      let total : Int := (if fresh then 0 else d.engine.busyCycles) + cycles
      let d := d.advanceTo (start + cycleTicks d.engineHz total.toNat)
      let d := d.setEngine fun e => { e with queue := rest, idleSince := d.course.elapsed, busyTick := start, busyCycles := total }
      Dev.finishSlot s (d.runSlot s)

/-! ### Resets of operation state (R155, R163) -/

/-- The variables and operation state of a lane reset (R154, R155). -/
def Dev.resetLane (l : Nat) (d : Dev) : Dev :=
  d.setLane l fun v => { v with
    scalars := List.replicate 16 Element.initial, ops := List.replicate 48 .fresh, previous := none }

/-- Every lane reset (R155). -/
def Dev.resetLanes (d : Dev) : Dev := (List.range 32).foldl (fun d l => d.resetLane l) d

/-- Slots that wait or run are abandoned (R153). -/
def Dev.dropSlots (d : Dev) : Dev := d.setEngine fun e => { e with queue := [], idleSince := d.course.elapsed }

/-! ### Parity (R177) -/

/-- The process values and outputs that a lane writes take status F with cause 0x07 and STALE. -/
def Dev.failLaneOutputs (l : Nat) (d : Dev) : Dev :=
  let d := d.keepEarlier ((d.laneWrites l).map Obj.PV_STATUS)
  let d := (d.laneWrites l).foldl (fun d n =>
    let s := d.u (Obj.PV_STATUS n)
    d.put (Obj.PV_STATUS n) (catF * 2 ^ 13 + 2 ^ 12 + bits s 11 8 * 2 ^ 8 + 0x07)) d
  let outs := ((d.laneTable l).map fun p => opDst p.2).filter isOut
  outs.foldl (fun d c => d.setEngine fun v => { v with
    outs := v.outs.modify (c - 0x30) fun o => o.map fun e => { e with cat := catF, cause := 0x07 } }) d

/-- The coefficient row that carries a parameter block now. -/
def Dev.rowOf (d : Dev) (block : Nat) : Nat :=
  match d.engine.rows.find? fun r => r.1 == block with
  | some r => r.2
  | none => block

/-- The lanes that a frame or a row concerns: the lane in the frame; the lanes that name the row. -/
def Dev.lanesAt (d : Dev) : ParityPlace → List Nat
  | .frame f => (List.range 32).filter fun l => (d.lane l).frame == f.val
  | .row r => (List.range 32).filter fun l => (d.laneTable l).any fun p => d.rowOf (opParam p.2) == r.val

/-- PARITY_ERROR (R177): the slot that runs is abandoned; the lanes that the frame or row concerns enter TESTING. -/
def Dev.parityError (l : Nat) (place : ParityPlace) (d : Dev) : Dev :=
  match d.engine.queue with
  | [] => d
  | s :: rest =>
    if s.lane ≠ l then d else
      let d := d.setEngine fun e => { e with queue := rest, idleSince := d.course.elapsed }
      let d := ((d.bump Obj.PARITY_ERRORS).setFlag (Obj.LANE_FLAGS l) 3).setFlag Obj.ENGINE_FLAGS 0
      let d := d.failLaneOutputs l
      let ls := (l :: d.lanesAt place).eraseDups
      let d := d.setEngine fun e => { e with tests := (e.tests.filter fun t => t.1 != place) ++ [(place, ls)] }
      ls.foldl (fun d k =>
        (d.setLane k fun v => { v with testing := true }).setEngine fun e => { e with
          queue := e.queue.filter fun s => s.lane != k }) d

/-- Lanes return from a test with their operation state reset (R177 step 3); one that waits for another test as well stays. -/
def Dev.resumeLanes (ls : List Nat) (d : Dev) : Dev :=
  (ls.filter fun l => !(d.engine.tests.any fun t => t.2.contains l)).foldl
    (fun d l => (d.setLane l fun v => { v with testing := false }).resetLane l) d

/-- Lanes for which no spare is left (R177 step 5). -/
def Dev.failLanes (ls : List Nat) (d : Dev) : Dev :=
  ls.foldl (fun d l =>
    ((d.setLane l fun v => { v with testing := false, failed := true }).failLaneOutputs l).flagRaise
      Obj.ENGINE_FLAGS 3 0x3004 (u8 l)) d

/-- A frame that no lane holds and that is not retired. -/
def Dev.spareFrame (d : Dev) : Option Nat :=
  (List.range 33).find? fun f => !bit (d.u Obj.FRAMES_RETIRED) f && !(d.engine.lanes.any fun v => v.frame == f)

/-- A spare row that carries no block and is not retired. -/
def Dev.spareRow (d : Dev) : Option Nat :=
  (List.range' 512 16).find? fun r => !d.engine.rowsRetired.contains r && !(d.engine.rows.any fun x => x.2 == r)

/-- After a reset lane l holds the l-th frame that is not retired (R177); a lane for which none is left is FAILED. -/
def Dev.assignFrames (d : Dev) : Dev :=
  let whole := (List.range 33).filter fun f => !bit (d.u Obj.FRAMES_RETIRED) f
  (List.range 32).foldl (fun d l => match whole[l]? with
    | some f => d.setLane l fun v => { v with frame := f }
    | none => d.failLanes [l]) d

/-- PARITY_TEST_DONE (R177): the test of a frame or row ends: transient, retired with its content on a spare, or failed for want of
one. -/
def Dev.parityTestDone (place : ParityPlace) (lasting : Bool) (d : Dev) : Dev :=
  match d.engine.tests.find? fun t => t.1 == place with
  | none => d
  | some (_, ls) =>
    let l := ls.headD 0
    let d := d.setEngine fun e => { e with tests := e.tests.filter fun t => t.1 != place }
    if !lasting then ((d.bump Obj.PARITY_TRANSIENT).raise 0x3002 (u8 l)).resumeLanes ls
    else match place with
      | .frame f =>
        let mask := setBit (d.u Obj.FRAMES_RETIRED) f
        let d := d.put Obj.FRAMES_RETIRED mask
        let d := d.bufferInternal .retired [Obj.FRAMES_RETIRED.write mask]
        let d := d.flagRaise Obj.ENGINE_FLAGS 1 0x3003 (u8 l)
        (match d.spareFrame with
        | some g => (d.setEngine fun e => { e with lanes := e.lanes.map fun v =>
            if v.frame = f.val then { v with frame := g } else v }).resumeLanes ls
        | none => d.failLanes ls)
      | .row r =>
        let d := d.setEngine fun e => { e with rowsRetired := r.val :: e.rowsRetired }
        let d := d.bump Obj.ROWS_RETIRED
        let d := d.bufferInternal .retired [Obj.ROWS_RETIRED.write (d.u Obj.ROWS_RETIRED)]
        let d := d.flagRaise Obj.ENGINE_FLAGS 2 0x3003 (u8 l)
        (match d.spareRow with
        | some q =>
          let block := ((List.range 512).find? fun b => d.rowOf b == r.val).getD r.val
          (d.setEngine fun e => { e with rows := (block, q) :: e.rows.filter fun x => x.1 != block }).resumeLanes ls
        | none => d.failLanes ls)

end Sys2Proof.Machine
end

