-- ==== Sys2Proof/Machine/Admission.lean ====
section
/-! DEFINITION. The checks of operation words and parameter blocks (R161–R165, R182–R190, R246, R247, R253, R254,
R271) and the admission sums of the engine and of the entries (R174–R176, R223, R284–R287, R312, R313, R357). -/

namespace Sys2Proof.Machine

/-! ### Operation words (R161, R162, R164) -/

/-- An operand of kind "any". -/
def isAny (c : Nat) : Bool := isIn c || isVec c || isScalar c || isPv c

/-- The ARG bits an operation uses. -/
def argMask (op : Nat) : Nat :=
  [0, 0, 0x7, 0, 0x17F, 0x107, 0x1FF, 0xFFFF, 0, 0x3, 0, 0xF3, 0, 0, 0, 0, 0xFF0F, 0xF, 0xFF1F, 0x7, 0x3F].getD op 0

/-- Whether an operation has a parameter block. -/
def hasBlock (op : Nat) : Bool := [1, 2, 3, 4, 5, 11, 12, 13, 14, 15, 16, 17, 18, 19, 20].contains op

/-- Whether an operand code is one of R162. -/
def operandCode (c : Nat) : Bool := c == 0 || isAny c || isOut c

/-- Whether an operation word sets a reserved value (R4, R161, R162, R164, R189, R271). -/
def opReserved (w : Nat) : Bool :=
  let op := opCode w
  let arg := opArg w
  decide (20 < op) || !operandCode (opSrcA w) || !operandCode (opSrcB w) || !operandCode (opDst w) ||
    (!hasBlock op && opParam w != 0) || arg &&& argMask op != arg ||
    (op == 2 && bits arg 2 0 == 0) || (op == 9 && bits arg 1 0 == 3) || (op == 11 && bits arg 1 0 == 3) ||
    (op == 18 && bits arg 4 3 == 3) || (op == 20 && bits arg 5 4 == 3)

/-- Whether the operands of a word are of the kinds that R164 permits, TRK those of R246. -/
def kindsOk (w : Nat) : Bool :=
  let op := opCode w
  let a := opSrcA w
  let b := opSrcB w
  let dst := opDst w
  let inV := isIn a || isVec a
  let noB := b == 0
  let vs := isVec dst || isScalar dst
  let vsp := vs || isPv dst
  let sp := isScalar dst || isPv dst
  let trk := bits (opArg w) 15 8
  match op with
  | 1 => isIn a && noB && vs
  | 2 | 13 => isAny a && noB && vsp
  | 3 | 14 => isAny a && isAny b && vsp
  | 4 | 5 | 7 | 10 => inV && noB && isVec dst
  | 6 => inV && noB && vsp
  | 8 | 9 => inV && noB && sp
  | 11 => isAny a && (noB || isAny b) && isScalar dst
  | 12 => inV && isScalar b && isScalar dst
  | 15 => isAny a && noB && (vsp || isOut dst)
  | 16 => isAny a && isAny b && (sp || isOut dst) && (trk == 0 || isScalar trk || isPv trk || isOut trk)
  | 17 => isAny a && isAny b && (sp || isOut dst)
  | 18 | 20 => isAny a && (noB || isAny b) && dst == 0
  | 19 => inV && noB && dst == 0
  | _ => false

/-! ### Parameter blocks (R165) -/

/-- Whether the F32 fields lo to hi−1 of a block are finite. -/
def finiteFields (b : List Byte) (lo hi : Nat) : Bool :=
  (List.range' lo (hi - lo)).all fun k => F32.isFinite (blockF b k)

/-- Whether the F32 fields lo to hi−1 of a block ascend strictly. -/
def ascending (b : List Byte) (lo hi : Nat) : Bool :=
  (List.range' lo (hi - lo - 1)).all fun k => F32.lt (blockF b k) (blockF b (k + 1))

/-- The fit fields of R190. -/
def fitFieldsOk (pre gd post : Nat) : Bool := decide (16 ≤ pre) && decide (16 ≤ post) && decide (pre + gd + post ≤ 1024)

/-- The SURGE block of R254. -/
def surgeBlockOk (b : List Byte) : Bool :=
  let pos := fun (i : Nat) => blockF b (7 + 2 * i)
  let flow := fun (i : Nat) => blockF b (8 + 2 * i)
  finiteFields b 0 39 && ((List.range 6).all fun k => F32.lt F32.zero (blockF b k)) &&
    F32.eq (pos 0) F32.zero && F32.eq (pos 15) F32.one &&
    ((List.range 15).all fun i => F32.lt (pos i) (pos (i + 1)) && F32.le (flow i) (flow (i + 1))) &&
    F32.le F32.zero (flow 0) &&
    !(F32.lt (blockF b 6) (F32.div (F32.mul (F32.ofInt 2) (blockF b 3)) (blockF b 0)))

/-- Whether a block has the size and content that an operation needs (R165, R185, R189, R190, R247, R254, R271). -/
def blockOk (w : Nat) (b : List Byte) : Bool :=
  let arg := opArg w
  match opCode w with
  | 1 => b.length == 8 && decide (0x20000000 ≤ blockU b 1) && decide (blockU b 1 ≤ 0x80000000)
  | 2 => b.length == 32 && finiteFields b 0 8
  | 3 => b.length == 320 && finiteFields b 0 80 && ascending b 0 8 && ascending b 8 16
  | 4 => b.length == 4 * (bits arg 6 0 + 1) && (bit arg 8 || finiteFields b 0 (bits arg 6 0 + 1))
  | 5 => b.length == 20 * (bits arg 2 0 + 1) && (bit arg 8 || finiteFields b 0 (5 * (bits arg 2 0 + 1)))
  | 11 => b.length == 16 && finiteFields b 0 3 && !(F32.lt (blockF b 2) F32.zero)
  | 12 => b.length == 12 && fitFieldsOk (blockH b 0) (blockH b 1) (blockH b 2) && blockH b 3 == 0 &&
      F32.isFinite (blockF b 2)
  | 13 => b.length == 24 && finiteFields b 0 6 && !(F32.eq (blockF b 0) (blockF b 1))
  | 14 => b.length == 20 && finiteFields b 0 5
  | 15 => b.length == 8 && finiteFields b 0 2 && F32.le (blockF b 0) (blockF b 1)
  | 16 => b.length == 36 && finiteFields b 0 9 && !([0, 1, 2, 3, 8].any fun k => F32.lt (blockF b k) F32.zero) &&
      F32.lt (blockF b 6) (blockF b 7)
  | 17 => b.length == 156 && surgeBlockOk b
  | 18 | 20 => b.length == 8 && F32.isFinite (blockF b 0) && !(F32.lt (blockF b 0) F32.zero)
  | 19 => b.length == 8 && finiteFields b 0 2 && F32.lt F32.zero (blockF b 1)
  | _ => true

/-- PARAM_BLOCK_WRITE: whether every applied operation that names the block accepts it (R165). -/
def Dev.paramBlockOk (d : Dev) (p : Nat) (b : List Byte) : Bool :=
  (List.range 32).all fun l => (d.laneTable l).all fun q =>
    !hasBlock (opCode q.2) || opParam q.2 != p || blockOk q.2 b

/-! ### The shadow's check at ENGINE_APPLY (R163, R183) -/

/-- A configuration of the engine: enables, operation words, bindings. -/
structure EngineCfg where
  enable : Nat → Bool
  word : Nat → Nat → Nat
  bind' : Nat → Nat → Nat

/-- The running configuration. -/
def Dev.engineRunning (d : Dev) : EngineCfg :=
  ⟨fun l => d.on (Obj.LANE_ENABLE l), fun l j => d.u (Obj.OP l j), fun l k => d.u (Obj.IN_BIND l k)⟩

/-- The shadow. -/
def Dev.engineShadow (d : Dev) : EngineCfg :=
  ⟨fun l => d.su (Obj.LANE_ENABLE l) != 0, fun l j => d.su (Obj.OP l j), fun l k => d.su (Obj.IN_BIND l k)⟩

/-- The table of a lane. -/
def EngineCfg.table (c : EngineCfg) (l : Nat) : List (Nat × Nat) := tableOf (c.word l)

/-- The enabled lanes. -/
def EngineCfg.lanes (c : EngineCfg) : List Nat := (List.range 32).filter c.enable

/-- The entry words of a seat's table that carry a tag. -/
def Dev.tagged (d : Dev) (seat tag : Nat) : List Nat :=
  ((List.range (d.u (Obj.SEQ_LAST seat) + 1)).map fun e => d.u (Obj.SEQ_ENTRY seat e)).filter fun w => tagOf w == tag

/-- The one output period of the entries bound to an input, none where they differ or there are none (R183). -/
def Dev.boundPeriod (d : Dev) (c : EngineCfg) (l k : Nat) : Option Nat :=
  let w := c.bind' l k
  if !bindEn w then none else
    match (d.tagged (bindSeat w) (bindTag w)).map fun e => rateTicks (rateOf e) with
    | [] => none
    | t :: rest => if rest.all (· == t) then some t else none

/-- The spacings of the vectors after each operation, and the WASH channels with theirs (R183). -/
def Dev.spacings (d : Dev) (c : EngineCfg) (l : Nat) : List (Nat × Option Nat) :=
  let read := fun (v : List (Option Nat)) (a : Nat) =>
    if isIn a then d.boundPeriod c l (a - 1) else if isVec a then v.getD (a - 0x0C) none else none
  ((c.table l).foldl (fun (acc : List (Option Nat) × List (Nat × Option Nat)) q =>
    let w := q.2
    let sp := read acc.1 (opSrcA w)
    if opCode w == 19 then (acc.1, acc.2 ++ [(bits (opArg w) 2 0, sp)])
    else if isVec (opDst w) then
      (acc.1.set (opDst w - 0x0C) (if opCode w == 6 then sp.map (· * (bits (opArg w) 7 0 + 1)) else sp), acc.2)
    else acc) (List.replicate 4 none, [])).2

/-- Whether an operation of a lane reads a vector that no earlier operation of the slot wrote (R163). -/
def readsUnwritten : List Nat → List (Nat × Nat) → Bool
  | _, [] => false
  | written, q :: rest =>
    let w := q.2
    (isVec (opSrcA w) && !written.contains (opSrcA w)) || (isVec (opSrcB w) && !written.contains (opSrcB w)) ||
      readsUnwritten (opDst w :: written) rest

/-- What two lanes or two operations may not both name: a PV or OUT destination of another lane; a PID's controller, a
SURGE's limiter, a WASH's channel of any other operation (R163, R183, R246, R253). -/
def claims (l : Nat) (t : List (Nat × Nat)) : List (Nat × Nat × Nat) :=
  t.flatMap fun q =>
    let w := q.2
    (if isPv (opDst w) || isOut (opDst w) then [(opDst w, l, 0)] else []) ++
    (match opCode w with
     | 16 => [(256 + bits (opArg w) 2 0, l, q.1 + 1)]
     | 17 => [(272 + bits (opArg w) 1 0, l, q.1 + 1)]
     | 19 => [(288 + bits (opArg w) 2 0, l, q.1 + 1)]
     | _ => [])

/-- Whether a claim of a lane stands against another's. -/
def contested (all : List (Nat × Nat × Nat)) (x : Nat × Nat × Nat) : Bool :=
  all.any fun y => y.1 == x.1 && y.2 != x.2

/-- The reason for which a lane's shadow is refused (R163). -/
def Dev.laneReason (d : Dev) (c : EngineCfg) (all : List (Nat × Nat × Nat)) (l : Nat) : Option Nat :=
  let t := c.table l
  let washBad := (d.spacings c l).any fun x => d.u (Obj.WASH_BLOCKS x.1) == 0 || decide (x.2.getD 0 < 1024)
  if t.any (fun q => !kindsOk q.2) || readsUnwritten [] t || washBad then some 1
  else if t.any fun q => hasBlock (opCode q.2) && !blockOk q.2 (d.b (Obj.PARAM_BLOCK (opParam q.2))) then some 2
  else if (claims l t).any (contested all) then some 3
  else none

/-- ENGINE_CONFLICT (R180). -/
def engineConflict (lane reason stroke : Nat) : Nat := lane * 2 ^ 24 + reason * 2 ^ 20 + stroke

/-- The first refusal of a configuration, as ENGINE_CONFLICT: the whole of it is checked, lanes that are not enabled with the others
(R163). -/
def Dev.engineRefusal (d : Dev) (c : EngineCfg) : Option Nat :=
  let all := (List.range 32).flatMap fun l => claims l (c.table l)
  (List.range 32).findSome? fun l => (d.laneReason c all l).map fun r => engineConflict l r 0

/-! ### Firings (R49, R175) -/

/-- What the sums run over: the engine's tables, the marks, the stroke periods for loads and for gaps in ticks, and
ENGINE_HZ. -/
structure AdmitSet where
  eng : EngineCfg
  marks : List MarkSlot
  pLoad : Nat
  pGap : Nat
  hz : Nat

/-- The sums over what runs, with a stroke period in units of 125 µs and a power profile (R174, R175). -/
def Dev.admitSetWith (d : Dev) (eng : EngineCfg) (marks : List MarkSlot) (k profile : Nat) : AdmitSet :=
  ⟨eng, marks, periodTicks (if d.angle then d.u Obj.ANGLE_ADMIT_MIN else k),
    periodTicks (if d.angle then d.u Obj.ANGLE_ADMIT_MAX else k), profileHz profile⟩

/-- The sums over what runs now. -/
def Dev.admitSet (d : Dev) : AdmitSet :=
  d.admitSetWith d.engineRunning d.marksRunning (d.u Obj.STROKE_PERIOD) (d.u Obj.PROFILE_ACTIVE)

/-- The marks of an action in ascending offset, ties by slot number. -/
def AdmitSet.of (a : AdmitSet) (action : Nat) : List MarkSlot :=
  (a.marks.filter fun m => m.action == action).mergeSort fun x y => decide (x.offset ≤ y.offset)

/-- The firings of marks over strokes 0 to 1023 as ticks, with gaps' strokes. -/
def AdmitSet.firings (a : AdmitSet) (ms : List MarkSlot) : List Nat :=
  (List.range 1024).flatMap fun s => (ms.filter fun m => m.firesIn s).map fun m => s * a.pGap + m.offset

/-- The longest of some successive differences. -/
def longest : List Nat → Nat
  | a :: b :: rest => max (b - a) (longest (b :: rest))
  | _ => 0

/-- The longest interval between successive firings, counted cyclically over 1024 strokes (R175, R284). -/
def AdmitSet.gapOf (a : AdmitSet) (l : List Nat) : Nat :=
  match l with
  | [] => 0
  | t :: _ => longest (l ++ [t + 1024 * a.pGap])

/-- The marks of a lane. -/
def AdmitSet.laneMarks (a : AdmitSet) (l : Nat) : List MarkSlot := (a.of 3).filter fun m => m.target == l

/-- The slot interval of a lane (R175). -/
def AdmitSet.laneGap (a : AdmitSet) (l : Nat) : Nat := a.gapOf (a.firings (a.laneMarks l))

/-! ### The engine sums (R175) -/

/-- Elements that an operation writes for N read (R175). -/
def outCount (w N : Nat) : Nat :=
  match opCode w with
  | 1 | 2 | 3 | 4 | 5 | 7 | 10 | 13 | 14 | 15 => N
  | 6 => ceilDiv N (bits (opArg w) 7 0 + 1)
  | _ => 1

/-- The elements that an input of a lane brings in a gap (R175). -/
def Dev.inputCount (d : Dev) (a : AdmitSet) (l gap k : Nat) : Nat :=
  let w := a.eng.bind' l k
  let t := if bindEn w then d.minPeriod (bindSeat w) (bindTag w) else 0
  if t = 0 then 0 else ceilDiv gap t

/-- cost[l] (R175). -/
def Dev.laneCost (d : Dev) (a : AdmitSet) (l gap : Nat) : Nat :=
  let count := fun (v : List Nat) (c : Nat) =>
    if isIn c then d.inputCount a l gap (c - 1) else if isVec c then v.getD (c - 0x0C) 0 else 1
  ((a.eng.table l).foldl (fun (acc : Nat × List Nat) q =>
    let w := q.2
    let n := count acc.2 (opSrcA w)
    (acc.1 + baseCost (opCode w) + perCost (opCode w) (opArg w) * n,
      if isVec (opDst w) then acc.2.set (opDst w - 0x0C) (outCount w n) else acc.2))
    (laneOverhead, [0, 0, 0, 0])).1

/-- The running state of the load sums: the refusal found, the bounds, the peak load. -/
structure LoadSum where
  refusal : Option Nat
  bounds : List Nat
  peak : Nat

/-- The loads and finishes of one stroke (R175). -/
def AdmitSet.strokeLoad (a : AdmitSet) (cap : Nat) (cost : List Nat) (s : Nat) (sum : LoadSum) : LoadSum :=
  let slots := (a.of 3).filter fun m => m.firesIn s && a.eng.enable m.target
  (slots.foldl (fun (acc : Nat × LoadSum) m =>
    if acc.2.refusal.isSome then acc else
      let load := acc.1 + cost.getD m.target 0
      let fin := m.offset + cycleTicks a.hz load
      if cap < load then (load, { acc.2 with refusal := some (engineConflict m.target 5 s) })
      else if a.pLoad < fin then (load, { acc.2 with refusal := some (engineConflict m.target 6 s) })
      else (load, { acc.2 with
        bounds := acc.2.bounds.modify m.target (max fin), peak := max acc.2.peak load })) (0, sum)).2

/-- What an admission of the engine gives. -/
structure EngineSums where
  cap : Nat
  load : Nat
  gaps : List Nat
  costs : List Nat
  bounds : List Nat

/-- The engine sums: the objects they give, or ENGINE_CONFLICT (R175). -/
def Dev.engineSums (d : Dev) (a : AdmitSet) : Except Nat EngineSums :=
  let cap := a.hz * a.pLoad / 65536000 * 9 / 10
  let gaps := (List.range 32).map fun l => if a.eng.enable l then a.laneGap l else 0
  match a.eng.lanes.find? fun l => (List.range 8).any fun k => decide (256 < d.inputCount a l (gaps.getD l 0) k) with
  | some l => .error (engineConflict l 4 0)
  | none =>
    let costs := (List.range 32).map fun l => if a.eng.enable l then d.laneCost a l (gaps.getD l 0) else 0
    let sum := (List.range 1024).foldl (fun s k => a.strokeLoad cap costs k s) ⟨none, List.replicate 32 0, 0⟩
    match sum.refusal with
    | some c => .error c
    | none => .ok ⟨cap, sum.peak, gaps, costs, sum.bounds⟩

/-- r_max: the largest ready latency among the entries bound to a lane's inputs (R74, R223). -/
def Dev.readyMax (d : Dev) (c : EngineCfg) (l : Nat) : Nat :=
  (((List.range 8).flatMap fun k =>
    let w := c.bind' l k
    if bindEn w then
      (d.tagged (bindSeat w) (bindTag w)).map fun e =>
        groupDelay (filterOf e) (rateOf e) + pipeline ((d.seat (bindSeat w)).mode == 2)
    else []).foldl max 0)

/-- LOOP_LATENCY_BOUND (R223), in strokes of the load period. -/
def Dev.loopBound (d : Dev) (a : AdmitSet) (s : EngineSums) : Nat :=
  let dst := 0x20 + d.u Obj.LOOP_PV
  match a.eng.lanes.find? fun l => (a.eng.table l).any fun q => opDst q.2 == dst with
  | none => 0
  | some l =>
    let strobes := a.firings (a.of 4)
    let strobes := strobes ++ strobes.map (· + 1024 * a.pGap)
    let rest := s.gaps.getD l 0 + d.readyMax a.eng l
    ((List.range 1024).flatMap fun n => (a.laneMarks l).filterMap fun m =>
      if m.firesIn n then
        (strobes.find? fun t => decide (n * a.pGap + s.bounds.getD l 0 < t)).map fun t =>
          t - (n * a.pGap + m.offset) + rest
      else none).foldl max 0

/-- ALARM_LATENCY_BOUND (R287). -/
def Dev.alarmBound (d : Dev) (a : AdmitSet) (s : EngineSums) : Nat :=
  (a.eng.lanes.flatMap fun l =>
    if (a.eng.table l).any fun q => opCode q.2 == 20 && d.u (Obj.PUB_GATE (bits (opArg q.2) 3 0)) == 0 then
      (a.laneMarks l).map fun m => a.pGap + 8192 - m.offset + s.gaps.getD l 0 + d.readyMax a.eng l
    else []).foldl max 0

/-- The engine's objects after an admission (R176, R178, R223, R287). -/
def Dev.putEngineSums (a : AdmitSet) (s : EngineSums) (d : Dev) : Dev :=
  let d := ((d.put Obj.ENGINE_CAP s.cap).put Obj.ENGINE_LOAD s.load).put Obj.ENGINE_CONFLICT 0xFF000000
  let d := (List.range 32).foldl (fun d l =>
    (d.put (Obj.LANE_COST l) (s.costs.getD l 0)).put (Obj.LANE_FINISH_BOUND l) (s.bounds.getD l 0)) d
  let d := (d.put Obj.LOOP_LATENCY_BOUND (d.loopBound a s)).put Obj.ALARM_LATENCY_BOUND (d.alarmBound a s)
  d.setEngine fun e => { e with gaps := s.gaps }

/-! ### The entry sums (R284, R312, R313, R357) -/

/-- The enabled catch definitions of a stream. -/
def Dev.catchRates (d : Dev) (s : Nat) : Nat :=
  (((List.range 8).filter fun c => d.on (Obj.CATCH_ENABLE c) && d.u (Obj.CATCH_STREAM c) == s).map fun c =>
    d.u (Obj.CATCH_RATE_MAX c)).sum

/-- The locations admitted on a stream. -/
def Dev.locRates (d : Dev) (s : Nat) : Nat :=
  if d.on Obj.LOC_ENABLE && d.u Obj.LOC_STREAM == s then
    (((List.range 8).filter fun c => d.on (Obj.CATCH_ENABLE c)).map fun c => d.u (Obj.CATCH_RATE_MAX c)).sum
  else 0

/-- attest_per_hour(s) (R474). -/
def Dev.attestPerHour (d : Dev) (s : Nat) : Nat :=
  let w := d.u (Obj.ATTEST_WINDOW s)
  if w = 0 then 0 else 3600 / w

/-- n[s], a U32 (R10, R284). -/
def Dev.streamAdmitted (d : Dev) (s : Nat) : Nat :=
  let n := (d.u (Obj.STREAM_RATE_MAX s) + d.catchRates s + d.locRates s) % 2 ^ 32
  if n = 0 then 0 else (n + d.attestPerHour s) % 2 ^ 32

/-- pg_max(s) (R312). -/
def Dev.pageMax (d : Dev) (s : Nat) : Nat :=
  let n := d.streamAdmitted s
  let p := d.u (Obj.STREAM_RATE_MAX s) * (if d.u Obj.CMD_STREAM = s then 8 else 1) + d.catchRates s * 2 +
    d.locRates s * 2 + d.attestPerHour s * 8
  if n = 0 then 0 else ceilDiv p n

/-- wear: page programs per hour (R284). -/
def Dev.wearSum (d : Dev) : Nat := ((List.range 8).map fun s => d.streamAdmitted s * d.pageMax s).sum

/-- The windows of a gate that open in a stroke, by length (R284, R356). -/
def AdmitSet.windows (a : AdmitSet) (g s : Nat) : List Nat :=
  let opens := (a.of 5).filter fun m => m.target == g && m.firesIn s
  let closes := (a.of 6).filter fun m => m.target == g && m.firesIn s
  opens.map fun o => ((closes.filter fun c => decide (o.offset < c.offset)).map MarkSlot.offset).foldl min a.pGap - o.offset

/-- gi and gl of a gate, none where no GATE_OPEN fires (R284). -/
def AdmitSet.gate (a : AdmitSet) (g : Nat) : Option (Nat × Nat) :=
  let f := a.firings ((a.of 5).filter fun m => m.target == g)
  if f.isEmpty then none
  else some (a.gapOf f, ((List.range 1024).flatMap (a.windows g)).foldl max 0)

/-- capacity(port, g) in bytes for gates 1 to 7 (R357). -/
def AdmitSet.capacity (a : AdmitSet) (p g : Nat) : Nat :=
  let slots := (List.range 1024).map fun s => ((a.windows g s).map fun w => w / slotTicks p).sum
  let sums := (List.range 1024).map fun s0 => ((List.range 16).map fun k => slots.getD ((s0 + k) % 1024) 0).sum
  512 * (match sums with | [] => 0 | x :: rest => rest.foldl min x)

/-- The enabled subscriptions on the ring (0) or on S (1). -/
def Dev.subsOn (d : Dev) (port : Nat) : List Nat :=
  (List.range 16).filter fun u => d.on (Obj.SUB_ENABLE u) && d.u (Obj.SUB_PORT u) == port

/-- SUB_BOUND of a subscription, a U32 (R10, R284). -/
def Dev.subBound (d : Dev) (a : AdmitSet) (u : Nat) : Option Nat :=
  (a.gate (d.u (Obj.SUB_GATE u))).map fun g => (g.1 + g.2 + d.u (Obj.SUB_HOPS u) * (a.pGap + hopTicks)) % 2 ^ 32

/-- The bytes that the subscriptions of a port need in a gate (R284). -/
def Dev.gateNeed (d : Dev) (a : AdmitSet) (port g : Nat) : Nat :=
  (((d.subsOn port).filter fun u => d.u (Obj.SUB_GATE u) == g).map fun u =>
    let s := d.u (Obj.SUB_STREAM u)
    let k := ((List.range 8).filter fun c => d.on (Obj.CATCH_ENABLE c) && d.u (Obj.CATCH_STREAM c) == s).length +
      flag (d.u Obj.LOC_STREAM == s)
    (d.u (Obj.STREAM_BURST s) + k + 1) * (((a.gate g).map Prod.fst).getD 0 / a.pGap + 1) * 512).sum

/-- The lane whose PUBLISH first takes the alarm frames of a stroke beyond one (R284, R357). -/
def Dev.alarmRefusal (d : Dev) (a : AdmitSet) : Option Nat :=
  let pubs := fun (l : Nat) => ((a.eng.table l).filter fun q => opCode q.2 == 20).filterMap fun q =>
    let n := bits (opArg q.2) 3 0
    if d.u (Obj.PUB_GATE n) = 0 then some n else none
  (List.range 1024).findSome? fun s =>
    (a.eng.lanes.foldl (fun (acc : List Nat × Option Nat) l =>
      if acc.2.isSome || !((a.laneMarks l).any fun m => m.firesIn s) then acc else
        let all := ((acc.1 ++ pubs l)).eraseDups
        if 1 < all.length then (all, some l) else (all, none)) ([], none)).2

/-- ADMIT_CONFLICT of a refusal (R289). -/
def admitConflict (kind item : Nat) : Nat := kind * 2 ^ 24 + item * 2 ^ 16

/-- The entry sums (R284): ADMIT_CONFLICT where one fails. Products inside a comparison are formed without a bound (DESIGN CHOICE,
log 90). -/
def Dev.entryRefusal (d : Dev) (a : AdmitSet) : Option Nat :=
  if d.cycleBudget < d.wearSum * 8766 * d.u Obj.SERVICE_LIFE then some (admitConflict 1 0) else
    let badSub := fun (u : Nat) => match d.subBound a u with
      | none => true
      | some b => decide (d.u (Obj.SUB_BOUND_REQ u) * 65536 < b * 1000)
    match (List.range 16).find? fun u => (d.subsOn 0 ++ d.subsOn 1).contains u && badSub u with
    | some u => some (admitConflict 2 u)
    | none =>
      match (List.range' 1 7).find? fun g =>
          (d.gateNeed a 0 g != 0 && decide (a.capacity 0 g < d.gateNeed a 0 g)) ||
          (d.gateNeed a 1 g != 0 && decide (a.capacity 2 g < d.gateNeed a 1 g)) with
      | some g => some (admitConflict 3 g)
      | none => (d.alarmRefusal a).map (admitConflict 4)

/-- The objects of an entry admission (R284, R289, R313). -/
def Dev.putEntrySums (a : AdmitSet) (d : Dev) : Dev :=
  let d := (List.range 8).foldl (fun d s => d.put (Obj.STREAM_ADMITTED s) (d.streamAdmitted s)) d
  let d := (d.subsOn 0 ++ d.subsOn 1).foldl (fun d u => d.put (Obj.SUB_BOUND u) ((d.subBound a u).getD 0)) d
  let d := (d.put Obj.LEDGER_WEAR d.wearSum).put Obj.LEDGER_CYCLE_BUDGET d.cycleBudget
  (d.put Obj.LEDGER_LIFE d.ledgerLife).put Obj.ADMIT_CONFLICT 0

/-- Both sums (R174, R284): the conflict and whether it is ENGINE_CONFLICT, or the device with the objects they
give. -/
def Dev.underSums (a : AdmitSet) (d : Dev) : Except (Bool × Nat) Dev :=
  match d.engineSums a with
  | .error c => .error (true, c)
  | .ok s =>
    match d.entryRefusal a with
    | some c => .error (false, c)
    | none => .ok ((d.putEngineSums a s).putEntrySums a)

/-- The engine sums and the entry sums again, with their objects (R174, R284). -/
def Dev.allSumsAgain (d : Dev) : Dev :=
  match d.underSums d.admitSet with
  | .ok e => e
  | .error _ => d

/-- A refusal of the sums shown in its object (R174, R284). -/
def Dev.putConflict (c : Bool × Nat) (d : Dev) : Dev :=
  if c.1 then d.put Obj.ENGINE_CONFLICT c.2 else d.put Obj.ADMIT_CONFLICT c.2

/-- WASH_SPACING of every channel that a WASH operation writes (R183). -/
def Dev.putSpacings (d : Dev) : Dev :=
  ((List.range 32).filter fun l => d.on (Obj.LANE_ENABLE l)).foldl (fun d l =>
    (d.spacings d.engineRunning l).foldl (fun d x => d.put (Obj.WASH_SPACING x.1) (x.2.getD 0)) d) d

/-- The lanes whose table or bindings some writes change (R163). -/
def lanesChanged (ws : List Write) : List Nat :=
  (List.range 32).filter fun l => ws.any fun w => w.key / 256 == 0x2810 + l || w.key / 256 == 0x2830 + l

/-- The inputs that some writes bind anew. -/
def boundBy (ws : List Write) : List (Nat × Nat) :=
  allInputs.filter fun p => ws.any fun w => w.key == (Obj.IN_BIND p.1 p.2).key

/-- An accepted engine configuration becomes the running one at its boundary (R163, R183, R187): changed lanes restart,
and with them the channels they write. -/
def Dev.switchEngine (d : Dev) : Dev :=
  match d.engine.apply with
  | none => d
  | some ws =>
    let ls := lanesChanged ws
    let chans := fun (d : Dev) => ls.flatMap fun l => (d.spacings d.engineRunning l).map Prod.fst
    let before := chans d
    let d := (ws.foldl (fun d w => d.promote w) d).setEngine fun e => { e with apply := none }
    let d := ls.foldl (fun d l => d.resetLane l) d
    let d := (boundBy ws).foldl (fun d p => d.bindInput p.1 p.2) d
    let d := d.putSpacings
    let d := (before ++ chans d).eraseDups.foldl (fun d ch => d.setChannel ch Channel.emptied) d
    d.updateDepths.failSeatless

end Sys2Proof.Machine
end

