-- ==== Sys2Proof/Machine/Results.lean ====
section
/-! DEFINITION. A result that is ready: its code and flags, the engine's inputs, the host, the comparator, the hand-over
of a join (R65–R68, R73–R75, R82, R108–R114, R129, R135). -/

namespace Sys2Proof.Machine

/-- The code of a result and the converter after it (R65, R67): while an overload episode runs and the filter window
reaches back before the end of its last reset, the code is an overrange one of the input's sign; the first result after
ends the episode. -/
def Dev.resultCode (d : Dev) (c : Nat) (b : Batch) (out : FilterOut) : Int × Conv :=
  let v := d.conv c
  let lo := b.first - b.D
  match v.overload with
  | some neg =>
    if lo < v.clean then (ovrCode neg, v)
    else
      let code := d.calibrated c (gainOf b.word) b.paddle out
      (code, match out with | .code _ => { v with overload := none } | .overload _ => v)
  | none => (d.calibrated c (gainOf b.word) b.paddle out, v)

/-- The flags of a result (R109). -/
def Dev.resultFlags (d : Dev) (c : Nat) (b : Batch) (code : Int) : Nat :=
  let s := d.seat b.seat
  let lo := b.first - b.D
  let hi := b.first + b.D
  (if isOvr code then flagOVR else 0) +
    (if b.refExt && (d.conv c).refOverlaps lo hi then flagREF else 0) +
    (if b.use == .entry && bit s.marked b.entry then flagOW else 0) +
    (if d.disturbed c b.word lo hi then flagOWD else 0) +
    (if b.use == .injected then flagINJ else 0) +
    (if b.use == .injected && s.injPrecal then flagPRECAL else 0) +
    (if b.use != .shadow && s.swap && s.conv == some c then flagSWAP else 0)

/-- Overrange of an entry (R66): every result counts; the first of a run is flagged and reported. -/
def Dev.noteOverrange (c : Nat) (b : Batch) (code : Int) (d : Dev) : Dev :=
  let d := d.when (isOvr code) (Dev.bump (Obj.OVERRANGE_COUNT c))
  if b.use ≠ .entry then d
  else if isOvr code then
    if bit (d.seat b.seat).ovr b.entry then d
    else (d.setSeat b.seat fun s => { s with ovr := setBit s.ovr b.entry }).flagRaise (Obj.CV_FLAGS c) 0 0x2001
      (u8 c ++ u8 b.entry)
  else d.setSeat b.seat fun s => { s with ovr := clearBit s.ovr b.entry }

/-- The host's copy of a result (R107, R108, R112, R114). -/
def Dev.deliverHost (b : Batch) (flags : Nat) (code : Int) (d : Dev) : Dev :=
  let n := b.seat
  let queue := d.u (Obj.RESULT_DEST n) == 0
  let toQueue := fun (d : Dev) => d.queueResult n b.first (d.resultWord n (tagOf b.word) flags b.first code)
  match b.use with
  | .shadow => d
  | .injected =>
    -- a later injected conversion may be pending already (R106, R107)
    let more := d.convs.any fun v => v.flight.any fun x => x.use == .injected && x.seat == n
    let d := (d.writeResult (Obj.INJ_RESULT n) flags b.first code).when (!more) (Dev.put (Obj.INJ_STATUS n) 2)
    d.when (hostOf b.word && queue) toQueue
  | .entry =>
    if !hostOf b.word then d
    else if queue then toQueue d
    else d.writeResult (Obj.RESULT n b.entry) flags b.first code

/-- A result of a seat for the engine and the host (R108). -/
def Dev.deliverResult (b : Batch) (flags : Nat) (code : Int) (d : Dev) : Dev :=
  let e := elementOf code flags b.first (d.nsAt b.first) (d.qualityAt b.first)
  (d.deliverInputs b.seat (tagOf b.word) (b.use == .injected) e).deliverHost b flags code

/-- Whether the result of a joining converter coincides with one that the seat's converter delivers (R129). -/
def Dev.coincides (d : Dev) (j : Join) (b : Batch) : Bool :=
  match (d.seat j.seat).conv with
  | none => true
  | some y =>
    y == j.conv || (match (d.conv y).last with | some t => t.instant == b.first && t.seat == b.seat | none => false) ||
      (d.conv y).flight.any fun x => x.seat == b.seat && x.use == .entry && x.count != 0 && x.first == b.first

/-- What becomes of a settled result (R108, R129): a joining converter's first coinciding one takes the seat over, and
the result that the other has for the same instant is withheld; before that the joining converter's are not
delivered. -/
def Dev.routeResult (c : Nat) (b : Batch) (flags : Nat) (code : Int) (d : Dev) : Dev :=
  match b.use with
  | .shadow => d
  | .injected => d.deliverResult b flags code
  | .entry =>
    match d.xcheck.join with
    | some j =>
      if j.conv = c ∧ j.seat = b.seat then
        if d.coincides j b then
          let done := match (d.seat j.seat).conv with
            | some y => y != c && (match (d.conv y).last with | some t => t.instant == b.first && t.seat == b.seat | none => false)
            | none => false
          let d := d.endJoin j
          let flags := if j.purpose == .swap then flags ||| flagSWAP else if j.purpose == .rejoin && bit flags 0 then flags - 1 else flags
          if done then d else d.deliverResult b flags code
        else d
      else d.deliverResult b flags code
    | none => if (d.seat b.seat).conv = some c then d.deliverResult b flags code else d

/-- The place of a converter's result among those of one tick (R108, R129): ascending seat number, a joining converter before the one
that delivers the seat. -/
def Dev.deliveryOrder (d : Dev) (c : Nat) (b : Batch) : Nat :=
  2 * b.seat + match d.xcheck.join with
    | some j => if j.conv = c then 0 else 1
    | none => 1

/-- Whether another converter's result of the same tick comes before one (R108); those for the comparator alone have no order. -/
def Dev.laterThanAnother (d : Dev) (c : Nat) (b : Batch) : Bool :=
  b.use != .shadow && (List.range 4).any fun k => k != c && match (d.conv k).flight.head? with
    | some x => x.use != .shadow && x.ready == b.ready && decide (d.deliveryOrder k x < d.deliveryOrder c b)
    | none => false

/-- RESULT_READY (R74): the next result of a converter. One that comes before another of its tick has no effect (log 2). -/
def Dev.resultReady (c : Nat) (out : FilterOut) (d : Dev) : Dev :=
  match (d.conv c).flight with
  | [] => d
  | b :: rest =>
    if d.laterThanAnother c b then d else
    let d := d.advanceTo b.ready
    let r := d.resultCode c b out
    let flags := d.resultFlags c b r.1
    let t : Taken := ⟨b.first, d.nsAt b.first, r.1, flags, b.seat, b.entry, b.use⟩
    let d := d.setConv c fun _ => { r.2 with
      flight := liveBatches [{ b with first := b.first + b.T, count := b.count - 1 }] ++ rest, last := some t }
    let d := d.noteOverrange c b r.1
    (d.routeResult c b flags r.1).compare c t

end Sys2Proof.Machine
end

