-- ==== Sys2Proof/Machine/Modes.lean ====
section
/-! DEFINITION. The device states: what entering and leaving each does, the checks that leaving CONFIG makes, the
levels of a STATE_REQUEST, SAFE (R155, R163, R172, R187, R194, R197, R212, R229, R329, R332–R334, R339, R344). -/

namespace Sys2Proof.Machine

/-- Changes the dictionary's own state. -/
def Dev.setDevice (f : Device → Device) (d : Dev) : Dev := { d with device := f d.device }

/-! ### Leaving CONFIG (R332) -/

/-- Whether a key is one of the subscription objects, whose shadows outlive CONFIG (R280, R323). -/
def subscriptionKey (key : Nat) : Bool := decide (0x510000 ≤ key) && decide (key < 0x511000)

/-- The device without the unapplied shadows that leaving CONFIG discards (R163, R323). -/
def Dev.discardShadow (d : Dev) : Dev := { d with shadow := d.shadow.filter fun c => subscriptionKey c.1 }

/-- R212: something would wait for a strobe and no LOAD_STROBE slot runs. -/
def Dev.strobeMissing (d : Dev) : Bool :=
  (d.u Obj.LOOP_PV != 0xFF || d.on Obj.ADAC_ENABLE || d.on Obj.XDAC_ENABLE) &&
    !(d.marksRunning.any fun m => m.action == 4)

/-- The checks that leaving CONFIG makes, in the order of R332: shadow discard and engine sums, catch checks, strobe check,
entry sums. A failure gives its status and detail and the device with the conflict object set; a pass the device with
the objects of the sums. -/
def Dev.leaveConfigCheck (d : Dev) : Except (Fail × Dev) Dev :=
  let e := d.discardShadow
  let a := e.admitSet
  match e.engineSums a with
  | .error c => .error (⟨0x08, c⟩, d.put Obj.ENGINE_CONFLICT c)
  | .ok s =>
    match e.catchConflict with
    | some c => .error (⟨0x04, conflictDefinition c⟩, d.put Obj.WASH_CONFLICT (conflictDefinition c))
    | none =>
      if e.strobeMissing then .error (⟨0x04, 0⟩, d)
      else match e.entryRefusal a with
        | some c => .error (⟨0x08, c⟩, d.put Obj.ADMIT_CONFLICT c)
        | none => .ok ((d.putEngineSums a s).putEntrySums a)

/-! ### Entering and leaving the states (R99, R155, R172, R187, R197, R229, R235, R334) -/

/-- What leaving the present state does. -/
def Dev.leaveState (d : Dev) : Dev :=
  match d.device.state with
  | .config => d.discardShadow.resetLanes.armTables.emptyChannels
  | .service => d.putF Obj.LOOP_FIXED F32.zero
  | .safe => d.put Obj.SAFE_CAUSE 0
  | _ => d

/-- What entering a state does, the state being already in force. -/
def Dev.enterState (new : DeviceState) (d : Dev) : Dev :=
  match new with
  | .hold => d.holdOutputs
  | .config => (d.closeCatches.markStale (List.range 16)).dropSlots.stopTables
  | _ => d

/-- A change of device state (R339, R344): STATE_CHANGED and event 0x0001 with the requesting CLIENT, 0xFFFF for the
device itself. -/
def Dev.changeState (new : DeviceState) (client : Nat) (d : Dev) : Dev :=
  let old := d.device.state
  if old = new then d else
    let d := d.leaveState
    let d := (d.setDevice fun v => { v with state := new }).put Obj.DEVICE_STATE new.code
    (d.enterState new).flagRaise Obj.DEVICE_FLAGS 0 0x0001 (u8 old.code ++ u8 new.code ++ u16 client)

/-- The pending transition is gone (R13, R333). -/
def Dev.dropPending (d : Dev) : Dev :=
  (d.setDevice fun v => { v with pending := none }).put Obj.STATE_PENDING 0xFF

/-- SAFE with a cause (R334): SAFE_CAUSE, SAFE_ENTERED, 0x0002; a pending request is refused with SAFE as the current
state (R333). A cause that arises in STARTING acts at its end (log 34). -/
def Dev.enterSafe (cause client : Nat) (d : Dev) : Dev :=
  if d.device.state = .starting then { d with start := { d.start with safeCauses := d.start.safeCauses ++ [cause] } }
  else if d.device.state = .safe then d
  else
    let waiting := d.device.pending
    let d := d.dropPending.changeState .safe client
    let d := (d.put Obj.SAFE_CAUSE cause).flagRaise Obj.DEVICE_FLAGS 1 0x0002 (u8 cause)
    match waiting with
    | some p => d.answerAll p.rq p.joined 0x06 d.stateDetail p.pos []
    | none => d

/-! ### STATE_REQUEST (R332, R333) -/

/-- The lowest level that may request a transition; none where the cell says no (R332). -/
def transitionLevel : DeviceState → DeviceState → Option Nat
  | .run, .hold | .run, .safe | .hold, .run | .hold, .safe | .config, .safe | .service, .safe => some 1
  | .run, .config | .run, .service | .hold, .config | .hold, .service => some 2
  | .config, .run | .config, .service | .service, .run | .service, .config | .safe, .config => some 2
  | _, _ => none

/-- The dynamic checks of a write of STATE_REQUEST, the present state not being the one requested (R332, R333). -/
def Dev.transitionCheck (d : Dev) (target : DeviceState) (level : Nat) : Option Fail :=
  match transitionLevel d.device.state target with
  | none => d.failState
  | some l => orFail (failIf (decide (level < l)) (failAccess 2 l)) (failIf d.device.pending.isSome failBusy)

/-- STATE_REQUEST (R332, R333): the present state is answered at once, also while a transition is pending (DEDUCED, log 97); a permitted request waits for the boundary, after
the checks where it leaves CONFIG for RUN or SERVICE. -/
def Dev.stateRequest (rq : Request) (joined : List Via) (pos : Nat) (values : List (List Byte)) (target : DeviceState) (d : Dev) : Dev :=
  if target = d.device.state then d.answerAll rq joined 0 0 pos values
  else match d.transitionCheck target rq.level with
    | some f => d.answerAll rq joined f.status f.detail pos []
    | none =>
      let accept := fun (d : Dev) =>
        (d.setDevice fun v => { v with pending := some ⟨target, rq, d.course.elapsed, pos, values, joined⟩ }).put
          Obj.STATE_PENDING target.code
      if d.device.state = .config && target ≠ .safe then
        match d.leaveConfigCheck with
        | .error x => x.2.answerAll rq joined x.1.status x.1.detail pos []
        | .ok e => accept e
      else accept d

/-- An accepted transition takes effect (R333): the checks of leaving CONFIG hold at this instant too (log 35), and the reply follows
the change. -/
def Dev.takeTransition (d : Dev) : Dev :=
  match d.device.pending with
  | none => d
  | some p =>
    let d := d.dropPending
    let done := fun (d : Dev) => d.answerAll p.rq p.joined 0 0 p.pos p.values
    if p.target = .safe then done (d.enterSafe 3 p.rq.client.toNat)
    else if d.device.state = .config then
      match d.leaveConfigCheck with
      | .error x => x.2.answerAll p.rq p.joined x.1.status x.1.detail p.pos []
      | .ok e => done (e.changeState p.target p.rq.client.toNat)
    else done (d.changeState p.target p.rq.client.toNat)

/-- STATE_TRANSITION_TIMEOUT (R333): in the angle course the transition takes effect 8 ms after acceptance at the
latest. -/
def Dev.transitionTimeout (d : Dev) : Dev :=
  match d.device.pending with
  | none => d
  | some p => if d.angle then (d.advanceTo (p.accepted + 8 * msTicks)).takeTransition else d

end Sys2Proof.Machine
end

