-- ==== Sys2Proof/Machine/Sessions.lean ====
section
/-! DEFINITION. The Wored sessions as a table (R369–R371, R373): looking one up, changing one, closing one or all. -/

namespace Sys2Proof.Machine

/-- A session, if its number is in use. -/
def Dev.session (d : Dev) (n : Nat) : Option Session := d.net.sessions.getD n none

/-- Changes a session in use. -/
def Dev.setSession (n : Nat) (f : Session → Session) (d : Dev) : Dev :=
  d.setNet fun v => { v with sessions := v.sessions.modify n (Option.map f) }

/-- How many sessions are open (R371). -/
def Dev.openSessions (d : Dev) : Nat :=
  (d.net.sessions.filter fun s => match s with | some s => s.isOpen | none => false).length

/-- SESSIONS_OPEN brought up to date, and the paths of the subscriptions with it (R373, R375). -/
def Dev.sessionsChanged (d : Dev) : Dev := (d.put Obj.SESSIONS_OPEN d.openSessions).checkPaths

/-- What a session selected for fetching and for signatures goes with it (R200, R480). -/
def Dev.forgetVia (v : Via) (d : Dev) : Dev :=
  let d := d.setCapture fun c => { c with fetch := c.fetch.filter fun f => f.owner != v }
  { d with security := { d.security with sigs := d.security.sigs.filter fun f => f.owner != v } }

/-- A session leaves the table (R371). -/
def Dev.dropSession (n : Nat) (d : Dev) : Dev :=
  if (d.session n).isNone then d else
    let d := d.setNet fun v => { v with sessions := v.sessions.set n none }
    (if h : n < 16 then d.forgetVia (.session ⟨n, h⟩) else d).sessionsChanged

/-- A step of R202 has failed, or its session is lost: the reason, 0x3026 at the first failure, another attempt after 10 s unless the
address is empty. -/
def Dev.locLost (reason : Nat) (d : Dev) : Dev :=
  let first := !d.capture.locFailed
  let d := d.put Obj.LOC_UP_STATE reason
  let d := d.setCapture fun c => { c with
    loc := .idle, locFailed := true, retry := if reason = 1 then none else some (d.course.elapsed + 10 * secTicks) }
  d.when first (Dev.raise 0x3026 (u8 reason))

/-- A session closes (R371); a session that the device itself opened takes location with it, which starts again from step 1
(R202). -/
def Dev.closeSession (n : Nat) (d : Dev) : Dev :=
  match d.session n with
  | none => d
  | some s => (d.dropSession n).when (s.upstream && d.on Obj.LOC_ENABLE) (Dev.locLost 2)

/-- The sessions of the ring close: the PHYs of A and B have no power (R407). -/
def Dev.closeRingSessions (d : Dev) : Dev :=
  (List.range 16).foldl (fun d n => match d.session n with
    | some s => d.when (s.path == .port .A || s.path == .port .B) (Dev.closeSession n)
    | none => d) d

/-- Every session closes (R371, R419). -/
def Dev.closeSessions (d : Dev) : Dev := (List.range 16).foldl (fun d n => d.closeSession n) d

end Sys2Proof.Machine
end

