-- ==== Sys2Proof/Machine/Addresses.lean ====
section
/-! DEFINITION. The device's own frames and its IP addresses (R352, R363–R365, R368). -/

namespace Sys2Proof.Machine

/-! ### Own frames -/

/-- Bytes from DA to FCS of an own frame with some bytes after the EtherType: on the ring with a priority tag and an HSR tag, on S
with neither (R352, R368). -/
def ownSize (p : Port) (n : Nat) : Nat := if p = .S then 18 + n else 28 + n

/-- An own frame of some bytes after the EtherType that joins a queue of a port: on A and B, or on S (R349, R352). -/
def Dev.sendOwn (p : Port) (queue : QueueName) (kind : FrameKind) (retx : Bool) (n : Nat) (data : List Byte) (d : Dev) : Dev :=
  d.sendOn p ⟨kind, queue, retx, ownSize p n, d.course.elapsed, data, false⟩

/-! ### IPv6 (R363) -/

/-- The modified EUI-64 of the MAC address (R363, RFC 4291). -/
def Dev.interfaceId (d : Dev) : List Byte :=
  let m := beBytes 6 d.mac
  beBytes 1 (d.mac / 2 ^ 40 ^^^ 2) ++ (m.drop 1).take 2 ++ [0xFF, 0xFE] ++ m.drop 3

/-- The link-local address (R363). -/
def Dev.linkLocal (d : Dev) : List Byte := [0xFE, 0x80, 0, 0, 0, 0, 0, 0] ++ d.interfaceId

/-- Whether IPv6 and IPv4 are in use (R364). -/
def Dev.ipv6 (d : Dev) : Bool := d.u Obj.IP_MODE != 1
def Dev.ipv4 (d : Dev) : Bool := d.u Obj.IP_MODE != 0

/-- An address joins the device's own, at most three, to be used once duplicate address detection has passed (R363). -/
def Dev.addAddress (a : List Byte) (len : Nat) (d : Dev) : Dev :=
  if (d.net.addresses.any fun x => x.bytes == a) || decide (3 ≤ d.net.addresses.length) then d
  else d.setNet fun n => { n with addresses := n.addresses ++ [⟨a, len, true⟩] }

/-- The addresses that the configuration gives (R363, R364): none with IPv4 alone; the link-local one, the static one where
one is set, and those that router advertisements gave. -/
def Dev.refreshAddresses (d : Dev) : Dev :=
  if !d.ipv6 then d.setNet fun n => { n with addresses := [] } else
    let s := d.b Obj.IPV6_STATIC
    let fixed := [(d.linkLocal, 64)] ++ if s.isEmpty then [] else [(s.take 16, ofBe (s.drop 16))]
    let old := d.net.addresses
    let slaac := old.filter fun a => a.bytes.drop 8 == d.interfaceId && a.prefixLen == 64 && a.bytes != d.linkLocal
    let keep := fixed.map fun f => ((old.find? fun a => a.bytes == f.1 && a.prefixLen == f.2).getD ⟨f.1, f.2, true⟩)
    d.setNet fun n => { n with addresses := (keep ++ slaac.filter (fun a => !(keep.any fun k => k.bytes == a.bytes))).take 3 }

/-- ROUTER_ADVERTISEMENT_RX (R363): a prefix of 64 bits gives an address. -/
def Dev.routerAdvertisement (netPrefix : List Byte) (d : Dev) : Dev :=
  if !d.ipv6 || !d.start.configured || netPrefix.length != 8 then d else d.addAddress (netPrefix ++ d.interfaceId) 64

/-- DAD_COMPLETE (R363): the address is used from now on, or it is dropped. -/
def Dev.dadComplete (a : List Byte) (conflict : Bool) (d : Dev) : Dev :=
  let used := fun (l : List NetAddress) =>
    if conflict then l.filter fun x => !(x.bytes == a && x.tentative)
    else l.map fun (x : NetAddress) => if x.bytes == a then { x with tentative := false } else x
  d.setNet fun n => { n with addresses := used n.addresses }

/-- Whether an IPv6 address is one that the device uses (R363). -/
def Dev.ownIpv6 (d : Dev) (a : List Byte) : Bool := d.ipv6 && d.net.addresses.any fun x => x.bytes == a && !x.tentative

/-- The IPv4 address in use (R364). -/
def Dev.ipv4Address (d : Dev) : Nat :=
  if d.u Obj.IPV4_ADDRESS = 0 then Config.linkLocal4.toNat else d.u Obj.IPV4_ADDRESS

/-- Whether an IPv4 address is the device's (R364). -/
def Dev.ownIpv4 (d : Dev) (a : Nat) : Bool := d.ipv4 && a == d.ipv4Address

/-- Whether the device answers on a port: the link up, STARTING over (R497). -/
def Dev.answersOn (d : Dev) (p : Port) : Bool := d.portUp p.no && d.device.state != .starting && !d.stopped

/-! ### Neighbour discovery, ARP, echo (R363, R364) -/

/-- The neighbour cache with an address. -/
def Dev.noteNeighbour (a : List Byte) (link : Nat) (d : Dev) : Dev :=
  d.setNet fun n => { n with neighbours := (a, link) :: n.neighbours.filter fun x => x.1 != a }

/-- NEIGHBOUR_DISCOVERY_RX (R363): a solicitation for an own address is answered with an advertisement; both kinds update the
cache. -/
def Dev.neighbourDiscovery (p : Port) (m : NdMessage) (d : Dev) : Dev :=
  if !d.answersOn p || !d.ipv6 then d else
    let d := d.noteNeighbour (if m.solicitation then m.source else m.target) m.link.toNat
    d.when (m.solicitation && d.ownIpv6 m.target)
      (Dev.sendOwn p .best .own false 72 (u8 136 ++ m.target ++ m.source ++ beBytes 6 d.mac))

/-- ARP_RX (R364): a request for the device's address is answered. -/
def Dev.arp (p : Port) (target : Nat) (d : Dev) : Dev :=
  if !d.answersOn p || !d.ownIpv4 target then d
  else d.sendOwn p .best .own false 28 (u16 1 ++ u16 0x0800 ++ u8 6 ++ u8 4 ++ u16 2 ++ beBytes 6 d.mac ++ u32 target ++ beBytes 10 0)

/-- ICMP_ECHO_RX (R363, R364): an echo request for an own address is answered with its data. -/
def Dev.icmpEcho (p : Port) (version : Nat) (target data : List Byte) (d : Dev) : Dev :=
  let own := if version = 6 then d.ownIpv6 target else version == 4 && d.ownIpv4 (ofBe target)
  if !d.answersOn p || !own then d
  else d.sendOwn p .best .own false ((if version = 6 then 44 else 24) + data.length) (u8 (if version = 6 then 129 else 0) ++ target ++ data)

end Sys2Proof.Machine
end

