-- ==== Sys2Proof/Machine/Pages.lean ====
section
/-! DEFINITION. The pages of the ledger store: what a commit group programs, page by page, where it puts it, and what the pages hold
(R266, R291–R303, R306–R308). -/

namespace Sys2Proof.Machine

/-! ### Structures as stored (R266, R293, R297, R299, R302, R303) -/

/-- The bytes of an entry at a position (R266). -/
def entryBytes (position : Nat) (e : Entry) : List Byte :=
  let head := u8 e.type.code ++ u8 e.stream ++ u16 (position / 2 ^ 32) ++ u32 position ++ u64 e.time ++ u16 e.sync ++
    u16 e.payload.length ++ u8 e.flags ++ [0, 0, 0] ++ e.payload
  head ++ u32 (crc32c head)

/-- Bytes followed by their CRC-32C (R266). -/
def checked (b : List Byte) : List Byte := b ++ u32 (crc32c b)

/-- A slot of the client table as a checkpoint holds it (R278; DESIGN CHOICE, log 23). -/
def ClientSlot.encode (c : ClientSlot) : List Byte := u16 c.client ++ u32 c.high ++ beBytes 32 c.map ++ u64 c.last

/-- The bytes of a structure of the LOG (R266, R303; the layouts of the notes are a DESIGN CHOICE, log 23). -/
def LogContent.encode : LogContent → List Byte
  | .entry p e => entryBytes p e
  | .acked u p => checked (u8 0x80 ++ u8 u ++ u16 0 ++ u64 p)
  | .checkpoint table => checked ((List.range 16).flatMap fun k => match table[k]? with
      | some c => c.encode
      | none => List.replicate 46 0xFF)

/-- The bytes of a copy record (R299). -/
def recordBytes (w : Write) (epoch seq : Nat) : List Byte :=
  checked (u16 (w.key / 256) ++ u8 (w.key % 256) ++ u8 epoch ++ u32 seq ++ u16 w.valueBytes.length ++ w.valueBytes)

/-- The payloads of the two pages of an undo record (R297). -/
def undoPayloads (target : Nat) (image : List Byte) : List (List Byte) :=
  let head := u16 target ++ u16 0
  [head ++ image.take 56, image.drop 56 ++ u32 (crc32c (head ++ image))]

/-- The payload of a slot of a wear ring: RSEQ, thirteen values, their CRC (R302). -/
def slotPayload (rseq : Nat) (words : List Nat) : List Byte :=
  checked (u32 rseq ++ (List.range 13).flatMap fun k => u32 (words.getD k 0))

/-- Bytes cut into page payloads of 60 bytes (R293). -/
def payloadsOf (b : List Byte) : List (List Byte) := (List.range (ceilDiv b.length 60)).map fun k => (b.drop (60 * k)).take 60

/-- The KIND of a page (R293). -/
def PageTarget.kind : PageTarget → Nat
  | .log => 0
  | .journal => 1
  | .copy _ => 2
  | .ring _ => 3

/-- The image of a page: its header, its payload, 0xFF behind it (R293). -/
def pageImage (last : Bool) (group : Nat) (t : PageTarget) (payload : List Byte) : List Byte :=
  u32 (flag last * 2 ^ 31 + t.kind * 2 ^ 29 + group) ++ payload ++ List.replicate (60 - payload.length) 0xFF

/-! ### The pages of the two banks (R291–R294, R309) -/

/-- The free image (R293). -/
def freeImage : List Byte := List.replicate 64 0xFF

/-- The bytes of page p of a bank. -/
def Dev.page (d : Dev) (bank pair : Nat) : List Byte :=
  (d.ledger.pages.get (16384 * bank + pair) (.bytes freeImage)).toBytes 64

/-- The banks in service (R309). -/
def Dev.banks (d : Dev) : List Nat := [0, 1].filter fun b => !d.ledger.banksRetired.getD b false

/-- A page program: the buffer is loaded and the page holds its bytes (R291). -/
def Dev.programPage (pair : Nat) (image : List Byte) (bank : Nat) (d : Dev) : Dev :=
  d.setLedger fun l => { l with
    pages := l.pages.set (16384 * bank + pair) (.bytes freeImage) (.bytes image)
    buffers := l.buffers.set bank image }

/-- A round programs the page of a pair in every bank in service (R291, R309). -/
def Dev.program (pair : Nat) (image : List Byte) (d : Dev) : Dev := d.banks.foldl (fun d b => d.programPage pair image b) d

/-- The present image of a pair, from the first bank in service (R291, R297). -/
def Dev.pairImage (d : Dev) (pair : Nat) : List Byte := d.page (d.banks.headD 0) pair

/-! ### Placement in COPY (R299, R300) -/

/-- The place of a record. -/
def Dev.placeOf (d : Dev) (stage : Option ApplyKind) (key : Nat) : Option Place :=
  d.ledger.places.find? fun p => p.key == key && decide (p.stage = stage)

/-- The first free COPY pairs in service. -/
def Dev.freePairs (d : Dev) (used : List Nat) (n : Nat) : List Nat :=
  ((List.range' 768 5632).filter fun p => !used.contains p && !d.pairRetired p).take n

/-- The EPOCH of a record: that of the running records for PC objects, one more for the records of an apply that is fed, 0 for P
objects (R299, R300). -/
def Dev.epochOf (d : Dev) (stage : Option ApplyKind) (key : Nat) : Nat :=
  match stage, Machine.cardOfKey key with
  | some _, _ => d.ledger.epoch + 1
  | none, some c => if c.persist = .PC then d.ledger.epoch else 0
  | none, none => 0

/-- Places a record: the pairs that it has and that are in service, and as many free ones as it needs beside them; SEQ goes on from
the record that it follows. -/
def Dev.place (d : Dev) (others : List Place) (stage : Option ApplyKind) (w : Write) : Place :=
  let old := d.placeOf stage w.key
  let seq := match old.orElse fun _ => d.placeOf none w.key with | some p => p.seq | none => 0
  let keep := (((old.map Place.pairs).getD []).filter fun p => !d.pairRetired p).take w.pairs
  let used := (d.ledger.places ++ others).flatMap Place.pairs
  ⟨w.key, stage, keep ++ d.freePairs used (w.pairs - keep.length), (seq + 1) % 2 ^ 32⟩

/-- The places of the records that a group writes. -/
def Dev.placeAll (d : Dev) (records : List (Option ApplyKind × Write)) : List Place :=
  records.foldl (fun ps r => ps ++ [d.place ps r.1 r.2]) []

/-! ### The wear rings (R302) -/

/-- The registers of a family. -/
def regs (n : Nat) (f : Nat → Reg) : List Reg := (List.range n).map f

/-- The persistent counters that each wear ring holds (R302): NVM wear in ring 1, the counters of the other chapters in rings 4 to 7
(DESIGN CHOICE, log 88). -/
def ringRegs : Nat → List Reg
  | 1 => regs 4 Obj.REGION_PROGRAMS ++
      [Obj.PAIRS_RETIRED, Obj.LOG_CARRIED, Obj.PAGES_REFRESHED, Obj.NVM_ERRORS, Obj.NVM_TRANSIENT]
  | 4 => [Obj.INDEX_RESERVED] ++ regs 4 Obj.XCHK_ERRORS ++ regs 4 Obj.XCHK_TRANSIENT ++ regs 4 Obj.ST_RUNS
  | 5 => regs 4 Obj.ST_FAILS ++ [Obj.PARITY_ERRORS, Obj.PARITY_TRANSIENT, Obj.RERANGE_COUNT] ++ regs 4 Obj.SURGE_FREEZES ++
      [Obj.HOLDUPS, Obj.SHUTDOWNS]
  | 6 => regs 3 Obj.PHY_TRANSIENT ++ [Obj.CONFIG_CHANGED_COUNT, Obj.REG_RETRIES, Obj.WAKE_FAILS, Obj.THROTTLE_TIME,
       Obj.APP_RESETS, Obj.INDEX_LOST, Obj.STAGE_DAMAGE_LOOP, Obj.STAGE_DAMAGE_ACT,
       publicationBlocks]
  | 7 => [Obj.STAGE_CYCLES_LOOP, Obj.STAGE_CYCLES_ACT] ++ regs 4 Obj.ENERGY_TOTAL
  | _ => []

/-- The words of some bytes, the first word short where they fill no whole number. -/
def slotWords (b : List Byte) : List Nat :=
  let n := ceilDiv b.length 4
  let b := List.replicate (4 * n - b.length) 0 ++ b
  (List.range n).map fun k => ofBe ((b.drop (4 * k)).take 4)

/-- The words that ring 0 holds (R302): the generations, two to a word, and the copy of the epoch selector. -/
def generationWords (generation : List Nat) (epoch : Nat) : List Nat :=
  (List.range 4).map (fun k => generation.getD (2 * k) 0 * 65536 + generation.getD (2 * k + 1) 0) ++ [epoch % 256]

/-- The words of a ring of counters, a counter's new value taking the place of its committed one. -/
def Dev.ringWords (d : Dev) (ring : Nat) (values : List Write) : List Nat :=
  (ringRegs ring).flatMap fun r =>
    let v := match values.find? fun w => w.key == r.key with | some w => w.value | none => d.committed r
    slotWords (v.toBytes r.size)

/-- The value that INDEX_RESERVED takes with a reservation (R472). -/
def Dev.nextReserved (d : Dev) : Nat := (d.committed Obj.INDEX_RESERVED).toNat + 256

/-- The reserved blocks after the next reservation of publication counters (R374). -/
def Dev.nextPublicationBlocks (d : Dev) : Nat := (d.committed publicationBlocks).toNat + 1

/-- The slots of the wear rings that an item writes (R269, R302, R374, R472). -/
def Dev.slotsOf (d : Dev) : Item → List (Nat × List Nat)
  | .ring 0 _ => [(0, generationWords d.ledger.generation d.ledger.epoch)]
  | .ring k values => [(k, d.ringWords k values)]
  | .internal (.generation s g) _ => [(0, generationWords (d.ledger.generation.set s g) d.ledger.epoch)]
  | .internal .indexReserved _ => [(4, d.ringWords 4 [Obj.INDEX_RESERVED.write d.nextReserved])]
  | .internal .pubReserved _ => [(6, d.ringWords 6 [publicationBlocks.write d.nextPublicationBlocks])]
  | _ => []

/-! ### The plan of a group (R293, R297) -/

/-- What an accepted item does to the client table (R278). -/
def Dev.clientsAfter (items : List Item) (d : Dev) : List ClientSlot :=
  (items.foldl (fun d i => match i with
    | .request p _ _ => d.when (!(p.applies || p.rq.id == 0)) (Dev.markAccepted p.rq.client.toNat p.rq.id.toNat)
    | .selector kind => (match d.ledger.applies.find? fun a => decide (a.kind = kind) with
      | some a => d.when (a.request.rq.id != 0) (Dev.markAccepted a.request.rq.client.toNat a.request.rq.id.toNat)
      | none => d)
    | _ => d) d).ledger.clients

/-- A checkpoint holds the client table as its group will leave it (R303). -/
def Dev.fillCheckpoints (count : Nat) (d : Dev) : Dev :=
  let items := d.ledger.buffer.take count
  let table := d.clientsAfter items
  let filled := items.map fun i => match i with | .checkpoint _ since => .checkpoint table since | i => i
  d.setLedger fun l => { l with buffer := filled ++ l.buffer.drop count }

/-- The bytes of a record as a group writes it; a selector item's record holds the epoch that it makes current (R300). -/
def Dev.recordOf (d : Dev) (r : Option ApplyKind × Write) (seq : Nat) : List Byte :=
  if r.2 = ⟨selectorKey, .bytes []⟩ then recordBytes ⟨selectorKey, .bytes (u8 (d.ledger.epoch + 1))⟩ 0 seq
  else recordBytes r.2 (d.epochOf r.1 r.2.key) seq

/-- The COPY pages of a group with their payloads. -/
def Dev.copyPages (d : Dev) (records : List (Option ApplyKind × Write)) (places : List Place) : List (Nat × List Byte) :=
  (records.zip places).flatMap fun x => x.2.pairs.zip (payloadsOf (d.recordOf x.1 x.2.seq))

/-- The slots of a group with their payloads, RSEQ going on in each ring. -/
def slotPages : List Nat → List (Nat × List Nat) → List (PageTarget × List Byte)
  | _, [] => []
  | seqs, (r, words) :: rest =>
    let n := (seqs.getD r 0 + 1) % 2 ^ 32
    (.ring r, slotPayload n words) :: slotPages (seqs.set r n) rest

/-- The pages of a group in the order of R297, without their headers; where it would write none, one empty LOG page holds the
SEAL. -/
def Dev.pagesOf (d : Dev) (items : List Item) (carried : List LogItem) (places : List Place) : List (PageTarget × List Byte) :=
  let copies := d.copyPages (lastRecords (items.flatMap Item.records)) places
  let undo := copies.flatMap fun c => (undoPayloads c.1 (d.pairImage c.1)).map fun b => (PageTarget.journal, b)
  let log := payloadsOf ((logContents d.ledger.next items carried).flatMap LogContent.encode)
  let l := undo ++ copies.map (fun c => (PageTarget.copy c.1, c.2)) ++ slotPages d.ledger.heads.seqs (items.flatMap d.slotsOf) ++
    log.map fun b => (PageTarget.log, b)
  if l.isEmpty then [(.log, [])] else l

/-- The pages with their headers, SEAL in the last (R293, R297). -/
def sealLast (group : Nat) : List (PageTarget × List Byte) → List (PageTarget × List Byte)
  | [] => []
  | [(t, b)] => [(t, pageImage true group t b)]
  | (t, b) :: rest => (t, pageImage false group t b) :: sealLast group rest

/-- Starts a group of a number of items of the buffer's front, with what it carries forward. -/
def Dev.startGroup (count : Nat) (carried : List LogItem) (d : Dev) : Dev :=
  let d := d.fillCheckpoints count
  let items := d.ledger.buffer.take count
  let places := d.placeAll (lastRecords (items.flatMap Item.records))
  let plan := sealLast d.ledger.nextGroup (d.pagesOf items carried places)
  d.setLedger fun l => { l with
    group := some ⟨l.nextGroup, count, plan.length, plan.length, carried, plan, [], [], l.heads, places, true⟩
    nextGroup := nextGroupNo l.nextGroup
    deferring := false
    groupTimer := d.course.elapsed }

/-- A note that still waits for a group of other items (R303). -/
def Dev.noteWaits (d : Dev) : Item → Bool
  | .acked _ _ since | .checkpoint _ since => decide (d.course.elapsed < since + d.u Obj.ACK_PERSIST * secTicks)
  | _ => false

/-- GROUP_FORM (R269, R296, R298, R304): where no group runs and the buffer is not empty, a generation that the first entry needs is
committed first, then what must be carried forward, then the longest prefix of the buffer; a RETIRED item is next whatever is to be
carried. The entries of the group are formed with it (R478). Notes alone take a group of their own once none has formed within ACK_PERSIST (R303). -/
def Dev.formGroup (d : Dev) : Dev :=
  if d.ledger.group.isSome || d.stopped then d
  else if d.ledger.buffer.all d.noteWaits then d.setLedger fun l => { l with deferring := false }
  else
    let d := match d.ledger.buffer with
      | i :: _ => (match d.generationFor d.ledger.next i.entries with
        | some (s, g) => d.setLedger fun l => { l with buffer := .internal (.generation s g) [] :: l.buffer }
        | none => d)
      | [] => d
    let urgent := match d.ledger.buffer with | .internal (.retire _) _ :: _ => true | _ => false
    let carry := carryPrefix 28 0 d.toCarry
    let r := ceilDiv (carry.map fun i => i.content.bytes).sum 60
    if !carry.isEmpty && !urgent && (d.inTheWay r).all carry.contains then
      let d := d.checkEnergy r
      if d.energyCovers r then d.startGroup 0 carry else d.deferGroup
    else
      let n := d.prefixLen d.ledger.next [] d.ledger.buffer
      let items := d.ledger.buffer.take (max 1 n)
      let d := d.checkEnergy (roundsOf items)
      -- a group whose LOG pages cannot be claimed is not formed (R304, R305)
      if !(d.inTheWay (ceilDiv (items.map Item.logBytes).sum 60)).isEmpty then d.setLedger fun l => { l with deferring := false }
      else if n = 0 then d.deferGroup
      else (d.setLedger fun l => { l with
        buffer := (l.buffer.take n).map (Item.mapEntries d.formed) ++ l.buffer.drop n }).startGroup n []

/-! ### Rounds (R291, R297, R308) -/

/-- The head of a target's order. -/
def Heads.of (h : Heads) : PageTarget → Nat
  | .journal => h.journal
  | .log => h.log
  | .ring r => h.rings.getD r 0
  | .copy _ => 0

/-- The heads behind a place taken; a ring's newest slot has the next RSEQ. -/
def Heads.take (h : Heads) (t : PageTarget) (place : Nat) : Heads :=
  match t with
  | .journal => { h with journal := place + 1 }
  | .log => { h with log := place + 1 }
  | .ring r => { h with rings := h.rings.set r (place + 1), seqs := h.seqs.modify r fun n => (n + 1) % 2 ^ 32 }
  | .copy _ => h

/-- The page that the present round of a group programs: its target, the place that it takes and the image. -/
def Dev.roundPage (d : Dev) (g : Group) : Option (PageTarget × Nat × List Byte) :=
  (g.plan[g.done.length]?).map fun x => (x.1, d.inService x.1.order.1 x.1.order.2 x.1.order.2 (g.heads.of x.1), x.2)

/-- The pair of a place. -/
def PageTarget.pair (t : PageTarget) (place : Nat) : Nat := t.order.1 + place % t.order.2

/-- The pair that the present round of a group programs. -/
def Dev.roundPair (d : Dev) (g : Group) : Option Nat := (d.roundPage g).map fun x => x.1.pair x.2.1

/-- A group after its present round: the page programmed and counted in REGION_PROGRAMS (R314). -/
def Dev.runRound (g : Group) (d : Dev) : Group × Dev :=
  match d.roundPage g with
  | none => ({ g with left := g.left - 1 }, d)
  | some (t, place, image) =>
    let pair := t.pair place
    ({ g with
        left := g.left - 1
        done := g.done ++ [pair]
        logAt := (if t = .log then g.logAt ++ [place] else g.logAt)
        heads := g.heads.take t place },
      (d.program pair image).bump (Obj.REGION_PROGRAMS (regionOf pair)))

/-- Whether a group waits for the test of one of its pairs (R308). -/
def Dev.groupHeld (d : Dev) (g : Group) : Bool :=
  d.ledger.testing.any fun x => g.done.contains x.2 || d.roundPair g == some x.2

/-! ### What a pair leaves behind when it is retired (R308) -/

/-- The rounds that a group still runs with a COPY pair replaced: an undo record of the new pair before its page, wherever the old
pair's page was or is (R297, R308). -/
def Group.replace (g : Group) (old new : Nat) (image : List Byte) : Group :=
  match g.plan.find? fun x => decide (x.1 = .copy old) with
  | none => g
  | some (_, b) =>
    let k := g.done.length
    let swap := (g.plan.drop k).map fun x => if x.1 = .copy old then (PageTarget.copy new, x.2) else x
    let again := if g.done.contains old then [(PageTarget.copy new, b)] else []
    let undo := (undoPayloads new image).map fun p => (PageTarget.journal, pageImage false g.number .journal p)
    { g with
      plan := g.plan.take k ++ undo ++ again ++ swap
      rounds := g.rounds + undo.length + again.length
      left := g.left + undo.length + again.length
      places := g.places.map fun (p : Place) => { p with pairs := p.pairs.map fun q => if q = old then new else q } }

/-- The records on a retired COPY pair move to other pairs: those of the running group within it, the others in a group to come
(R308). -/
def Dev.moveRecords (pair : Nat) (d : Dev) : Dev :=
  let d := match d.ledger.group with
    | some g =>
      let used := (d.ledger.places ++ g.places).flatMap Place.pairs
      (match d.freePairs used 1 with
      | [new] => d.setLedger fun l => { l with group := some (g.replace pair new (d.pairImage new)) }
      | _ => d)
    | none => d
  let written := match d.ledger.group with | some g => g.places.map fun (p : Place) => (p.key, p.stage) | none => []
  (d.ledger.places.filter fun p => p.pairs.contains pair && !written.contains (p.key, p.stage)).foldl (fun d p =>
    match p.stage with
    | none => d.bufferInternal .values [⟨p.key, d.nvm.get p.key (dfltOf p.key)⟩]
    | some k => match d.ledger.staged.find? fun x => decide (x.1 = k) && x.2.key == p.key with
      | some x => d.bufferWait (.applyPart k [x.2])
      | none => d) d

/-! ### What the pages hold (R293, R299, R301, R302) -/

/-- The payload bytes of some pairs of a bank, one after the other. -/
def Dev.payloadAt (d : Dev) (bank : Nat) (pairs : List Nat) : List Byte := pairs.flatMap fun p => (d.page bank p).drop 4

/-- A copy record as a bank holds it. -/
structure CopyRead where
  seq : Nat
  value : List Byte
  /-- GROUP of the page that holds its first byte -/
  group : Nat
deriving DecidableEq, Repr

/-- The copy of a record in a bank, none where it is not intact (R293, R299). -/
def Dev.readCopy (d : Dev) (bank : Nat) (p : Place) : Option CopyRead :=
  let b := d.payloadAt bank p.pairs
  let len := ofBe ((b.drop 8).take 2)
  let record := b.take (10 + len)
  let ok := !d.ledger.banksRetired.getD bank false && decide (10 + len + 4 ≤ b.length) &&
    decide (b.take 3 = u16 (p.key / 256) ++ u8 (p.key % 256)) && decide ((b.drop (10 + len)).take 4 = u32 (crc32c record))
  if ok then some ⟨ofBe ((b.drop 4).take 4), (b.drop 10).take len, ofBe ((d.page bank (p.pairs.headD 0)).take 4) % 2 ^ 29⟩ else none

/-- Which copy of a record is used, and what follows (R301). -/
inductive CopyChoice where
  /-- both copies are the same record -/
  | same (c : CopyRead)
  /-- the copy of a bank is used, the other rewritten from it -/
  | rewrite (bank : Nat) (c : CopyRead)
  /-- copy A is used for want of a reason, both rewritten -/
  | tie (c : CopyRead)
  | lost
deriving DecidableEq, Repr

/-- The selection of a record's copy (R301), the group left open being given. -/
def chooseCopy (gOpen : Option Nat) : Option CopyRead → Option CopyRead → CopyChoice
  | some a, some b =>
    match serialCmp a.seq b.seq 32 with
    | .after => .rewrite 0 a
    | .before => .rewrite 1 b
    | _ =>
      if a.value = b.value then .same a
      else
        let ga := gOpen != some a.group
        let gb := gOpen != some b.group
        if ga && !gb then .rewrite 0 a else if gb && !ga then .rewrite 1 b else .tie a
  | some a, none => .rewrite 0 a
  | none, some b => .rewrite 1 b
  | none, none => .lost

/-- The words of an intact slot of a wear ring in a bank, with its RSEQ (R302). -/
def Dev.readSlot (d : Dev) (bank pair : Nat) : Option (Nat × List Nat) :=
  let b := (d.page bank pair).drop 4
  if d.ledger.banksRetired.getD bank false || decide ((b.drop 56).take 4 ≠ u32 (crc32c (b.take 56))) then none
  else some (ofBe (b.take 4), (List.range 13).map fun k => ofBe ((b.drop (4 + 4 * k)).take 4))

/-- The content of a wear ring: its intact slot with the highest RSEQ (R302). -/
def Dev.ringContent (d : Dev) (ring : Nat) : Option (List Nat) :=
  let slots := (List.range' (32 * ring) 32).flatMap fun p => [0, 1].filterMap fun b => d.readSlot b p
  match slots with
  | [] => none
  | s :: rest => some (rest.foldl (fun a x => if serialCmp a.1 x.1 32 == .before then x else a) s).2

/-- The registers of a ring read from its words. -/
def valuesOfWords : List Reg → List Nat → List Write
  | [], _ => []
  | r :: rest, words =>
    let n := ceilDiv r.size 4
    ⟨r.key, .num ((words.take n).foldl (fun a w => a * 2 ^ 32 + w) 0)⟩ :: valuesOfWords rest (words.drop n)

/-! ### The persistent counters (R302) -/

/-- The present values of some counters, as writes. -/
def Dev.snapshot (d : Dev) (rs : List Reg) : List Write := rs.map fun r => ⟨r.key, d.get r⟩

/-- The counters that a ring commit takes as they stand: all of a ring's but those that only their reservations raise
(R374, R472). -/
def Dev.ringValues (d : Dev) (ring : Nat) : List Write :=
  d.snapshot ((ringRegs ring).filter fun r => r.key != Obj.INDEX_RESERVED.key && r.key != publicationBlocks.key)

/-- The counts and sums for which the rings have no words: copy records (R299; DESIGN CHOICE, log 88). -/
def copiedCounters : List Reg :=
  regs 4 Obj.ENERGY_TODAY ++ regs 4 Obj.ENERGY_YESTERDAY ++ regs 8 Obj.TS_MAX ++ regs 8 Obj.TS_TESTS ++ regs 8 Obj.TS_TRANSIENT

/-- The copied counters that have changed since they were committed go to the buffer, ten to an item. -/
def Dev.commitCopied (d : Dev) : Dev :=
  let l := copiedCounters.filter fun r => decide (d.get r ≠ d.committed r)
  (List.range (ceilDiv l.length 10)).foldl (fun d k => d.bufferInternal .values (d.snapshot ((l.drop (10 * k)).take 10))) d

/-- A ring commit of every persistent counter (R302): ring 0, ring 1 for the NVM wear, rings 4 to 7 for the others, and the records
of those that the rings have no words for. -/
def Dev.ringCommit (d : Dev) : Dev :=
  let d := d.bufferWait (.ring 0 [])
  let d := [1, 4, 5, 6, 7].foldl (fun d k => d.bufferWait (.ring k (d.ringValues k))) d
  d.commitCopied.setLedger fun l => { l with ringCommit := d.course.elapsed }

/-- RING_PERSIST_EXPIRY (R302). -/
def Dev.ringPersist (d : Dev) : Dev :=
  (d.advanceTo (d.ledger.ringCommit + d.u Obj.RING_PERSIST * secTicks)).ringCommit

/-- Commits some copy records. -/
def Dev.commitAll (ws : List Write) (d : Dev) : Dev := ws.foldl (fun d w => d.commitKey w) d

/-- A ring's counters as its newest intact slot holds them (R302). -/
def Dev.reloadRing (ring : Nat) (d : Dev) : Dev :=
  let words := (d.ringContent ring).getD []
  if ring = 0 then d.setLedger fun l => { l with
    generation := (List.range 8).map fun s => if s % 2 = 0 then words.getD (s / 2) 0 / 65536 else words.getD (s / 2) 0 % 65536 }
  else d.commitAll (valuesOfWords (ringRegs ring) words)

/-! ### NVM faults and the margin pass (R308–R310) -/

/-- NVM_ERROR (R308): counted; the buffer and page tests start. -/
def Dev.nvmError (bank pair : Nat) (d : Dev) : Dev :=
  (d.bump Obj.NVM_ERRORS).setLedger fun l => { l with testing := l.testing ++ [(bank, pair)] }

/-- A bank is retired (R309). -/
def Dev.retireBank (bank : Nat) (d : Dev) : Dev :=
  if d.ledger.banksRetired.getD bank false then d else
    (d.setLedger fun l => { l with banksRetired := l.banksRetired.set bank true }).flagRaise Obj.NVM_FLAGS 5 0x5017 (u8 bank)

/-- REGION_PAGES: the pairs of each region that are in service (R292, R308). -/
def Dev.countPages (d : Dev) : Dev :=
  (List.range 4).foldl (fun d r => d.put (Obj.REGION_PAGES r)
    ((Obj.REGION_PAGES r).dflt.toNat - ((d.ledger.retiredPairs.map Prod.snd).filter fun p => regionOf p == r).eraseDups.length)) d

/-- A page pair is retired (R308, R313): its region loses a page and its records move; more than 64 of one bank retire the bank. -/
def Dev.retirePair (bank pair : Nat) (d : Dev) : Dev :=
  if d.pairRetired pair then d else
  let d := (d.bump Obj.PAIRS_RETIRED).flagRaise Obj.NVM_FLAGS 4 0x5016 (u8 bank ++ u16 pair)
  let d := d.setLedger fun l => { l with retiredPairs := l.retiredPairs ++ [(bank, pair)] }
  let d := d.countPages
  let d := (d.put Obj.LEDGER_CYCLE_BUDGET d.cycleBudget).checkLife
  let d := d.when (regionOf pair == 2) (Dev.moveRecords pair)
  d.when (decide (64 < (d.ledger.retiredPairs.filter fun p => p.1 == bank).length)) (Dev.retireBank bank)

/-- NVM_TEST_DONE (R308): the oldest test ends: transient, the pair retired, or the bank retired. -/
def Dev.nvmTestDone (bufferPass pagePass : Bool) (d : Dev) : Dev :=
  match d.ledger.testing with
  | [] => d
  | (bank, pair) :: rest =>
    let d := d.setLedger fun l => { l with testing := rest }
    if !bufferPass then d.retireBank bank
    else if !pagePass then d.retirePair bank pair
    else (d.bump Obj.NVM_TRANSIENT).raise 0x5015 (u8 bank ++ u16 pair)

/-- MARGIN_PASS_START (R310, R444): due MARGIN_INTERVAL after the last pass began, while no group runs and no throttle acts (DESIGN
CHOICE, log 91). -/
def Dev.marginStart (d : Dev) : Dev :=
  if d.ledger.margin || d.ledger.group.isSome || d.thermal.level != 0 then d else
    let d := d.advanceTo (d.ledger.marginAt + d.u Obj.MARGIN_INTERVAL * 86400 * secTicks)
    d.setLedger fun l => { l with margin := true, marginAt := d.course.elapsed }

/-- MARGIN_PASS_END (R310): the refreshes are counted, REFRESHED is set and 0x501A raised once for the pass. -/
def Dev.marginEnd (refreshed : Nat) (d : Dev) : Dev :=
  if !d.ledger.margin then d else
    let d := d.setLedger fun l => { l with margin := false }
    let d := (d.add Obj.PAGES_REFRESHED refreshed).put Obj.MARGIN_LAST d.courseNs
    let d := d.bufferInternal .values [Obj.MARGIN_LAST.write d.courseNs]
    d.when (decide (0 < refreshed)) (Dev.flagRaise Obj.NVM_FLAGS 8 0x501A (u32 refreshed))

end Sys2Proof.Machine
end

