-- ==== Sys2Proof/Machine/Reset.lean ====
section
/-! DEFINITION. The resets: a whole-device reset, a start after OFF, a reset of the application core alone, and the faults
of the SRAM that may end in one (R7, R13–R15, R22, R29, R43, R279, R371, R421, R425, R485–R488). -/

namespace Sys2Proof.Machine

/-- Changes the start's state. -/
def Dev.setStart (f : Start → Start) (d : Dev) : Dev := { d with start := f d.start }

/-- Changes the power controller's state. -/
def Dev.setPower (f : Power → Power) (d : Dev) : Dev := { d with power := f d.power }

/-- Changes the thermal supervision's state. -/
def Dev.setThermal (f : Thermal → Thermal) (d : Dev) : Dev := { d with thermal := f d.thermal }

/-- Changes the security state. -/
def Dev.setSecurity (f : Security → Security) (d : Dev) : Dev := { d with security := f d.security }

/-- Changes the loop link's and host ports' state. -/
def Dev.setLink (f : Link → Link) (d : Dev) : Dev := { d with link := f d.link }

/-- What the ledger store keeps over a whole-device reset (R291–R306): its pages, what is committed, and the group that was
left open with its items. -/
def Dev.ledgerKept (d : Dev) : Ledger :=
  let l := d.ledger
  { Ledger.reset with
    buffer := match l.openGroup, l.group with
      | some g, _ => l.buffer.take g.count
      | none, some g => l.buffer.take g.count
      | none, none => []
    openGroup := match l.openGroup with | some g => some g | none => l.group
    nextGroup := l.nextGroup
    pages := l.pages
    places := l.places
    heads := l.heads
    taken := l.taken
    log := l.log
    next := l.next
    generation := l.generation
    clients := l.clients
    epoch := l.epoch
    staged := l.staged
    subs := l.subs.map fun s => { s with timer := none, timeouts := 0, resend := true, formed := s.committed }
    retiredPairs := l.retiredPairs
    banksRetired := l.banksRetired
    ringCommit := d.course.elapsed
    marginAt := l.marginAt
    groupTimer := d.course.elapsed
    ownId := l.ownId
    abandoned := l.abandoned }

/-- What images, bundles, fuses and attested streams keep over a whole-device reset (R462–R467, R474–R476). -/
def Dev.securityKept (d : Dev) : Security :=
  let s := d.security
  { Security.reset with
    images := s.images
    bundles := s.bundles
    activeSlot := s.activeSlot
    runningSlot := s.runningSlot
    trialSlot := s.trialSlot
    onTrial := s.onTrial
    activeBundle := s.activeBundle
    fuses := s.fuses
    nextTree := s.nextTree
    streams := s.streams.map fun a => { a with fresh := true, closed := d.course.elapsed, waiting := [] } }

/-- The level whose threshold T_HOT reaches (R444). -/
def throttleLevel (t : F32) : Nat :=
  if F32.le (F32.ofInt 120) t then 3 else if F32.le (F32.ofInt 115) t then 2 else if F32.le (F32.ofInt 110) t then 1 else 0

/-- What thermal supervision keeps over a whole-device reset: ageing (R450, R453), and after a thermal shutdown the throttle level that
the present T_HOT gives (R447). -/
def Dev.thermalKept (cause : Nat) (d : Dev) : Thermal :=
  { Thermal.reset with
    level := if cause = 4 then throttleLevel (d.f Obj.T_HOT) else 0
    storeDue := d.thermal.storeDue
    storeLast := d.thermal.storeLast
    firstFreq := d.thermal.firstFreq
    day := d.thermal.day
    sinceSample := d.thermal.sinceSample }

/-- Calibrations that a reset cuts short show FAILED with reason 4 after it (R120). -/
def Dev.calsCut (d e : Dev) : Dev :=
  (List.range 4).foldl (fun e c => match (d.conv c).cal with
    | some k => e.put (Obj.CAL_STATUS c) (calStatus 4 4 k.done)
    | none => e) e

/-- The start joins RESET_HISTORY, the newest of eight records first (R485). -/
def Dev.noteReset (d : Dev) : Dev :=
  let record := u64 d.courseNs ++ u8 d.start.cause ++ u8 0 ++ u16 d.start.detail
  d.putB Obj.RESET_HISTORY ((record ++ d.b Obj.RESET_HISTORY).take 96)

/-- A whole-device reset with its cause (R7, R15, R485, R487): every volatile object at its default, NVM and OTP as they
are, the request counters of the HART masters kept (log 45), causes 2, 3 and 8 counted; a debug port that was unlocked locks (R481; log
104). -/
def Dev.wholeReset (cause detail : Nat) (d : Dev) : Dev :=
  let counts := cause == 2 || cause == 3 || cause == 8
  let e : Dev := { Dev.reset with
    nvm := d.nvm
    course := { Course.reset with elapsed := d.course.elapsed }
    ledger := d.ledgerKept
    engine := { Engine.reset with rows := d.engine.rows, rowsRetired := d.engine.rowsRetired }
    capture := { Capture.reset with banks := d.capture.banks }
    link := { Link.reset with
      masters := d.link.masters.map fun m => { HartMaster.reset with counter := m.counter } }
    security := d.securityKept
    thermal := d.thermalKept cause
    power := { Power.reset with
      lostAt := d.power.lostAt, hourStart := d.course.elapsed, dayStart := d.course.elapsed }
    device := { Device.reset with
      replies := d.device.replies, responses := d.device.responses, fresh := d.device.fresh, wpLow := d.device.wpLow }
    start := { Start.reset with
      cause := cause
      detail := detail
      cold := false
      loopCount := if counts then d.start.loopCount + 1 else d.start.loopCount
      loopLast := if counts then d.course.elapsed else d.start.loopLast
      watchdog := d.start.watchdog || d.outputs.watchdog
      sramRetired := d.start.sramRetired
      sramSpare := d.start.sramSpare
      shutdown := if cause = 4 then d.thermal.shutdown else none } }
  (d.calsCut e).when (decide (cause ≠ 0) && d.u Obj.DEBUG_STATE == 1) (Dev.raise 0x8009 [])

/-- A start after OFF, or after a loss of all power (R29, R43, R421, R485): the latched cause is gone, and the sources that the monitor
of OFF has found are present from the start (R402, R404) (DEDUCED, log 77). A store test falls due (R453). -/
def Dev.coldStart (d : Dev) : Dev :=
  let e := ((d.wholeReset 0 0).setStart fun s => { s with cold := true, loopCount := 0, watchdog := false }).setThermal fun t =>
    { t with storeDue := true }
  (List.range 4).foldl (fun e s => e.when (d.on (Obj.SRC_PRESENT s)) fun e =>
    (e.putOn (Obj.SRC_PRESENT s) true).setKey ⟨(Obj.SRC_VOLTAGE s).key, d.get (Obj.SRC_VOLTAGE s)⟩) e

/-! ### The application core alone (R13, R14, R279, R371, R486) -/

/-- APP_CORE_RESET (R13, R486): the core stops; a pending transition is dropped with its reply; every session closes. -/
def Dev.appReset (cause : AppResetCause) (d : Dev) : Dev :=
  if !d.device.appRunning then d else
    let d := (d.bump Obj.APP_RESETS).put Obj.APP_RESET_CAUSE cause.code
    let d := (d.setDevice fun v => { v with appRunning := false }).dropPending
    (d.closeSessions).setLink fun l => { l with hosts := l.hosts.map fun h => { h with holding := none } }

/-! ### SRAM faults (R22) -/

/-- SRAM_ECC_ERROR (R22): the bank is tested. -/
def Dev.sramError (b : SramBank) (d : Dev) : Dev :=
  d.setStart fun s => { s with sramTesting := setBit s.sramTesting b.no }

/-- SRAM_MARCH_TEST_DONE (R22): a lasting fault retires the bank: a system bank is rebuilt into bank 15, a wash bank
shrinks the buffer, bank 0 or 1 ends in a whole-device reset. -/
def Dev.marchDone (b : SramBank) (lasting : Bool) (d : Dev) : Dev :=
  if !bit d.start.sramTesting b.no then d else
    let d := d.setStart fun s => { s with sramTesting := clearBit s.sramTesting b.no }
    if !lasting then d else
      -- a fault of a bank 2 to 14 takes the spare, where that is whole and free; a second one is outside the promise
      let takes := match b with
        | .system n => decide (2 ≤ n.val) && decide (n.val < 15) && d.start.sramSpare.isNone && !bit d.start.sramRetired 15
        | .wash _ => false
      let d := d.setStart fun s => { s with
        sramRetired := setBit s.sramRetired b.no
        sramSpare := if takes then some b.no else s.sramSpare }
      match b with
      | .wash n => d.retireWashBank n
      | .system n => if n.val < 2 then d.wholeReset 3 n else d

end Sys2Proof.Machine
end

