-- ==== Sys2Proof/Machine/Power.lean ====
section
/-! DEFINITION. Power sources, profiles, sleep and wake (chapter 15). -/

namespace Sys2Proof.Machine

/-! ### Sources, ceiling and profiles (R402–R411) -/

/-- Whether a source is present (R404). -/
def Dev.present (d : Dev) (s : Nat) : Bool := d.on (Obj.SRC_PRESENT s)

/-- The order of the sources (R403): VLOC 0, SPoE A 1, SPoE B 2, the loop 3. -/
def Dev.sourceOrder (d : Dev) : List Nat := if d.u Obj.SRC_ORDER = 1 then [1, 2, 0, 3] else [0, 1, 2, 3]

/-- The source that carries the load: the first present one in the order (R403). -/
def Dev.carrier (d : Dev) : Option Nat := d.sourceOrder.find? d.present

/-- Whether any source is present. -/
def Dev.anySource (d : Dev) : Bool := (List.range 4).any d.present

/-- The ceiling of the present sources (R406), capped by the bypass (R425); none present leaves LEAN. -/
def Dev.sourceCeiling (d : Dev) : Nat :=
  max (if d.power.bypass then 1 else 0)
    (if d.present 0 then 0 else if d.present 1 || d.present 2 then 1 else 2)

/-- The ceiling of a throttle level (R444). -/
def thermalCeiling (level : Nat) : Nat := if 3 ≤ level then 2 else if level = 2 then 1 else 0

/-- The profile ceiling (R406, R445): the lower of the two, a higher code being a lower profile. -/
def Dev.ceiling (d : Dev) : Nat := max d.sourceCeiling (thermalCeiling d.thermal.level)

/-- The weight of a seat in LEAN (R408): NORMAL 2, PADDLE 1, OFF 0. -/
def seatWeight (mode : Nat) : Nat := if mode = 1 then 2 else if mode = 2 then 1 else 0

/-- The weights of the seats (R408): in ROTATE block 2300 holds none (R125). -/
def Dev.seatWeights (d : Dev) : List Nat := (List.range d.workSeats).map fun n => seatWeight (d.u (Obj.CV_MODE n))

/-- The first of some numbers at which their running sum exceeds a limit. -/
def firstBeyond (limit : Nat) (l : List Nat) : Option Nat :=
  (List.range l.length).find? fun k => decide (limit < (l.take (k + 1)).sum)

/-- PWR_CONFLICT (R436). -/
def pwrConflict (reason item : Nat) : Nat := reason * 2 ^ 24 + item * 2 ^ 16

/-- Whether one output is enabled in a mode that a profile forbids: 0 loop, 1 ADAC, 2 XDAC (R241). -/
def Dev.channelForbidden (d : Dev) (profile k : Nat) : Bool :=
  match k with
  | 0 => decide (1 ≤ profile) && d.outputs.source
  | 1 => d.on Obj.ADAC_ENABLE && (profile == 2 || (profile == 1 && d.u Obj.ADAC_RANGE == 2))
  | _ => d.on Obj.XDAC_ENABLE && profile == 2 && d.u Obj.XDAC_GAIN == 1

/-- Checks 1 to 3 of R410 against a profile: PWR_CONFLICT of the first that fails. -/
def Dev.profileConflict (d : Dev) (profile : Nat) : Option Nat :=
  match (List.range 3).find? (d.channelForbidden profile) with
  | some k => some (pwrConflict 1 k)
  | none =>
    if profile ≠ 2 then none else
      match firstBeyond 2 d.seatWeights with
      | some n => some (pwrConflict 2 n)
      | none =>
        match firstBeyond 1200 ((List.range 4).map fun n => iexcMicroamps (d.u (Obj.IEXC_LEVEL n))) with
        | some n => some (pwrConflict 3 n)
        | none => none

/-- The sums of R174 and R284 as a profile would have them. -/
def Dev.profileSums (d : Dev) (profile : Nat) : AdmitSet :=
  d.admitSetWith d.engineRunning d.marksRunning (d.u Obj.STROKE_PERIOD) profile

/-- The checks of R410 against the profile that a target would make active: the failure with the conflict objects set,
or the device. -/
def Dev.profileCheck (d : Dev) (target : Nat) : Except (Fail × Dev) Dev :=
  let p := max target d.ceiling
  match d.profileConflict p with
  | some c => .error (⟨0x08, 0⟩, d.put Obj.PWR_CONFLICT c)
  | none =>
    match (d.put Obj.PROFILE_ACTIVE p).underSums (d.profileSums p) with
    | .error c => .error (⟨0x08, c.2⟩, d.putConflict c)
    | .ok _ => .ok d

/-- The seats that a forced change powers down, in descending order until R408 holds (R411). -/
def Dev.seatsToDrop (d : Dev) (profile : Nat) : Nat :=
  if profile ≠ 2 then 0 else
    (List.range d.workSeats).foldr (fun n mask =>
      let kept := ((List.range d.workSeats).map fun m => if bit mask m then 0 else seatWeight (d.u (Obj.CV_MODE m))).sum
      if 2 < kept && seatWeight (d.u (Obj.CV_MODE n)) ≠ 0 then setBit mask n else mask) 0

/-- The outputs that a profile forbids, as a mask (R411). -/
def Dev.outputsToDrop (d : Dev) (profile : Nat) : Nat :=
  ((List.range 3).filter (d.channelForbidden profile)).foldl setBit 0

/-- A profile becomes active: seats, outputs and PHYs follow it, the sums' objects are those of its clock (R407, R411);
cross-check ends in LEAN and resumes after it (R408). -/
def Dev.setProfile (profile : Nat) (forced : Bool) (d : Dev) : Dev :=
  let old := d.u Obj.PROFILE_ACTIVE
  let d := d.rebaseClock.put Obj.PROFILE_ACTIVE profile
  let d := d.setPower fun p => { p with
    forced := forced
    lastCeiling := d.ceiling
    seatsDown := if forced then d.seatsToDrop profile else 0
    outputsOff := if forced then d.outputsToDrop profile else 0 }
  let d := (List.range 4).foldl (fun d n => d.applyMode n) d
  let d := (List.range 3).foldl (fun d p => d.when (!phyPermitted profile p) (Dev.linkDown p)) d
  let d := d.when (!phyPermitted profile 0) Dev.closeRingSessions
  let d := if profile = 2 then d.endComparison else if old = 2 then d.resumeCompare else d
  match d.underSums d.admitSet with
  | .ok e => e
  | .error _ => d

/-- Event 0x1003 (R410, R411). -/
def profileEvent (old new : Nat) (forced : Bool) : List Byte := u8 old ++ u8 new ++ u8 (flag forced)

/-! ### Transitions (R414) -/

/-- PWR_RESULT (R436). -/
def Dev.pwrResult (result kind agent reason : Nat) (d : Dev) : Dev :=
  d.put Obj.PWR_RESULT (result * 2 ^ 24 + kind * 2 ^ 16 + agent * 2 ^ 8 + reason)

/-- KIND of the transition that runs. -/
def Transition.kind : Transition → Nat
  | .profile k => k
  | .handshake k _ => k
  | .closing k => k

/-- A transition is refused (R414): a sleep entry is counted; events latched during it go into WAKE_CAUSE (R424). -/
def Dev.refuseTransition (kind agent reason : Nat) (d : Dev) : Dev :=
  let d := (d.pwrResult 2 kind agent reason).when (decide (3 ≤ kind)) (Dev.bump Obj.SLEEP_REFUSED)
  let d := d.flagRaise Obj.PWR_FLAGS 2 0x1004 (u8 kind ++ u8 agent ++ u8 reason)
  let d := d.when (decide (3 ≤ kind) && d.power.latched != 0) fun d => d.put Obj.WAKE_CAUSE d.power.latched
  d.setPower fun p => { p with running := none, latched := 0 }

/-- The transition that runs is abandoned (R414, R427). -/
def Dev.abandonTransition (d : Dev) : Dev :=
  match d.power.running, d.power.mode with
  | some t, _ => (d.pwrResult 4 t.kind 0 0).setPower fun p => { p with running := none, latched := 0 }
  | none, .waking s => d.pwrResult 4 (s + 2) 0 0
  | none, _ => d

/-- PROFILE_CHANGE_START (R410, R414): the queued profile change starts with the checks made again; a change that passes
waits for the boundary. -/
def Dev.profileChangeStart (d : Dev) : Dev :=
  match d.power.running, d.power.queued with
  | none, some k =>
    if 3 ≤ k || d.power.mode ≠ .on then d else
      let d := d.setPower fun p => { p with queued := none }
      match d.profileCheck k with
      | .error x => x.2.refuseTransition k 0 0xF0
      | .ok d => d.setPower fun p => { p with running := some (.profile k) }
  | _, _ => d

/-- What a stroke boundary brings: the profile change that waits for it, or, where the ceiling has risen since the profile was last
set, the return to the lower of PROFILE_TARGET and the ceiling (R406, R410, R411). -/
def Dev.profileBoundary (d : Dev) : Dev :=
  let old := d.u Obj.PROFILE_ACTIVE
  match d.power.running with
  | some (.profile k) =>
    let new := max k d.ceiling
    let d := (d.setProfile new false).pwrResult 1 k 0 0
    (d.setPower fun p => { p with running := none }).raise 0x1003 (profileEvent old new false)
  | _ =>
    let new := max (d.u Obj.PROFILE_TARGET) d.ceiling
    let risen := decide (d.ceiling < d.power.lastCeiling)
    let d := d.setPower fun p => { p with lastCeiling := d.ceiling }
    if risen && decide (new < old) then
      (d.setProfile new (d.power.forced && decide (d.u Obj.PROFILE_TARGET < new))).raise 0x1003 (profileEvent old new false)
    else d

/-- The ceiling looked at again (R406, R411, R445): a fall below the active profile is a forced change, which enters SAFE where
it switches something off or the engine sums fail; asleep or before the configuration is loaded only PROFILE_CEILING
moves. -/
def Dev.checkCeiling (d : Dev) : Dev :=
  let new := d.ceiling
  let old := d.u Obj.PROFILE_ACTIVE
  let d := d.put Obj.PROFILE_CEILING new
  if new ≤ old || d.stopped || !d.start.configured then d else
    let d := match d.power.running with
      | some (.profile k) => if k < new then d.abandonTransition else d
      | _ => d
    let phys := (List.range 3).any fun p => d.portUsable p && !phyPermitted new p
    let seats := (List.range 4).any fun n => bit (d.seatsToDrop new) n && (d.seat n).mode != 0
    let outs := d.outputsToDrop new != 0 && d.outputsToDrop new != d.power.outputsOff
    let d := d.setProfile new true
    let d := d.when (bit d.power.outputsOff 0) (Dev.put Obj.LOOP_CODE 0)
    let d := d.flagRaise Obj.PWR_FLAGS 1 0x1003 (profileEvent old new true)
    let sumsFail := match d.engineSums d.admitSet with | .error _ => true | .ok _ => false
    d.when (phys || seats || outs || sumsFail) (Dev.enterSafe 4 0xFFFF)

/-- VBB_LIMIT (R412). -/
def Dev.vbbLimit (d : Dev) : Dev := d.flagRaise Obj.PWR_FLAGS 7 0x100B []

/-- EXC_LEAN (R413): in LEAN, the measured current beyond 1.2 mA with the IEXC levels. -/
def Dev.excLean (current : F32) (d : Dev) : Dev :=
  if !d.lean then d else
    let d := d.putF Obj.XDAC_CURRENT current
    let iexc := F32.div (F32.ofInt ((List.range 4).map fun n => iexcMicroamps (d.u (Obj.IEXC_LEVEL n))).sum) (F32.ofInt 1000)
    let total := F32.add iexc current
    d.when (F32.lt (F32.ofRat 12 10) total) (Dev.flagRaise Obj.PWR_FLAGS 8 0x100C (f32b total))

/-! ### The handshake (R417, R418) -/

/-- Whether an injected conversion runs. -/
def Dev.injRuns (d : Dev) : Bool := d.seats.any fun s => s.inj.isSome

/-- Whether some enabled subscription on RING or S has entries beyond SUB_ACKED (R418). -/
def Dev.undelivered (d : Dev) : Bool :=
  (List.range 16).any fun u => d.on (Obj.SUB_ENABLE u) && decide (d.u (Obj.SUB_PORT u) ≤ 1) &&
    (let s := d.u (Obj.SUB_STREAM u)
     bit (d.u (Obj.STREAM_HEAD s)) 63 == false &&
       serialCmp (d.u (Obj.SUB_ACKED u)) (d.u (Obj.STREAM_HEAD s)) 48 == .before)

/-- Whether an agent answers DELAY (R418). -/
def Dev.agentDelays (d : Dev) (a : Nat) : Bool :=
  match a with
  | 1 => d.checkRuns || d.injRuns || d.xcheck.test.isSome
  | 2 => !d.engine.queue.isEmpty || d.engine.lanes.any fun l => l.testing
  | 3 => d.ledger.group.isSome || !d.ledger.outside.isEmpty ||
      decide (d.prefixLen d.ledger.next [] d.ledger.buffer < d.ledger.buffer.length)
  | 6 => d.net.ports.any (fun p => p.sending.isSome) || d.link.masters.any fun m => m.writes.any fun w => w.owed.isSome
  | 7 => d.undelivered
  | _ => false

/-- The reason with which an agent refuses a sleep entry of a kind at once (R418). -/
def Dev.agentRefuses (d : Dev) (kind a : Nat) : Option Nat :=
  match a with
  | 1 => if (List.range 4).any fun c => (d.conv c).cal.isSome then some 0x01 else none
  | 3 => if d.ledger.deferring then some 0x03 else none
  | 4 =>
    let used := d.u Obj.LOOP_PV != 0xFF
    let multi := d.on Obj.MULTIDROP
    if (used && !multi) || (multi && d.outputs.source) || (kind == 5 && (used || multi)) then some 0x04
    else if d.on Obj.ADAC_ENABLE then some 0x05 else none
  | 5 => if (List.range 32).any fun l => d.on (Obj.LANE_ENABLE l) && (d.laneTable l).any fun q =>
      opCode q.2 == 16 || opCode q.2 == 17 then some 0x06 else none
  | 6 => if d.u Obj.RING_STATE != 3 then some 0x07 else none
  | _ => none

/-- The reason with which an agent refuses when it would need more than 100 ms (R417, R418). -/
def agentReason (a : Nat) : Nat := [0xFE, 0x01, 0x02, 0x03, 0x04, 0x06, 0x07, 0x08].getD a 0xFE

/-- Whether an agent would answer ACCEPT now. -/
def Dev.agentAccepts (d : Dev) (kind a : Nat) : Bool := (d.agentRefuses kind a).isNone && !d.agentDelays a

/-- Whether going from one state to another would make an agent that has accepted answer otherwise: such a write is
refused with BUSY from the handshake to the end of the entry (R417). -/
def Dev.disturbsEntry (d e : Dev) : Bool :=
  match d.power.running with
  | some (.handshake k l) =>
    (List.range 8).any fun a => l.getD a (.queried 0 false) == .accepted && d.agentAccepts k a && !e.agentAccepts k a
  | some (.closing k) => (List.range 8).any fun a => d.agentAccepts k a && !e.agentAccepts k a
  | _ => false

/-- The store test is abandoned (R453): 1 holdup, 2 a sleep entry, 3 timeout, 4 out of range. -/
def Dev.storeTestFailed (reason : Nat) (d : Dev) : Dev :=
  if !d.thermal.storeTest then d else
    (d.setThermal fun t => { t with storeTest := false }).flagRaise Obj.THERM_FLAGS 8 0x700A (u8 reason)

/-- HANDSHAKE_START (R417): the queued sleep entry starts; every agent is queried. -/
def Dev.handshakeStart (d : Dev) : Dev :=
  match d.power.running, d.power.queued with
  | none, some k =>
    if k < 3 || d.power.mode ≠ .on then d else
      let d := d.storeTestFailed 2
      d.setPower fun p => { p with
        queued := none
        latched := 0
        running := some (.handshake k (List.replicate 8 (.queried d.course.elapsed false))) }
  | _, _ => d

/-- A request joins the queue (R414). A request waits there only while a transition runs: with none running, the one before it has
started; one that still waits is superseded (DEDUCED, log 56). -/
def Dev.queueTransition (kind : Nat) (d : Dev) : Dev :=
  let d := d.profileChangeStart.handshakeStart
  let d := match d.power.queued with
    | none => d
    | some k => (((d.pwrResult 3 k 0 0).bump Obj.TRANSITIONS_SUPERSEDED)).flagRaise Obj.PWR_FLAGS 3 0x1005 (u8 k)
  d.setPower fun p => { p with queued := some kind }

/-- Seats at the end of a sleep entry (R419, R423): what runs ends; an armed table waits for its next trigger. -/
def Seat.rest (s : Seat) : Seat :=
  { s with
    started := false, run := none, cont := none, delayEnd := none, startAt := none, held := false, check := none
    inj := none, aligns := [] }

/-- The blocks stop (R419, R427): nothing converts, no lane waits, no stroke runs, the wash SRAM is lost (R187), every
link is down. -/
def Dev.stopBlocks (d : Dev) : Dev :=
  let d := { d with
    seats := d.seats.map Seat.rest
    convs := d.convs.map fun (c : Conv) => { c with flight := [], last := none } }
  let d := (d.dropSlots.emptyChannels).endComparison
  let d := (List.range 3).foldl (fun d p => d.linkDown p) d
  (d.setOutputs fun o => { o with xdacRuns := [], xdacAc := false }).setCourse fun c => { c with
    running := false, awaiting := false }

/-- The HV die has no power: every output is off (R421, R427). -/
def Dev.outputsUnpowered (d : Dev) : Dev :=
  (d.setOutputs fun o => { Outputs.reset with source := o.source }).put Obj.ADAC_CODE 0

/-- OFF (R421, R429): every domain is off but the OFF monitor. -/
def Dev.enterOff (d : Dev) : Dev :=
  let d := (d.closeSessions).stopBlocks.outputsUnpowered
  (d.setDevice fun v => { v with appRunning := false }).setPower fun p => { p with
    mode := .off, running := none, queued := none, latched := 0 }

/-- A sleep or holdup ends (R36, R47): the bound's growth over it is kept apart from the growth awake; no edge, offset or series
of samples goes back before the wake, and every source has from now on LOSS_TIME for its next sample (DEDUCED, log 67). -/
def Dev.growInSleep (d : Dev) : Dev :=
  let n := d.course.elapsed - d.power.asleepAt
  let g := d.asleepGrowth
  d.setCourse fun c => { c with
    sleepGrowth := c.sleepGrowth + g
    since := if c.sync = .holdover || c.sync = .free then c.since + n else c.since
    ppsEdge := none
    series := List.replicate 5 none
    sources := c.sources.map fun s => { s with
      last := if s.qualified then some c.elapsed else none, offset := none } }

/-- A wake starts (R422, R423) with the sources latched. -/
def Dev.startWake (cause : Nat) (d : Dev) : Dev :=
  let slept := match d.power.mode with | .doze => 1 | _ => 2
  let d := d.growInSleep
  (d.setPower fun p => { p with mode := .waking slept, attempts := 0, regulators := false, cause := cause }).put
    Obj.WAKE_CAUSE cause

/-- The device powers down at the seal of the closing group (R419): DONE and counted; a wake event latched meanwhile
wakes it at once (R424). -/
def Dev.powerDown (kind : Nat) (d : Dev) : Dev :=
  let d := (d.pwrResult 1 kind 0 0).bump Obj.SLEEP_ENTRIES
  let latched := d.power.latched
  if kind = 5 then d.enterOff else
    let d := d.stopBlocks.setPower fun p => { p with
      mode := if kind = 3 then .doze else .stow
      running := none
      latched := 0
      asleepAt := d.course.elapsed
      tcxo := if kind = 4 then false else p.tcxo
      bypass := if kind = 4 then false else p.bypass }
    d.when (latched != 0) (Dev.startWake latched)

/-- The closing phase (R419): the blocks stop, every session closes, and one group holds the buffer and the ring commits;
where the energy check defers it the entry is refused with 0xF1, the blocks not having stopped (DEDUCED, log 102). -/
def Dev.closingPhase (kind : Nat) (d : Dev) : Dev :=
  let go := d.stopBlocks.closeSessions.ringCommit.formGroup
  if go.ledger.group.isSome then go.setPower fun p => { p with running := some (.closing kind) }
  else d.closeSessions.ringCommit.formGroup.refuseTransition kind 0 0xF1

/-- AGENT_ANSWER (R417, R418): the answer that the agent's own conditions give, `ms` being the time it would still need
for what runs: a refusal ends the entry, a second DELAY counts as one, the last acceptance starts the closing phase. -/
def Dev.agentAnswer (a ms : Nat) (d : Dev) : Dev :=
  match d.power.running with
  | some (.handshake k l) =>
    match l.getD a .accepted with
    | .queried _ again =>
      match d.agentRefuses k a with
      | some r => d.refuseTransition k a r
      | none =>
        if d.agentDelays a then
          if again then d.refuseTransition k a (if a = 7 then 0x08 else 0xFE)
          else if 100 < ms then d.refuseTransition k a (agentReason a)
          else d.setPower fun p => { p with
            running := some (.handshake k (l.set a (.delayed (d.course.elapsed + ms * msTicks)))) }
        else
          let l := l.set a .accepted
          let d := d.setPower fun p => { p with running := some (.handshake k l) }
          d.when (l.all fun s => s == .accepted) (Dev.closingPhase k)
    | _ => d
  | _ => d

/-- AGENT_DELAY_EXPIRY (R417): the agent is queried again. -/
def Dev.agentDelayExpiry (a : Nat) (d : Dev) : Dev :=
  match d.power.running with
  | some (.handshake k l) =>
    match l.getD a .accepted with
    | .delayed due =>
      let d := d.advanceTo due
      d.setPower fun p => { p with running := some (.handshake k (l.set a (.queried d.course.elapsed true))) }
    | _ => d
  | _ => d

/-- AGENT_ANSWER_TIMEOUT (R417): no answer within 1 ms counts as REFUSE with 0xFE. -/
def Dev.agentTimeout (a : Nat) (d : Dev) : Dev :=
  match d.power.running with
  | some (.handshake k l) =>
    match l.getD a .accepted with
    | .queried t _ => (d.advanceTo (t + msTicks)).refuseTransition k a 0xFE
    | _ => d
  | _ => d

/-! ### Wake (R422–R426) -/

/-- WAKE_EVENT (R422, R424): an enabled source wakes from DOZE or STOW; during an entry or a wake it is latched.
None wakes in thermal shutdown (R447). -/
def Dev.wakeEvent (b : Nat) (d : Dev) : Dev :=
  if !bit (d.u Obj.WAKE_MASK) b || d.thermal.shutdown.isSome then d else
    match d.power.mode, d.power.running with
    | .doze, _ | .stow, _ => d.startWake (setBit 0 b)
    | .waking _, _ =>
      (d.put Obj.WAKE_CAUSE (setBit (d.u Obj.WAKE_CAUSE) b)).setPower fun p => { p with cause := setBit p.cause b }
    | .on, some (.handshake ..) | .on, some (.closing _) => d.setPower fun p => { p with latched := setBit p.latched b }
    | _, _ => d

/-- Whether the regulators are being started: in a wake, or after supply valid until t_K (R425, R489). -/
def Dev.regulating (d : Dev) : Bool :=
  match d.power.mode with
  | .waking _ => !d.power.regulators
  | .on => d.start.phase == .verify && !d.power.regulators
  | _ => false

/-- REGULATOR_ATTEMPT_FAIL (R425): three retries, then the bypass; where the bypass fails as well the wake has failed. -/
def Dev.regulatorFail (d : Dev) : Dev :=
  if !d.regulating then d else
    let n := d.power.attempts + 1
    let d := (d.advance (2 * msTicks)).setPower fun p => { p with attempts := n }
    if n ≤ 3 then d.bump Obj.REG_RETRIES
    else if n = 4 && !d.power.bypass then
      let d := d.setPower fun p => { p with bypass := true }
      (d.flagRaise Obj.PWR_FLAGS 4 0x1007 (u32 (d.u Obj.REG_RETRIES))).checkCeiling
    else match d.power.mode with
      | .waking _ =>
        let d := (d.abandonTransition.bump Obj.WAKE_FAILS).setFlag Obj.PWR_FLAGS 5
        d.setPower fun p => { p with
          mode := .stow, bypass := false, tcxo := false, wakeFailed := true, failedAt := d.course.elapsed, asleepAt := d.course.elapsed }
      | _ => d

/-- WAKE_RETRY (R425): a failed wake is repeated every 10 s. -/
def Dev.wakeRetry (d : Dev) : Dev :=
  match d.power.mode with
  | .stow => if d.power.wakeFailed && d.thermal.shutdown.isNone then
      (d.advanceTo (d.power.failedAt + 10 * secTicks)).startWake d.power.cause else d
  | _ => d

/-- REGULATORS_READY (R398, R423): the keeper serves host frames; a held SCL is released and its address acknowledged. -/
def Dev.regulatorsReady (d : Dev) : Dev :=
  if !d.regulating then d else d.setPower fun p => { p with regulators := true, readyAt := d.course.elapsed, stretch := none }

/-- RC is left (R42). -/
def Dev.leaveRc (d : Dev) : Dev :=
  if d.course.sync ≠ .rc then d
  else d.enterSync (if d.course.active.isSome then .acquiring else if d.course.everSet then .free else .unset)

/-- The strokes that a sleep or holdup passed over (R30, R47): boundaries missed, wraps counted one by one; the Cox
starts strokes at the next boundary (DEDUCED, log 33). -/
def Dev.resumeStrokes (d : Dev) : Dev :=
  if d.course.running || d.course.awaiting then d else
    let p := d.strokeTicks
    let c := d.course
    let ended := c.strokeStart + c.strokeLen
    let missed := if d.angle || c.elapsed ≤ ended then 0 else ceilDiv (c.elapsed - ended) p
    let count := d.u Obj.STROKE_COUNT + missed
    let wraps := count / 2 ^ 32
    let d := (d.put Obj.STROKE_COUNT (count % 2 ^ 32)).add Obj.STROKE_WRAPS wraps
    let d := (List.range wraps).foldl (fun d _ => d.flagRaise Obj.COURSE_FLAGS 5 0xA007 []) d
    d.setCourse fun c => { c with
      awaiting := true
      encBoundary := none
      strokeStart := c.elapsed
      strokeLen := if d.angle then stallTicks else ended + missed * p - c.elapsed
      segments := keepBack Segment.start (c.elapsed - historyTicks) (⟨c.elapsed, c.ticks, 0⟩ :: c.segments) }

/-- The course goes on in a wake (R47): the Cox starts strokes at the next boundary, and the active source is acquired again. -/
def Dev.wakeCourse (d : Dev) : Dev :=
  match d.power.mode with
  | .waking _ =>
    let d := d.resumeStrokes
    (match d.course.active with | some s => d.selectSource s | none => d)
  | _ => d

/-- TCXO_READY (R423). -/
def Dev.tcxoReady (d : Dev) : Dev := d.setPower fun p => { p with tcxo := true }

/-- TCXO_READY_TIMEOUT and TCXO_LOSS (R42, R426): the RC oscillator takes over and the sync state is RC. -/
def Dev.tcxoGone (d : Dev) : Dev :=
  let d := d.setPower fun p => { p with tcxo := false, checkedAt := d.course.elapsed }
  if d.course.sync = .rc then d else d.enterSync .rc

/-- TCXO_READY_TIMEOUT (R426): 5 ms after the regulators, only while the TCXO is waited for; a wake goes on on the RC oscillator. -/
def Dev.tcxoTimeout (d : Dev) : Dev :=
  if d.power.tcxo || !d.power.regulators then d else (d.advanceTo (d.power.readyAt + 5 * msTicks)).tcxoGone.wakeCourse

/-- TCXO_LOSS (R426): only while the device is awake. -/
def Dev.tcxoLoss (d : Dev) : Dev := if d.power.mode = .on && d.power.tcxo then d.tcxoGone else d

/-- TCXO_CHECK (R426): every 1 s in RC. -/
def Dev.tcxoCheck (present : Bool) (d : Dev) : Dev :=
  if d.course.sync ≠ .rc then d else
    let d := d.advanceTo (d.power.checkedAt + secTicks)
    (d.setPower fun p => { p with checkedAt := d.course.elapsed }).when present Dev.tcxoReady

/-- PLL_LOCKED (R42, R47, R423): RC is left; in a wake the course goes on. -/
def Dev.pllLocked (d : Dev) : Dev := if !d.power.tcxo then d else d.leaveRc.wakeCourse

/-- What every wake does to the switched domain (R423): lanes reset, queue and result registers emptied, process values
STALE. -/
def Dev.restartDomain (d : Dev) : Dev :=
  let d := (d.resetLanes.flushQueue).markStale (List.range 16)
  let d := (List.range 4).foldl (fun d n => (List.range 64).foldl (fun d j => d.put (Obj.RESULT n j) 0) d) d
  d.setDevice fun v => { v with appRunning := true }

/-- The first wake that succeeds after failed ones raises 0x1008 (R425). -/
def Dev.wakeSucceeded (d : Dev) : Dev :=
  d.when d.power.wakeFailed fun d =>
    (d.setPower fun p => { p with wakeFailed := false }).raise 0x1008 (u32 (d.u Obj.WAKE_FAILS))

/-- WAKE_APP_CORE_RUNNING (R423, R425): the device is back in the state it held; 0x1006, and 0x1008 after failed
wakes (DEDUCED, log 25). -/
def Dev.wakeDone (d : Dev) : Dev :=
  match d.power.mode with
  | .waking slept =>
    if d.start.holdup then d else
      let d := d.setPower fun p => { p with mode := .on }
      let d := d.restartDomain.resumeShadow
      let d := (d.pwrResult 1 (slept + 2) 0 0).raise 0x1006 (u8 (d.u Obj.WAKE_CAUSE) ++ u8 slept)
      d.wakeSucceeded.checkCeiling
  | _ => d

/-! ### Holdup (R427–R429) -/

/-- Holdup begins (R427). -/
def Dev.enterHoldup (d : Dev) : Dev :=
  let asleep := match d.power.mode with | .doze | .stow => true | _ => false
  let d := (d.abandonTransition.storeTestFailed 1).closeSessions
  let d := (d.when asleep Dev.growInSleep).stopBlocks
  let d := (d.setPower fun p => { p with mode := .holdup, tcxo := false, asleepAt := d.course.elapsed }).setDevice fun v =>
    { v with appRunning := false }
  let d := d.outputsUnpowered
  (d.bump Obj.HOLDUPS).flagRaise Obj.PWR_FLAGS 6 0x1009 (f32b (d.f Obj.STORE_VOLTAGE))

/-- The COMMAND items that no running group holds are removed (R428). -/
def Dev.removeCommands (d : Dev) : Dev :=
  let n := match d.ledger.group with | some g => g.count | none => 0
  (d.setLedger fun l => { l with
    buffer := l.buffer.take n ++ (l.buffer.drop n).filter fun i => match i with | .request .. => false | _ => true }).drainOutside

/-- HOLDUP_RESTART (R213, R428, R485, R493): the HV die starts as at power-up and latches LSRC again (DEDUCED, log 59); the start
joins RESET_HISTORY (DEDUCED, log 105). -/
def Dev.holdupRestart (lsrc : Bool) (d : Dev) : Dev :=
  let d := d.setOutputs fun o => { o with source := lsrc }
  let held := d.course.elapsed - d.power.asleepAt
  let ms := held / msTicks
  let d := (d.removeCommands).growInSleep
  let d := (d.setPower fun p => { p with mode := .waking 2, attempts := 0, regulators := false, cause := 0x80 }).put
    Obj.WAKE_CAUSE 0x80
  let d := d.setStart fun s => { s with
    phase := .load, configured := false, supply := d.course.elapsed, cause := 9, detail := min (ms / 100) 0xFFFF
    holdup := true, calibrate := [], safeCauses := [] }
  let d := ((d.put Obj.RESET_CAUSE 9).put Obj.RESET_DETAIL (min (ms / 100) 0xFFFF)).noteReset
  let d := d.bufferInternal .values [Obj.RESET_HISTORY.writeB (d.b Obj.RESET_HISTORY)]
  (d.dropPending.changeState .starting 0xFFFF).raise 0x100A (u32 ms)

/-- STORE_BELOW_HOLDUP_END (R429, R494): OFF without a handshake. -/
def Dev.storeExhausted (d : Dev) : Dev :=
  if d.anySource then d else
    match d.power.mode with
    | .holdup => d.enterOff
    | .on => if d.start.recovered then d else d.enterOff
    | _ => d

/-! ### Sources come and go (R402, R404, R421, R427, R428, R494) -/

/-- POWER_SOURCE_PRESENT (R402, R404, R422): a loop in source mode is never a source, SPoE needs its port powered; VLOC wakes; the first
source to return ends holdup or OFF (DEDUCED, log 51), where the HV die samples the LSRC pad. -/
def Dev.sourcePresent (s : Nat) (voltage : F32) (lsrc : Bool) (d : Dev) : Dev :=
  let fit := !(s == 3 && d.outputs.source) && (decide (s ≠ 1 ∧ s ≠ 2) || d.u (Obj.PODL_STATE (s - 1)) == 3 || d.power.mode == .off)
  let d := d.when fit (Dev.putF (Obj.SRC_VOLTAGE s) voltage)
  if !fit || d.present s then d else
    let alone := !d.anySource
    let d := (d.putOn (Obj.SRC_PRESENT s) true).when (s == 0) (Dev.wakeEvent 6)
    match d.power.mode with
    | .off => if alone && decide (d.power.lostAt + secTicks ≤ d.course.elapsed) then d.coldStart else d
    | m =>
      let d := (d.flagRaise Obj.PWR_FLAGS 0 0x1001 (u8 s)).put Obj.PROFILE_CEILING d.ceiling
      let ok := !(F32.lt (d.f Obj.STORE_VOLTAGE) (F32.ofInt 3))
      d.when (m == .holdup && ok) (Dev.holdupRestart lsrc)

/-- POWER_SOURCE_LOST (R402, R404, R422): the ceiling falls, VLOC wakes, or with the last source the device enters holdup, or before t_R waits on
the store (R494). -/
def Dev.sourceGone (s : Nat) (voltage : F32) (d : Dev) : Dev :=
  let d := d.putF (Obj.SRC_VOLTAGE s) voltage
  if !d.present s then d else
    let d := d.putOn (Obj.SRC_PRESENT s) false
    if d.power.mode = .off then
      d.when (!d.anySource) (Dev.setPower fun p => { p with lostAt := d.course.elapsed })
    else
      let d := d.flagRaise Obj.PWR_FLAGS 0 0x1002 (u8 s)
      if d.anySource then (d.when (s == 0) (Dev.wakeEvent 6)).checkCeiling
      else
        let d := d.setPower fun p => { p with lostAt := d.course.elapsed }
        if d.start.recovered && d.power.mode ≠ .holdup then d.enterHoldup else d

/-- OFF_BUTTON_EXIT (R421): the monitor needs a source. -/
def Dev.offButtons (d : Dev) : Dev := if d.power.mode = .off && d.anySource then d.coldStart else d

/-! ### Heartbeat (R430, R448) -/

/-- HEARTBEAT (R430, R448): the HV die uses the higher of its own readings and the keeper's. -/
def Dev.heartbeat (ts6 ts7 : F32) (d : Dev) : Dev :=
  if d.power.mode = .off then d else
    let d := d.setOutputs fun o => { o with
      beating := true, beatAt := d.course.elapsed, sent6 := d.f (Obj.TS_EFFECTIVE 6), sent7 := d.f (Obj.TS_EFFECTIVE 7) }
    (d.hvLimit ts6).actLimit ts7

/-- HEARTBEAT_WATCHDOG (R12, R218, R235, R430): 1 s after the last heartbeat, row 2 at once unless no load has been made yet, ACT at the copy of ADAC_SAFE, the WATCHDOG flag kept. -/
def Dev.heartbeatLost (d : Dev) : Dev :=
  if d.power.mode = .off || d.power.mode = .holdup then d else
    let d := d.advanceTo (d.outputs.beatAt + secTicks)
    let d := d.setOutputs fun o => { o with
      watchdog := true, beating := false, row := if 2 < o.row then 2 else o.row
      adacSource := if d.adacOn then 1 else o.adacSource }
    (d.when d.adacOn (Dev.put Obj.ADAC_CODE d.outputs.adacSafe)).setStart fun s => { s with watchdog := true }

/-! ### Energy (R432, R433) -/

/-- The Wh of a power in W over 1 ms. -/
def milliWattHours (p : F32) : F64 := F64.div (F64.ofF32 p) (F64.nat 3600000)

/-- POWER_MEAN_24H from the whole hours held (R432). -/
def Dev.powerMean (d : Dev) : F32 :=
  match d.power.hours with
  | [] => F32.zero
  | l => F32.ofF64 (F64.div (F64.sum l) (F64.nat l.length))

/-- ENERGY_INTEGRATE (R432): every 1 ms; at the end of an hour of elapsed time the mean is formed anew. -/
def Dev.energyIntegrate (powers : List F32) (d : Dev) : Dev :=
  if d.power.mode = .off then d else
    let d := (List.range 4).foldl (fun d s =>
      let p := powers.getD s F32.zero
      let e := milliWattHours p
      let d := d.putF (Obj.SRC_POWER s) p
      let d := d.putF (Obj.ENERGY_TODAY s) (F32.ofF64 (F64.add (F64.ofF32 (d.f (Obj.ENERGY_TODAY s))) e))
      (d.putF64 (Obj.ENERGY_TOTAL s) (F64.add (d.f64 (Obj.ENERGY_TOTAL s)) e)).setPower fun q => { q with
        hourEnergy := F64.add q.hourEnergy e }) d
    let d := d.setThermal fun t => { t with
      upToday := (List.range 3).map fun p => t.upToday.getD p 0 + flag (d.portUp p)
      lockedToday := t.lockedToday + flag (decide (d.course.sync = .locked) && decide (d.course.active ≠ some .loopMarker)) }
    if d.course.elapsed < d.power.hourStart + 3600 * secTicks then d else
      let d := d.setPower fun q => { q with
        hours := (q.hourEnergy :: q.hours).take 24, hourEnergy := 0, hourStart := q.hourStart + 3600 * secTicks }
      d.putF Obj.POWER_MEAN_24H d.powerMean

/-- BATT_ENERGY: linear interpolation of BATT_CURVE, clamped at its ends (R433). -/
def battEnergy (b : List Byte) (v : F32) : Nat → F32
  | 0 => blockF b 1
  | k + 1 =>
    let x0 := blockF b (2 * k)
    let y0 := blockF b (2 * k + 1)
    if F32.lt v x0 then battEnergy b v k
    else if b.length ≤ 8 * (k + 1) then y0
    else
      let x1 := blockF b (2 * k + 2)
      let y1 := blockF b (2 * k + 3)
      F32.add y0 (F32.div (F32.mul (F32.sub y1 y0) (F32.sub v x0)) (F32.sub x1 x0))

/-- AUTONOMY_UPDATE (R433): once an hour; no number while the curve is empty or VLOC is lost. -/
def Dev.autonomyUpdate (vloc : F32) (d : Dev) : Dev :=
  let b := d.b Obj.BATT_CURVE
  let before := d.f Obj.AUTONOMY
  if b.isEmpty || !d.present 0 then d.putF Obj.AUTONOMY F32.qnan else
    let e := battEnergy b vloc (b.length / 8)
    let a := F32.div e (d.f Obj.POWER_MEAN_24H)
    let d := (d.putF Obj.BATT_ENERGY e).putF Obj.AUTONOMY a
    let falls := F32.lt a (d.f Obj.AUTONOMY_WARN) && !F32.lt before (d.f Obj.AUTONOMY_WARN)
    d.when falls (Dev.flagFirst Obj.PWR_FLAGS 9 0x100D (f32b a))

/-- The check of BATT_CURVE (R433). -/
def battCurveOk (b : List Byte) : Bool :=
  b.isEmpty || (decide (16 ≤ b.length) && decide (b.length ≤ 64) && b.length % 8 == 0 &&
    (List.range (b.length / 4)).all (fun k => F32.isFinite (blockF b k)) &&
    (List.range (b.length / 8 - 1)).all fun k =>
      F32.lt (blockF b (2 * k)) (blockF b (2 * k + 2)) && F32.le (blockF b (2 * k + 1)) (blockF b (2 * k + 3)))

/-- PWR_STATE (R436). -/
def Dev.pwrState (d : Dev) : Nat :=
  let t := match d.power.mode, d.power.running with
    | .waking _, _ => 4
    | _, some (.profile _) => 1
    | _, some (.handshake ..) => 2
    | _, some (.closing _) => 3
    | _, none => 0
  d.u Obj.PROFILE_ACTIVE * 2 ^ 14 + d.ceiling * 2 ^ 12 + t * 2 ^ 9 + flag d.power.queued.isSome * 2 ^ 8 +
    flag d.power.bypass * 2 ^ 7 + flag d.power.forced * 2 ^ 6 + flag (d.present 3) * 8 + flag (d.present 2) * 4 +
    flag (d.present 1) * 2 + flag (d.present 0)

end Sys2Proof.Machine
end

