-- ==== Sys2Proof/Machine/Thermal.lean ====
section
/-! DEFINITION. Thermal supervision and ageing prediction (chapter 16). -/

namespace Sys2Proof.Machine

/-! ### Sensors (R438–R442) -/

/-- The neighbours of a sensor (R438). -/
def neighbours (i : Nat) : List Nat :=
  [[1, 2, 5], [0, 5], [0, 3, 4], [2, 4], [2, 3], [0, 1, 6, 7], [5, 7], [5, 6]].getD i []

/-- Whether a sensor lies on the HV die (R438). -/
def onHvDie (i : Nat) : Bool := decide (6 ≤ i)

/-- TS_STATUS of a sensor: 0 OK, 1 COUNTING, 2 TESTING, 3 RETIRED (R440). -/
def Dev.sensorStatus (d : Dev) (i : Nat) : Nat := d.u (Obj.TS_STATUS i)

/-- Whether a sensor is usable as a neighbour (R439). -/
def Dev.sensorUsable (d : Dev) (i : Nat) : Bool := decide (d.sensorStatus i ≤ 1)

/-- The state of a sensor. -/
def Dev.sensor (d : Dev) (i : Nat) : Sensor := d.thermal.sensors.getD i ⟨0, 0, 0, []⟩

/-- Changes the state of a sensor. -/
def Dev.setSensor (i : Nat) (f : Sensor → Sensor) (d : Dev) : Dev :=
  d.setThermal fun t => { t with sensors := t.sensors.modify i f }

/-- The rise of a sensor over its die's power (R439). -/
def Dev.rise (d : Dev) (i : Nat) : F64 :=
  F64.mul (F64.ofF32 (d.f (Obj.TS_RTH i))) (F64.ofF32 (d.f (if onHvDie i then Obj.THERM_P_HV else Obj.THERM_P_MS)))

/-- The model estimate E_i from the usable neighbours, none without one (R439). -/
def Dev.estimate (d : Dev) (i : Nat) : Option F64 :=
  let us := (neighbours i).filter d.sensorUsable
  if us.isEmpty then none else
    let terms := us.map fun j => F64.sub (F64.add (F64.ofF32 (d.f (Obj.TS_RAW j))) (d.rise i)) (d.rise j)
    some (F64.mul (F64.div (F64.nat 1) (F64.nat us.length)) (F64.sum terms))

/-- The deviation T_i − E_i (R441). -/
def Dev.deviation (d : Dev) (i : Nat) : Option F64 :=
  (d.estimate i).map fun e => F64.sub (F64.ofF32 (d.f (Obj.TS_RAW i))) e

/-- A sensor retired (R442). -/
def Dev.retireSensor (i reason : Nat) (d : Dev) : Dev :=
  let mask := setBit (d.u Obj.SENSORS_RETIRED) i
  let d := (d.put (Obj.TS_STATUS i) 3).put Obj.SENSORS_RETIRED mask
  let d := d.bufferInternal .retired [Obj.SENSORS_RETIRED.write (clearMask mask (d.device.unretired / 256))]
  d.flagRaise Obj.THERM_FLAGS 5 0x7003 (u8 i ++ u8 reason)

/-- A sensor is replaced by its estimate while the throttle acts: the fall timer restarts (R446). -/
def Dev.holdFall (i : Nat) (d : Dev) : Dev :=
  if d.thermal.level = 0 then d else
    let now := d.course.elapsed
    let d := d.setThermal fun t => { t with
      below := t.below.map fun _ => now, fallHold := some (now + 10 * secTicks) }
    d.flagRaise Obj.THERM_FLAGS 6 0x7007 (u8 i)

/-- Whether a sensor has passed three tests within one hour (R442). -/
def Sensor.passedThrice (s : Sensor) : Bool :=
  match s.passes with
  | a :: _ :: c :: _ => decide (a ≤ c + 3600 * secTicks)
  | _ => false

/-- One sensor's count at a sample (R441, R442); a sample within 6 °C ends the row of tests after which it still deviated (DEDUCED,
log 103). -/
def Dev.countSensor (dev : List (Option F64)) (i : Nat) (d : Dev) : Dev :=
  if !d.sensorUsable i then d else
    match dev.getD i none with
    | none => d
    | some x =>
      if F64.lt (F64.nat 6) (F64.abs x) then
        if (d.sensor i).count = 0 && decide (d.course.elapsed < (d.sensor i).quiet) then d
        else (d.setSensor i fun s => { s with count := s.count + 1, deviation := x }).put (Obj.TS_STATUS i) 1
      else (d.setSensor i fun s => { s with count := 0, passes := [] }).put (Obj.TS_STATUS i) 0

/-- Whether the test of one sensor goes before that of another (R441): the one that reached three samples first, of two that reached
them together the one with the larger deviation. -/
def Sensor.testedBefore (a b : Sensor) : Bool :=
  decide (b.count < a.count) || (a.count == b.count && F64.lt (F64.abs b.deviation) (F64.abs a.deviation))

/-- The sensor that is tested next, of those with three deviating samples (R441). -/
def Dev.nextTest (d : Dev) : Option Nat :=
  ((List.range 8).filter fun i => d.sensorStatus i == 1 && decide (3 ≤ (d.sensor i).count)).foldl (fun b i =>
    match b with
    | none => some i
    | some j => if (d.sensor i).testedBefore (d.sensor j) then some i else some j) none

/-- A self-test starts, or a sensor that has passed three within one hour and still deviates is retired (R441, R442). -/
def Dev.startSensorTest (d : Dev) : Dev :=
  if d.thermal.testing.isSome then d else
    match d.nextTest with
    | none => d
    | some i =>
      if (d.sensor i).passedThrice then ((d.retireSensor i 2).setSensor i fun s => { s with count := 0 }).holdFall i
      else
        let d := (d.setThermal fun t => { t with testing := some i }).put (Obj.TS_STATUS i) 2
        let d := d.bump (Obj.TS_TESTS i)
        let x := F32.ofF64 (d.sensor i).deviation
        (d.flagRaise Obj.THERM_FLAGS 3 0x7001 (u8 i ++ f32b x)).holdFall i

/-- The effective reading of a sensor, and whether it has no usable neighbour (R440). -/
def Dev.effective (d : Dev) (i : Nat) : F32 × Bool :=
  if d.sensorUsable i then (d.f (Obj.TS_RAW i), false) else
    match d.estimate i with
    | some e => (F32.ofF64 (F64.add e (F64.nat 5)), false)
    | none =>
      match (List.range 8).filter fun j => j != i && onHvDie j == onHvDie i && d.sensorUsable j with
      | [] => (F32.ofInt 130, true)
      | j :: rest =>
        let top := rest.foldl (fun m k => F32.max m (d.f (Obj.TS_RAW k))) (d.f (Obj.TS_RAW j))
        (F32.add top (F32.ofInt 5), true)

/-- TS_MODEL, TS_EFFECTIVE and TS_MAX of a sensor, and NO_NEIGHBOUR where it begins (R440, R457). -/
def Dev.showSensor (i : Nat) (d : Dev) : Dev :=
  let e := d.effective i
  let d := match d.estimate i with | some x => d.putF (Obj.TS_MODEL i) (F32.ofF64 x) | none => d
  let d := d.putF (Obj.TS_EFFECTIVE i) e.1
  let d := d.when (F32.lt (d.f (Obj.TS_MAX i)) e.1) (Dev.putF (Obj.TS_MAX i) e.1)
  let was := bit d.thermal.alone i
  let d := d.setThermal fun t => { t with alone := if e.2 then setBit t.alone i else clearBit t.alone i }
  d.when (e.2 && !was) (Dev.flagRaise Obj.THERM_FLAGS 9 0x700B (u8 i))

/-- The sensor with the highest effective reading (R443). -/
def Dev.hot (d : Dev) : Nat :=
  (List.range' 1 7).foldl (fun b i =>
    if F32.lt (d.f (Obj.TS_EFFECTIVE b)) (d.f (Obj.TS_EFFECTIVE i)) then i else b) 0

/-- Every sensor is shown by its status, and T_HOT (R440, R443). -/
def Dev.showSensors (d : Dev) : Dev :=
  let d := (List.range 8).foldl (fun d i => d.showSensor i) d
  d.putF Obj.T_HOT (d.f (Obj.TS_EFFECTIVE d.hot))

/-! ### Watch, throttle and shutdown (R443–R447) -/

/-- Watch sampling (R443). -/
def Dev.watchSample (d : Dev) : Dev :=
  let t := d.f Obj.T_HOT
  if F32.le (F32.ofInt 95) t then
    let was := d.thermal.watch
    let d := d.setThermal fun v => { v with watch := true, cool := none }
    d.when (!was) (Dev.flagRaise Obj.THERM_FLAGS 0 0x7004 (u8 d.hot ++ f32b t))
  else d.setThermal fun v => { v with
    cool := if v.watch then some (v.cool.getD d.course.elapsed) else none }

/-- WATCH_EXIT (R443): T_HOT has stayed below T_WATCH for 10 s. -/
def Dev.watchExit (d : Dev) : Dev :=
  match d.thermal.cool with
  | none => d
  | some t => (d.advanceTo (t + 10 * secTicks)).setThermal fun v => { v with watch := false, cool := none }

/-- The release temperature of a level (R444). -/
def releaseBelow (level : Nat) : F32 := F32.ofInt ([0, 100, 105, 110].getD level 0)

/-- A change of throttle level (R445). -/
def Dev.setThrottle (new : Nat) (d : Dev) : Dev :=
  let old := d.thermal.level
  let d := d.setThermal fun v => { v with level := new, below := none }
  (d.flagRaise Obj.THERM_FLAGS 1 0x7005 (u8 old ++ u8 new ++ u8 d.hot)).checkCeiling

/-- The throttle at a sample (R445): it rises at once; below the release temperature its fall timer runs. -/
def Dev.throttleSample (d : Dev) : Dev :=
  let t := d.f Obj.T_HOT
  let l := d.thermal.level
  if l < throttleLevel t then d.setThrottle (throttleLevel t)
  else if l ≠ 0 && F32.lt t (releaseBelow l) then
    d.setThermal fun v => { v with below := some (v.below.getD d.course.elapsed) }
  else d.setThermal fun v => { v with below := none }

/-- THROTTLE_FALL (R445, R446): the level falls by one when its fall timer ends; the timer of the next level starts at
once where T_HOT is below its release too. -/
def Dev.throttleFall (d : Dev) : Dev :=
  match d.thermal.below with
  | none => d
  | some t =>
    if d.thermal.level = 0 then d else
      let d := d.advanceTo (max (t + 10 * secTicks) (d.thermal.fallHold.getD 0))
      let d := d.setThrottle (d.thermal.level - 1)
      d.throttleSample

/-- Thermal shutdown (R311, R447): the running round finishes, the rest of its group is abandoned; every block stops, a wake in progress
included, the HV die drives 3.55 mA and switches ACT off. -/
def Dev.thermalShutdown (d : Dev) : Dev :=
  let h := d.hot
  let d := match d.ledger.group with
    | some g =>
      if 1 < g.left then
        let r := if d.groupHeld g then (g, d) else d.runRound g
        r.2.setLedger fun l => { l with
          group := none, openGroup := some { r.1 with busy := false }, abandoned := some g.number }
      else d
    | none => d
  let d := (d.abandonTransition.closeSessions).stopBlocks
  let d := d.setOutputs fun o => { o with
    thermal := true, hot := true, row := if 3 < o.row then 3 else o.row, slewed := F64.nat codeDown }
  let d := d.setPower fun p => { p with mode := match p.mode with | .waking _ => .on | m => m }
  let d := { d.actOff with pwm := d.pwm.map fun _ => ⟨none, 0⟩ }
  (d.setDevice fun v => { v with appRunning := false }).setThermal fun v => { v with
    shutdown := some (h, d.f Obj.T_HOT), safe := none }

/-- The shutdown at a sample (R447); in holdup what it would stop is stopped already (DEDUCED, log 103). -/
def Dev.shutdownSample (d : Dev) : Dev :=
  let t := d.f Obj.T_HOT
  match d.thermal.shutdown with
  | none => d.when (F32.le (F32.ofInt 130) t && d.power.mode != .holdup) Dev.thermalShutdown
  | some _ => d.setThermal fun v => { v with
    safe := if F32.lt t (F32.ofInt 120) then some (v.safe.getD d.course.elapsed) else none }

/-- THERMAL_SHUTDOWN_RELEASE (R447): T_HOT has stayed below 120 °C for 10 s. -/
def Dev.shutdownRelease (d : Dev) : Dev :=
  match d.thermal.shutdown, d.thermal.safe with
  | some s, some t => (d.advanceTo (t + 10 * secTicks)).wholeReset 4 s.1
  | _, _ => d

/-- THERMAL_SAMPLE (R439–R447). -/
def Dev.thermalSample (readings : List F32) (pMs pHv : F32) (d : Dev) : Dev :=
  if d.power.mode = .off then d else
    let d := (d.putF Obj.THERM_P_MS pMs).putF Obj.THERM_P_HV pHv
    let d := (List.range 8).foldl (fun d i => d.putF (Obj.TS_RAW i) (readings.getD i (d.f (Obj.TS_RAW i)))) d
    let dev := (List.range 8).map d.deviation
    let d := (List.range 8).foldl (fun d i => d.countSensor dev i) d
    d.startSensorTest.showSensors.watchSample.throttleSample.shutdownSample

/-- SENSOR_SELF_TEST_DONE (R441, R442): the sensor is trusted or retired, and the next one that waits is tested. -/
def Dev.sensorTestDone (i : Nat) (pass : Bool) (d : Dev) : Dev :=
  if d.thermal.testing ≠ some i then d else
    let d := d.setThermal fun t => { t with testing := none }
    let now := d.course.elapsed
    if pass then
      let d := (d.put (Obj.TS_STATUS i) 0).setSensor i fun s => { s with
        count := 0, quiet := now + 60 * secTicks, passes := (now :: s.passes).take 3 }
      ((d.bump (Obj.TS_TRANSIENT i)).flagRaise Obj.THERM_FLAGS 4 0x7002 (u8 i)).startSensorTest.showSensors
    else (((d.retireSensor i 1).setSensor i fun s => { s with count := 0 }).holdFall i).startSensorTest.showSensors

/-- THERM_STATE (R458). -/
def Dev.thermState (d : Dev) : Nat :=
  let held := match d.thermal.fallHold with | some t => decide (d.course.elapsed < t) | none => false
  d.thermal.level * 2 ^ 14 + flag d.thermal.watch * 2 ^ 13 + flag held * 2 ^ 12 + d.hot * 2 ^ 9 +
    flag d.thermal.storeTest * 2 ^ 8

/-! ### The store test (R453) -/

/-- Whether a store test is due. -/
def Dev.storeTestDue (d : Dev) : Bool :=
  d.thermal.storeDue || decide (d.thermal.storeLast + d.u Obj.STORE_TEST_INTERVAL * 86400 * secTicks ≤ d.course.elapsed)

/-- STORE_TEST_START (R453): due, the store full, no group running, no throttle. -/
def Dev.storeTestStart (d : Dev) : Dev :=
  if !d.storeTestDue || d.thermal.storeTest || d.stopped || F32.lt (d.f Obj.STORE_VOLTAGE) (F32.ofRat 490 100) ||
      d.ledger.group.isSome || d.thermal.level ≠ 0 then d
  else d.setThermal fun t => { t with storeTest := true, storeDue := false, storeLast := d.course.elapsed }

/-- STORE_TEST_DONE (R453): ESR from the voltage step, capacitance from the time of the fall, or a failed test. -/
def Dev.storeTestDone (step dt : F32) (d : Dev) : Dev :=
  if !d.thermal.storeTest then d else
    let i := F32.ofInt (d.u Obj.STORE_TEST_CURRENT)
    let esr := F32.div (F32.mul step (F32.ofInt 1000)) i
    let c := F32.div (F32.mul i dt) (F32.ofRat 20 100)
    let good := F32.le (F32.ofInt 20) c && F32.le c (F32.ofInt 600) && F32.le F32.zero esr && F32.le esr (F32.ofInt 10)
    if F32.lt (F32.ofInt 10) dt then d.storeTestFailed 3
    else if !good then d.storeTestFailed 4
    else
      let low := F32.mul (F32.ofRat 95 100) c
      let d := d.setThermal fun t => { t with storeTest := false }
      let d := ((d.putF Obj.STORE_ESR esr).putF Obj.STORE_C c).putF Obj.STORE_C_LOW low
      let d := d.put Obj.STORE_TEST_LAST d.courseNs
      d.bufferInternal .values (d.snapshot [Obj.STORE_ESR, Obj.STORE_C, Obj.STORE_C_LOW, Obj.STORE_TEST_LAST])

/-- STORE_TEST_TIMEOUT (R453). -/
def Dev.storeTestTimeout (d : Dev) : Dev := d.storeTestFailed 3

/-! ### Stage damage (R454) -/

/-- The Arrhenius damage of 1 s at a temperature in °C (R454). -/
def arrhenius (celsius : F64) : F64 :=
  let k := F64.add celsius (F64.ofRat 27315 100)
  let x := F64.mul (F64.div (F64.ofRat 7 10) (F64.ofRat 8617333 100000000000))
    (F64.sub (F64.div (F64.nat 1) (F64.ofRat 39815 100)) (F64.div (F64.nat 1) k))
  F64.mul (F64.div (F64.nat 1) (F64.ofRat 36000000 1)) (Config.expF64 x)

/-- The damage of a half cycle of a swing (R454). -/
def cycleDamage (swing : F64) : F64 :=
  let r := F64.div swing (F64.nat 80)
  F64.div (F64.mul r r) (F64.nat 100000)

/-- A reading joins a stage's swing (R454, log 36): the new state, and the swing of the half cycle it ends, if any. -/
def Swing.next (s : Swing) (x : F64) : Swing × Option F64 :=
  match s.turning with
  | none => (⟨some x, x⟩, none)
  | some t =>
    let up := F64.lt t s.extreme
    let further := if up then F64.le s.extreme x else if F64.lt s.extreme t then F64.le x s.extreme else true
    let swing := F64.abs (F64.sub s.extreme t)
    let crossed := if up then F64.lt x t else F64.lt t x
    if further then (⟨some t, x⟩, none)
    else if F64.le (F64.nat 10) swing then (⟨some s.extreme, x⟩, some swing)
    else if crossed then (⟨some s.extreme, x⟩, none)
    else (s, none)

/-- The damage of a stage after a second at an effective reading (R454). -/
def Dev.damageStage (sensor : Nat) (damage cycles : Reg) (swing : Swing) (d : Dev) : Dev × Swing :=
  let x := F64.ofF32 (d.f (Obj.TS_EFFECTIVE sensor))
  let d := d.putF64 damage (F64.add (d.f64 damage) (arrhenius x))
  let n := swing.next x
  match n.2 with
  | none => (d, n.1)
  | some s => ((d.putF64 damage (F64.add (d.f64 damage) (cycleDamage s))).bump cycles, n.1)

/-- STAGE_DAMAGE_UPDATE (R445, R454): every 1 s; THROTTLE_TIME counts with it. -/
def Dev.stageDamage (d : Dev) : Dev :=
  if d.power.mode = .off then d else
    let a := d.damageStage 6 Obj.STAGE_DAMAGE_LOOP Obj.STAGE_CYCLES_LOOP d.thermal.loopSwing
    let b := a.1.damageStage 7 Obj.STAGE_DAMAGE_ACT Obj.STAGE_CYCLES_ACT d.thermal.actSwing
    let d := b.1.setThermal fun t => { t with loopSwing := a.2, actSwing := b.2 }
    d.when (decide (1 ≤ d.thermal.level)) (Dev.bump Obj.THROTTLE_TIME)

/-! ### Ageing (R449–R452, R455) -/

/-- C_REQ in mF (R431, R449). -/
def Dev.storeRequired (d : Dev) : F64 :=
  let peak := d.lean && d.present 3 && !d.present 0 && !d.present 1 && !d.present 2
  let x := F64.div (F64.mul (F64.nat 2) (F64.add (F64.ofRat 984 100) (F64.nat (if peak then 40 else 0)))) (F64.ofRat 1125 100)
  F64.max (F64.nat 35) x

/-- AGE_LIMIT in force (R449): derived for indicators 0 to 5. -/
def Dev.ageLimit (d : Dev) (k : Nat) : F64 :=
  if k < 4 then F64.nat (d.u Obj.NVM_CYCLE_LIMIT)
  else if k = 4 then d.storeRequired
  else if k = 5 then F64.nat 2
  else F64.ofF32 (d.f (Obj.AGE_LIMIT k))

/-- The measure of an indicator at a day rollover, none where the day gives no point (R449); the daily means are free
values, since the spec states no sampling for them (log 37). -/
def Dev.ageMeasure (d : Dev) (k : Nat) : Option F64 :=
  match k with
  | 0 | 1 | 3 => some (F64.div (F64.nat (d.u (Obj.REGION_PROGRAMS k))) (F64.nat (d.u (Obj.REGION_PAGES k))))
  | 2 => some (F64.add (F64.div (F64.nat (d.u (Obj.REGION_PROGRAMS 2))) (F64.nat (d.u (Obj.REGION_PAGES 2)))) (F64.nat 1024))
  | 4 => some (F64.ofF32 (d.f Obj.STORE_C_LOW))
  | 5 => some (F64.ofF32 (d.f Obj.STORE_ESR))
  | 6 => some (d.f64 Obj.STAGE_DAMAGE_LOOP)
  | 7 => some (d.f64 Obj.STAGE_DAMAGE_ACT)
  | 8 => none
  | 9 => some (F64.nat ((List.range 4).map fun c => d.u (Obj.XCHK_TRANSIENT c)).sum)
  | 13 =>
    if 12 * 3600000 ≤ d.thermal.lockedToday then
      let m := Config.freeF64 (d.device.fresh + 13)
      some (F64.sub m (d.thermal.firstFreq.getD m))
    else none
  | _ => if 3600000 ≤ d.thermal.upToday.getD (k - 10) 0 then some (Config.freeF64 (d.device.fresh + k)) else none

/-- The points of a history: day and value (R450). -/
def historyPoints (b : List Byte) : List (F64 × F64) :=
  (List.range (b.length / 8)).map fun j => (F64.nat (blockU b (2 * j)), F64.ofF32 (blockF b (2 * j + 1)))

/-- AGE_EOL and AGE_EOL_LOW90 from the days left and the speeds (R451). -/
def daysLeft (r v : F64) : Nat :=
  if F64.lt (F64.nat 0) v then (min (F64.floor (F64.div r v)) 0xFFFFFFFE).toNat else 0xFFFFFFFF

/-- The prediction of R451: none while LEARNING; `either` marks a limit on either side. -/
def predict (pts : List (F64 × F64)) (limit now : F64) (falling either : Bool) : Option (Nat × Nat) :=
  let n := pts.length
  if n < 8 then none else
    let nf := F64.nat n
    let tm := F64.div (F64.sum (pts.map Prod.fst)) nf
    let ym := F64.div (F64.sum (pts.map Prod.snd)) nf
    let sxx := F64.sum (pts.map fun p => F64.mul (F64.sub p.1 tm) (F64.sub p.1 tm))
    let b := F64.div (F64.sum (pts.map fun p => F64.mul (F64.sub p.1 tm) (F64.sub p.2 ym))) sxx
    let a := F64.sub ym (F64.mul b tm)
    let res := fun (p : F64 × F64) => F64.sub (F64.sub p.2 a) (F64.mul b p.1)
    let se := F64.sqrt (F64.div (F64.div (F64.sum (pts.map fun p => F64.mul (res p) (res p))) (F64.nat (n - 2))) sxx)
    let s := if either then (if F64.le (F64.nat 0) b then F64.nat 1 else F64.ofInt (-1))
      else if falling then F64.ofInt (-1) else F64.nat 1
    let lim := if either then F64.mul s (F64.abs limit) else limit
    let r := F64.mul s (F64.sub lim (F64.add a (F64.mul b now)))
    let v := F64.mul s b
    let v90 := F64.add v (F64.mul (F64.ofRat 12816 10000) se)
    if F64.le r (F64.nat 0) then some (0, 0) else some (daysLeft r v, daysLeft r v90)

/-- The prediction of an indicator, and its MAINT (R451, R452). -/
def Dev.predictAge (k : Nat) (d : Dev) : Dev :=
  let q := (predict (historyPoints (d.b (Obj.AGE_HISTORY k))) (d.ageLimit k) (F64.nat d.thermal.day)
    (k == 4 || (decide (10 ≤ k) && decide (k ≤ 12))) (k == 8 || k == 13)).getD (0xFFFFFFFF, 0xFFFFFFFF)
  ((d.put (Obj.AGE_EOL k) q.1).put (Obj.AGE_EOL_LOW90 k) q.2).judgeAge k

/-- A point joins an indicator's history (R450, R451). -/
def Dev.appendAge (k : Nat) (y : F64) (d : Dev) : Dev :=
  let d := d.putF (Obj.AGE_VALUE k) (F32.ofF64 y)
  let b := d.b (Obj.AGE_HISTORY k) ++ u32 d.thermal.day ++ f32b (F32.ofF64 y)
  let b := b.drop (b.length - 512)
  let d := (d.putB (Obj.AGE_HISTORY k) b).bufferInternal .values [(Obj.AGE_HISTORY k).writeB b]
  d.predictAge k

/-- The spare measures the reference, where it is free (R455): it shadows nothing meanwhile (DESIGN CHOICE, log 103). -/
def Dev.refStart (d : Dev) : Dev :=
  match d.xcheck.spare with
  | none => d
  | some c =>
    if d.lean || d.stopped || (d.conv c).cal.isSome || d.xcheck.test.isSome || d.xcheck.join.isSome then d else
      (d.setConv c fun v => { v with flight := [] }).setThermal fun t => { t with
        refRun := some (c, d.edge false d.course.elapsed) }

/-- The ageing sample of a day rollover (R450, R455): a point for every indicator that has one; the reference check
falls due. -/
def Dev.ageSample (d : Dev) : Dev :=
  let d := (List.range 14).foldl (fun d k =>
    if d.ageApplies k then (match d.ageMeasure k with | some y => d.appendAge k y | none => d) else d.judgeAge k) d
  let first := d.thermal.firstFreq
  let m := Config.freeF64 (d.device.fresh + 13)
  let lock := decide (12 * 3600000 ≤ d.thermal.lockedToday)
  (d.setThermal fun t => { t with
    sinceSample := 0, reference := true, firstFreq := if lock then some (first.getD m) else first }).refStart

/-- AGE_VALUE of the indicators with a daily measure shows the latest (R449, R450). -/
def Dev.showDaily (d : Dev) : Dev :=
  [10, 11, 12, 13].foldl (fun d k =>
    if d.ageApplies k then (match d.ageMeasure k with | some y => d.putF (Obj.AGE_VALUE k) (F32.ofF64 y) | none => d) else d) d

/-- AGE_VALUE (R450): the latest measure, at any time for those that the device always has. -/
def Dev.ageValue (d : Dev) (k : Nat) : F32 :=
  if k ≤ 7 ∨ k = 9 then F32.ofF64 ((d.ageMeasure k).getD 0) else d.f (Obj.AGE_VALUE k)

/-- The ticks until the local day rolls over (R432). -/
def Dev.untilRollover (d : Dev) : Nat :=
  if d.course.sync = .unset then d.power.dayStart + 86400 * secTicks - d.course.elapsed
  else
    let s := d.courseNs / 1000000000
    let tod := (((s : Int) + d.i Obj.ENERGY_TZ_OFFSET) % 86400).toNat
    ceilDiv ((s + 86400 - tod) * 1000000000 * 1024) 15625 - d.course.ticks

/-- ENERGY_DAY_ROLLOVER (R432, R450): at the rollover. -/
def Dev.dayRollover (d : Dev) : Dev :=
  if d.power.mode = .off then d else
    let d := d.advance d.untilRollover
    let d := (List.range 4).foldl (fun d s =>
      (d.putF (Obj.ENERGY_YESTERDAY s) (d.f (Obj.ENERGY_TODAY s))).putF (Obj.ENERGY_TODAY s) F32.zero) d
    let d := (d.setPower fun p => { p with dayStart := d.course.elapsed }).setThermal fun t => { t with
      day := t.day + 1, sinceSample := t.sinceSample + 1 }
    let d := d.showDaily.when (decide (d.u Obj.AGE_SAMPLE_DAYS ≤ d.thermal.sinceSample)) Dev.ageSample
    let d := (List.range 14).foldl (fun d _ => d.tickFresh) d
    d.setThermal fun t => { t with upToday := [0, 0, 0], lockedToday := 0 }

/-- The value of the reference indicator (R455). -/
def referenceDrift (mean : F32) : F64 :=
  F64.mul (F64.nat 1000000) (F64.sub (F64.div (F64.ofF32 mean) (F64.ofF32 Config.referenceFactory)) (F64.nat 1))

/-- REFERENCE_CHECK_DONE (R455): 13,107,536 ticks after the spare began, which then shadows again; without a spare on a stopped seat
or in SERVICE. -/
def Dev.referenceDone (mean : F32) (d : Dev) : Dev :=
  let able := d.thermal.refRun.isSome || (List.range 4).any (fun n => d.u (Obj.SEQ_CTRL n) == 0) || d.device.state == .service
  if !d.thermal.reference || !able then d else
    let d := match d.thermal.refRun with | some r => d.advanceTo (r.2 + 13107536) | none => d
    let d := (d.setThermal fun t => { t with reference := false, refRun := none }).appendAge 8 (referenceDrift mean)
    match d.xcheck.comparison with
    | some m => d.when (d.xcheck.spare == some m.b) (Dev.shadowAgain m.seat)
    | none => d

/-- Whether some indicator is in MAINT (R452). -/
def Dev.maint (d : Dev) : Bool := (List.range 14).any fun k => d.u (Obj.AGE_STATE k) == 2

end Sys2Proof.Machine
end

