-- ==== Sys2Proof/Machine/Objects.lean ====
section
/-! DEFINITION. The objects as the dictionary sees them: which exist, their types and lengths, and the checks of a value that
no other object decides (R4, R5, R317–R320, R324 steps 2, 3, 6 and 7, R468). -/

namespace Sys2Proof.Machine

/-! ### The objects that exist (R317, R320, R468) -/

/-- The type of a type code (R318). -/
def Ty.ofCode : Nat → Option Ty
  | 0x01 => some .bool
  | 0x02 => some .u8
  | 0x03 => some .u16
  | 0x04 => some .u32
  | 0x05 => some .u64
  | 0x06 => some .i8
  | 0x07 => some .i16
  | 0x08 => some .i32
  | 0x09 => some .i64
  | 0x0A => some .f32
  | 0x0B => some .f64
  | 0x0C => some .time
  | 0x0D => some .str
  | 0x0E => some .enum
  | 0x0F => some .blob
  | 0x10 => some .record
  | _ => none

/-- Whether a type's size varies (R318, R320). -/
def Ty.varies : Ty → Bool
  | .str | .blob | .record => true
  | _ => false

/-- A constant of the dictionary's own (R320). -/
def constantCard (index sub : Nat) (ty : Ty) (value : Nat) : Card :=
  ⟨"", index, 1, 1, sub, sub, ty, ty.size, ty.size, .R, 0, .const, false, .any, fun _ _ => .num value⟩

/-- The cards of the type definitions and of RECORD definition 0 (R320) (DEDUCED, log 15). -/
def typeCard (index sub : Nat) : Option Card :=
  if index = 0x0100 then (if sub = 1 ∨ sub = 2 then some (constantCard index sub .u8 0x0A) else none)
  else if sub = 1 then (Ty.ofCode index).map fun t => constantCard index 1 .u16 (if t.varies then 0xFFFF else t.size)
  else none

/-- The records of the bundle that has taken effect (R468). -/
def Dev.bundleRecords (d : Dev) : List BundleRecord :=
  match d.security.bundleInUse with
  | some b => (d.security.bundles.getD b ⟨false, 0, []⟩).records
  | none => []

/-- Whether a record defines an OEM object (R468). -/
def recordIsOem (r : BundleRecord) : Bool := decide (0x7000 ≤ r.index.toNat) && decide (r.index.toNat ≤ 0x7FFF)

/-- A record's value in its type. -/
def recordValue (t : Ty) (r : BundleRecord) : Value := if t.varies then .bytes r.value else .num (ofBe r.value)

/-- The card of an OEM object (R468). -/
def recordCard (r : BundleRecord) : Option Card :=
  (Ty.ofCode r.type.toNat).map fun t =>
    ⟨"", r.index.toNat, 1, 1, r.sub.toNat, r.sub.toNat, if t = .record then .blob else t,
      match t with | .str => 0 | .blob => 0 | .record => r.value.length | _ => t.size,
      match t with | .str => 64 | .blob => 512 | .record => r.value.length | _ => t.size,
      if r.writable then .RW else .R, if r.writable then 2 else 0, if r.writable then .P else .const, false, .any,
      fun _ _ => recordValue t r⟩

/-- The card of an address: an object of the chapters, of the types, or of the personality. -/
def Dev.cardAt (d : Dev) (index sub : Nat) : Option Card :=
  match Machine.cardAt index sub with
  | some c => some c
  | none =>
    match typeCard index sub with
    | some c => some c
    | none => (d.bundleRecords.find? fun r =>
        recordIsOem r && r.index.toNat == index && r.sub.toNat == sub).bind recordCard

/-- The highest subindex in use at an index, 0 where the index holds no object (R317). -/
def Dev.lastSub (d : Dev) (index : Nat) : Nat :=
  if index = 0x0100 then 2
  else if (Ty.ofCode index).isSome then 1
  else max (highestSub index)
    (((d.bundleRecords.filter fun r => recordIsOem r && r.index.toNat == index).map fun r => r.sub.toNat).foldl max 0)

/-! ### Lengths and values (R318, R319, R324 steps 6 and 7) -/

/-- Whether a value's length fits an object (R319). -/
def Card.lengthOk (c : Card) (n : Nat) : Bool :=
  if c.ty.size = 0 then decide (c.minLen ≤ n) && decide (n ≤ c.maxLen) else n == c.ty.size

/-- The length a TYPE refusal names (R340). -/
def Card.lengthNeeded (c : Card) : Nat := if c.ty.size = 0 then c.maxLen else c.ty.size

/-- The value that bytes give an object (R318). -/
def Card.valueOf (c : Card) (b : List Byte) : Value := if c.ty.varies then .bytes b else .num (ofBe b)

/-- What a UTF-8 decoder expects: how many continuation bytes, and the bounds of the next. -/
structure Utf8 where
  left : Nat
  lo : Nat
  hi : Nat
deriving DecidableEq, Repr

/-- One byte of UTF-8 without NUL (R318), none where it is invalid. -/
def utf8Step (s : Utf8) (b : Byte) : Option Utf8 :=
  let n := b.toNat
  if s.left = 0 then
    if n = 0 then none
    else if n < 0x80 then some ⟨0, 0, 0⟩
    else if n < 0xC2 then none
    else if n < 0xE0 then some ⟨1, 0x80, 0xBF⟩
    else if n = 0xE0 then some ⟨2, 0xA0, 0xBF⟩
    else if n = 0xED then some ⟨2, 0x80, 0x9F⟩
    else if n < 0xF0 then some ⟨2, 0x80, 0xBF⟩
    else if n = 0xF0 then some ⟨3, 0x90, 0xBF⟩
    else if n < 0xF4 then some ⟨3, 0x80, 0xBF⟩
    else if n = 0xF4 then some ⟨3, 0x80, 0x8F⟩
    else none
  else if s.lo ≤ n ∧ n ≤ s.hi then some ⟨s.left - 1, 0x80, 0xBF⟩
  else none

/-- Valid UTF-8 without a NUL byte (R318, R319). -/
def utf8Ok (b : List Byte) : Bool :=
  b.foldl (fun s x => s.bind fun s => utf8Step s x) (some ⟨0, 0, 0⟩) == some ⟨0, 0, 0⟩

/-- The checks of a value that its type makes (R319). -/
def tyOk (t : Ty) (v : Value) : Bool :=
  match t, v with
  | .bool, v => decide (v.toNat ≤ 1)
  | .f32, v => fmt32.isFinite v.toNat
  | .f64, v => fmt64.isFinite v.toNat
  | .str, .bytes b => utf8Ok b
  | .record, .bytes b => F32.isFinite (blockF b 0) && F32.isFinite (blockF b 1)
  | _, _ => true

/-- The checks of a value that its card makes: reserved bits, enumeration, range (R4, R5, R319). -/
def Check.ok (k : Check) (size : Nat) (v : Value) : Bool :=
  match k with
  | .any | .own => true
  | .range lo hi => decide (lo ≤ v.toNat) && decide (v.toNat ≤ hi)
  | .irange lo hi => decide (lo ≤ signed (8 * size) v.toNat) && decide (signed (8 * size) v.toNat ≤ hi)
  | .enum l => l.contains v.toNat
  | .mask m => (v.toNat &&& m) == v.toNat
  | .frange lo hi =>
    let x : F32 := BitVec.ofNat 32 v.toNat
    F32.le (BitVec.ofNat 32 lo) x && F32.le x (BitVec.ofNat 32 hi)

/-- Whether an F32 lies in a range of integers. -/
def f32In (lo hi : Int) (v : Value) : Bool :=
  let x : F32 := BitVec.ofNat 32 v.toNat
  F32.le (F32.ofInt lo) x && F32.le x (F32.ofInt hi)

/-- Whether an F32 is −1.0 or lies in 0.0 to 1.0 (R243, R262). -/
def fractionOrOff (v : Value) : Bool :=
  v.toNat == 0xBF800000 || f32In 0 1 v

/-- The characters of the HART packed-ASCII set: codes 0x20 to 0x5F. -/
def packedAscii (v : Value) : Bool := (v.toBytes 0).all fun b => decide (0x20 ≤ b.toNat) && decide (b.toNat ≤ 0x5F)

/-- Whether every code point of a UTF-8 text lies in the ISO Latin-1 range: no lead byte above 0xC3. -/
def latinOnly (v : Value) : Bool := (v.toBytes 0).all fun b => decide (b.toNat ≤ 0xC3)

/-- The checks that an object's owning chapter makes of a value, whatever the rest of the dictionary holds (R57–R482),
by the card's index and first subindex. -/
def ownValueOk (index sub : Nat) (key : Nat) (v : Value) : Bool :=
  let n := v.toNat
  let b := v.toBytes 0
  match index, sub with
  | 0x2000, 0x31 => !injectedBad false n
  | 0x2002, 1 => !entryBad false n
  | 0x2000, 0x50 => decide (n ≤ 63) || n == 0xFF
  | 0x2000, 0x43 => decide (n ≤ 4) && n != 0
  | 0x2810, 0x11 => decide (n &&& 0x3E00 = 0)
  | 0x2830, 1 => !opReserved n
  | 0x3300, 2 => b.isEmpty || (b.length == 12 && b.all fun c =>
      (decide (0x30 ≤ c.toNat) && decide (c.toNat ≤ 0x39)) || (decide (0x41 ≤ c.toNat) && decide (c.toNat ≤ 0x5A)))
  | 0x3300, 0x10 => b.isEmpty || b.length == 16
  | 0x3400, 0x0B => loopFixedOk (BitVec.ofNat 32 n)
  | 0x3500, 6 => fractionOrOff v
  | 0x3A00, 8 => fractionOrOff v
  | 0x3600, 4 => decide (-1000000 ≤ signed 32 n) && decide (signed 32 n ≤ 1000000)
  | 0x3810, 3 => f32In 0 (2 ^ 128) v
  | 0x3400, 0x0A => f32In 0 (2 ^ 128) v
  | 0x3810, 7 => !schedBad b
  | 0x1601, 2 => if key / 256 = 0x1603 then decide (n ≤ 1) else decide (n ≤ 2)
  | 0x1610, 7 => decide (n < 2 ^ 48) && isGroup n
  | 0x1620, 2 => b.isEmpty || (b.length == 17 && decide (ofBe (b.drop 16) ≤ 128))
  | 0x1640, 6 | 0x1640, 8 | 0x1640, 9 => packedAscii v
  | 0x1640, 7 => latinOnly v
  | 0x1640, 0x0A => decide (n < 2 ^ 24)
  | 0x1640, 0x0C => decide (n < 2 ^ 24) && [bits n 23 16, bits n 15 8, bits n 7 0].all fun k => decide (k ≤ 15) || k == 0xFF
  | 0x1200, 0x0C => decide (n &&& 0x8003 = 0)
  | 0x1220, 1 => b.isEmpty || battCurveOk b
  | 0x5100, 4 => b.isEmpty || b.length == 20
  | 0x5100, 0x0B => decide (n &&& 0x7FFF000000000000 = 0)
  | 0x6000, 1 => decide (n % 256 = 0)
  | 0x1430, 1 => n == 0 || (decide (10 ≤ n) && decide (n ≤ 3600))
  | _, _ => true

/-- Every check of a value on its own (R324 step 7). -/
def Card.valueOk (c : Card) (key : Nat) (v : Value) : Bool :=
  tyOk c.ty v && c.check.ok c.ty.size v && ownValueOk c.index c.sub key v

/-! ### Bundle content (R468) -/

/-- Whether an address is one of the key objects or of the identity (R460, R468, R482, R327). -/
def keyOrIdentity (index sub : Nat) : Bool :=
  index == 0x1410 || index == 0x1000 || index == 0x1420 || (index == 0x1400 && (sub == 0x0E || sub == 0x0F))

/-- Whether a record of a bundle is acceptable (R468): an object that exists, of the right length and value, neither a key
nor an identity object. -/
def recordOk (r : BundleRecord) : Bool :=
  let index := r.index.toNat
  let sub := r.sub.toNat
  if keyOrIdentity index sub then false
  else match (if recordIsOem r then recordCard r else Machine.cardAt index sub) with
    | none => false
    | some c => c.lengthOk r.value.length && c.valueOk (index * 256 + sub) (c.valueOf r.value)

end Sys2Proof.Machine
end

