-- ==== Sys2Proof/Machine/Images.lean ====
section
/-! DEFINITION. The content of a download and its checks: flash, components, HSS/LMS signatures (RFC 8554), bundles and tokens
(R461, R462, R464, R465, R468, R481). -/

namespace Sys2Proof.Machine

/-! ### Flash (R461, R465) -/

/-- A number at an offset of some bytes, most significant byte first. -/
def beAt (b : List Byte) (o n : Nat) : Nat := ofBe ((b.drop o).take n)

/-- The byte of an area at an offset: as programmed, else as erased (PRESUMED, log 39). -/
def flashByte (l : List (Nat × List Byte)) (o : Nat) : Byte :=
  match l.find? fun r => decide (r.1 ≤ o) && decide (o < r.1 + r.2.length) with
  | some r => r.2.getD (o - r.1) 0xFF
  | none => 0xFF

/-- Bytes of an area. -/
def flashBytes (l : List (Nat × List Byte)) (o n : Nat) : List Byte := (List.range n).map fun k => flashByte l (o + k)

/-! ### LM-OTS, LMS and HSS (R464; RFC 8554 sections 4 to 6) -/

/-- The height of an LMS type that R464 admits. -/
def lmsHeight : Nat → Option Nat
  | 6 => some 10
  | 7 => some 15
  | _ => none

/-- The bytes of an LM-OTS signature of type W4: the type, C and 67 chains. -/
def otsSize : Nat := 4 + 32 + 67 * 32

/-- The bytes of an LMS signature of a height: q, the LM-OTS signature, the LMS type, the path. -/
def lmsSize (h : Nat) : Nat := 4 + otsSize + 4 + 32 * h

/-- The 4-bit digits of some bytes. -/
def nibbles (b : List Byte) : List Nat := b.flatMap fun x => [x.toNat / 16, x.toNat % 16]

/-- The 67 digits that the chains of a hash value sign: its own and three of its checksum. -/
def otsDigits (q : List Byte) : List Nat :=
  nibbles q ++ (nibbles (u16 (16 * ((nibbles q).map fun x => 15 - x).sum))).take 3

/-- A chain led on to its end by a number of steps. -/
def otsChain (ident : List Byte) (q i : Nat) : Nat → List Byte → List Byte
  | 0, t => t
  | n + 1, t => otsChain ident q i n (sha256 (ident ++ u32 q ++ u16 i ++ u8 (14 - n) ++ t))

/-- The LM-OTS public key that a signature gives for a message. -/
def otsCandidate (ident : List Byte) (q : Nat) (sig msg : List Byte) : List Byte :=
  let digest := sha256 (ident ++ u32 q ++ u16 0x8181 ++ (sig.drop 4).take 32 ++ msg)
  let ends := (List.range 67).flatMap fun i =>
    otsChain ident q i (15 - (otsDigits digest).getD i 0) ((sig.drop (36 + 32 * i)).take 32)
  sha256 (ident ++ u32 q ++ u16 0x8080 ++ ends)

/-- A node of the tree and its number, one level up. -/
def lmsParent (ident : List Byte) (x : Nat × List Byte) (sibling : List Byte) : Nat × List Byte :=
  let up := x.1 / 2
  (up, sha256 (ident ++ u32 up ++ u16 0x8383 ++ (if x.1 % 2 = 1 then sibling ++ x.2 else x.2 ++ sibling)))

/-- Whether an LMS signature of a message verifies under a 56-byte LMS public key. -/
def lmsVerify (pub msg sig : List Byte) : Bool :=
  match lmsHeight (beAt pub 0 4) with
  | none => false
  | some h =>
    let ident := (pub.drop 8).take 16
    let q := beAt sig 0 4
    let path := (List.range h).map fun k => (sig.drop (8 + otsSize + 32 * k)).take 32
    sig.length == lmsSize h && decide (q < 2 ^ h) && beAt sig 4 4 == beAt pub 4 4 &&
      beAt sig (4 + otsSize) 4 == beAt pub 0 4 &&
      (path.foldl (lmsParent ident)
        (2 ^ h + q, sha256 (ident ++ u32 (2 ^ h + q) ++ u16 0x8282 ++ otsCandidate ident q ((sig.drop 4).take otsSize) msg))).2
        == (pub.drop 24).take 32

/-- The parts of an HSS signature of two levels: the signature of the lower public key, that key, and its signature of the
message. -/
def hssParts (pub sig : List Byte) : List Byte × List Byte × List Byte :=
  let n := lmsSize ((lmsHeight (beAt pub 4 4)).getD 0)
  ((sig.drop 4).take n, (sig.drop (4 + n)).take 56, sig.drop (60 + n))

/-- Whether levels and types are those that R464 admits (reason 3). -/
def hssTypesOk (pub sig : List Byte) : Bool :=
  let ok := fun (key : List Byte) => (lmsHeight (beAt key 0 4)).isSome && beAt key 4 4 == 3
  match beAt pub 0 4 with
  | 1 => ok (pub.drop 4)
  | 2 => ok (pub.drop 4) && ok (hssParts pub sig).2.1
  | _ => false

/-- Whether an HSS signature of a message verifies under a 60-byte HSS public key (reason 4). -/
def hssVerify (pub msg sig : List Byte) : Bool :=
  beAt sig 0 4 + 1 == beAt pub 0 4 &&
    match beAt pub 0 4 with
    | 1 => lmsVerify (pub.drop 4) msg (sig.drop 4)
    | 2 =>
      let p := hssParts pub sig
      lmsVerify (pub.drop 4) p.2.1 p.1 && lmsVerify p.2.1 msg p.2.2
    | _ => false

/-! ### Components (R464) -/

/-- A component as it stands in an area: header, body, public key, signature, and whether it fits there. -/
structure Component where
  header : List Byte
  body : List Byte
  key : List Byte
  signature : List Byte
  size : Nat
  fits : Bool

/-- The component at an offset of an area of a size. -/
def componentAt (l : List (Nat × List Byte)) (area o : Nat) : Component :=
  let h := flashBytes l o 64
  let n := beAt h 12 4
  let m := beAt h 20 4
  let fits := decide (o + 64 + n + 60 + m ≤ area)
  let take := fun (p k : Nat) => if fits then flashBytes l p k else []
  ⟨h, take (o + 64) n, take (o + 64 + n) 60, take (o + 124 + n) m, 64 + n + 60 + m, fits⟩

namespace Component

/-- SEC_VERSION (R464). -/
def secVersion (c : Component) : Nat := beAt c.header 5 1
/-- FIRMWARE_REV, or the version of a bundle (R464). -/
def rev (c : Component) : Nat := beAt c.header 8 4

end Component

/-- Whether the header's DICT_REV suits the running one (R464): the same major, no higher minor. -/
def dictFits (wanted running : Nat) : Bool :=
  wanted / 256 == running / 256 && decide (wanted % 256 ≤ running % 256)

/-- The reason for which a component of a kind fails, 0 for none: the checks of R464 in their order; PERSONALITY_MIN stands
beside the anti-rollback counter (R468), and a token's body has its 32 bytes (R481). -/
def Dev.componentReason (d : Dev) (kind : Nat) (c : Component) : Nat :=
  let h := c.header
  if beAt h 0 4 ≠ 0x47534649 ∨ beAt h 6 1 ≠ 1 ∨ beAt h 4 1 ≠ kind ∨ !c.fits ∨ (kind = 4 ∧ c.body.length ≠ 32) then 1
  else if sha256 c.key ≠ (if kind = 3 then (d.committed Obj.OEM_KEY_HASH).toBytes 0 else d.b Obj.VENDOR_KEY_HASH) then 2
  else if !hssTypesOk c.key c.signature then 3
  else if !hssVerify c.key h c.signature then 4
  else if sha256 c.body ≠ (h.drop 32).take 32 then 5
  else if (kind ≤ 2 ∧ c.secVersion < d.u Obj.ROLLBACK_COUNT) ∨ (kind = 3 ∧ c.rev < max (d.u Obj.PERSONALITY_MIN) (d.committed Obj.PERSONALITY_MIN).toNat) then 6
  else if d.u Obj.SILICON_REV < beAt h 18 2 ∨ (kind = 3 ∧ !dictFits (beAt h 16 2) (d.u Obj.DICT_REV)) then 7
  else 0

/-! ### Images, bundles and tokens (R461, R462, R468, R481) -/

/-- The three components of an image slot (R461). -/
def imageComponents (l : List (Nat × List Byte)) : List Component :=
  let area := 0x1F0000
  let next := fun (o : Nat) (c : Component) => ceilDiv (o + c.size) 4096 * 4096
  let a := componentAt l area 0
  let o1 := next 0 a
  let b := componentAt l area o1
  [a, b, componentAt l area (next o1 b)]

/-- The reason for which an image slot fails (R462): its components in order, then a mismatch among them. -/
def Dev.imageReason (d : Dev) (cs : List Component) : Nat :=
  match (cs.zipIdx.map fun x => d.componentReason x.2 x.1).find? (· ≠ 0) with
  | some r => r
  | none => if cs.all fun c => cs.all fun e => c.secVersion == e.secVersion && c.rev == e.rev then 0 else 8

/-- The records of a personality body (R468); none where it does not divide into records. -/
def bundleParse : Nat → List Byte → Option (List BundleRecord)
  | _, [] => some []
  | 0, _ => none
  | fuel + 1, b =>
    let n := beAt b 5 2
    if b.length < 7 + n then none else
      (bundleParse fuel (b.drop (7 + n))).map fun rest =>
        ⟨BitVec.ofNat 16 (beAt b 0 2), BitVec.ofNat 8 (beAt b 2 1), BitVec.ofNat 8 (beAt b 3 1), bit (beAt b 4 1) 0,
          (b.drop 7).take n⟩ :: rest

/-- What the check of a download finds (R464, R465, R468, R481): the reason for which it fails, 0 for none, FIRMWARE_REV and
SEC_VERSION, the records of a bundle, and LIFETIME of a token. -/
structure LoadFinding where
  reason : Nat
  rev : Nat
  secVersion : Nat
  records : List BundleRecord
  lifetime : Nat
deriving DecidableEq, Repr

/-- The reason for which a token's body fails (R481): another serial number or challenge, or a LIFETIME outside its range (DESIGN
CHOICE, log 104). -/
def Dev.tokenReason (d : Dev) (body : List Byte) : Nat :=
  let life := beAt body 28 4
  if body.take 12 ≠ d.b Obj.SERIAL_NUMBER ∨ (body.drop 12).take 16 ≠ d.b Obj.DEBUG_CHALLENGE ∨ life < 1 ∨ 86400 < life then 10 else 0

/-- What the check of a target's content finds. -/
def Dev.loadFinding (d : Dev) : LoadFinding :=
  let l := d.security.loaded
  match d.security.loadTarget with
  | 0 =>
    let cs := imageComponents l
    let a := componentAt l 0x1F0000 0
    ⟨d.imageReason cs, a.rev, a.secVersion, [], 0⟩
  | 1 =>
    let c := componentAt l 0x10000 0
    let records := bundleParse c.body.length c.body
    let bad := match records with | some rs => !rs.all recordOk | none => true
    let r := d.componentReason 3 c
    ⟨if r = 0 ∧ bad = true then 9 else r, c.rev, 0, records.getD [], 0⟩
  | _ =>
    let c := componentAt l Config.tokenArea 0
    let r := d.componentReason 4 c
    ⟨if r = 0 then d.tokenReason c.body else r, 0, 0, [], beAt c.body 28 4⟩

end Sys2Proof.Machine
end

