-- ==== Sys2Proof/Machine/Security.lean ====
section
/-! DEFINITION. Images and downloads, keys, the identity's indices and the attestation of streams, the debug port
(chapter 17). -/

namespace Sys2Proof.Machine

/-! ### Entries as stored (R266, R268) -/

/-- The entry that the LOG holds at a position of a stream (R304). -/
def Dev.entryAt (d : Dev) (stream position : Nat) : Option Entry :=
  d.ledger.log.findSome? fun i => match i.content with
    | .entry p e => if p = position && e.stream = stream then some e else none
    | _ => none

/-- A position put in its place among some in serial order (R270); a position held twice stands once. -/
def insertPosition (p : Nat) : List Nat → List Nat
  | [] => [p]
  | q :: rest => match serialCmp p q 48 with
    | .equal => q :: rest
    | .before => p :: q :: rest
    | _ => q :: insertPosition p rest

/-- The positions of a stream that the LOG holds, oldest first: in serial order, since a structure carried forward lies behind
newer ones (R268, R270, R304). -/
def Dev.heldPositions (d : Dev) (stream : Nat) : List Nat :=
  (d.ledger.log.filterMap fun i => match i.content with
    | .entry p e => if e.stream = stream then some p else none
    | _ => none).foldl (fun l p => insertPosition p l) []

/-! ### Images (R461–R467, R483) -/

/-- The image slot that is not active (R465). -/
def Dev.otherImage (d : Dev) : Nat := 1 - d.security.activeSlot

/-- The personality slot that is not active. -/
def Dev.otherBundle (d : Dev) : Nat := 1 - d.security.activeBundle

/-- Changes an image slot. -/
def Dev.setImage (slot : Nat) (f : ImageInfo → ImageInfo) (d : Dev) : Dev :=
  d.setSecurity fun s => { s with images := s.images.modify slot f }

/-- Changes a personality slot. -/
def Dev.setBundle (slot : Nat) (f : PersonalitySlot → PersonalitySlot) (d : Dev) : Dev :=
  d.setSecurity fun s => { s with bundles := s.bundles.modify slot f }

/-- The code of LOAD (R483). -/
def LoadState.code : LoadState → Nat
  | .idle => 0
  | .loading => 1
  | .verifying => 2
  | .valid => 3
  | .invalid => 4

/-- IMAGE_STATUS (R483). -/
def Dev.imageStatus (d : Dev) : Nat :=
  let s := d.security
  s.activeSlot * 2 ^ 15 + flag (s.onTrial || s.trialSlot.isSome) * 2 ^ 14 + s.activeBundle * 2 ^ 13 + s.load.code * 2 ^ 10 +
    s.loadTarget * 2 ^ 8 + s.loadReason

/-- LOAD_TARGET (R465): the target is erased and LOAD shows LOADING. -/
def Dev.loadTargetSet (target : Nat) (d : Dev) : Dev :=
  let slot := match target with | 0 => d.otherImage | _ => d.otherBundle
  let d := d.setSecurity fun s => { s with
    load := .loading, loadTarget := target, loadSlot := slot, loadReason := 0, loaded := [] }
  match target with
  | 0 => (d.setImage d.otherImage fun _ => ⟨false, 0, 0⟩).put (if d.otherImage = 0 then Obj.IMAGE_REV_0 else Obj.IMAGE_REV_1) 0
  | 1 => d.setBundle d.otherBundle fun _ => ⟨false, 0, []⟩
  | _ => d

/-- The bytes a target holds (R461; log 39). -/
def targetSize (target : Nat) : Nat := match target with | 0 => 0x1F0000 | 1 => 0x10000 | _ => Config.tokenArea

/-- The check of LOAD_DATA (R465): bytes already programmed, beyond the target, or with no target erased for them. -/
def Dev.loadDataCheck (d : Dev) (n : Nat) : Option Fail :=
  let o := d.u Obj.LOAD_OFFSET
  let s := d.security
  failIf (decide (s.load ≠ .loading) || decide (targetSize s.loadTarget < o + n) ||
    s.loaded.any fun r => decide (r.1 < o + n) && decide (o < r.1 + r.2.length)) (failRange 0)

/-- LOAD_DATA (R465): the bytes are programmed at LOAD_OFFSET, which advances. -/
def Dev.loadDataSet (b : List Byte) (d : Dev) : Dev :=
  let o := d.u Obj.LOAD_OFFSET
  (d.setSecurity fun s => { s with loaded := s.loaded ++ [(o, b)] }).put Obj.LOAD_OFFSET (o + b.length)

/-- LOAD_VERIFY (R465): the check of what has been loaded starts. -/
def Dev.loadVerifySet (d : Dev) : Dev :=
  if d.security.load = .idle then d else d.setSecurity fun s => { s with
    load := .verifying, loadReason := 0, verifyAt := d.course.elapsed }

/-- Fresh random bytes (R370, R475, R481). -/
def Dev.random (d : Dev) (n : Nat) : List Byte := (List.range n).map (Config.trng d.device.fresh)

/-- A new DEBUG_CHALLENGE (R481). -/
def Dev.newChallenge (d : Dev) : Dev := (d.putB Obj.DEBUG_CHALLENGE (d.random 16)).tickFresh

/-- The debug port unlocks for a lifetime in seconds (R481). -/
def Dev.debugUnlock (lifetime : Nat) (d : Dev) : Dev :=
  let till := (d.courseNs + lifetime * 1000000000) % 2 ^ 64
  let d := (d.put Obj.DEBUG_STATE 1).put Obj.DEBUG_EXPIRY till
  let d := d.setSecurity fun s => { s with debugUntil := some (d.course.elapsed + lifetime * secTicks) }
  (d.newChallenge).flagRaise Obj.SEC_FLAGS 7 0x8008 (u64 till)

/-- The debug port locks (R481). -/
def Dev.debugLock (d : Dev) : Dev :=
  if d.u Obj.DEBUG_STATE = 0 then d
  else ((d.put Obj.DEBUG_STATE 0).setSecurity fun s => { s with debugUntil := none }).raise 0x8009 []

/-- DEBUG_EXPIRY (R481). -/
def Dev.debugExpiry (d : Dev) : Dev :=
  match d.security.debugUntil with
  | none => d
  | some t => (d.advanceTo t).debugLock

/-- LOAD_VERIFY_DONE (R465): within a second of LOAD_VERIFY, VALID, with what the content brings, or INVALID with its reason,
LOAD_FAILED and 0x8005. -/
def Dev.loadVerifyDone (instant : Nat) (d : Dev) : Dev :=
  if d.security.load ≠ .verifying then d else
    let d := d.advanceTo (min instant (d.security.verifyAt + secTicks))
    let v := d.loadFinding
    let t := d.security.loadTarget
    let slot := d.security.loadSlot
    if v.reason ≠ 0 then
      (d.setSecurity fun s => { s with load := .invalid, loadReason := v.reason }).flagRaise Obj.SEC_FLAGS 4 0x8005
        (u8 t ++ u8 v.reason)
    else
      let d := d.setSecurity fun s => { s with load := .valid, loadReason := 0 }
      match t with
      | 0 => (d.setImage slot fun _ => ⟨true, v.rev, v.secVersion⟩).put
          (if slot = 0 then Obj.IMAGE_REV_0 else Obj.IMAGE_REV_1) v.rev
      | 1 => d.setBundle slot fun _ => ⟨true, v.rev, v.records⟩
      | _ => d.debugUnlock v.lifetime

/-- The check of IMAGE_ACTIVATE (R466). -/
def Dev.activateCheck (d : Dev) : Option Fail :=
  failIf (decide (d.security.load ≠ .valid) || decide (1 < d.security.loadTarget)) (failRange 0)

/-- IMAGE_ACTIVATE accepted (R466): the slot that was loaded is marked TRIAL and the device resets at the next stroke boundary; that of a
personality is marked active. -/
def Dev.activate (d : Dev) : Dev :=
  let slot := d.security.loadSlot
  if d.security.loadTarget = 0 then
    (d.setSecurity fun s => { s with trialSlot := some slot }).setStart fun s => { s with resetDue := some (5, slot) }
  else d.setSecurity fun s => { s with activeBundle := slot }

/-- The check of IMAGE_CONFIRM (R467): in RUN and SERVICE, the running image on trial (DEDUCED, log 12). -/
def Dev.confirmCheck (d : Dev) : Option Fail :=
  failIf (!(d.device.state = .run || d.device.state = .service) || !d.security.onTrial) d.failState

/-- IMAGE_CONFIRM accepted (R467): the trial slot becomes active, fuses are blown up to its SEC_VERSION. -/
def Dev.confirmImage (d : Dev) : Dev :=
  if !d.security.onTrial then d else
    let slot := d.security.runningSlot
    let sec := (d.security.images.getD slot ⟨false, 0, 0⟩).secVersion
    let count := max (d.u Obj.ROLLBACK_COUNT) sec
    let d := d.setSecurity fun s => { s with onTrial := false, activeSlot := slot, fuses := count }
    (d.put Obj.ROLLBACK_COUNT count).flagRaise Obj.SEC_FLAGS 2 0x8003 (u8 count)

/-! ### Keys (R469, R470) -/

/-- The key K of a level (R469), empty while unset. -/
def Dev.levelKey (d : Dev) (level : Nat) : List Byte := d.b (Obj.LEVEL_KEY (level - 1))

/-- KEYS_SET (R482). -/
def Dev.keysSet (d : Dev) : Nat :=
  ((List.range 3).map fun k => flag (!(d.levelKey (k + 1)).isEmpty) * 2 ^ k).sum + flag (!d.net.ringKey.isEmpty) * 8 +
    flag (!(d.b Obj.RING_KEY_NEXT).isEmpty) * 16

/-- The key under which the ring key stands among the internal records (R460). -/
def ringKeyKey : Nat := 0x141000

/-- The check of RING_SWITCH_AT (R470). -/
def Dev.ringSwitchCheck (d : Dev) (t : Nat) : Option Fail :=
  failIf ((d.b Obj.RING_KEY_NEXT).isEmpty || decide (t ≤ d.courseNs)) (failRange 0)

/-- RING_KEY_SWITCH (R470): at RING_SWITCH_AT the next key becomes the ring key; frames of the epoch before are accepted
for 60 s more. -/
def Dev.ringKeySwitch (d : Dev) : Dev :=
  let next := d.b Obj.RING_KEY_NEXT
  if next.isEmpty || d.u Obj.RING_SWITCH_AT = 0 then d else
    let d := d.advance (d.ticksUntil (d.u Obj.RING_SWITCH_AT))
    let old := d.u Obj.RING_EPOCH
    let d := d.setNet fun n => { n with
      ringBefore := some (old, n.ringKey, d.course.elapsed + 60 * secTicks), ringKey := next }
    let d := (d.put Obj.RING_EPOCH (old + 1)).putB Obj.RING_KEY_NEXT []
    let d := d.bufferInternal .values
      [⟨ringKeyKey, .bytes next⟩, Obj.RING_KEY_NEXT.writeB [], Obj.RING_EPOCH.write (old + 1)]
    d.flagRaise Obj.SEC_FLAGS 8 0x800A (u16 (d.u Obj.RING_EPOCH))

/-- RING_EPOCH_GRACE_END (R470). -/
def Dev.ringGraceEnd (d : Dev) : Dev :=
  match d.net.ringBefore with
  | none => d
  | some (_, _, till) => (d.advanceTo till).setNet fun n => { n with ringBefore := none }

/-! ### Indices (R471–R473, R479) -/

/-- The first index of the block kept for closing (R479). -/
def closingIndex : Nat := 2 ^ 25 - 256

/-- INDEX_REMAINING (R479). -/
def Dev.indexRemaining (d : Dev) : Nat := closingIndex - d.u Obj.INDEX_NEXT

/-- INDEX_LIFE in days (R479); none where no stream is attested, for which the spec states no value (log 104). -/
def Dev.indexLife (d : Dev) : Option Nat :=
  let perHour := ((List.range 8).map d.attestPerHour).sum
  if perHour = 0 then none else some (d.indexRemaining / (24 * perHour))

/-- IDENTITY_STATE from the remaining indices (R479): WARN at 335,544. -/
def Dev.noteIndices (d : Dev) : Dev :=
  if d.u Obj.IDENTITY_STATE = 1 && decide (d.indexRemaining ≤ 335544) then
    (d.put Obj.IDENTITY_STATE 2).flagRaise Obj.SEC_FLAGS 5 0x8006 (u32 d.indexRemaining)
  else d

/-- EXHAUSTED (R479). -/
def Dev.exhaust (d : Dev) : Dev :=
  ((d.put Obj.IDENTITY_STATE 3).setSecurity fun s => { s with closing := false }).flagRaise Obj.SEC_FLAGS 6 0x8007 []

/-- Whether a reservation waits for its seal (R472). -/
def Dev.reserving (d : Dev) : Bool :=
  d.handedOver.any fun i => match i with | .internal .indexReserved _ => true | _ => false

/-- Indices left in the present bottom tree (R473). -/
def Dev.treeLeft (d : Dev) : Nat := 2 ^ 15 - d.u Obj.INDEX_NEXT % 2 ^ 15

/-- Whether the next index is the first of a new bottom tree (R473). -/
def Dev.treeChange (d : Dev) : Bool := d.u Obj.INDEX_NEXT % 2 ^ 15 == 0 && d.u Obj.INDEX_NEXT != 0

/-! ### Attestation (R474–R478) -/

/-- What a stream keeps for attestation. -/
def Dev.attest (d : Dev) (s : Nat) : AttestState := d.security.streams.getD s AttestState.reset

/-- Changes what a stream keeps for attestation. -/
def Dev.setAttest (s : Nat) (f : AttestState → AttestState) (d : Dev) : Dev :=
  d.setSecurity fun x => { x with streams := x.streams.modify s f }

/-- LAST and CHAIN of the newest ATTEST of a stream: one that waits in the buffer, else the newest accepted one
(R474, R475). -/
def Dev.attestHead (d : Dev) (s : Nat) : Option Nat × List Byte :=
  match ((d.handedOver.flatMap Item.entries).filter fun e => e.type == .attest && e.stream == s).getLast? with
  | some e => (some (ofBe ((e.payload.drop 16).take 8)), (e.payload.drop 64).take 32)
  | none => ((d.attest s).covered, (d.attest s).chain)

/-- The last position that is covered or waits to be (R474). -/
def Dev.attestCovered (d : Dev) (s : Nat) : Option Nat :=
  match (d.attest s).waiting.getLast? with
  | some w => some w.last
  | none => (d.attestHead s).1

/-- Whether entries of a stream were accepted after the last covered position (R474). -/
def Dev.attestNews (d : Dev) (s : Nat) : Bool :=
  let head := d.u (Obj.STREAM_HEAD s)
  if bit head 63 then false
  else match d.attestCovered s with
    | none => true
    | some p => serialCmp p head 48 == .before

/-- Adds a close of a stream's window to those that wait, where it has new entries. -/
def Dev.closeWindow (final : Bool) (s : Nat) (d : Dev) : Dev :=
  if d.attestNews s then
    d.setAttest s fun a => { a with waiting := a.waiting ++ [⟨d.courseNs, d.u (Obj.STREAM_HEAD s), final⟩] }
  else d

/-- The chain from a value over some positions, with the checkpoints (R476): position and value every 64 positions. -/
def Dev.chainOver (d : Dev) (s first : Nat) : Nat → Nat → List Byte → List (Nat × List Byte) → List Byte × List (Nat × List Byte)
  | 0, _, h, cs => (h, cs)
  | n + 1, k, h, cs =>
    let p := (first + k) % 2 ^ 48
    let stored := match d.entryAt s p with | some e => entryBytes p e | none => Config.lostEntry s p
    let h := sha256 (h ++ stored)
    d.chainOver s first n (k + 1) h (if (k + 1) % 64 = 0 then cs ++ [(p, h)] else cs)

/-- The payload of an ATTEST entry (R475, R476). -/
def Dev.attestPayload (d : Dev) (s : Nat) (w : AttestClose) : List Byte :=
  let head := d.attestHead s
  let first := match head.1 with
    | some p => (p + 1) % 2 ^ 48
    | none => (d.heldPositions s).headD 0
  let count := (w.last + 2 ^ 48 - first) % 2 ^ 48 + 1
  let nchk := min 8 ((count - 1) / 64)
  let prev := if head.1.isSome then head.2 else List.replicate 32 0
  let run := d.chainOver s first count 0 prev []
  let flags := flag (d.u Obj.DEBUG_STATE == 1) + flag (d.attest s).fresh * 2 + flag d.lean * 4 + flag w.final * 8
  u8 0 ++ u8 s ++ u8 flags ++ u8 nchk ++ u32 (d.u Obj.INDEX_NEXT) ++ u64 first ++ u64 w.last ++ u64 w.windowEnd ++ prev ++
    run.1 ++ d.random 32 ++ (run.2.take nchk).flatMap fun c => u64 c.1 ++ c.2

/-- The stream whose close is signed next. -/
def Dev.nextToSign (d : Dev) : Option (Nat × AttestClose) :=
  (List.range 8).findSome? fun s => ((d.attest s).waiting.head?).map fun w => (s, w)

/-- Signs one close (R474–R477): the entry is formed and the index is spent; at the last block every window closes
(R479). -/
def Dev.signOne (s : Nat) (w : AttestClose) (d : Dev) : Dev :=
  let payload := d.attestPayload s w
  let d := d.when d.treeChange (Dev.setSecurity fun x => { x with nextTree := false })
  let d := (d.waitEntry (d.stamp .attest s payload)).tickFresh
  let d := d.setAttest s fun a => { a with waiting := a.waiting.drop 1, fresh := false }
  (d.put Obj.INDEX_NEXT (d.u Obj.INDEX_NEXT + 1)).noteIndices

/-- The closing begins when INDEX_NEXT reaches its block (R479). -/
def Dev.checkClosing (d : Dev) : Dev :=
  if d.security.closing || d.u Obj.IDENTITY_STATE = 3 || decide (d.u Obj.INDEX_NEXT < closingIndex) then d else
    let d := d.setSecurity fun s => { s with closing := true }
    ((List.range 8).filter fun s => d.u (Obj.ATTEST_WINDOW s) != 0).foldl (fun d s => d.closeWindow true s) d

/-- Signs what waits (R472–R474, R479), as long as indices are reserved, no rebuild and no tree change runs. -/
def Dev.signWaiting : Nat → Dev → Dev
  | 0, d => d
  | fuel + 1, d =>
    let d := d.checkClosing
    if d.u Obj.IDENTITY_STATE = 0 || d.u Obj.IDENTITY_STATE = 3 then d
    else match d.nextToSign with
      | none => if d.security.closing then d.exhaust else d
      | some (s, w) =>
        if d.security.rebuilding || (d.treeChange && !d.security.nextTree) then d
        else if d.u Obj.INDEX_RESERVED ≤ d.u Obj.INDEX_NEXT then
          (if d.reserving then d else d.bufferInternal .indexReserved [])
        else (d.signOne s w).signWaiting fuel

/-- Every close that can be signed is signed. -/
def Dev.sign (d : Dev) : Dev := d.signWaiting 64

/-- The window of a stream in seconds (R474). -/
def Dev.attestWindow (d : Dev) (s : Nat) : Nat :=
  if d.u (Obj.ATTEST_WINDOW s) = 0 then 0
  else if d.lean then d.u (Obj.ATTEST_WINDOW_LEAN s) else d.u (Obj.ATTEST_WINDOW s)

/-- ATTEST_WINDOW_CLOSE (R474). -/
def Dev.attestWindowClose (s : Nat) (d : Dev) : Dev :=
  let w := d.attestWindow s
  if w = 0 || d.u Obj.IDENTITY_STATE = 3 || d.u Obj.IDENTITY_STATE = 0 || d.security.closing || !d.start.recovered then d else
    let d := d.advanceTo ((d.attest s).closed + w * secTicks)
    let d := d.setAttest s fun a => { a with closed := d.course.elapsed }
    (d.closeWindow false s).sign

/-- The seal of a reservation (R472): INDEX_RESERVED shows what is committed. -/
def Dev.indexReserved (d : Dev) : Dev :=
  (d.put Obj.INDEX_RESERVED (d.committed Obj.INDEX_RESERVED).toNat).sign

/-- An ATTEST entry has been accepted (R474, R482) (DEDUCED, log 14). -/
def Dev.attestAccepted (s : Nat) (payload : List Byte) (d : Dev) : Dev :=
  let last := ofBe ((payload.drop 16).take 8)
  (d.setAttest s fun a => { a with covered := some last, chain := (payload.drop 64).take 32 }).put (Obj.ATTEST_LAST s) last

/-- BOTTOM_TREE_READY (R473): generated and signed while the present tree has fewer than 4,096 indices left. -/
def Dev.bottomTreeReady (d : Dev) : Dev :=
  if decide (d.treeLeft < 4096) || d.treeChange then (d.setSecurity fun s => { s with nextTree := true }).sign else d

/-- TREE_REBUILD_DONE (R473). -/
def Dev.treeRebuildDone (d : Dev) : Dev := (d.setSecurity fun s => { s with rebuilding := false }).sign

/-- The indices after a whole-device reset (R472, R479): INDEX_NEXT restarts at INDEX_RESERVED; what lies between the
highest index found in the ledger and it is lost; a reset inside the closing exhausts the identity (DEDUCED, log 11). -/
def Dev.restartIndices (d : Dev) : Dev :=
  let reserved := d.u Obj.INDEX_RESERVED
  let found := d.ledger.log.filterMap fun i => match i.content with
    | .entry _ e => if e.type = .attest then some (ofBe ((e.payload.drop 4).take 4) % 2 ^ 25 + 1) else none
    | _ => none
  let lost := reserved - found.foldl max 0
  let d := (d.put Obj.INDEX_NEXT reserved).add Obj.INDEX_LOST lost
  let d := d.when (decide (0 < lost)) (Dev.flagRaise Obj.SEC_FLAGS 9 0x800B (u32 lost))
  let d := d.noteIndices
  if closingIndex < reserved then d.exhaust else d

/-! ### Reading signatures (R477, R480) -/

/-- The message that an ATTEST's signature covers (R477). -/
def attestMessage (payload : List Byte) : List Byte := payload.take 96 ++ payload.drop 128

/-- An LM-OTS signature of the identity key as it stands in a signature: its type and randomizer, and chains that only the part
knows (DESIGN CHOICE, log 62). -/
def otsSignature (c : List Byte) (secret : Nat → Byte) : List Byte := u32 3 ++ c ++ (List.range (67 * 32)).map secret

/-- The HSS signature of a message with an index and a randomizer (R471, R477): two levels, the top key's signature of the bottom tree's
public key, that key, and its signature of the message. -/
def hssSignature (q : Nat) (msg c : List Byte) : List Byte :=
  let top := q / 2 ^ 15
  -- the top signature and the bottom key belong to the bottom tree alone
  let t := Config.treeByte top
  let b := Config.signatureByte q msg c
  u32 1 ++
    (u32 top ++ otsSignature ((List.range 32).map t) (fun k => t (32 + k)) ++ u32 6 ++ (List.range 320).map fun k => t (2176 + k)) ++
    (u32 7 ++ u32 3 ++ (List.range 48).map fun k => t (2496 + k)) ++
    (u32 (q % 2 ^ 15) ++ otsSignature c b ++ u32 7 ++ (List.range 480).map fun k => b (2144 + k))

/-- The bytes of the signature that a selection names (R477, R480). -/
def Dev.signatureOf (d : Dev) (select : Nat) : List Byte :=
  if bits select 63 56 = 0 then Config.certSignature
  else match d.entryAt (bits select 50 48) (bits select 47 0) with
    | some e => hssSignature (ofBe ((e.payload.drop 4).take 4) % 2 ^ 25) (attestMessage e.payload) ((e.payload.drop 96).take 32)
    | none => []

/-- The check of SIG_SELECT (R480): kind and reserved bits, and an ATTEST entry that is still readable. -/
def Dev.sigSelectCheck (d : Dev) (v : Nat) : Option Fail :=
  let isAttest := match d.entryAt (bits v 50 48) (bits v 47 0) with | some e => e.type == .attest | none => false
  failIf (decide (1 < bits v 63 56) || bits v 55 51 != 0 || (bits v 63 56 == 1 && !isAttest)) (failRange 0)

/-- The selection of a requester (R480). -/
def Dev.sigSet (d : Dev) (v : Via) : SigSet :=
  (d.security.sigs.find? fun f => decide (f.owner = v)).getD ⟨v, 0, 0, false⟩

/-- Whether a requester can have a selection (R200, R480). -/
def Dev.sigRoom (d : Dev) (v : Via) : Bool :=
  (d.security.sigs.any fun f => decide (f.owner = v)) || decide (d.security.sigs.length < 8)

/-- Changes the selection of a requester. -/
def Dev.setSig (f : SigSet) (d : Dev) : Dev :=
  d.setSecurity fun s => { s with sigs := (s.sigs.filter fun x => decide (x.owner ≠ f.owner)) ++ [f] }

/-- SIGNATURE_READY (R480): the oldest selection whose signature is still being made; a rebuild delays that of an entry. -/
def Dev.signatureReady (d : Dev) : Dev :=
  match d.security.sigs.find? fun f => !f.ready && (bits f.select 63 56 == 0 || !d.security.rebuilding) with
  | none => d
  | some f => d.setSecurity fun s => { s with
      sigs := s.sigs.map fun (x : SigSet) => if x.owner = f.owner then { x with ready := true } else x }

/-- What a read of SIG_DATA returns, and how many bytes of the signature (R480). -/
def Dev.sigData (d : Dev) (v : Via) : List Byte × Nat :=
  let f := d.sigSet v
  let all := d.signatureOf f.select
  let part := (all.drop f.offset).take 472
  (u16 all.length ++ u16 part.length ++ u32 f.offset ++ part, part.length)

end Sys2Proof.Machine
end

