-- ==== Sys2Proof/Machine/Commit.lean ====
section
/-! DEFINITION. What the items of a sealed group leave in the store (R269, R279, R283, R297–R303, R472). -/

namespace Sys2Proof.Machine

/-- The staged records of an apply become the running ones; the pairs of those that they replace are free (R300). -/
def currentPlaces (kind : ApplyKind) (ps : List Place) : List Place :=
  let staged := ps.filter fun p => decide (p.stage = some kind)
  (ps.filter fun p => decide (p.stage ≠ some kind) &&
    !(decide (p.stage = none) && staged.any fun q => q.key == p.key)) ++ staged.map fun p => { p with stage := none }

/-- What an item leaves in the store when its group seals. -/
def Dev.commitItem (i : Item) (d : Dev) : Dev :=
  match i with
  | .entry _ | .checkpoint .. => d
  | .request p _ copies =>
    let d := d.commitAll copies
    if p.applies || p.rq.id = 0 then d else d.markAccepted p.rq.client.toNat p.rq.id.toNat
  | .internal on copies =>
    let d := d.commitAll copies
    match on with
    | .generation s g => d.setLedger fun l => { l with generation := l.generation.set s g }
    | .indexReserved => d.commitKey (Obj.INDEX_RESERVED.write d.nextReserved)
    | .pubReserved => d.commitKey (publicationBlocks.write d.nextPublicationBlocks)
    | _ => d
  | .ring _ values => d.commitAll values
  | .acked u position _ => d.setSub u fun s => { s with committed := position }
  | .applyPart kind copies => d.setLedger fun l => { l with staged := l.staged ++ copies.map fun w => (kind, w) }
  | .selector kind =>
    let d := d.commitAll ((d.ledger.staged.filter fun x => decide (x.1 = kind)).map Prod.snd ++
      [⟨selectorKey, .bytes (u8 (d.ledger.epoch + 1))⟩])
    d.setLedger fun l => { l with
      staged := l.staged.filter (fun x => decide (x.1 ≠ kind))
      places := currentPlaces kind l.places
      epoch := l.epoch + 1 }

/-- The items of a group. -/
def Dev.groupItems (d : Dev) (g : Group) : List Item := d.ledger.buffer.take g.count

/-- What a sealed group leaves in the store. -/
def Dev.commitGroup (g : Group) (d : Dev) : Dev := (d.groupItems g).foldl (fun d i => d.commitItem i) d

end Sys2Proof.Machine
end

