-- ==== Sys2Proof/Machine/Startup.lean ====
section
/-! DEFINITION. Start-up: from a source that appears to the end of STARTING (R7, R29, R43, R128, R213, R273, R301, R306, R311, R334,
R382, R447, R462, R463, R468, R472, R485, R487–R493). -/

namespace Sys2Proof.Machine

/-! ### Supply and boot (R462, R463, R489) -/

/-- SUPPLY_VALID (R213, R397, R489): the HV die latches LSRC, the wake port its address. -/
def Dev.supplyValid (lsrc : Bool) (address : Nat) (d : Dev) : Dev :=
  if d.start.phase ≠ .supply then d else
    let d := d.setOutputs fun o => { o with source := lsrc }
    (d.setStart fun s => { s with phase := .verify, supply := d.course.elapsed, address := address }).newChallenge

/-- Why the boot ROM rejects an image slot: its component and reason (R462, R464, R467). -/
def Dev.slotFault (d : Dev) (f : SlotFinding) : Option (Nat × Nat) :=
  match f.failure with
  | some (c, r) => some (c, r)
  | none => if f.secVersion.toNat < d.security.fuses then some (0, 6) else none

/-- The finding about an image slot. -/
def imageFinding (f : BootFindings) (slot : Nat) : SlotFinding := if slot = 0 then f.image0 else f.image1

/-- The finding about a personality slot. -/
def bundleFinding (f : BootFindings) (slot : Nat) : BundleFinding := if slot = 0 then f.bundle0 else f.bundle1

/-- Why the boot ROM rejects a personality slot (R462, R464, R468). -/
def Dev.bundleFault (d : Dev) (f : BundleFinding) : Option Nat :=
  match f.failure with
  | some r => some r
  | none =>
    if f.rev.toNat < (d.committed Obj.PERSONALITY_MIN).toNat then some 6
    else if f.records.all recordOk then none
    else some 9

/-- The image slots in the order in which the boot ROM tries them (R462). -/
def Security.bootOrder (s : Security) : List Nat :=
  match s.trialSlot with
  | some t => if t = s.activeSlot then [t, 1 - t] else [t, s.activeSlot]
  | none => [s.activeSlot, 1 - s.activeSlot]

/-- The boot ROM tries the slots in order; each that fails is reported (R462). -/
def Dev.trySlots (f : BootFindings) : List Nat → Dev → Dev × Option Nat
  | [], d => (d, none)
  | s :: rest, d =>
    match d.slotFault (imageFinding f s) with
    | some (c, r) => (d.flagRaise Obj.SEC_FLAGS 0 0x8001 (u8 s ++ u8 c ++ u8 r)).trySlots f rest
    | none => (d, some s)

/-- What the boot ROM finds of the personality (R462, R468): the first acceptable slot takes effect; where both fail, 0x8004 and
SAFE cause 5 (DEDUCED, log 13). -/
def Dev.bootBundle (f : BootFindings) (d : Dev) : Dev :=
  if ((d.committed Obj.OEM_KEY_HASH).toBytes 0).isEmpty then d else
    let active := d.security.activeBundle
    let use := fun (slot : Nat) (d : Dev) =>
      (d.setSecurity fun s => { s with bundleInUse := some slot }).put Obj.PERSONALITY_REV (bundleFinding f slot).rev.toNat
    match d.bundleFault (bundleFinding f active) with
    | none => use active d
    | some r =>
      if (d.bundleFault (bundleFinding f (1 - active))).isNone then use (1 - active) d
      else (d.setStart fun s => { s with safeCauses := s.safeCauses ++ [5] }).flagRaise Obj.SEC_FLAGS 3 0x8004
        (u8 active ++ u8 r)

/-- What the images and bundles hold, as the boot ROM found them. -/
def Dev.noteSlots (f : BootFindings) (d : Dev) : Dev :=
  let d := d.setSecurity fun s => { s with
    images := [0, 1].map fun k => ⟨(d.slotFault (imageFinding f k)).isNone, (imageFinding f k).rev.toNat, (imageFinding f k).secVersion.toNat⟩
    bundles := [0, 1].map fun k => ⟨(d.bundleFault (bundleFinding f k)).isNone, (bundleFinding f k).rev.toNat, (bundleFinding f k).records⟩ }
  (d.put Obj.IMAGE_REV_0 f.image0.rev.toNat).put Obj.IMAGE_REV_1 f.image1.rev.toNat

/-- What the keeper reports of the start before this one (R311, R430, R447): a heartbeat lost, a thermal shutdown, a group that it
abandoned. -/
def Dev.reportBefore (d : Dev) : Dev :=
  let d := d.when d.start.watchdog fun d =>
    (d.setStart fun s => { s with watchdog := false }).flagRaise Obj.LOOP_FLAGS 3 0x4004 []
  let d := match d.start.shutdown with
    | some (i, r) => (d.bump Obj.SHUTDOWNS).flagRaise Obj.THERM_FLAGS 2 0x7006 (u8 i ++ f32b r)
    | none => d
  match d.ledger.abandoned with
  | some g => (d.setLedger fun l => { l with abandoned := none }).flagRaise Obj.NVM_FLAGS 7 0x5019 (u32 g)
  | none => d

/-- BOOT_VERIFY_DONE (R462, R463, R467): the slot to run is chosen, or the ROM loader runs. -/
def Dev.bootVerifyDone (f : BootFindings) (d : Dev) : Dev :=
  if d.start.phase ≠ .verify || d.security.romLoader then d else
    let d := d.put Obj.ROLLBACK_COUNT d.security.fuses
    let d := d.when d.security.onTrial fun d =>
      (d.setSecurity fun s => { s with onTrial := false }).flagRaise Obj.SEC_FLAGS 1 0x8002 []
    let d := d.noteSlots f
    let trial := d.security.trialSlot
    let r := d.trySlots f d.security.bootOrder
    let d := r.1.setSecurity fun s => { s with trialSlot := none }
    match r.2 with
    | none => d.setSecurity fun s => { s with romLoader := true }
    | some slot =>
      let d := d.setSecurity fun s => { s with runningSlot := slot, onTrial := decide (trial = some slot) }
      let d := d.put Obj.FIRMWARE_REV (imageFinding f slot).rev.toNat
      let d := d.bootBundle f
      let d := d.setStart fun s => { s with phase := .energy, detail := if s.cause = 5 then slot else s.detail }
      d.reportBefore

/-- STORE_ENERGY_READY (R306, R490): the store covers 32 rounds, C being 35 mF. -/
def Dev.storeEnergyReady (voltage : F32) (d : Dev) : Dev :=
  let e := F32.mul (F32.mul (F32.ofRat 1 2) (F32.ofInt 35)) (F32.sub (F32.mul voltage voltage) (F32.ofInt 9))
  if d.start.phase ≠ .energy || F32.lt e (energyNeeded 32) then d
  else (d.putF Obj.STORE_VOLTAGE voltage).setStart fun s => { s with phase := .recovery }

/-! ### Recovery (R301, R306) -/

/-- What the cut-off round of the open group has left in the page of a bank; nothing where no round was being programmed or the
bank is retired (R307, R309). -/
def Dev.cutOf (d : Dev) (f : RecoveryFindings) (g : Group) (bank : Nat) : PageCut :=
  if !g.busy || d.ledger.banksRetired.getD bank false then .old else if bank = 0 then f.cut0 else f.cut1

/-- Whether recovery finds the open group complete: the page with SEAL intact in either bank (R306). -/
def Dev.groupComplete (d : Dev) (f : RecoveryFindings) (g : Group) : Bool :=
  decide (g.left ≤ 1) && [0, 1].any fun b => decide (d.cutOf f g b = .new)

/-- The undo records among the pages of a group: target and image (R297). -/
def undoRecords : List (PageTarget × List Byte) → List (Nat × List Byte)
  | (.journal, a) :: (.journal, b) :: rest =>
    (ofBe ((a.drop 4).take 2), (a.drop 8).take 56 ++ (b.drop 4).take 8) :: undoRecords rest
  | _ :: rest => undoRecords rest
  | [] => []

/-- A repair round (R306): a pair programmed where some bank in service holds other bytes, with the rounds so far. -/
def Dev.repair (pair : Nat) (image : List Byte) (torn : Bool) (x : Dev × Nat) : Dev × Nat :=
  if torn || x.1.banks.any fun b => decide (x.1.page b pair ≠ image) then (x.1.program pair image, x.2 + 1) else x

/-- An open group that is complete (R306): its last pair made good in both banks, its items accepted, a generation among them reported (R269). -/
def Dev.completeGroup (f : RecoveryFindings) (g : Group) (d : Dev) : Dev × Nat :=
  let items := d.groupItems g
  let attested := withPositions d.ledger.next (items.flatMap Item.entries)
  let torn := d.banks.any fun b => decide (d.cutOf f g b ≠ .new)
  let r := d.runRound g
  let d := (r.2.commitGroup r.1).sealLog r.1
  let d := items.foldl (fun d i => match i with
    | .internal (.generation s n) _ => d.flagRaise Obj.ENTRY_FLAGS 3 0x5003 (u8 s ++ u16 n)
    | _ => d) d
  (attested.foldl (fun d pe => d.when (pe.2.type == .attest) (Dev.attestAccepted pe.2.stream pe.2.payload)) d, flag torn)

/-- An open group that is rolled back (R306): the COPY pairs that it touched take their undo images, the pages that it claimed the
free image. -/
def Dev.rollBack (f : RecoveryFindings) (g : Group) (d : Dev) : Dev × Nat :=
  let cut := [0, 1].any fun b => decide (d.cutOf f g b ≠ .old)
  let last := if cut then (d.roundPair g).toList else []
  let touched := (g.plan.take (g.done.length + 1)).zip (g.done ++ last)
  let undo := undoRecords (g.plan.take g.done.length)
  let isLast := fun (p : Nat) => last.contains p
  let x := undo.foldl (fun x u => if touched.any fun t => t.2 == u.1 && decide (t.1.1 = .copy u.1)
    then Dev.repair u.1 u.2 (isLast u.1) x else x) (d, 0)
  (touched.filter fun t => match t.1.1 with | .copy _ => false | _ => true).foldl (fun x t =>
    Dev.repair t.2 freeImage (isLast t.2) x) x

/-- The places of the LOG that lie in a pair and hold something. -/
def Dev.logAt (d : Dev) (pair : Nat) : List Nat :=
  ((d.ledger.log.flatMap LogItem.pages).filter fun p => 6400 + p % 9984 == pair).eraseDups

/-- Whether a page holds what must be kept (R294, R307). -/
def Dev.allocated (d : Dev) (pair : Nat) : Bool :=
  match regionOf pair with
  | 0 => (List.range 8).any fun r => decide (d.ledger.heads.rings.getD r 0 ≠ 0 ∧
      PageTarget.pair (.ring r) (d.ledger.heads.rings.getD r 0 - 1) = pair)
  | 2 => d.ledger.places.any fun p => p.pairs.contains pair
  | 3 => !(d.logAt pair).isEmpty
  | _ => false

/-- A page of the LOG or of a ring that a fault has changed (R306): programmed from its mirror where that is whole; else what it held
is lost. COPY pages follow with their records. -/
def Dev.mendPage (faults : List PageFault) (fault : PageFault) (x : Dev × Nat) : Dev × Nat :=
  let d := x.1
  let bank := fault.bank.val
  let pair := fault.pair.val
  if !d.allocated pair || regionOf pair == 2 || !d.banks.contains bank then x
  else if d.banks.contains (1 - bank) && !(faults.any fun e => e.pair.val == pair && e.bank.val != bank) then
    Dev.repair pair (d.page (1 - bank) pair) false x
  else if regionOf pair = 0 then (d.reloadRing (pair / 32), x.2)
  else (d.setLedger fun l => { l with log := l.log.filter fun i => !(i.pages.any fun p => 6400 + p % 9984 == pair) }, x.2)

/-! ### The copies of a record (R301, R306, R334) -/

/-- A record of which both copies are lost (R301, R334): its default, COPY_LOST, 0x5013, and SAFE cause 2 for a structural or PC
object. -/
def Dev.copyLost (index sub : Nat) (d : Dev) : Dev :=
  let key := index * 256 + sub
  let d := { d with nvm := d.nvm.erase key }
  let d := d.setLedger fun l => { l with places := l.places.filter fun p => p.key != key }
  let grave := match Machine.cardAt index sub with | some c => c.structural || c.persist == .PC | none => false
  let d := d.when grave (Dev.setStart fun s => { s with safeCauses := s.safeCauses ++ [2] })
  d.flagRaise Obj.NVM_FLAGS 2 0x5013 (u16 index ++ u8 sub)

/-- The value that the bytes of a record give. -/
def copyValue (key : Nat) (b : List Byte) : Value :=
  match Machine.cardOfKey key with
  | some c => c.valueOf b
  | none => .bytes b

/-- A record's chosen copy is used; a rewriting is an internal persistent write (R301). -/
def Dev.useCopy (p : Place) (c : CopyRead) (rewrite : Bool) (d : Dev) : Dev :=
  let w : Write := ⟨p.key, copyValue p.key c.value⟩
  let d := d.commitKey w
  let d := d.setLedger fun l => { l with places := putPlace l.places { p with seq := c.seq } }
  d.when rewrite (Dev.bufferInternal .values [w])

/-- The pages of a bank in which a record is not intact are programmed from the other bank, where it is (R306). -/
def Dev.mendCopy (p : Place) (bank : Nat) (x : Dev × Nat) : Dev × Nat :=
  if !x.1.banks.contains bank then x
  else p.pairs.foldl (fun x q => Dev.repair q (x.1.page (1 - bank) q) false x) x

/-- A record that faults may have changed (R301, R306). -/
def Dev.selectCopy (gOpen : Option Nat) (p : Place) (x : Dev × Nat) : Dev × Nat :=
  let d := x.1
  let a := d.readCopy 0 p
  let b := d.readCopy 1 p
  match chooseCopy gOpen a b with
  | .same c => (d.useCopy p c false, x.2)
  | .rewrite bank c =>
    if a.isSome && b.isSome then (d.useCopy p c true, x.2)
    else let y := Dev.mendCopy p (1 - bank) x; (y.1.useCopy p c false, y.2)
  | .tie c => ((d.useCopy p c true).flagRaise Obj.NVM_FLAGS 1 0x5012 (u16 (p.key / 256) ++ u8 (p.key % 256)), x.2)
  | .lost => (d.copyLost (p.key / 256) (p.key % 256), x.2)

/-- The pages that faults have changed are found and made good (R301, R306). -/
def Dev.mendFaults (f : RecoveryFindings) (gOpen : Option Nat) (x : Dev × Nat) : Dev × Nat :=
  let d := f.faults.foldl (fun d e => d.programPage e.pair e.content e.bank) x.1
  let x := f.faults.foldl (fun x e => Dev.mendPage f.faults e x) (d, x.2)
  (x.1.ledger.places.filter fun p => f.faults.any fun e => p.pairs.contains e.pair.val).foldl
    (fun x p => Dev.selectCopy gOpen p x) x

/-- The recovery of the store (R300, R301, R306): the open group is completed or rolled back, pages and copies are made good, the
result is shown and reported with its repair rounds. -/
def Dev.recoverStore (f : RecoveryFindings) (d : Dev) : Dev :=
  let idle := fun (d : Dev) => d.setLedger fun l => { l with
    buffer := [], outside := [], staged := [], taken := [], openGroup := none
    places := l.places.filter fun p => decide (p.stage = none) }
  match d.ledger.openGroup with
  | none => (Dev.mendFaults f none (idle d, 0)).1.put Obj.RECOVERY_RESULT 0
  | some g =>
    let complete := d.groupComplete f g
    let x := if complete then d.completeGroup f g else d.rollBack f g
    let y := Dev.mendFaults f (if complete then none else some g.number) (idle x.1, x.2)
    let result := if complete then 1 else 2
    let d := y.1.put Obj.RECOVERY_RESULT (result * 2 ^ 30 + g.number)
    let d := d.when (!complete) (Dev.setFlag Obj.NVM_FLAGS 9)
    d.raise 0x5011 (u8 result ++ u32 g.number ++ u8 y.2)

/-- The subscriptions that the completed group enables (R280, R306). -/
def Dev.enabledByRecovery (d : Dev) (f : RecoveryFindings) : List Nat :=
  match d.ledger.openGroup with
  | some g =>
    if d.groupComplete f g then
      let ws := (d.groupItems g).flatMap fun i => match i with | .request p _ _ => p.writes | _ => []
      (List.range 16).filter fun u => ws.any fun w => w.key == (Obj.SUB_ENABLE u).key && w.value.toNat == 1
    else []
  | none => []

/-- Delivery of a subscription that the completed group enables starts where its objects say (R280). -/
def Dev.startRecovered (u : Nat) (d : Dev) : Dev :=
  let p := d.subStart u
  ((d.put (Obj.SUB_ACKED u) p).put (Obj.SUB_SENT u) p).setSub u fun s => { s with committed := p, formed := p, again := 2 ^ 63 }

/-- Loads what persists (R7, R323, R468): personality defaults first, then every committed value. -/
def Dev.loadPersistent (d : Dev) : Dev :=
  let d := d.bundleRecords.foldl (fun d r =>
    match (if recordIsOem r then recordCard r else Machine.cardAt r.index.toNat r.sub.toNat) with
    | some c => d.setKey ⟨r.index.toNat * 256 + r.sub.toNat, c.valueOf r.value⟩
    | none => d) d
  let d := d.nvm.foldl (fun d c => if [ringKeyKey, selectorKey, publicationBlocks.key].contains c.1 then d else d.setKey ⟨c.1, c.2⟩) d
  d.setNet fun n => { n with
    ringKey := (d.nvm.get ringKeyKey (.bytes [])).toBytes 0
    -- blocks of publication counters already reserved are not used again (R374)
    pubBlocks := (d.committed publicationBlocks).toNat
    pubNext := max 1 ((d.committed publicationBlocks).toNat * 65536) }

/-- The sensors that SENSORS_RETIRED names are retired from the start (R442), and every ageing indicator is judged (R452). -/
def Dev.retireKnown (d : Dev) : Dev :=
  let d := (List.range 8).foldl (fun d i => d.when (bit (d.u Obj.SENSORS_RETIRED) i) (Dev.put (Obj.TS_STATUS i) 3)) d
  (List.range 14).foldl (fun d k => d.judgeAge k) d

/-- The highest course timestamp of the LOG (R43). -/
def Dev.newestTime (d : Dev) : Option Nat :=
  (d.ledger.log.filterMap fun i => match i.content with | .entry _ e => some e.time | _ => none).max?

/-- Course time and strokes at t_R (R27, R29, R43, R489): strokes begin at the next boundary. -/
def Dev.startCourse (d : Dev) : Dev :=
  let ticks := match d.newestTime with
    | some t => ticksOfNs (t + 1000000000) % courseModulus
    | none => 0
  let k := d.u Obj.STROKE_PERIOD
  let p := periodTicks k
  d.setCourse fun c => { c with
    ticks := ticks
    awaiting := true
    period := k
    strokeStart := c.elapsed
    strokeLen := if d.angle then stallTicks else (p - ticks % p) % p
    segments := [⟨c.elapsed, ticks, 0⟩]
    since := c.elapsed }

/-- Stream heads, rate counts, subscriptions and the client table after recovery (R273, R278, R280, R283, R303). -/
def Dev.rebuildStreams (d : Dev) : Dev :=
  let now := d.courseNs
  let d := (List.range 8).foldl (fun d s =>
    match (d.heldPositions s).getLast? with
    | some p =>
      let counted := d.ledger.log.filterMap fun i => match i.content with
        | .entry _ e =>
          if e.stream = s && (e.type == .record || e.type == .command || e.type == .event) && decide (now < e.time + 3600000000000)
          then some (d.course.elapsed + ticksOfNs (e.time + 3600000000000 - now)) else none
        | _ => none
      let d := (d.put (Obj.STREAM_HEAD s) p).setLedger fun l => { l with rate := l.rate.set s counted }
      match (d.attest s).covered with | some q => d.put (Obj.ATTEST_LAST s) q | none => d
    | none => d) d
  let d := (List.range 16).foldl (fun d u =>
    let c := (d.sub u).committed
    let d := d.put (Obj.SUB_ACKED u) c
    if d.on (Obj.SUB_ENABLE u) then
      let head := d.u (Obj.STREAM_HEAD (d.u (Obj.SUB_STREAM u)))
      -- a host port is a path that stands; the others wait for their session or ring
      let state := if 3 ≤ d.u (Obj.SUB_PORT u) then 1 else 3
      ((d.put (Obj.SUB_SENT u) c).put (Obj.SUB_STATE u) state).setSub u fun s => { s with again := head }
    else d) d
  d.put Obj.CLIENTS_IN_USE d.ledger.clients.length

/-- CATCH_LAST_ID from the newest catch entry of the station (R198, R303). -/
def Dev.rebuildCatchId (d : Dev) : Dev :=
  match d.ledger.log.filterMap fun i => match i.content with
      | .entry _ e => if e.type = .catch && isCatchPayload e.payload then some (ofBe ((e.payload.drop 4).take 4)) else none
      | _ => none with
  | id :: rest => d.put Obj.CATCH_LAST_ID (rest.foldl (fun a x => if serialCmp x a 32 = .after then x else a) id)
  | [] => d

/-- The cause of the start is reported (R485, R487). -/
def Dev.reportCause (d : Dev) : Dev :=
  let d := (d.put Obj.RESET_CAUSE d.start.cause).put Obj.RESET_DETAIL d.start.detail
  let d := (d.bump Obj.RESET_COUNT).noteReset
  let d := d.bufferInternal .values [Obj.RESET_COUNT.write (d.u Obj.RESET_COUNT),
    Obj.RESET_HISTORY.writeB (d.b Obj.RESET_HISTORY)]
  let d := d.put Obj.RESET_LOOP_COUNT (min 255 d.start.loopCount)
  d.when (decide (d.u Obj.RESET_LOOP_LIMIT ≤ d.start.loopCount)) (Dev.setStart fun s => { s with
    safeCauses := s.safeCauses ++ [6] })

/-- The events held since the reset are raised in their order (R338). -/
def Dev.releaseHeld (d : Dev) : Dev :=
  let held := d.device.heldEvents
  let d := { d with device := { d.device with heldEvents := [] }, start := { d.start with recovered := true } }
  held.foldl (fun d e => d.raiseNow e.1 e.2) d

/-- PERSONALITY_MIN rises to the bundle that takes effect (R468). -/
def Dev.raisePersonalityMin (d : Dev) : Dev :=
  let r := d.u Obj.PERSONALITY_REV
  if d.security.bundleInUse.isNone || decide (r ≤ d.u Obj.PERSONALITY_MIN) then d
  else (d.put Obj.PERSONALITY_MIN r).bufferInternal .values [Obj.PERSONALITY_MIN.write r]

/-- RECOVERY_DONE (R306, R489): t_R. Where the last source was lost in the meantime holdup follows (R494; DEDUCED, log 105). -/
def Dev.recoveryDone (f : RecoveryFindings) (d : Dev) : Dev :=
  if d.start.phase ≠ .recovery then d else
    let enabled := d.enabledByRecovery f
    let d := d.recoverStore f
    let d := d.loadPersistent.retireKnown.countPages.assignFrames.startCourse.rebuildStreams.rebuildCatchId
    let d := enabled.foldl (fun d u => d.startRecovered u) d
    let d := (d.releaseHeld).reportCause
    let d := d.raisePersonalityMin.restartIndices.baseAssign
    let d := d.setStart fun s => { s with phase := .load }
    d.when (!d.anySource && decide (d.start.supply < d.power.lostAt)) Dev.enterHoldup

/-! ### Configuration and calibration (R334, R489, R491, R493) -/

/-- The converters that START_CAL calibrates, in ascending order (R491). -/
def Dev.startCalList (d : Dev) : List (Fin 4) :=
  if d.u Obj.START_CAL = 0 then [] else (List.finRange 4).filter fun c => !d.retired c && d.convMode c != 0

/-- The gain codes that the start calibration of a converter takes (R491): those of its seat's table, or of the XCHK_ENTRY entries for
the spare. -/
def Dev.startCalMask (d : Dev) (c : Nat) : Nat :=
  let words := match d.seatOf c with
    | some n => (List.range (d.u (Obj.SEQ_LAST n) + 1)).map fun e => d.u (Obj.SEQ_ENTRY n e)
    | none => ((List.range d.workSeats).filter fun n => d.u (Obj.XCHK_ENTRY n) != 0xFF).map fun n =>
        d.u (Obj.SEQ_ENTRY n (d.u (Obj.XCHK_ENTRY n)))
  words.foldl (fun m w => setBit m (gainOf w)) 0

/-- The next start calibration is asked for; after the last, t_S has come (R491). A converter with no gain to calibrate is passed
over. -/
def Dev.nextStartCal : List (Fin 4) → Dev → Dev
  | [], d => d.setStart fun s => { s with phase := .ready, calibrate := [] }
  | c :: rest, d =>
    if (d.calGains c 1 (d.startCalMask c)).isEmpty then d.nextStartCal rest
    else (d.setStart fun s => { s with calibrate := c :: rest }).calAccept c 1 (d.startCalMask c)

/-- The start goes on where the calibration of its first converter has ended, sealed or failed (R491). -/
def Dev.startProgress (d : Dev) : Dev :=
  match d.start.phase, d.start.calibrate with
  | .calibrate, c :: rest => if (d.conv c).cal.isSome then d else d.nextStartCal rest
  | _, _ => d

/-- The running copies that the configuration sets (R52, R80, R83, R163, R182, R213, R236, R258). -/
def Dev.runConfiguration (d : Dev) : Dev :=
  let d := (List.range 4).foldl (fun d n => d.setSeat n fun s => { s with
    mode := d.modeWanted n, burnout := d.u (Obj.BURNOUT n) }) d
  let d := allInputs.foldl (fun d p => d.bindInput p.1 p.2) d
  let d := d.setOutputs fun o => { o with adacRange := d.u Obj.ADAC_RANGE }
  d.placeChannels.putSpacings.updateDepths.failSeatless

/-- The checks of a start (R334): those that leaving CONFIG makes. -/
def Dev.startChecks (d : Dev) : Dev :=
  match d.leaveConfigCheck with
  | .ok e => e
  | .error x => x.2.setStart fun s => { s with safeCauses := s.safeCauses ++ [1] }

/-- The profile at a start: the target, no better than the ceiling (R406, R410). What it forbids does not run, as after a forced
change (R241, R411), and the start ends in SAFE with cause 4 (DEDUCED, log 85). -/
def Dev.startProfile (d : Dev) : Dev :=
  let c := d.ceiling
  let p := max (d.u Obj.PROFILE_TARGET) c
  let outs := d.outputsToDrop p
  let seats := d.seatsToDrop p
  let d := ((d.put Obj.PROFILE_CEILING c).put Obj.PROFILE_ACTIVE p).setPower fun v => { v with
    lastCeiling := c
    forced := decide (d.u Obj.PROFILE_TARGET < c), seatsDown := seats, outputsOff := outs }
  d.when (outs != 0 || seats != 0) (Dev.setStart fun s => { s with safeCauses := s.safeCauses ++ [4] })

/-- CONFIG_LOADED (R382, R489, R491, R493): t_C. -/
def Dev.configLoaded (d : Dev) : Dev :=
  if d.start.phase ≠ .load then d else
    let d := d.setStart fun s => { s with configured := true }
    let d := d.setDevice fun v => { v with appRunning := true }
    let d := d.putOn Obj.MULTIDROP (d.u Obj.HART_LOOP_MODE == 0)
    let d := d.startProfile.runConfiguration.refreshAddresses.reservePublications
    if d.start.holdup then
      let d := (d.setPower fun p => { p with mode := .on }).resumeStrokes.wakeSucceeded
      (d.restartDomain.startChecks).setStart fun s => { s with phase := .ready }
    else
      let d := d.startChecks
      (d.setStart fun s => { s with phase := .calibrate }).nextStartCal d.startCalList

/-! ### The end of STARTING (R334, R492) -/

/-- STARTING_END (R334, R492): SAFE by the lowest cause, or START_STATE. -/
def Dev.startingEnd (d : Dev) : Dev :=
  if d.start.phase ≠ .ready || d.device.state ≠ .starting then d else
    let d := d.put Obj.START_TIME ((d.course.elapsed - d.start.supply) / msTicks)
    let causes := d.start.safeCauses
    let d := d.setStart fun s => { s with phase := .done, safeCauses := [] }
    let d := match causes.min? with
      | some c => ((d.changeState .safe 0xFFFF).put Obj.SAFE_CAUSE c).flagRaise Obj.DEVICE_FLAGS 1 0x0002 (u8 c)
      | none => d.changeState (if d.u Obj.START_STATE = 3 then .config else .run) 0xFFFF
    if d.device.state = .config then d.resetLanes else d.resetLanes.armTables

/-! ### Requested resets and the reset loop (R487, R488) -/

/-- RESET_REQUEST (R488): the reset comes at the next stroke boundary. -/
def Dev.resetRequest (client : Nat) (d : Dev) : Dev := d.setStart fun s => { s with resetDue := some (6, client) }

/-- A whole-device reset that is due at the boundary (R466, R488). -/
def Dev.resetIfDue (d : Dev) : Dev :=
  match d.start.resetDue with
  | some (cause, detail) => d.wholeReset cause detail
  | none => d

/-- RESET_LOOP_COUNT_EXPIRY (R487): 600 s without such a reset. -/
def Dev.resetLoopExpiry (d : Dev) : Dev :=
  if d.start.loopCount = 0 then d else
    let d := d.advanceTo (d.start.loopLast + 600 * secTicks)
    (d.setStart fun s => { s with loopCount := 0 }).put Obj.RESET_LOOP_COUNT 0

end Sys2Proof.Machine
end

