-- ==== Sys2Proof/Machine/Reads.lean ====
section
/-! DEFINITION. What a read of an object returns: the packed status objects, the objects that the device computes as they are
read, the fast window, and the four reads that have a side effect (R58, R91, R113, R121, R138, R148, R178–R180, R200, R201, R206,
R244, R280, R303, R305, R315, R317, R321, R323, R337, R341, R342, R344, R363, R396, R397, R436, R449, R458, R480). -/

namespace Sys2Proof.Machine

/-! ### Packed and computed objects -/

/-- CV_STATUS (R91): MODE, CHECKING, REF_FAULT, and RECOVERING until the filter has settled after an overload (R67). -/
def Dev.cvStatus (d : Dev) (c : Nat) : Nat :=
  let v := d.conv c
  let checking := match d.seatOf c with
    | some n => (match (d.seat n).check with | some (.running _) => true | _ => false)
    | none => false
  d.convMode c * 2 ^ 5 + flag checking * 2 ^ 4 + flag v.refActive * 2 ^ 3 + flag v.overload.isSome * 2 ^ 2

/-- STATE of LANE_STATUS (R180). -/
def Dev.laneState (d : Dev) (l : Nat) : Nat :=
  if !d.on (Obj.LANE_ENABLE l) then 0
  else if (d.lane l).failed then 5
  else if (d.lane l).testing then 4
  else match d.engine.queue with
    | s :: rest => if s.lane = l then 3 else if rest.any fun s => s.lane == l then 2 else 1
    | [] => 1

/-- LANE_STATUS (R180). -/
def Dev.laneStatus (d : Dev) (l : Nat) : Nat := d.laneState l * 2 ^ 13 + (d.lane l).frame * 2 ^ 7

/-- NVM_STATE (R315). -/
def Dev.nvmState (d : Dev) : Nat :=
  flag d.ledger.full * 2 ^ 5 + flag d.ledger.margin * 2 ^ 4 + flag d.ledger.group.isSome * 2 ^ 3 +
    flag d.ledger.deferring * 2 ^ 2 + flag (d.ledger.banksRetired.getD 1 false) * 2 + flag (d.ledger.banksRetired.getD 0 false)

/-- The flag objects by event class (R337, R338). -/
def flagObjects : List (Nat × List Reg) :=
  [(0, [Obj.DEVICE_FLAGS]), (1, [Obj.PWR_FLAGS]),
   (2, regs 4 Obj.CV_FLAGS ++ regs 4 Obj.SEQ_FLAGS ++ [Obj.QUEUE_FLAGS, Obj.XCHK_FLAGS, Obj.DIAG_FLAGS, Obj.IEXC_FLAGS]),
   (3, [Obj.ENGINE_FLAGS, Obj.CAPTURE_FLAGS] ++ regs 32 Obj.LANE_FLAGS),
   (4, [Obj.LOOP_FLAGS, Obj.ADAC_FLAGS, Obj.XDAC_FLAGS]), (5, [Obj.ENTRY_FLAGS, Obj.NVM_FLAGS]),
   (6, [Obj.PORT_FLAGS, Obj.HOST_FLAGS]), (7, [Obj.THERM_FLAGS]), (8, [Obj.SEC_FLAGS]), (9, [Obj.CTRL_FLAGS]),
   (10, [Obj.COURSE_FLAGS, Obj.ALARM_FLAGS])]

/-- AREA_FLAGS (R337). -/
def Dev.areaFlags (d : Dev) : Nat :=
  flagObjects.foldl (fun m c => if c.2.any d.on then setBit m c.1 else m) 0

/-- DEGRADED of DEVICE_STATUS (R337): a converter, a thermal sensor, a ring port, an NVM bank or an SRAM bank is retired
(log 40). -/
def Dev.degraded (d : Dev) : Bool :=
  d.on Obj.RETIRED || d.on Obj.SENSORS_RETIRED || d.on Obj.PORTS_RETIRED || d.ledger.banksRetired.any id ||
    d.start.sramRetired != 0

/-- Whether any shadow differs from its running value (R323). -/
def Dev.shadowPending (d : Dev) : Bool := !d.shadow.isEmpty

/-- CAT of DEVICE_STATUS (R337), in the codes of R170. -/
def Dev.category (d : Dev) : Nat :=
  let st := d.device.state
  if st = .safe || ((List.range 32).any fun l => (d.lane l).failed) ||
      ((List.range d.workSeats).any fun n => (d.seat n).conv.isNone) then catF
  else if st = .config || st = .service || st = .starting then catC
  else if st = .hold || d.course.sync = .free || d.course.sync = .rc || d.ledger.full || d.ledger.deferring then catS
  else if d.degraded || d.maint then 1
  else 0

/-- DEVICE_STATUS (R344). -/
def Dev.deviceStatus (d : Dev) : Nat :=
  d.category * 2 ^ 13 + flag d.shadowPending * 2 ^ 12 + flag d.maint * 2 ^ 11 + flag d.degraded * 2 ^ 10 +
    flag d.device.wpLow * 2 ^ 9 + d.device.state.code

/-- HOST_ATTN_CAUSE (R396). -/
def Dev.attnCause (d : Dev) : Nat :=
  let h := d.link.hosts.getD 0 ⟨none, none, []⟩
  let complete := match h.pending with | some (.result ..) => true | _ => false
  flag complete + flag (decide (d.u Obj.QUEUE_WATERMARK ≤ d.queue.words.length)) * 2 + flag (!h.messages.isEmpty) * 4 +
    flag (d.u Obj.FAST_MODE == 1 && d.device.latch.isSome && !d.device.latchRead) * 8 + flag (d.areaFlags != 0) * 16

/-- HATTN_N, low while a cause that the mask admits is present (R396). -/
def Dev.attnLow (d : Dev) : Bool := d.attnCause &&& d.u Obj.HOST_ATTN_MASK != 0

/-- PTP_STATE (R375): 0 while no PTP source is listed, 1 without a grandmaster, 3 while a PTP source is active and LOCKED, else 2
(log 46). -/
def Dev.ptpState (d : Dev) : Nat :=
  let ptp := fun (s : Source) => s == .ptpRing || s == .ptpS
  if !d.prioList.any (fun k => k == 1 || k == 2) then 0
  else if d.net.grandmaster.isNone then 1
  else if (match d.course.active with | some s => ptp s | none => false) && d.course.sync == .locked then 3
  else 2

/-- IPV6_ADDRESSES (R363, R375): 17 bytes an address. -/
def Dev.addressBytes (d : Dev) : List Byte := d.net.addresses.flatMap fun a => a.bytes ++ u8 a.prefixLen

/-- A position, or none (R289). -/
def positionCode (l : List Nat) : Nat := l.headD (2 ^ 63)

/-- A free number for a reading that no command of the device delivers (log 41). -/
def Dev.freeReading (d : Dev) (bytes : Nat) : Value := .num (d.freshNat % 256 ^ bytes)

/-- BOATHOUSE_ALLOCATED (R22, R420, R435): which of banks 4 to 14 the application core uses is free (log 41); it always uses
banks 2 and 3; a retired bank is not used, and bank 15 only in place of one. -/
def Dev.boathouse (d : Dev) : Nat :=
  let used := (List.range' 4 11).foldl (fun m k => if bit d.freshNat k then setBit m k else m) 0x000C
  let gone := (bitList 16 used).filter fun k => bit d.start.sramRetired k
  let m := gone.foldl clearBit used
  match d.start.sramSpare with
  | some b => if bit used b then setBit m 15 else m
  | none => m

/-- The objects that the device computes as they are read, whoever reads them. -/
def Dev.computed (d : Dev) (index sub : Nat) : Option Value :=
  let num := fun (n : Nat) => some (Value.num n)
  match index, sub with
  | 0x1001, 1 => num d.device.state.code
  | 0x1002, 1 => num d.deviceStatus
  | 0x1002, 2 => num d.areaFlags
  | 0x1100, 1 => num d.courseNs
  | 0x1100, 4 => num d.syncQuality
  | 0x1100, 5 => num (if d.course.awaiting && !d.angle then d.course.ticks % d.strokeTicks
      else d.course.elapsed - d.course.strokeStart)
  | 0x1103, 4 => num (d.disciplined % 2 ^ 32)
  | 0x1103, 5 => num (d.errorBound.getD (2 ^ 64 - 1))
  | 0x1200, 1 => num d.pwrState
  | 0x1200, 5 => num d.ceiling
  | 0x1200, 0x0D => num d.boathouse
  | 0x1300, 1 => num d.thermState
  -- no number while the curve is empty or VLOC is lost (R433)
  | 0x1220, 4 => if (d.b Obj.BATT_CURVE).isEmpty || !d.on (Obj.SRC_PRESENT 0) then num F32.qnan.toNat else none
  | 0x1400, 1 => num d.imageStatus
  | 0x1410, 7 => num d.keysSet
  | 0x1420, 7 => num d.indexRemaining
  | 0x1420, 8 => match d.indexLife with | some n => num n | none => some (d.freeReading 4)
  | 0x1500, 1 => num d.nvmState
  | 0x1500, 6 => num d.bufferFill
  | 0x1500, 0x0B => num d.cycleBudget
  | 0x1500, 0x0D => num d.ledgerLife
  | 0x1500, 0x0F => num d.unreleasedPages
  | 0x1618, 1 => num d.ptpState
  | 0x1620, 3 => some (.bytes d.addressBytes)
  | 0x1650, 4 => num d.attnCause
  | 0x1650, 8 => num (0x58 + d.start.address)
  | 0x2400, 4 => num d.diagOwner
  | 0x2600, 3 => num d.queue.words.length
  | 0x2700, 9 => num d.seatMap
  | 0x2700, 0x0B => num d.xchkStatus
  | 0x2800, 1 => num d.engineHz
  | 0x3000, 2 => num (d.washBlocks.length - (d.capture.channels.map fun c => c.blocks.length).sum)
  | 0x3200, 5 => some (.bytes d.catchHeld)
  | 0x3400, 1 => num (flag d.outputs.source)
  | 0x3400, 0x11 => num d.loopStatus
  | 0x3500, 8 => if d.start.configured then some (d.freeReading 4) else num 0
  | 0x3500, 9 => num d.adacStatus
  | 0x3600, 7 => num ((d.theta d.course.elapsed).getD 0)
  | 0x3700, 1 => num (flag d.device.wpLow * 4 + d.freshNat % 4)
  | _, _ =>
    if 0x2000 ≤ index ∧ index < 0x2400 ∧ index % 256 = 0 then
      let n := (index - 0x2000) / 256
      match sub with
      | 5 => num (d.cvStatus n)
      | 0x3D => num (d.condition n).code
      | 0x3E => num (d.seat n).entryNow
      | _ => none
    else if 0x2810 ≤ index ∧ index < 0x2830 ∧ sub = 2 then num (d.laneStatus (index - 0x2810))
    else if 0x3010 ≤ index ∧ index < 0x3018 then
      let c := d.channel (index - 0x3010)
      match sub with
      | 4 => num c.state
      | 5 => num c.samples.length
      | 8 => num c.time
      | _ => none
    else if 0x4000 ≤ index ∧ index < 0x4010 ∧ sub = 2 then num (d.pvStatus (index - 0x4000))
    else if 0x5010 ≤ index ∧ index < 0x5018 ∧ sub = 4 then num (positionCode (d.heldPositions (index - 0x5010)))
    else if 0x1340 ≤ index ∧ index < 0x1346 ∧ sub = 2 then num (F32.ofF64 (d.ageLimit (index - 0x1340))).toNat
    else if 0x1340 ≤ index ∧ index < 0x134E ∧ sub = 1 then num (d.ageValue (index - 0x1340)).toNat
    else if index = 0x1349 ∧ sub = 3 then num (d.ageEnd 9)
    else if index = 0x1349 ∧ sub = 4 then num (d.ageLow 9)
    else if 0x1601 ≤ index ∧ index < 0x1604 ∧ sub = 5 then some (d.freeReading 4)
    else none

/-- The value of an object that its own store holds: the shadow where it differs (R323). -/
def Dev.stored (d : Dev) (c : Card) (index sub : Nat) : Value :=
  let r := c.reg index sub
  d.shadow.get r.key (d.live.get r.key r.dflt)

/-- The bytes of an object, side effects and what belongs to one requester apart (R6, R318, R323). -/
def Dev.objectBytes (d : Dev) (c : Card) (index sub : Nat) : List Byte :=
  ((d.computed index sub).getD (d.stored c index sub)).toBytes c.ty.size

/-! ### The fast window (R341, R342) -/

/-- The objects of the fast map, in map order (R341). -/
def Dev.fastObjects (d : Dev) : List (Card × Nat × Nat) :=
  (List.range 32).filterMap fun i =>
    let m := d.u (Obj.FAST_MAP i)
    if m = 0 then none else (d.cardAt (m / 2 ^ 16) (m / 256 % 256)).map fun c => (c, m / 2 ^ 16, m / 256 % 256)

/-- The level that a read of an object needs (R322). -/
def Card.readLevel (c : Card) : Nat := if c.access = .R then c.level else 0

/-- FAST_LEN (R341). -/
def Dev.fastLen (d : Dev) : Nat := 12 + (d.fastObjects.map fun o => o.1.ty.size).sum

/-- FAST_LEVEL (R341). -/
def Dev.fastLevel (d : Dev) : Nat := (d.fastObjects.map fun o => o.1.readLevel).foldl max 0

/-- FAST_DATA of a tick (R342): the header of the device at the tick, and the values of the map as `v`, the device before the
writes of the tick, holds them (R16). FAST_LEN and FAST_LEVEL may themselves be mapped. -/
def Dev.fastSnapshot (v d : Dev) : List Byte :=
  u64 d.courseNs ++ u32 (d.u Obj.STROKE_COUNT) ++ v.fastObjects.flatMap fun o =>
    if o.2.1 = 0x6000 ∧ o.2.2 = 0x22 then u16 v.fastLen
    else if o.2.1 = 0x6000 ∧ o.2.2 = 0x23 then u8 v.fastLevel
    else v.objectBytes o.1 o.2.1 o.2.2

/-- FAST_DATA as a read returns it (R342): in FAST_MODE STROKE the latest latch. -/
def Dev.fastData (d : Dev) : List Byte :=
  if d.u Obj.FAST_MODE = 1 then d.device.latch.getD (d.seen.fastSnapshot d) else d.seen.fastSnapshot d

/-- The latch of a stroke boundary (R342, R396): the values that stood before anything was written at its tick, under a header that
names the stroke that begins (DEDUCED, log 98). -/
def Dev.latchFast (v d : Dev) : Dev :=
  d.when (v.u Obj.FAST_MODE == 1) fun d => d.setDevice fun x => { x with latch := some (v.fastSnapshot d), latchRead := false }

/-! ### Reads (R113, R200, R201, R317, R321, R480) -/

/-- QUEUE_WORD (R113): the oldest word, or EMPTY. -/
def Dev.readWord (d : Dev) : List Byte × Dev :=
  match d.queue.words with
  | [] => (u64 emptyWord, d)
  | w :: _ => (u64 w, d.takeWords 1)

/-- QUEUE_BLOCK (R113): up to 32 words, oldest first. -/
def Dev.readBlock (d : Dev) : List Byte × Dev :=
  ((d.queue.words.take 32).flatMap u64, d.takeWords 32)

/-- A read of an object of a requester: its bytes, and the device after it. -/
def Dev.readObject (via : Via) (index sub : Nat) (d : Dev) : List Byte × Dev :=
  match index, sub with
  | _, 0 => (u8 (d.lastSub index), d)
  | 0x2600, 1 => d.readWord
  | 0x2600, 2 => d.readBlock
  | 0x3200, 1 => (u32 (d.fetchSet via).id, d)
  | 0x3200, 2 => (u8 (d.fetchSet via).channel, d)
  | 0x3200, 3 => (u32 (d.fetchSet via).offset, d)
  | 0x3200, 4 =>
    let r := d.fetchData via
    let f := d.fetchSet via
    (r.1, d.setFetch { f with offset := (f.offset + r.2) % 2 ^ 32 })
  | 0x1420, 9 => (u64 (d.sigSet via).select, d)
  | 0x1420, 0x0A => (u32 (d.sigSet via).offset, d)
  | 0x1420, 0x0B =>
    let r := d.sigData via
    let f := d.sigSet via
    (r.1, d.setSig { f with offset := (f.offset + r.2) % 2 ^ 32 })
  | 0x6000, 0x22 => (u16 d.fastLen, d)
  | 0x6000, 0x23 => (u8 d.fastLevel, d)
  | 0x6001, 1 => (d.fastData, if via = .spi then d.setDevice fun v => { v with latchRead := true } else d)
  | _, _ =>
    match d.cardAt index sub with
    | some c => (d.objectBytes c index sub, d.tickFresh)
    | none => ([], d)

end Sys2Proof.Machine
end

