-- ==== Sys2Proof/Machine/Boundary.lean ====
section
/-! DEFINITION. The stroke boundary, of the time course and of the angle course, and everything that takes effect at one (R27, R29, R40, R52–R55,
R80, R130, R163, R273, R296, R333, R342, R355, R410, R488, R492). -/

namespace Sys2Proof.Machine

/-- A checkpoint of the client table is due (R303): a COMMAND entry that the newest checkpoint does not cover lies within the 128
pages that the LOG claims next. -/
def Dev.checkpointDue (d : Dev) : Bool :=
  let covered := d.ledger.log.foldl (fun n i => match i.content with | .checkpoint _ => max n i.first | _ => n) 0
  let head := d.logAfter 128
  (d.ledger.log.any fun i => match i.content with
    | .entry _ e => e.type == .command && decide (covered ≤ i.first) && i.reached head
    | _ => false) &&
  !(d.handedOver.any fun i => match i with | .checkpoint .. => true | _ => false)

/-- GROUP_FORM (R296), after a checkpoint that is due. -/
def Dev.formGroups (d : Dev) : Dev :=
  (d.when d.checkpointDue (Dev.bufferWait (.checkpoint d.ledger.clients d.course.elapsed))).formGroup

/-- Everything that takes effect at a stroke boundary. A reset that waits for it comes instead (R488). -/
def Dev.boundary (d : Dev) : Dev :=
  if d.start.resetDue.isSome then d.resetIfDue else
    let before := d.seen
    let applied := d.course.marks.isSome || d.engine.apply.isSome
    let d := d.coxBoundary.replanEdges.switchEngine
    let d := d.when applied fun d => d.allSumsAgain.restartAge
    let d := (List.range 4).foldl (fun d n => d.seatBoundary n) d
    let d := d.xcheckBoundary
    let d := d.setLedger fun l => { l with burst := List.replicate 8 0, groupTimer := d.course.elapsed }
    before.latchFast d.netBoundary.formGroups.takeTransition.profileBoundary.startingEnd

/-- Whether strokes run, or begin at their next boundary (R27, R47). -/
def Dev.strokesGo (d : Dev) : Bool := d.course.running || d.course.awaiting

/-- STROKE_BOUNDARY (R27, R55): the end of the stroke of the time course, or of a fallback stroke of the angle course. -/
def Dev.strokeBoundary (d : Dev) : Dev :=
  if !d.strokesGo || (d.angle && !d.course.fallback) then d
  else
    let d := d.advanceTo (d.course.strokeStart + d.course.strokeLen)
    (d.when d.angle (Dev.dropMarks d.course.strokeLen)).boundary

/-- A boundary of the angle course at an instant (R54, R55): the marks that the stroke just ended never reached are counted, a
fallback stroke ends (DEDUCED, log 29). -/
def Dev.angleBoundary (instant : Nat) (d : Dev) : Dev :=
  let d := d.advanceTo instant
  if d.overspeed d.course.elapsed then d.flagRaise Obj.COURSE_FLAGS 8 0xA00A []
  else
    let d := d.when d.course.running (Dev.dropMarks (d.course.elapsed - d.course.strokeStart))
    (d.setCourse fun c => { c with encBoundary := some c.elapsed, fallback := false }).boundary

/-- ENC_BOUNDARY (R54): the count is as the shaft has turned it, forwards or backwards; where it has reached a multiple of
the step, a stroke of the angle course begins. -/
def Dev.encBoundaryAt (instant count : Nat) (d : Dev) : Dev :=
  if d.stopped then d else
    let d := d.put Obj.ENC_COUNT count
    if !d.angle || !d.strokesGo || count % max 1 d.encStep ≠ 0 then d else d.angleBoundary instant

/-- ENC_INDEX_PULSE (R54, R100): with ENC_INDEX = 1 the count is 0 and the pulse is a boundary of the angle course; tables with
TRIG_SRC ENC_INDEX are triggered. -/
def Dev.encIndexPulse (instant : Nat) (d : Dev) : Dev :=
  if d.stopped then d else
    let d := d.advanceTo instant
    let d := d.when (d.u Obj.ENC_INDEX != 0) (Dev.put Obj.ENC_COUNT 0)
    let d := d.when (d.u Obj.ENC_INDEX != 0 && d.angle && d.strokesGo) (Dev.angleBoundary instant)
    d.triggerAll 5

/-- ANGLE_STALL (R55): no boundary within 1.024 s; strokes of ANGLE_FALLBACK_PERIOD begin. -/
def Dev.angleStall (d : Dev) : Dev :=
  if !d.angle || !d.strokesGo || d.course.fallback then d else
    let d := d.advanceTo d.stallDue
    let d := d.when d.course.running (Dev.dropMarks (d.course.elapsed - d.course.strokeStart))
    let d := d.flagRaise Obj.COURSE_FLAGS 7 0xA009 []
    (d.setCourse fun c => { c with fallback := true }).boundary

/-- ANGLE_GROUP_TIMER (R296): in the angle course a group is formed whenever 8 ms pass without a boundary. -/
def Dev.angleGroupTimer (d : Dev) : Dev :=
  if !d.angle || d.stopped || !d.start.recovered then d else
    let d := d.advanceTo (d.ledger.groupTimer + 8 * msTicks)
    (d.setLedger fun l => { l with groupTimer := d.course.elapsed }).formGroups

end Sys2Proof.Machine
end

