-- ==== Sys2Proof/Machine/Deliver.lean ====
section
/-! DEFINITION. Messages that the device sends in a session or to a host, and the delivery of entries (R280–R283, R366–R369, R373, R387,
R392). -/

namespace Sys2Proof.Machine

/-! ### Messages (R366–R369, R387, R392) -/

/-- Whether an address is an IPv4 address written as ::ffff:a.b.c.d (R373). -/
def mapped (a : List Byte) : Bool := a.take 12 == List.replicate 10 0 ++ [0xFF, 0xFF]

/-- Body bytes per frame of a path (R368, R387). -/
def roomOf (path : SessionPath) (address : List Byte) : Nat :=
  match path with
  | .port .S => if mapped address then 1444 else 1424
  | .port _ => if mapped address then 428 else 408
  | .tunnel _ => 224

/-- Body bytes of a message for a host: what the 256 words of a frame hold beside the header and the length word (R390–R392;
log 43). -/
def hostRoom : Nat := 496

/-- A list cut into parts of at most n, at least one part. -/
def cut {α : Type} (n : Nat) : Nat → List α → List (List α)
  | 0, l => [l]
  | fuel + 1, l => if l.length ≤ n then [l] else l.take n :: cut n fuel (l.drop n)

/-- The parts of a message with FRAG and FLAGS: RETX in bit 0, MORE in bit 1 of all but the last (R366, R368). -/
def fragmentsOf (room : Nat) (retx : Bool) (body : List Byte) : List (Nat × Nat × List Byte) :=
  let parts := cut room 127 body
  parts.zipIdx.map fun p => (p.2, flag retx + (if p.2 + 1 < parts.length then 2 else 0), p.1)

/-- A frame for a master's tunnel queue, eight at most, the oldest dropped (R387). -/
def Dev.giveTunnel (primary : Bool) (o : Outgoing) (d : Dev) : Dev :=
  { d with link := { d.link with masters := d.link.masters.modify (flag (!primary)) fun m =>
      let l := m.frames ++ [o]
      { m with frames := l.drop (l.length - 8) } } }

/-- A message for a host port (R392). -/
def Dev.giveHost (port : Nat) (o : Outgoing) (d : Dev) : Dev :=
  { d with link := { d.link with hosts := d.link.hosts.modify port fun h => { h with messages := h.messages ++ [o] } } }

/-- The address that an own datagram goes to first (R364): on IPv4 IPV4_GATEWAY, where one is set and the destination lies in another
subnet. -/
def Dev.nextHop (d : Dev) (address : List Byte) : List Byte :=
  let gateway := d.u Obj.IPV4_GATEWAY
  let subnet := fun (a : Nat) => a / 2 ^ (32 - d.u Obj.IPV4_PREFIX)
  if mapped address && gateway != 0 && subnet (ofBe (address.drop 12)) != subnet d.ipv4Address then
    address.take 12 ++ beBytes 4 gateway
  else address

/-- A Wored frame along a path: to an address and a UDP port, or into a tunnel (R366, R387). The datagram stands as next hop, address,
port and message. -/
def Dev.sendPath (path : SessionPath) (address : List Byte) (udp : Nat) (queue : QueueName) (o : Outgoing) (d : Dev) : Dev :=
  match path with
  | .tunnel primary => d.giveTunnel primary o
  | .port p => d.sendOwn p queue o.kind o.retx ((if mapped address then 28 else 48) + o.data.length)
      (d.nextHop address ++ address ++ u16 udp ++ o.data)

/-- A message without a session's protection: OPEN, CHALLENGE, and replies without a MAC (R366, R369, R370). -/
def Dev.sendPlain (path : SessionPath) (address : List Byte) (kind session : Nat) (body : List Byte) (d : Dev) : Dev :=
  d.sendPath path address 49840 .best ⟨.own, false, woredHeader kind 0 0 session body.length 0 ++ body⟩

/-- A CONFIRM or ACCEPT: COUNTER 0 and a MAC (R369). -/
def Dev.sendHandshake (n kind : Nat) (body : List Byte) (d : Dev) : Dev :=
  match d.session n with
  | none => d
  | some s =>
    let header := woredHeader kind 0 0 s.number body.length 0
    d.sendPath s.path s.address 49840 .best ⟨.own, false, header ++ body ++ woredMac s.key header body⟩

/-- One frame of a session, with the next COUNTER (R369). -/
def Dev.sendFragment (n kind : Nat) (what : FrameKind) (queue : QueueName) (udp : Nat) (f : Nat × Nat × List Byte) (d : Dev) : Dev :=
  match d.session n with
  | none => d
  | some s =>
    let counter := (s.sent + 1) % 2 ^ 32
    let header := woredHeader kind f.2.1 f.1 s.number f.2.2.length counter
    let last := !bit f.2.1 1
    (d.setSession n fun x => { x with sent := counter }).sendPath s.path s.address udp queue
      ⟨if last then what else .own, bit f.2.1 0, header ++ f.2.2 ++ woredMac s.key header f.2.2⟩

/-- A message in a session, cut into frames (R368, R369). -/
def Dev.sendMessage (n kind : Nat) (what : FrameKind) (retx : Bool) (queue : QueueName) (udp : Nat) (body : List Byte) (d : Dev) :
    Dev :=
  match d.session n with
  | none => d
  | some s => (fragmentsOf (roomOf s.path s.address) retx body).foldl
      (fun d f => d.sendFragment n kind what queue udp f) d

/-- A message for a host port: SESSION 0, no COUNTER, no MAC (R390, R392). -/
def Dev.hostMessage (port kind : Nat) (what : FrameKind) (retx : Bool) (body : List Byte) (d : Dev) : Dev :=
  (fragmentsOf hostRoom retx body).foldl (fun d f =>
    d.giveHost port ⟨if bit f.2.1 1 then .own else what, retx, woredHeader kind f.2.1 f.1 0 f.2.2.length 0 ++ f.2.2⟩) d

/-! ### Deliveries (R280–R283, R373) -/

/-- Entries of a stream as stored, from a position on, as far as the LOG holds them. -/
def Dev.entriesFrom (d : Dev) (stream : Nat) : Nat → Nat → List (Nat × List Byte)
  | _, 0 => []
  | p, n + 1 =>
    match d.entryAt stream p with
    | some e => (p, entryBytes p e) :: d.entriesFrom stream ((p + 1) % 2 ^ 48) n
    | none => []

/-- Entries put together into frames, as many as a room holds beside SUB, COUNT and the reserved word, each at least one
(R373). -/
def packEntries (room : Nat) : List (Nat × List Byte) → List (Nat × List Byte) → List (List (Nat × List Byte))
  | cur, [] => if cur.isEmpty then [] else [cur]
  | cur, e :: rest =>
    if !cur.isEmpty && decide (room < 4 + (cur.map fun x => x.2.length).sum + e.2.length) then cur :: packEntries room [e] rest
    else packEntries room (cur ++ [e]) rest

/-- The body of a DELIVERY (R373). -/
def deliveryBody (u : Nat) (l : List (Nat × List Byte)) : List Byte :=
  u8 u ++ u8 l.length ++ u16 0 ++ l.flatMap Prod.snd

/-- The room of a subscription's delivery frames, none without a path (R368, R373, R387, R392). -/
def Dev.deliveryRoom (d : Dev) (u : Nat) : Option Nat :=
  if 3 ≤ d.u (Obj.SUB_PORT u) then some hostRoom
  else (d.subSession u).bind fun n => (d.session n).map fun s => roomOf s.path s.address

/-- One delivery frame or fragmented delivery (R373). -/
def Dev.sendDelivery (u : Nat) (retx : Bool) (l : List (Nat × List Byte)) (d : Dev) : Dev :=
  let first := (l.head?.map Prod.fst).getD 0
  let last := (l.getLast?.map Prod.fst).getD 0
  let kind := FrameKind.delivery u first last
  match d.u (Obj.SUB_PORT u) with
  | 3 => d.hostMessage 0 0x21 kind retx (deliveryBody u l)
  | 4 => d.hostMessage 1 0x21 kind retx (deliveryBody u l)
  | _ =>
    match d.subSession u with
    | some n => d.sendMessage n 0x21 kind retx (.gate (d.u (Obj.SUB_GATE u))) (ofBe (((d.b (Obj.SUB_DEST u)).drop 16).take 2))
        (deliveryBody u l)
    | none => d

/-- Some entries delivered in frames. -/
def Dev.sendEntries (u room : Nat) (retx : Bool) (l : List (Nat × List Byte)) (d : Dev) : Dev :=
  (packEntries room [] l).foldl (fun d g => d.sendDelivery u retx g) d

/-- Positions from one to another, both included. -/
def positions (first last : Nat) : Nat := if serialCmp first last 48 == .after then 0 else (last + 2 ^ 48 - first) % 2 ^ 48 + 1

/-- What is outstanding goes out again (R282). -/
def Dev.deliverAgain (u room : Nat) (d : Dev) : Dev :=
  if !(d.sub u).resend then d else
    let d := d.setSub u fun s => { s with resend := false }
    if !d.outstanding u then d else
      let first := (d.u (Obj.SUB_ACKED u) + 1) % 2 ^ 48
      d.sendEntries u room true (d.entriesFrom (d.u (Obj.SUB_STREAM u)) first (positions first (d.u (Obj.SUB_SENT u))))

/-- New entries go out, fewer than SUB_WINDOW beyond SUB_ACKED (R280); those accepted before a whole-device reset with RETX
(R283). -/
def Dev.deliverNew (u room : Nat) (d : Dev) : Dev :=
  let stream := d.u (Obj.SUB_STREAM u)
  let head := d.u (Obj.STREAM_HEAD stream)
  let s := d.sub u
  let first := (s.formed + 1) % 2 ^ 48
  if bit head 63 || bit s.formed 63 then d else
    let free := d.u (Obj.SUB_WINDOW u) - 1 - (s.formed + 2 ^ 48 - d.u (Obj.SUB_ACKED u)) % 2 ^ 48
    let l := d.entriesFrom stream first (min free (positions first head))
    let old := l.takeWhile fun x => !bit s.again 63 && serialCmp x.1 s.again 48 != .after
    match l.getLast? with
    | none => d
    | some x =>
      let d := d.setSub u fun s => { s with formed := x.1 }
      (d.sendEntries u room true old).sendEntries u room false (l.drop old.length)

/-- A subscription sends what it may (R280–R283): nothing while its path is down or the application core does not run
(R14; that nothing goes out for the first time either is a DESIGN CHOICE, log 82). -/
def Dev.deliverSub (u : Nat) (d : Dev) : Dev :=
  if !d.on (Obj.SUB_ENABLE u) || !d.device.appRunning || d.stopped || d.u (Obj.SUB_STATE u) == 3 then d
  else match d.deliveryRoom u with
    | some room => (d.deliverAgain u room).deliverNew u room
    | none => d

/-- Every subscription sends what it may. -/
def Dev.deliver (d : Dev) : Dev := (List.range 16).foldl (fun d u => d.deliverSub u) d

/-- What a host or a master has collected counts as sent (R282). -/
def Dev.collected (o : Outgoing) (d : Dev) : Dev :=
  match o.kind with
  | .delivery u first last => d.deliverySent u first last o.retx d.course.elapsed
  | _ => d

end Sys2Proof.Machine
end

