-- ==== Sys2Proof/Machine/Writes.lean ====
section
/-! DEFINITION. What an accepted write of an object does (R279, R323), chapter by chapter: the running value, and what the
owning rule adds to it. A trigger object of type BOOL acts on a 1 alone. -/

namespace Sys2Proof.Machine

/-- Runs a function where a trigger was written 1. -/
def Dev.onOne (v : Value) (f : Dev → Dev) (d : Dev) : Dev := d.when (v.toNat == 1) f

/-- Whether an index lies in a family of a number of members. -/
def inFamily (first n index : Nat) : Bool := decide (first ≤ index) && decide (index < first + n)

/-- The entry sums again, with their objects (R284) (DEDUCED, log 17). -/
def Dev.entrySumsAgain (d : Dev) : Dev := d.putEntrySums d.admitSet

/-- COURSE_ALARM_n (R56): a written alarm is armed; 0 disables it. -/
def Dev.armAlarm (n v : Nat) (d : Dev) : Dev :=
  (d.put (Obj.COURSE_ALARM n) v).setCourse fun c => { c with armed := c.armed.set n (v != 0) }

/-- STROKE_MODE (R27, R54, R55): nothing of the angle course goes over a change; back in the time course the stroke that runs ends
at the next boundary of R27 (DESIGN CHOICE, log 68). -/
def Dev.strokeModeSet (d : Dev) : Dev :=
  let p := periodTicks (d.u Obj.STROKE_PERIOD)
  d.setCourse fun c => { c with
    encBoundary := none
    fallback := false
    period := if d.angle then c.period else d.u Obj.STROKE_PERIOD
    strokeLen := if d.angle then stallTicks else c.elapsed - c.strokeStart + (p - c.ticks % p) }

/-- Writes of chapter 02. -/
def Dev.courseEffect (index sub : Nat) (v : Value) (d : Dev) : Dev :=
  let n := v.toNat
  let stored := d.setKey ⟨index * 256 + sub, v⟩
  match index, sub with
  | 0x1100, 7 =>
    -- time of day is traced from now on (R36)
    (d.setCourse fun c => { c with step := some (.toTime (ticksOfNs n)), arb := false, traced := true }).noteQuality
  | 0x1101, 2 => if d.u Obj.STROKE_MODE = n then stored else stored.strokeModeSet
  | 0x1101, 1 => (stored.put Obj.COX_CONFLICT 0xFF).allSumsAgain
  | 0x1105, 1 => d
  | _, _ =>
    if index = 0x1102 && inFamily 1 5 sub then stored.reselect
    else if index = 0x1108 && inFamily 1 4 sub then d.armAlarm (sub - 1) n
    else stored

/-- SEQ_CTRL (R99): STOP ends the running entry, RUN arms the table; in CONFIG no sequence runs. -/
def Dev.seqCtrl (n v : Nat) (d : Dev) : Dev :=
  let d := d.put (Obj.SEQ_CTRL n) v
  if v = 0 then d.stopTable n
  else d.when (d.device.state != .config && d.device.state != .starting) (Dev.armTable n)

/-- SEQ_START (R100): a trigger whatever TRIG_SRC holds. -/
def Dev.seqStart (n : Nat) (d : Dev) : Dev := d.trigger n

/-- INJ_REQUEST (R106): the conversion starts; where it has become impossible since it was checked it is dropped, and a drop BUSY is
counted. -/
def Dev.injRequest (n : Nat) (d : Dev) : Dev :=
  match d.injCheck n with
  | none => d.injStart n
  | some f => d.when (f.status == 0x07) (Dev.injDrop n)

/-- CAL_REQUEST (R116, R118). -/
def Dev.calRequest (c v : Nat) (d : Dev) : Dev :=
  if (d.calCheck c v).isSome then d else d.calAccept c v (d.u (Obj.CAL_GAIN_MASK c))

/-- Writes of chapters 03 to 05 in the block of converter n. -/
def Dev.convEffect (n index sub : Nat) (v : Value) (d : Dev) : Dev :=
  let stored := d.setKey ⟨index * 256 + sub, v⟩
  if index % 256 ≠ 0 then stored else
    match sub with
    | 0x02 => (stored.injChange n).refMonitors
    | 0x32 => d.onOne v (Dev.injRequest n)
    | 0x35 => d.seqCtrl n v.toNat
    | 0x3B => d.onOne v (Dev.seqStart n)
    | 0x43 => d.calRequest n v.toNat
    | 0x50 => stored.entryShared n
    | _ => stored

/-- UNRETIRE (R144): RETIRED loses bits, to the store and for the next base assignment. -/
def Dev.unretireWrite (mask : Nat) (d : Dev) : Dev :=
  let d := d.unretire mask
  (d.bufferInternal .values [Obj.RETIRED.write (d.u Obj.RETIRED)]).judgeAge 9

/-- Writes of the shared objects of chapters 03 to 05. -/
def Dev.sharedEffect (index sub : Nat) (v : Value) (d : Dev) : Dev :=
  let stored := d.setKey ⟨index * 256 + sub, v⟩
  match index, sub with
  | 0x2600, 7 => d.onOne v Dev.flushQueue
  | 0x2700, 0x01 => stored.baseAssign.failSeatless
  | 0x2700, 0x11 => d.unretireWrite v.toNat
  | 0x2700, 0x12 => if (d.stCheck v.toNat).isSome then d else d.stRequest v.toNat
  | _, _ => stored

/-- LOC_UP_ADDRESS, LOC_UP_SERIAL and LOC_UP_STREAM (R202): the next session subscribes afresh. -/
def Dev.forgetUpstream (d : Dev) : Dev :=
  (d.put Obj.LOC_UP_SUB 0xFF).bufferInternal .values [Obj.LOC_UP_SUB.write 0xFF]

/-- The session that the device itself has open to the upstream station (R202). -/
def Dev.upstreamSession (d : Dev) : Option Nat :=
  (List.range 16).find? fun n => match d.session n with | some s => s.upstream | none => false

/-- LOC_ENABLE (R202): off, the upstream session ends; on, the first attempt is due where none runs or has succeeded. -/
def Dev.locEnable (v : Nat) (d : Dev) : Dev :=
  let d := d.put Obj.LOC_ENABLE v
  let d := if v = 0 then
      let d := match d.upstreamSession with | some n => d.dropSession n | none => d
      (d.setCapture fun c => { c with loc := .idle, retry := none, own := [], upstream := [] }).put Obj.LOC_UP_STATE 0
    else if d.capture.loc ≠ .idle then d.setCapture fun c => { c with locFailed := false }
    else (d.setCapture fun c => { c with retry := none, locFailed := false }).put Obj.LOC_UP_STATE 2
  d.entrySumsAgain

/-- FETCH_CATCH (R200): the primary channel, from the window's start. -/
def Dev.fetchCatch (via : Via) (id : Nat) (d : Dev) : Dev :=
  match d.heldCatch id with
  | some h => d.setFetch ⟨via, id, h.channel, 0⟩
  | none => d

/-- Writes of chapter 07. -/
def Dev.captureEffect (via : Via) (index sub : Nat) (v : Value) (d : Dev) : Dev :=
  let n := v.toNat
  let stored := d.setKey ⟨index * 256 + sub, v⟩
  match index, sub with
  | 0x3200, 1 => d.fetchCatch via n
  | 0x3200, 2 => d.setFetch { d.fetchSet via with channel := n }
  | 0x3200, 3 => d.setFetch { d.fetchSet via with offset := n }
  | 0x3300, 1 => d.locEnable n
  | 0x3300, 2 | 0x3300, 3 | 0x3300, 0x10 => stored.forgetUpstream
  | 0x3300, 0x0A => stored.entrySumsAgain
  | _, _ =>
    if inFamily 0x3100 8 index && (sub == 1 || sub == 7 || sub == 8) then stored.entrySumsAgain
    else stored

/-- A re-range takes effect (R231, R232): its source, 0 through a write, else that of the button. -/
def Dev.rangeWrite (via : Via) (b : List Byte) (d : Dev) : Dev :=
  (d.putB Obj.LOOP_RANGE b).reranged (match via with | .button span => if span then 2 else 1 | _ => 0)

/-- A trim by measurement or a reset of the trim (R230): the new coefficient goes to the store and is in force with its
seal. -/
def Dev.trimWrite (sub : Nat) (v : Value) (d : Dev) : Dev :=
  let m : F32 := BitVec.ofNat 32 v.toNat
  match sub with
  | 1 | 2 => d.trimApplied ⟨0x340100 + sub, v⟩
  | 3 => d.trimTo [⟨Obj.LOOP_TRIM_OFFSET.key, .num (unsigned 32 (d.trimZero m))⟩]
  | 4 => d.trimTo [Obj.LOOP_TRIM_GAIN.write (d.trimSpan m).toNat]
  | _ => d.onOne v (Dev.trimTo [⟨Obj.LOOP_TRIM_OFFSET.key, Obj.LOOP_TRIM_OFFSET.dflt⟩,
      ⟨Obj.LOOP_TRIM_GAIN.key, Obj.LOOP_TRIM_GAIN.dflt⟩])

/-- Writes of chapter 08: a strobe of the same tick does not load them yet (R16, R210). -/
def Dev.outputEffect (via : Via) (index sub : Nat) (v : Value) (d : Dev) : Dev :=
  let d := d.keepKey (index * 256 + sub)
  match index, sub with
  | 0x3400, 3 => d.rangeWrite via (v.toBytes 8)
  | 0x3401, _ => d.trimWrite sub v
  | _, _ => d.setKey ⟨index * 256 + sub, v⟩

/-- Writes of chapter 09: a period start of the same tick does not take them yet (R16, R259). -/
def Dev.controlEffect (index sub : Nat) (v : Value) (d : Dev) : Dev :=
  if inFamily 0x3810 8 index && sub == 1 then d.ctrlModeApplied (index - 0x3810) v.toNat
  else (d.keepKey (index * 256 + sub)).setKey ⟨index * 256 + sub, v⟩

/-- The objects of a subscription that SUB_ENABLE applies (R280). -/
def subObjects (u : Nat) : List Reg :=
  [Obj.SUB_STREAM u, Obj.SUB_PORT u, Obj.SUB_DEST u, Obj.SUB_GATE u, Obj.SUB_HOPS u, Obj.SUB_BOUND_REQ u,
   Obj.SUB_WINDOW u, Obj.SUB_RTO u, Obj.SUB_FROM u]

/-- SUB_ENABLE at its seal (R280, R283): with 1 the objects committed with it take effect and delivery starts; with 0 it
stops. SUB_ACKED goes to the ledger at either. -/
def Dev.subEnable (u : Nat) (on : Bool) (d : Dev) : Dev :=
  let d := d.putOn (Obj.SUB_ENABLE u) on
  let d := { d with shadow := d.shadow.erase (Obj.SUB_ENABLE u).key }
  let d := if on then
      let d := (subObjects u).foldl (fun d r => d.promote ⟨r.key, d.committed r⟩) d
      let p := d.subStart u
      let d := (d.put (Obj.SUB_ACKED u) p).put (Obj.SUB_SENT u) p
      let d := d.setSub u fun _ => ⟨none, 0, p, d.course.elapsed, false, p, 2 ^ 63⟩
      (d.put (Obj.SUB_STATE u) 1).checkPaths
    else (d.put (Obj.SUB_STATE u) 0).setSub u fun s => { s with timer := none, timeouts := 0, resend := false }
  (d.bufferWait (.acked u (d.u (Obj.SUB_ACKED u)) d.course.elapsed)).entrySumsAgain

/-- Writes of chapter 10. -/
def Dev.entryEffect (index sub : Nat) (v : Value) (d : Dev) : Dev :=
  let stored := d.setKey ⟨index * 256 + sub, v⟩
  if inFamily 0x5100 16 index && sub == 1 then d.subEnable (index - 0x5100) (v.toNat == 1)
  else if (index == 0x5000 && sub == 6) || (inFamily 0x5010 8 index && sub ≤ 2) || inFamily 0x5200 16 index then
    stored.entrySumsAgain
  else stored

/-- PORT_UNRETIRE (R347): the bits leave the committed value; the port itself returns at the next whole-device reset. -/
def Dev.portUnretire (mask : Nat) (d : Dev) : Dev :=
  let d := d.setDevice fun v => { v with unretired := v.unretired ||| mask % 8 }
  d.bufferInternal .values [Obj.PORTS_RETIRED.write (clearMask (d.u Obj.PORTS_RETIRED) (d.device.unretired % 8))]

/-- SENSOR_UNRETIRE (R442), likewise. -/
def Dev.sensorUnretire (mask : Nat) (d : Dev) : Dev :=
  let d := d.setDevice fun v => { v with unretired := v.unretired ||| mask % 256 * 256 }
  d.bufferInternal .values [Obj.SENSORS_RETIRED.write (clearMask (d.u Obj.SENSORS_RETIRED) (d.device.unretired / 256))]

/-- Writes of chapters 13 and 14. -/
def Dev.portEffect (index sub : Nat) (v : Value) (d : Dev) : Dev :=
  let stored := d.setKey ⟨index * 256 + sub, v⟩
  match index, sub with
  | 0x1600, 5 => d.portUnretire v.toNat
  | 0x1620, 1 | 0x1620, 2 => stored.refreshAddresses
  | _, _ =>
    if inFamily 0x1601 3 index && sub == 1 then
      (stored.when (v.toNat == 0) (Dev.linkDown (index - 0x1601))).judgeAge (10 + (index - 0x1601))
    else stored

/-- Writes of chapter 15: BOATHOUSE_MASK keeps banks 2 and 3 (R420), PROFILE_TARGET and SLEEP_REQUEST queue their transition
(R410, R414, R416). -/
def Dev.powerEffect (index sub : Nat) (v : Value) (d : Dev) : Dev :=
  let stored := d.setKey ⟨index * 256 + sub, v⟩
  match index, sub with
  | 0x1200, 3 => stored.queueTransition v.toNat
  | 0x1200, 6 => d.queueTransition (2 + v.toNat)
  | 0x1200, 0x0C => d.put Obj.BOATHOUSE_MASK (v.toNat ||| 0x000C)
  | _, _ => stored

/-- STORE_C_DECLARED (R298, R452): the low estimate of the capacitance restarts from the declaration while none is measured. -/
def Dev.declareStore (v : Value) (d : Dev) : Dev :=
  let d := d.set Obj.STORE_C_DECLARED v
  if F32.eq (d.f Obj.STORE_C) F32.zero then
    let low := F32.mul (F32.ofRat 3 4) (d.f Obj.STORE_C_DECLARED)
    (d.putF Obj.STORE_C_LOW low).bufferInternal .values [Obj.STORE_C_LOW.write low.toNat]
  else d

/-- Writes of chapter 16; a threshold moves its indicator into or out of MAINT at once (R452). -/
def Dev.thermalEffect (index sub : Nat) (v : Value) (d : Dev) : Dev :=
  match index, sub with
  | 0x1300, 9 => d.sensorUnretire v.toNat
  | 0x1320, 1 => d.declareStore v
  | 0x1320, 8 => d.onOne v (Dev.setThermal fun t => { t with storeDue := true })
  | _, _ =>
    let stored := d.setKey ⟨index * 256 + sub, v⟩
    if inFamily 0x1340 14 index && sub == 5 then stored.judgeAge (index - 0x1340) else stored

/-- Writes of chapter 17. OEM_KEY_HASH is one-time programmable (R460). -/
def Dev.securityEffect (via : Via) (index sub : Nat) (v : Value) (d : Dev) : Dev :=
  let stored := d.setKey ⟨index * 256 + sub, v⟩
  match index, sub with
  | 0x1400, 6 => d.loadTargetSet v.toNat
  | 0x1400, 8 => d.loadDataSet (v.toBytes 0)
  | 0x1400, 9 => d.onOne v Dev.loadVerifySet
  | 0x1400, 0x0A => d.onOne v Dev.activate
  | 0x1400, 0x0B => d.onOne v Dev.confirmImage
  | 0x1400, 0x0F => stored.commitKey ⟨index * 256 + sub, v⟩
  | 0x1420, 9 => d.setSig ⟨via, v.toNat, 0, false⟩
  | 0x1420, 0x0A => d.setSig { d.sigSet via with offset := v.toNat }
  | 0x1440, 4 => d.onOne v Dev.debugLock
  | _, _ =>
    -- a window that was off counts from now on (DEDUCED, log 104)
    stored.when (inFamily 0x1430 8 index && sub == 1 && d.u (Obj.ATTEST_WINDOW (index - 0x1430)) == 0)
      (Dev.setAttest (index - 0x1430) fun a => { a with closed := d.course.elapsed })

/-- Writes of chapter 18. -/
def Dev.startEffect (rq : Request) (index sub : Nat) (v : Value) (d : Dev) : Dev :=
  if sub = 5 then d.onOne v (Dev.resetRequest rq.client.toNat) else d.setKey ⟨index * 256 + sub, v⟩

/-- A write to flags (R321, R336): DEBUG stays set while the debug port is unlocked (R481). -/
def Dev.clearWrite (c : Card) (index sub mask : Nat) (d : Dev) : Dev :=
  let held := index == 0x1400 && sub == 2 && d.u Obj.DEBUG_STATE == 1
  d.clearFlags (c.reg index sub) (if held then clearMask mask 0x80 else mask)

/-- The objects whose write starts an apply or a state change: it takes effect on its own way (R52, R163, R182, R300,
R333). -/
def actsElsewhere (index sub : Nat) : Bool :=
  (index == 0x1105 && sub == 1) || (index == 0x2800 && sub == 4) || (index == 0x3000 && sub == 1) ||
    (index == 0x1001 && sub == 2)

/-- What an accepted write does beside its value, by the chapter of its index. -/
def Dev.chapterEffect (rq : Request) (w : Write) (d : Dev) : Dev :=
  let index := w.key / 256
  let sub := w.key % 256
  if inFamily 0x1100 16 index then d.courseEffect index sub w.value
  else if inFamily 0x1200 0x80 index then d.powerEffect index sub w.value
  else if index = 0x1280 then d.startEffect rq index sub w.value
  else if inFamily 0x1300 0x100 index then d.thermalEffect index sub w.value
  else if inFamily 0x1400 0x100 index then d.securityEffect rq.via index sub w.value
  else if inFamily 0x1600 0x100 index then d.portEffect index sub w.value
  else if inFamily 0x2000 0x400 index then d.convEffect ((index - 0x2000) / 256) index sub w.value
  else if inFamily 0x2600 0x200 index then d.sharedEffect index sub w.value
  else if inFamily 0x3000 0x400 index then d.captureEffect rq.via index sub w.value
  else if inFamily 0x3400 0x400 index then d.outputEffect rq.via index sub w.value
  else if inFamily 0x3800 0x400 index then d.controlEffect index sub w.value
  else if inFamily 0x5000 0x300 index then d.entryEffect index sub w.value
  else d.setKey w

/-- What an accepted write does. A flag object is cleared by its ones; a persistent-on-commit object goes to the shadow. -/
def Dev.effect (rq : Request) (w : Write) (d : Dev) : Dev :=
  let index := w.key / 256
  let sub := w.key % 256
  match d.cardAt index sub with
  | none => d
  | some c =>
    if c.access = .RC then d.clearWrite c index sub w.value.toNat
    else if actsElsewhere index sub then d
    else if inFamily 0x5100 16 index then
      (if sub = 1 then d.entryEffect index sub w.value else d.setShadow w)
    else if c.persist = .PC then d.setShadow w
    else d.chapterEffect rq w

/-- The writes of a request, in their order. -/
def Dev.effects (rq : Request) (ws : List Write) (d : Dev) : Dev := ws.foldl (fun d w => d.effect rq w) d

end Sys2Proof.Machine
end

