-- ==== Sys2Proof/Machine/Checks.lean ====
section
/-! DEFINITION. The checks of one operation of a request (R324, R330–R332) with those that the owning chapters define (R38, R41,
R52–R54, R80, R95, R105, R106, R118, R138, R143, R163, R165, R174, R182, R190, R194, R200, R202, R229–R233, R236, R241, R251, R280,
R284, R341, R393, R408, R410, R416, R417, R449, R460, R465–R467, R469, R470, R480, R488). -/

namespace Sys2Proof.Machine

/-- A refusal: status and detail, the conflict objects that it sets, and the seat whose injected conversion it drops. -/
structure Deny where
  fail : Fail
  notes : List Write
  drop : Option Nat
deriving DecidableEq, Repr

/-- A refusal that sets nothing. -/
def plainDeny (f : Option Fail) : Option Deny := f.map fun f => ⟨f, [], none⟩

/-- A refusal under a condition. -/
def denyIf (c : Bool) (f : Option Fail) : Option Deny := if c then plainDeny f else none

/-- The first of two refusals (DEDUCED, log 65). -/
def orDeny (a b : Option Deny) : Option Deny := match a with | some x => some x | none => b

/-- What a refusal leaves in the device. -/
def Deny.apply (x : Deny) (d : Dev) : Dev :=
  let d := x.notes.foldl (fun d w => d.setKey w) d
  match x.drop with | some n => d.injDrop n | none => d

/-- A refusal by the admission sums (R174, R284), with a further object. -/
def denySum (c : Bool × Nat) (more : List Write) : Option Deny :=
  some ⟨⟨0x08, c.2⟩, (if c.1 then Obj.ENGINE_CONFLICT.write c.2 else Obj.ADMIT_CONFLICT.write c.2) :: more, none⟩

/-- The admission sums over a set (R174, R284). -/
def Dev.sumsDeny (d : Dev) (a : AdmitSet) (more : List Write) : Option Deny :=
  match d.underSums a with
  | .ok _ => none
  | .error c => denySum c more

/-! ### Steps 4, 5 and 8 (R321, R322, R329–R332) -/

/-- Whether a requester comes through port L (R200, R387). -/
def Dev.overLoop (d : Dev) (via : Via) : Bool :=
  match via with
  | .hart _ => true
  | .session n => (match d.session n with | some s => (match s.path with | .tunnel _ => true | _ => false) | none => false)
  | _ => false

/-- Whether the port forbids an object (R200, R393, R480). -/
def Dev.portForbids (d : Dev) (via : Via) (write : Bool) (index sub : Nat) : Bool :=
  if index = 0x3200 then decide (sub ≤ 4) && d.overLoop via
  else if index = 0x1420 ∧ 9 ≤ sub then d.overLoop via
  else if index = 0x1650 ∧ sub ≤ 2 then write && (via == .spi || via == .wake)
  else index == 0x1640 && sub == 0x0D && write && d.overLoop via

/-- The level a write of an object needs (R322, R469). -/
def writeLevel (c : Card) (index sub : Nat) : Nat := if index = 0x1410 ∧ sub ≤ 3 then sub else c.level

/-- The level a read of an object needs (R322, R341) (DEDUCED, log 49). -/
def Dev.levelToRead (d : Dev) (c : Card) (index : Nat) : Nat := if index = 0x6001 then d.fastLevel else c.readLevel

/-- The states in which a write is permitted beside what R330 says: those that the object's chapter names. -/
def Dev.chapterStates (d : Dev) (index sub : Nat) (v : Value) : Bool :=
  let st := d.device.state
  let service := st == .service
  match index, sub with
  | 0x3400, 0x0B | 0x3401, 3 | 0x3401, 4 | 0x3401, 5 | 0x2400, 1 | 0x2700, 0x11 | 0x1600, 5 | 0x1300, 9 | 0x1400, 6 => service
  | 0x2800, 4 | 0x3000, 1 => st == .config
  | 0x2700, 0x12 => st == .run || st == .hold || service
  | 0x3500, 2 => (st == .config) || !(v.toNat == 2 || d.u Obj.ADAC_RANGE == 2)
  | 0x1200, 6 => st == .run || st == .hold || (v.toNat == 3 && (st == .config || service))
  | 0x1400, 0x0B => st == .run || service
  | 0x1280, 5 => st == .config || service
  | _, _ => true

/-- Whether the device state permits a write (R330). -/
def Dev.statePermits (d : Dev) (c : Card) (index sub : Nat) (v : Value) : Bool :=
  match d.device.state with
  | .starting => false
  | st =>
    if c.access = .RC || index == 0x3200 || (index == 0x1001 && sub == 2) then true
    else if c.structural then st == .config
    else st != .safe && d.chapterStates index sub v

/-- Steps 2 to 5 and 8 for a read, with what the chapters add (R200, R317, R324, R480). -/
def Dev.readCheck (d : Dev) (via : Via) (level index sub : Nat) : Option Fail :=
  let last := d.lastSub index
  if last = 0 then some ⟨0x01, index⟩
  else if sub = 0 then failIf (d.device.state == .starting) d.failState
  else match d.cardAt index sub with
    | none => some ⟨0x02, last⟩
    | some c => Option.map (Fail.withLevel (d.levelToRead c index)) <|
      if c.access = .W then failAccess 1 0
      else if level < d.levelToRead c index then failAccess 2 0
      else if d.portForbids via false index sub then failAccess 4 0
      else if d.device.state = .starting then d.failState
      else if index = 0x3200 ∧ sub = 4 then failIf (!d.fetchRoom via) failBusy
      else if index = 0x1420 ∧ sub = 0x0B then
        failIf (!(d.sigSet via).ready || (d.security.rebuilding && bits (d.sigSet via).select 63 56 == 1)) failBusy
      else none

/-! ### The chapters' own checks (step 10) -/

/-- What COX_APPLY would make of the shadow (R52). -/
def Dev.marksShadow (d : Dev) : List MarkSlot := (List.range 128).map d.shadowMark

/-- Whether an apply of a kind is being committed already (R300). -/
def Dev.applyRuns (d : Dev) (kind : ApplyKind) (key : Nat) : Bool :=
  (d.ledger.applies.any fun a => decide (a.kind = kind)) || d.pendingRequests.any fun p => p.writes.any fun w => w.key == key && w.value.toNat == 1

/-- The checks of COX_APPLY (R52, R174, R300). -/
def Dev.coxCheck (d : Dev) : Option Deny :=
  orDeny (denyIf (d.applyRuns .cox Obj.COX_APPLY.key) failBusy)
    (match d.coxConflict with
    | some m => some ⟨⟨0x04, m⟩, [Obj.COX_CONFLICT.write m], none⟩
    | none => d.sumsDeny
        (d.admitSetWith d.engineRunning d.marksShadow (d.u Obj.STROKE_PERIOD) (d.u Obj.PROFILE_ACTIVE)) [Obj.COX_CONFLICT.write 0xFF])

/-- The checks of STROKE_PERIOD (R53, R174). -/
def Dev.periodCheck (d : Dev) (k : Nat) : Option Deny :=
  match d.periodConflict k with
  | some m => some ⟨⟨0x04, m⟩, [Obj.COX_CONFLICT.write m], none⟩
  | none => (d.put Obj.STROKE_PERIOD k).sumsDeny
      (d.admitSetWith d.engineRunning d.marksRunning k (d.u Obj.PROFILE_ACTIVE)) []

/-- The checks of ENGINE_APPLY (R163, R174, R300). -/
def Dev.engineCheck (d : Dev) : Option Deny :=
  orDeny (denyIf (d.applyRuns .engine Obj.ENGINE_APPLY.key) failBusy)
    (match d.engineRefusal d.engineShadow with
    | some c => some ⟨⟨0x04, c⟩, [Obj.ENGINE_CONFLICT.write c], none⟩
    | none => d.sumsDeny
        (d.admitSetWith d.engineShadow d.marksRunning (d.u Obj.STROKE_PERIOD) (d.u Obj.PROFILE_ACTIVE)) [])

/-- The checks of WASH_APPLY (R182, R300). -/
def Dev.washCheck (d : Dev) : Option Deny :=
  orDeny (denyIf (d.applyRuns .wash Obj.WASH_APPLY.key) failBusy)
    (d.washConflict.map fun c => ⟨⟨0x04, c⟩, [Obj.WASH_CONFLICT.write c], none⟩)

/-- The entry sums with a write in force (R284). -/
def Dev.entrySumsDeny (e : Dev) : Option Deny :=
  (e.entryRefusal e.admitSet).bind fun c => denySum (false, c) []

/-- The position check of SUB_FROM (R280). -/
def Dev.subFromCheck (d : Dev) (u : Nat) : Option Fail :=
  let from' := d.su (Obj.SUB_FROM u)
  let s := d.su (Obj.SUB_STREAM u)
  let head := d.u (Obj.STREAM_HEAD s)
  let next := if bit head 63 then 0 else (head + 1) % 2 ^ 48
  let pos := from' % 2 ^ 48
  if bit from' 63 then none else
    match serialCmp pos ((d.heldPositions s).headD next) 48 with
    | .before => some ⟨0x0A, 0⟩
    | _ => (match serialCmp pos next 48 with
      | .after | .unordered => failRange 0
      | _ => none)

/-- The device with the objects of a subscription applied and its SUB_ENABLE set (R280). -/
def Dev.subProspect (u : Nat) (d : Dev) : Dev :=
  ((subObjects u).foldl (fun d r => d.promote ⟨r.key, d.shadowOf r⟩) d).putOn (Obj.SUB_ENABLE u) true

/-- The checks of the subscription objects (R280, R284). -/
def Dev.subCheck (d : Dev) (u sub : Nat) (v : Value) : Option Deny :=
  if sub ≠ 1 then denyIf (d.on (Obj.SUB_ENABLE u)) (failAccess 5 0)
  else if v.toNat ≠ 1 then none
  else orDeny (plainDeny (d.subFromCheck u)) ((d.subProspect u).entrySumsDeny)

/-- The objects whose read has a side effect (R321). -/
def sideEffectRead (index sub : Nat) : Bool :=
  (index == 0x2600 && sub ≤ 2) || (index == 0x3200 && sub == 4) || (index == 0x1420 && sub == 0x0B)

/-- The checks of FAST_MAP_i (R341). -/
def Dev.fastMapCheck (d : Dev) (level sub n : Nat) : Option Fail :=
  if n = 0 then none else
    let i := n / 2 ^ 16
    let s := n / 256 % 256
    match d.cardAt i s with
    | none => if d.lastSub i = 0 then some ⟨0x01, i⟩ else some ⟨0x02, d.lastSub i⟩
    | some c =>
      if c.access = .W then failAccess 1 c.readLevel
      else if level < c.readLevel then failAccess 2 c.readLevel
      else failIf (c.ty.varies || sideEffectRead i s || decide (140 < (d.put (Obj.FAST_MAP (sub - 1)) n).fastLen)) (failRange 0)

/-- The checks of PROFILE_TARGET (R410). -/
def Dev.targetCheck (d : Dev) (v : Nat) : Option Deny :=
  match d.profileCheck v with
  | .ok _ => none
  | .error x => some ⟨x.1, [Obj.PWR_CONFLICT, Obj.ENGINE_CONFLICT, Obj.ADMIT_CONFLICT].map (fun r => ⟨r.key, x.2.get r⟩), none⟩

/-- The checks of CATCH_ENABLE (R194, R284). -/
def Dev.catchEnableCheck (e : Dev) (c : Nat) : Option Deny :=
  orDeny (if e.on (Obj.CATCH_ENABLE c) && e.catchBad c then
      some ⟨⟨0x04, conflictDefinition c⟩, [Obj.WASH_CONFLICT.write (conflictDefinition c)], none⟩ else none)
    (e.entrySumsDeny)

/-- The fit fields of a definition (R190, R194). -/
def Dev.fitCheck (e : Dev) (c : Nat) : Option Fail :=
  failIf (!fitFieldsOk (e.u (Obj.FIT_PRE c)) (e.u (Obj.FIT_GUARD c)) (e.u (Obj.FIT_POST c))) (failRange 0)

/-- The checks of chapter 02. -/
def Dev.courseChecks (d : Dev) (index sub n : Nat) (e : Dev) : Option Deny :=
  match index, sub with
  | 0x1100, 7 => denyIf (d.course.active == some .ptpRing || d.course.active == some .ptpS) (failAccess 5 0)
  | 0x1101, 1 => d.periodCheck n
  | 0x1105, 1 => if n = 1 then d.coxCheck else none
  | 0x1106, 1 | 0x1106, 2 => denyIf (e.u Obj.STROKES_PER_REV == 0 || e.u Obj.ENC_COUNTS_REV % e.u Obj.STROKES_PER_REV != 0) (failRange 0)
  | _, _ => denyIf (index == 0x1102 && sub ≤ 5 && n != 0 && decide (1 < (e.prioList.filter fun k => k == n).length)) (failRange 0)

/-- The checks of the block of converter n (chapters 03 to 05). -/
def Dev.convChecks (d : Dev) (n index sub v : Nat) (e : Dev) : Option Deny :=
  let paddle := d.u (Obj.CV_MODE n) == 2
  if index % 256 = 2 then denyIf (entryBad paddle v) (failRange 0)
  else if index % 256 ≠ 0 then none
  else match sub with
    | 0x01 => orDeny
        (denyIf (v == 2 && (List.range 64).any fun k => entryBad true (d.u (Obj.SEQ_ENTRY n k))) (failRange 0))
        (denyIf (d.lean && decide (2 < e.seatWeights.sum)) (failAdmission 0))
    | 0x31 => denyIf (injectedBad paddle v) (failRange 0)
    | 0x32 => if v = 1 then (d.injCheck n).map fun f => ⟨f, [], if f.status = 0x07 then some n else none⟩ else none
    | 0x43 => plainDeny (d.calCheck n v)
    | _ => none

/-- The checks of chapter 07. -/
def Dev.captureChecks (d : Dev) (via : Via) (index sub v : Nat) (e : Dev) : Option Deny :=
  if index = 0x3000 ∧ sub = 1 then (if v = 1 then d.washCheck else none)
  else if inFamily 0x3100 8 index then
    let c := index - 0x3100
    (if sub = 1 then e.catchEnableCheck c
    else if sub = 7 ∨ sub = 8 then e.entrySumsDeny
    else if 9 ≤ sub ∧ sub ≤ 0x0B then plainDeny (e.fitCheck c)
    else none)
  else if index = 0x3200 then
    orDeny (denyIf (!d.fetchRoom via) failBusy)
      (match sub with
      | 1 => denyIf (d.heldCatch v).isNone (failRange 0)
      | 2 => denyIf (match d.heldCatch (d.fetchSet via).id with | some h => !bit h.mask v | none => true) (failRange 0)
      | _ => none)
  else if index = 0x3300 then
    orDeny (denyIf e.locBad (failRange 0)) (if sub = 1 ∨ sub = 0x0A then e.entrySumsDeny else none)
  else none

/-- The checks of chapters 08 and 09 (R229–R233, R236, R241, R251). -/
def Dev.outputChecks (d : Dev) (wp : Bool) (index sub : Nat) (v : Value) (e : Dev) : Option Deny :=
  let x : F32 := BitVec.ofNat 32 v.toNat
  let forbidden := fun (k : Nat) => denyIf (e.channelForbidden (d.u Obj.PROFILE_ACTIVE) k) (failAdmission 0)
  match index, sub with
  | 0x3400, 3 => plainDeny (d.loopRangeCheck wp (v.toBytes 8))
  | 0x3400, 0x0B => plainDeny (d.loopFixedCheck x)
  | 0x3401, 1 | 0x3401, 2 => denyIf wp (failAccess 3 0)
  | 0x3401, 3 => plainDeny (d.trimZeroCheck wp x)
  | 0x3401, 4 => plainDeny (d.trimSpanCheck wp x)
  | 0x3401, 5 => plainDeny (d.trimCheck wp)
  | 0x3500, 1 => forbidden 1
  | 0x3500, 2 => orDeny (plainDeny (d.adacRangeCheck v.toNat)) (forbidden 1)
  | 0x3600, 1 | 0x3600, 2 => forbidden 2
  | _, _ => if inFamily 0x3810 8 index && sub == 2 then plainDeny (d.ctrlSpCheck (index - 0x3810)) else none

/-- The checks of chapter 17 (R460, R465–R467, R470, R480). -/
def Dev.securityChecks (d : Dev) (via : Via) (index sub : Nat) (v : Value) : Option Deny :=
  match index, sub with
  | 0x1400, 8 => plainDeny (d.loadDataCheck (v.toBytes 0).length)
  | 0x1400, 0x0A => plainDeny d.activateCheck
  | 0x1400, 0x0B => plainDeny d.confirmCheck
  | 0x1400, 0x0F => denyIf (d.device.state != .service || !(d.b Obj.OEM_KEY_HASH).isEmpty) (failAccess 5 0)
  | 0x1410, 5 => plainDeny (d.ringSwitchCheck v.toNat)
  | 0x1420, 9 => orDeny (plainDeny (d.sigSelectCheck v.toNat)) (denyIf (!d.sigRoom via) failBusy)
  | 0x1420, 0x0A => denyIf (!d.sigRoom via) failBusy
  | _, _ => none

/-- The checks of the other chapters. -/
def Dev.otherChecks (d : Dev) (level index sub : Nat) (v : Value) (e : Dev) : Option Deny :=
  let n := v.toNat
  match index, sub with
  | 0x2700, 0x12 => plainDeny (d.stCheck n)
  | 0x2800, 4 => if n = 1 then d.engineCheck else none
  | 0x5000, 6 => e.entrySumsDeny
  | 0x1200, 3 => d.targetCheck n
  | _, _ =>
    if inFamily 0x2A00 512 index then denyIf (!d.paramBlockOk (index - 0x2A00) (v.toBytes 0)) (failRange 0)
    else if inFamily 0x5010 8 index || inFamily 0x5200 16 index then e.entrySumsDeny
    else if inFamily 0x5100 16 index then d.subCheck (index - 0x5100) sub v
    else if index = 0x6000 ∧ sub ≤ 0x20 then plainDeny (d.fastMapCheck level sub n)
    else denyIf (inFamily 0x1340 6 index && sub == 2) (failAccess 5 0)

/-- STATE_REQUEST (R332, R333): the cell of the table, and the checks of leaving CONFIG. -/
def Dev.stateRequestCheck (d : Dev) (level n : Nat) : Option Deny :=
  match DeviceState.ofCode n with
  | none => plainDeny (failRange 0)
  | some t =>
    if t = d.device.state then none
    else match d.transitionCheck t level with
      | some f => plainDeny (some f)
      | none =>
        if d.device.state = .config && t ≠ .safe then
          (match d.leaveConfigCheck with
          | .ok _ => none
          | .error x => some ⟨x.1, [Obj.ENGINE_CONFLICT, Obj.WASH_CONFLICT, Obj.ADMIT_CONFLICT].map (fun r => ⟨r.key, x.2.get r⟩), none⟩)
        else none

/-- Step 10 for a write: the device as it stands, and as it would stand with the value stored. -/
def Dev.ownCheck (d : Dev) (rq : Request) (index sub : Nat) (v : Value) : Option Deny :=
  let e := d.setKey ⟨index * 256 + sub, v⟩
  let n := v.toNat
  if index = 0x1001 then d.stateRequestCheck rq.level n
  else if inFamily 0x1100 16 index then d.courseChecks index sub n e
  else if inFamily 0x2000 0x400 index then d.convChecks ((index - 0x2000) / 256) index sub n e
  else if inFamily 0x3000 0x400 index then d.captureChecks rq.via index sub n e
  else if inFamily 0x3400 0x700 index then d.outputChecks rq.wpLow index sub v e
  else if inFamily 0x1400 0x100 index then d.securityChecks rq.via index sub v
  else d.otherChecks rq.level index sub v e

/-- A write that would make an agent that has accepted answer otherwise (R417). -/
def Dev.entryDisturbed (d : Dev) (rq : Request) (index sub : Nat) (v : Value) : Bool :=
  match d.power.running with
  | some (.handshake ..) | some (.closing _) => d.disturbsEntry (d.effect rq ⟨index * 256 + sub, v⟩)
  | _ => false

/-- Steps 2 to 10 for a write (R324), the room in COPY apart. -/
def Dev.writeCheck (d : Dev) (rq : Request) (index sub : Nat) (b : List Byte) : Option Deny :=
  let last := d.lastSub index
  if last = 0 then some ⟨⟨0x01, index⟩, [], none⟩
  else if sub = 0 then plainDeny (failAccess 1 0)
  else match d.cardAt index sub with
    | none => some ⟨⟨0x02, last⟩, [], none⟩
    | some c =>
      let v := c.valueOf b
      Option.map (fun (x : Deny) => { x with fail := x.fail.withLevel (writeLevel c index sub) }) <|
      if c.access = .R then plainDeny (failAccess 1 0)
      else if rq.level < writeLevel c index sub then plainDeny (failAccess 2 0)
      else if d.portForbids rq.via true index sub then plainDeny (failAccess 4 0)
      else if !c.lengthOk b.length then some ⟨⟨0x03, c.lengthNeeded⟩, [], none⟩
      else if !c.valueOk (index * 256 + sub) v then plainDeny (failRange 0)
      else if !d.statePermits c index sub v then plainDeny d.failState
      else if (c.persist = .P || c.persist = .PC) && rq.id = 0 && !d.security.romLoader then some ⟨⟨0x0A, 0⟩, [], none⟩
      else orDeny (d.ownCheck rq index sub v) (denyIf (d.entryDisturbed rq index sub v) failBusy)

/-- A write as the checks leave it: its key and value. -/
def Dev.writeOf (d : Dev) (index sub : Nat) (b : List Byte) : Write :=
  match d.cardAt index sub with
  | some c => ⟨index * 256 + sub, c.valueOf b⟩
  | none => ⟨index * 256 + sub, .bytes b⟩

end Sys2Proof.Machine
end

