-- ==== Sys2Proof/Machine/Dictionary.lean ====
section
/-! DEFINITION. A request of the dictionary from its arrival to its reply (R267, R273, R276–R279, R299, R300, R322–R325, R331, R340, R383,
R463). -/

namespace Sys2Proof.Machine

/-! ### What a journaled request puts into the commit buffer (R267, R279, R280, R299) -/

/-- The operations that write, with their positions. -/
def writesOf (ops : List ReqOp) : List (Nat × Nat × Nat × List Byte) :=
  ops.zipIdx.filterMap fun o => match o.1 with
    | .write index sub b => some (o.2, index, sub, b)
    | .read .. => none

/-- Whether a request writes anything (R277). -/
def hasWrite (ops : List ReqOp) : Bool := !(writesOf ops).isEmpty

/-- Whether a request is journaled (R277). -/
def journaled (rq : Request) (ops : List ReqOp) : Bool := rq.id != 0 && hasWrite ops

/-- Whether an object is one of the key objects (R469). -/
def isKey (index sub : Nat) : Bool := index == 0x1410 && decide (1 ≤ sub) && decide (sub ≤ 4)

/-- The COMMAND entry of one write (R267): a value of more than 436 bytes by its digest, a key as 32 zero bytes (R469). -/
def Dev.commandEntry (d : Dev) (rq : Request) (index sub : Nat) (b : List Byte) : Entry :=
  let head := u32 rq.id.toNat ++ u16 rq.client.toNat ++ u16 index ++ u8 sub ++ u8 rq.level ++ u16 b.length
  let value := if isKey index sub then List.replicate 32 0 else if 436 < b.length then sha256 b else b
  let e := d.stamp .command (d.u Obj.CMD_STREAM) (head ++ value)
  if 436 < b.length then { e with flags := e.flags + 2 } else e

/-- The COMMAND entries of a request, one for each write but those of LOAD_DATA (R267, R465). -/
def Dev.commandEntries (d : Dev) (rq : Request) (ops : List ReqOp) : List Entry :=
  ((writesOf ops).filter fun w => !(w.2.1 == 0x1400 && w.2.2.1 == 8)).map fun w => d.commandEntry rq w.2.1 w.2.2.1 w.2.2.2

/-- Whether an object is kept otherwise than as a copy record (R460, R466, R467): slot marks and fuses. -/
def keptElsewhere (index sub : Nat) : Bool := index == 0x1400 && (sub == 0x0A || sub == 0x0B || sub == 0x0F)

/-- The copy records that one write changes (R280, R299): a PC object has none before its apply; SUB_ENABLE = 1 takes the
objects of its slot with it, as the shadow holds them. -/
def Dev.copiesOf (d : Dev) (w : Write) : List Write :=
  let index := w.key / 256
  let sub := w.key % 256
  if inFamily 0x5100 16 index && sub == 1 then
    (if w.value.toNat = 1 then (subObjects (index - 0x5100)).map fun r => (⟨r.key, d.shadowOf r⟩ : Write) else []) ++ [w]
  else match d.cardAt index sub with
    | some c => if c.persist = .P && !keptElsewhere index sub then [w] else []
    | none => []

/-- A list of copy records in which the last write of a key stands alone. -/
def lastCopies (l : List Write) : List Write := l.foldl (fun acc w => acc.filter (fun x => x.key != w.key) ++ [w]) []

/-- The records that the applies among some writes will commit (R52, R163, R182, R300): the shadow of their objects. -/
def Dev.applyRecords (d : Dev) (kind : ApplyKind) : List Write :=
  match kind with
  | .cox => d.shadowIn 0x1110 0x118F
  | .engine => d.shadowIn 0x2800 0x2BFF
  | .wash => d.shadowIn 0x3000 0x30FF

/-- The applies that some writes start. -/
def appliesOf (ws : List Write) : List ApplyKind :=
  ws.filterMap fun w => if w.value.toNat ≠ 1 then none
    else if w.key = Obj.COX_APPLY.key then some .cox
    else if w.key = Obj.ENGINE_APPLY.key then some .engine
    else if w.key = Obj.WASH_APPLY.key then some .wash
    else none

/-- The records that the applies among some writes commit, each with its apply (DEDUCED, log 54). -/
def Dev.recordsOf (d : Dev) (ws : List Write) : List (ApplyKind × Write) :=
  (appliesOf ws).flatMap fun k => (d.applyRecords k).map fun w => (k, w)

/-- COPY pairs in use with some more records (R299, R300): one record a key, and a second one for each record of an apply. -/
def Dev.copyPairs (d : Dev) (more second : List Write) : Nat :=
  let waiting := d.handedOver.flatMap Item.copies
  let all := lastCopies ((d.nvm.map fun c => (⟨c.1, c.2⟩ : Write)) ++ waiting ++ more)
  (all.map Write.pairs).sum + ((d.ledger.staged.map fun s => s.2.pairs).sum) + (second.map Write.pairs).sum

/-- Whether COPY has room (R299, R300). -/
def Dev.copyRoom (d : Dev) (more second : List Write) : Bool := decide (d.copyPairs more second ≤ d.u (Obj.REGION_PAGES 2))

/-! ### Operations carried out (R279, R325) -/

/-- The operations of a request in their order: the values read, and the device with the writes in effect. -/
def Dev.runOps (rq : Request) (ops : List ReqOp) (d : Dev) : List (List Byte) × Dev :=
  ops.foldl (fun (x : List (List Byte) × Dev) o => match o with
    | .read index sub =>
      let r := x.2.readObject rq.via index sub
      (x.1 ++ [r.1], r.2)
    | .write index sub b => (x.1, x.2.effect rq (x.2.writeOf index sub b))) ([], d)

/-- The STATE_REQUEST among the operations: its position and target (R332). -/
def stateRequestOf (ops : List ReqOp) : Option (Nat × DeviceState) :=
  (writesOf ops).findSome? fun w =>
    if w.2.1 = 0x1001 ∧ w.2.2.1 = 2 then (DeviceState.ofCode (ofBe w.2.2.2)).map fun t => (w.1, t) else none

/-- The reply of a request whose operations are done (R333, R340): a state change is answered when it has taken place. -/
def Dev.conclude (rq : Request) (joined : List Via) (ops : List ReqOp) (values : List (List Byte)) (d : Dev) : Dev :=
  match stateRequestOf ops with
  | some (pos, t) => d.stateRequest rq joined pos values t
  | none => d.answerAll rq joined 0 0 255 values

/-- The configuration-changed bits and their count (R383): one for each accepted write of a P or PC object. -/
def Dev.noteConfigChanged (ws : List Write) (d : Dev) : Dev :=
  let n := (ws.filter fun w => match d.cardAt (w.key / 256) (w.key % 256) with
    | some c => c.persist = .P || c.persist = .PC
    | none => false).length
  d.when (0 < n) fun d => (d.add Obj.CONFIG_CHANGED_COUNT n).setLink fun l => { l with
    masters := l.masters.map fun (m : HartMaster) => { m with changed := true } }

/-- An accepted request takes effect, and is answered unless it starts an apply (R279, R300). -/
def Dev.applyRequest (p : PendingRequest) (d : Dev) : Dev :=
  let r := d.runOps p.rq p.ops
  let d := r.2.noteConfigChanged p.writes
  match appliesOf p.writes with
  | [] => d.conclude p.rq p.joined p.ops (r.1 ++ p.extra)
  | ks => ks.foldl (fun d k =>
      let ws := (p.records.filter fun x => decide (x.1 = k)).map Prod.snd
      d.setLedger fun l => { l with applies := l.applies ++ [⟨k, ws, false, ws, p, r.1 ++ p.extra⟩] }) d

/-! ### Checks of a whole request (R325) -/

/-- The first operation that fails: its refusal and position. -/
def Dev.firstDeny (rq : Request) : Nat → List ReqOp → Dev → Option (Deny × Nat)
  | _, [], _ => none
  | k, .read index sub :: rest, e =>
    match e.readCheck rq.via rq.level index sub with
    | some f => some (⟨f, [], none⟩, k)
    | none => Dev.firstDeny rq (k + 1) rest e
  | k, .write index sub b :: rest, e =>
    match e.writeCheck rq index sub b with
    | some x => some (x, k)
    | none => Dev.firstDeny rq (k + 1) rest (if rest.isEmpty then e else e.effect rq (e.writeOf index sub b))

/-- The device as a pending request will leave it (R279): its records committed, its writes in effect, the objects of the applies
among them in force. -/
def Dev.prospectOf (p : PendingRequest) (copies : List Write) (d : Dev) : Dev :=
  p.records.foldl (fun d r => d.promote r.2) ((d.commitAll copies).effects p.rq p.writes)

/-- The device as the pending requests will leave it, in arrival order; those whose apply is being fed come first (R279, R300). -/
def Dev.prospect (d : Dev) : Dev :=
  let d := d.ledger.applies.foldl (fun d a => a.all.foldl (fun d w => d.promote w) d) d
  d.ledger.buffer.foldl (fun d i => match i with | .request p _ copies => d.prospectOf p copies | _ => d) d

/-- A refusal with its reply. -/
def Dev.refuse (rq : Request) (x : Deny) (pos : Nat) (d : Dev) : Dev :=
  (x.apply d).answerAt rq x.fail.status x.fail.detail pos []

/-- A request that is not journaled (R277, R325): reads and volatile writes, done and answered at once. The write of an
apply is answered when its selector seals, and asks for room in COPY (R300). -/
def Dev.requestNow (rq : Request) (ops : List ReqOp) (d : Dev) : Dev :=
  match d.firstDeny rq 0 ops with
  | some (x, k) => d.refuse rq x k
  | none =>
    let writes := (writesOf ops).map fun w => d.writeOf w.2.1 w.2.2.1 w.2.2.2
    let second := (d.effects rq writes).recordsOf writes
    if !second.isEmpty && !d.copyRoom [] (second.map Prod.snd) then
      d.answerAt rq 0x0B 0 (((writesOf ops).getLast?.map Prod.fst).getD 0) []
    else d.applyRequest ⟨rq, ops, writes, d.course.elapsed, [], [], second⟩

/-- The pending request of a client with an ID, in the buffer or while its apply is fed (R278 step 3). -/
def Dev.pendingWith (d : Dev) (client id : Nat) : Bool :=
  (d.pendingRequests ++ d.ledger.applies.map fun a => a.request).any fun p => p.rq.client.toNat == client && p.rq.id.toNat == id

/-- A request joins the pending one (R278 step 3). -/
def Dev.joinPending (rq : Request) (d : Dev) : Dev :=
  let join := fun (p : PendingRequest) =>
    if p.rq.client = rq.client ∧ p.rq.id = rq.id ∧ p.rq.via ≠ rq.via ∧ !p.joined.contains rq.via
    then { p with joined := p.joined ++ [rq.via] } else p
  d.setLedger fun l => { l with
    buffer := l.buffer.map fun i => match i with | .request p es cs => .request (join p) es cs | i => i
    applies := l.applies.map fun (a : Apply) => { a with request := join a.request } }

/-- A duplicate (R278 step 2): no write again, the reads afresh. -/
def Dev.duplicate (rq : Request) (ops : List ReqOp) (extra : List (List Byte)) (d : Dev) : Dev :=
  let reads := ops.filter fun o => match o with | .read .. => true | .write .. => false
  let d := d.bump Obj.REQ_DUPLICATES
  match d.firstDeny rq 0 (ops.map fun o => match o with | .read i s => .read i s | .write .. => .read 0x1000 1) with
  | some (x, k) => d.refuse rq x k
  | none =>
    let r := d.runOps rq reads
    r.2.answerAt rq 0 0 255 (r.1 ++ extra)

/-- An ID outside the window (R278 step 4). -/
def Dev.outOfWindow (rq : Request) (high : Nat) (d : Dev) : Dev :=
  let d := (d.bump Obj.REQ_OUT_OF_WINDOW).flagRaise Obj.ENTRY_FLAGS 5 0x5008 (u16 rq.client.toNat ++ u32 rq.id.toNat ++ u32 high)
  d.answerAt rq 0x0A high 255 []

/-- No slot for a client (R278 step 5). -/
def Dev.tableFull (rq : Request) (d : Dev) : Dev :=
  (d.flagRaise Obj.ENTRY_FLAGS 4 0x5007 (u16 rq.client.toNat)).answerAt rq 0x07 0 255 []

/-- A request that its checks have passed becomes pending (R278 step 7), unless COPY or the buffer has no room for it (R273,
R299, R300, R325). -/
def Dev.makePending (rq : Request) (ops : List ReqOp) (extra : List (List Byte)) (d : Dev) : Dev :=
  let e := d.prospect
  let writes := (writesOf ops).map fun w => d.writeOf w.2.1 w.2.2.1 w.2.2.2
  let copies := lastCopies (writes.foldl (fun (x : List Write × Dev) w => (x.1 ++ x.2.copiesOf w, x.2.effect rq w)) ([], e)).1
  let second := (e.effects rq writes).recordsOf writes
  let entries := d.commandEntries rq ops
  let item := Item.request ⟨rq, ops, writes, d.course.elapsed, [], extra, second⟩ entries copies
  let stream := d.u Obj.CMD_STREAM
  let last := ((writesOf ops).getLast?.map Prod.fst).getD 0
  if 32 < roundsOf [item] then d.answerAt rq 0x0B (roundsOf [item]) 255 []
  else if (!copies.isEmpty || !second.isEmpty) && !d.copyRoom copies (second.map Prod.snd) then d.answerAt rq 0x0B 0 last []
  else if d.refusedAtSource stream entries.length item.bytes (!entries.isEmpty && d.heldByLog stream) then
    ((d.add (Obj.STREAM_REFUSED stream) entries.length).reportRefused stream 0).answerAt rq 0x07 0 255 []
  else ((d.reserveSlot rq.client.toNat).buffer item).countBurst stream entries.length

/-- A journaled request (R278). -/
def Dev.requestJournaled (rq : Request) (ops : List ReqOp) (extra : List (List Byte)) (d : Dev) : Dev :=
  let client := rq.client.toNat
  let id := rq.id.toNat
  let slot := d.clientSlot client
  if (match slot with | some c => c.accepted id | none => false) then d.duplicate rq ops extra
  else if d.pendingWith client id then d.joinPending rq
  else match slot with
    | some c =>
      if serialCmp id ((c.high + 2 ^ 32 - 255) % 2 ^ 32) 32 = .before then d.outOfWindow rq c.high
      else (match d.prospect.firstDeny rq 0 ops with
        | some (x, k) => d.refuse rq x k
        | none => d.makePending rq ops extra)
    | none =>
      if !d.slotAvailable client then d.tableFull rq
      else (match d.prospect.firstDeny rq 0 ops with
        | some (x, k) => d.refuse rq x k
        | none => d.makePending rq ops extra)

/-! ### The ROM loader (R463) -/

/-- Whether the ROM loader answers for an index. -/
def romIndex (index : Nat) : Bool := index == 0x1000 || index == 0x1400

/-- Whether the ROM loader answers for an object. -/
def romObject (index sub : Nat) : Bool := index == 0x1000 || (index == 0x1400 && [1, 6, 7, 8, 9, 0x0A].contains sub)

/-- The check of one operation in the ROM loader (R463–R466): no state and no ID is asked for (DEDUCED, log 19). -/
def Dev.romCheck (d : Dev) : ReqOp → Option Fail
  | .read index sub =>
    if !romIndex index then some ⟨0x01, index⟩
    else if sub = 0 then none
    else if !romObject index sub then some ⟨0x02, d.lastSub index⟩
    else match d.cardAt index sub with
      | some c => failIf (c.access == .W) (failAccess 1 0)
      | none => some ⟨0x02, d.lastSub index⟩
  | .write index sub b =>
    if !romIndex index then some ⟨0x01, index⟩
    else match (if romObject index sub then d.cardAt index sub else none) with
      | none => some ⟨0x02, d.lastSub index⟩
      | some c =>
        if c.access = .R then failAccess 1 c.level
        else if !c.lengthOk b.length then some ⟨0x03, c.lengthNeeded⟩
        else if !c.valueOk (index * 256 + sub) (c.valueOf b) then failRange 0
        else if sub = 8 then d.loadDataCheck b.length
        else if sub = 0x0A then d.activateCheck
        else none

/-- A request to the ROM loader: the first failing operation refuses it, else its operations are done; a valid IMAGE_ACTIVATE
resets the device at once. -/
def Dev.romRequest (rq : Request) (ops : List ReqOp) (d : Dev) : Dev :=
  match ops.zipIdx.findSome? fun o => (d.romCheck o.1).map fun f => (f, o.2) with
  | some (f, k) => d.answerAt rq f.status f.detail k []
  | none =>
    let activates := (writesOf ops).any fun w => w.2.1 == 0x1400 && w.2.2.1 == 0x0A && ofBe w.2.2.2 == 1
    let r := d.runOps rq ops
    let d := r.2.answerAt rq 0 0 255 r.1
    if activates then d.wholeReset 5 d.security.loadSlot else d

/-! ### The entrance (R13, R14, R331, R463) -/

/-- A request with more than its reads in the reply (R373). -/
def Dev.requestWith (rq : Request) (ops : List ReqOp) (extra : List (List Byte)) (d : Dev) : Dev :=
  let d := d.setDevice fun v => { v with wpLow := rq.wpLow }
  if d.security.romLoader then (if rq.via = .spi then d.romRequest rq ops else d)
  else if d.stopped || d.start.phase = .supply || d.start.phase = .verify then d
  else if d.device.state = .starting then d.answerAt rq 0x06 d.stateDetail 0 []
  else if !d.device.appRunning then d
  else if journaled rq ops then d.requestJournaled rq ops extra
  else d.requestNow rq ops

/-- A request. -/
def Dev.request (rq : Request) (ops : List ReqOp) (d : Dev) : Dev := d.requestWith rq ops []

/-- A request of one write. -/
def Dev.requestWrite (rq : Request) (index sub : Nat) (b : List Byte) (d : Dev) : Dev := d.request rq [.write index sub b]

/-- A write of a register. -/
def Dev.writeReg (rq : Request) (r : Reg) (b : List Byte) (d : Dev) : Dev := d.requestWrite rq (r.key / 256) (r.key % 256) b

/-- A read of a register. -/
def Dev.readReg (rq : Request) (r : Reg) (d : Dev) : Dev := d.request rq [.read (r.key / 256) (r.key % 256)]

/-- An internal request of the device itself (R276): CLIENT kind 4, an ID of its own counter (DEDUCED, log 18). -/
def Dev.ownRequest (via : Via) (wp : Bool) (ops : List ReqOp) (d : Dev) : Dev :=
  let id := if d.ledger.ownId % 2 ^ 32 = 0 then 1 else d.ledger.ownId % 2 ^ 32
  (d.setLedger fun l => { l with ownId := id + 1 }).request ⟨0x4000, 2, BitVec.ofNat 32 id, via, wp⟩ ops

/-- A button press (R232): none while a button is stuck low, this one or the other; else refused for the first reason of the table, else a write of
LOOP_RANGE. -/
def Dev.buttonPress (span wp : Bool) (d : Dev) : Dev :=
  let d := d.setDevice fun v => { v with wpLow := wp }
  if d.buttonIgnored span || d.buttonIgnored (!span) || d.stopped then d
  else match d.buttonReason span wp with
    | some r => d.buttonRefused r
    | none => d.ownRequest (.button span) wp [.write 0x3400 3 (d.buttonRange span)]

end Sys2Proof.Machine
end

