-- ==== Sys2Proof/Machine/Seal.lean ====
section
/-! DEFINITION. The rounds of a commit group and its seal: what it holds is accepted and takes effect (R268, R269, R279, R297, R300, R419).
The restart of the application core (R13, R14, R279). -/

namespace Sys2Proof.Machine

/-! ### Applies (R300) -/

/-- The longest run of records that one group holds. -/
def partOf : Nat → List Write → List Write
  | _, [] => []
  | used, w :: rest => if 10 < used + w.pairs then [] else w :: partOf (used + w.pairs) rest

/-- The records of an apply that the keeper hands over next: one group's worth, as far as the buffer has room. -/
def Dev.nextPart (d : Dev) (rest : List Write) : List Write :=
  let l := partOf 0 rest
  if d.bufferRoom (l.map Write.size).sum then l else []

/-- Changes an apply. -/
def Dev.setApply (kind : ApplyKind) (f : Apply → Apply) (d : Dev) : Dev :=
  d.setLedger fun l => { l with applies := l.applies.map fun (a : Apply) => if a.kind = kind then f a else a }

/-- APPLY_FEED (R300): the oldest apply that is not handed over whole hands over its next item, the selector last. -/
def Dev.applyFeed (d : Dev) : Dev :=
  match d.ledger.applies.find? fun a => !a.selected with
  | none => d
  | some a =>
    if a.rest.isEmpty then
      if d.bufferRoom (Item.selector a.kind).bytes then
        (d.buffer (.selector a.kind)).setApply a.kind fun x => { x with selected := true }
      else d
    else
      let part := d.nextPart a.rest
      if part.isEmpty then d
      else (d.buffer (.applyPart a.kind part)).setApply a.kind fun x => { x with rest := x.rest.drop part.length }

/-- An apply takes effect (R52, R163, R182, R300): marks and engine tables at the next stroke boundary, wash sizes now. Its
conflict object reads none (R52, R180, R206) (DEDUCED, log 57). -/
def Dev.applyNow (kind : ApplyKind) (ws : List Write) (d : Dev) : Dev :=
  match kind with
  | .cox => (d.setCourse fun c => { c with marks := some ws }).put Obj.COX_CONFLICT 0xFF
  | .engine => (d.setEngine fun e => { e with apply := some ws }).put Obj.ENGINE_CONFLICT 0xFF000000
  | .wash => ((ws.foldl (fun d w => d.promote w) d).placeChannels).put Obj.WASH_CONFLICT 0xFFFF

/-- The selector of an apply is sealed (R300): accepted, answered, in effect from then on (DEDUCED, log 58). -/
def Dev.applyAccepted (kind : ApplyKind) (d : Dev) : Dev :=
  match d.ledger.applies.find? fun a => decide (a.kind = kind) with
  | none => d
  | some a =>
    let rq := a.request.rq
    let d := d.setLedger fun l => { l with applies := l.applies.filter fun x => decide (x.kind ≠ kind) }
    let d := d.when (rq.id != 0) (Dev.markAccepted rq.client.toNat rq.id.toNat)
    let d := d.applyNow kind a.all
    d.when d.device.appRunning (Dev.answerAll rq a.request.joined 0 0 255 a.values)

/-! ### Seals (R268, R269, R279, R297) -/

/-- What the device does with an entry at its acceptance (R202, R474). -/
def Dev.entryAccepted (pe : Nat × Entry) (d : Dev) : Dev :=
  let e := pe.2
  match e.type with
  | .catch => d.when (isCatchPayload e.payload) (Dev.ownCatch e.stream pe.1 e.payload)
  | .attest => d.attestAccepted e.stream e.payload
  | _ => d

/-- What an item brings about once its group is sealed. -/
def Dev.itemSealed (i : Item) (d : Dev) : Dev :=
  match i with
  | .request p _ _ =>
    if d.device.appRunning then d.applyRequest p
    else d.setLedger fun l => { l with unapplied := l.unapplied ++ [p] }
  | .internal on copies =>
    match on with
    | .calibration c => (copies.foldl (fun d w => d.setKey w) d).calSealed c
    | .trim => copies.foldl (fun d w => d.trimApplied w) d
    | .indexReserved => d.indexReserved
    | .pubReserved => d.publicationsReserved
    | .generation s g => d.flagRaise Obj.ENTRY_FLAGS 3 0x5003 (u8 s ++ u16 g)
    | _ => d
  | .selector kind => d.applyAccepted kind
  | _ => d

/-- A group is sealed (R297): its items are accepted and take effect in order; a sleep entry whose closing group it is powers
the device down (R419). -/
def Dev.sealGroup (g : Group) (d : Dev) : Dev :=
  let items := d.groupItems g
  let placed := withPositions d.ledger.next (items.flatMap Item.entries)
  let d := (d.commitGroup g).sealLog g
  let d := placed.foldl (fun d pe => d.entryAccepted pe) d
  let d := items.foldl (fun d i => d.itemSealed i) d
  let d := d.startProgress.deliver
  match d.power.running with
  | some (.closing k) => d.powerDown k
  | _ => d

/-- NVM_ROUND_DONE (R291, R297, R308): a round of the running group ends; the last one seals it. A group that has met an error waits
for the end of its test. -/
def Dev.roundDone (d : Dev) : Dev :=
  match d.ledger.group with
  | none => d
  | some g =>
    if d.groupHeld g then d else
      let r := d.runRound g
      if 1 < g.left then r.2.setLedger fun l => { l with group := some r.1 } else r.2.sealGroup r.1

/-! ### The restart of the application core (R13, R14, R279) -/

/-- APP_CORE_RESTART (R13, R14, R196, R279): what was accepted meanwhile takes effect, its replies lost; the triggers that waited are
handled. -/
def Dev.appRestart (d : Dev) : Dev :=
  if d.device.appRunning || d.stopped || !d.start.configured then d else
    let d := d.setDevice fun v => { v with appRunning := true }
    let waiting := d.ledger.unapplied
    let replies := d.device.replies
    let d := d.setLedger fun l => { l with unapplied := [] }
    let d := waiting.foldl (fun d p => d.applyRequest p) d
    (d.setDevice fun v => { v with replies := replies }).drainTriggers.deliver

end Sys2Proof.Machine
end

