-- ==== Sys2Proof/Machine/Wored.lean ====
section
/-! DEFINITION. The Wored protocol: sessions, requests, subscriptions and acknowledgements in them, and the session that the device
itself opens for location (R202, R281, R366–R373, R387, R469). -/

namespace Sys2Proof.Machine

/-! ### Requests (R372) -/

/-- The operations of a REQUEST body, each OP, SUBINDEX, INDEX, LEN and the value (R372). -/
def parseOps : Nat → List Byte → Option (List ReqOp)
  | 0, b => if b.isEmpty then some [] else none
  | n + 1, b =>
    let op := ofBe (b.take 1)
    let sub := ofBe ((b.drop 1).take 1)
    let index := ofBe ((b.drop 2).take 2)
    let len := ofBe ((b.drop 4).take 2)
    let value := (b.drop 6).take len
    if b.length < 6 ∨ value.length < len then none
    else if op = 1 ∧ len = 0 then (parseOps n (b.drop 6)).map fun l => .read index sub :: l
    else if op = 2 then (parseOps n (b.drop (6 + len))).map fun l => .write index sub value :: l
    else none

/-- REQUEST_ID and operations of a REQUEST body; a body that is none of R372 gives nothing (log 43). -/
def parseRequest (b : List Byte) : Option (BitVec 32 × List ReqOp) :=
  let n := ofBe ((b.drop 4).take 1)
  if b.length < 6 ∨ n = 0 ∨ 16 < n then none
  else (parseOps n (b.drop 6)).map fun l => (BitVec.ofNat 32 (ofBe (b.take 4)), l)

/-- The body of a REPLY (R372). -/
def replyBody (id status failOp detail : Nat) (values : List (List Byte)) : List Byte :=
  u32 id ++ u8 status ++ u8 failOp ++ u32 detail ++ values.flatMap fun v => u16 v.length ++ v

/-- A REPLY without a session: SESSION 0, no MAC (R370, R371). -/
def Dev.plainReply (path : SessionPath) (address : List Byte) (id status detail : Nat) (d : Dev) : Dev :=
  d.sendPlain path address 0x11 0 (replyBody id status 0xFF detail [])

/-- A reply to a request of a session (R368, R372): it leaves through the port on which the request arrived. -/
def Dev.sendReply (n : Nat) (r : Reply) (d : Dev) : Dev :=
  match d.session n with
  | none => d
  | some s =>
    let d := d.setSession n fun x => { x with path := s.back }
    (d.sendMessage n 0x11 .own false .best 49840 (replyBody r.id r.status r.failOp r.detail r.values)).setSession n
      fun x => { x with path := s.path }

/-! ### Opening (R369–R371) -/

/-- The CLIENT of a session: kind 1, in a tunnel kind 0 (R276, R370, R387). -/
def clientOf (path : SessionPath) (no : Nat) : Nat :=
  match path with
  | .tunnel _ => no
  | .port _ => 0x1000 + no

/-- The key K of an OPEN (R370), empty while unset. -/
def Dev.openKey (d : Dev) (level keysel : Nat) : List Byte :=
  if keysel = 1 then d.net.ringKey else if level = 0 then List.replicate 32 0 else d.levelKey level

/-- The session key (R370). -/
def sessionKey (k nonceC nonceD serial : List Byte) (number : Nat) : List Byte :=
  hmac k ("WORED-S".toUTF8.data.toList.map (fun c => BitVec.ofNat 8 c.toNat) ++ nonceC ++ nonceD ++ serial ++ u16 number)

/-- Whether OPENs from an address are ignored (R371). -/
def Dev.lockedOut (d : Dev) (address : List Byte) : Bool :=
  d.net.lockouts.any fun x => x.1 == address && decide (d.course.elapsed < x.2)

/-- Why an OPEN is refused (R331, R367, R370, R371, R387; log 43). -/
def Dev.openRefusal (d : Dev) (path : SessionPath) (level keysel no : Nat) : Option Nat :=
  let tunnel := match path with | .tunnel _ => true | .port _ => false
  if d.device.state = .starting then some 0x06
  else if 1 < keysel || (keysel == 1 && level != 1) || decide (4095 < no) || (tunnel && decide (no < 2)) then some 0x04
  else if (d.openKey level keysel).isEmpty then some 0x09
  else if 16 ≤ d.openSessions then some 0x07
  else none

/-- The place of a new session: the lowest free one, else the lowest whose handshake is not complete. -/
def Dev.sessionPlace (d : Dev) : Option Nat :=
  ((List.range 16).find? fun n => (d.session n).isNone).orElse fun _ =>
    (List.range 16).find? fun n => match d.session n with | some s => !s.isOpen && !s.upstream | none => false

/-- OPEN (R370, R371). -/
def Dev.openSession (path : SessionPath) (address : List Byte) (level keysel no : Nat) (nonceC : List Byte) (d : Dev) : Dev :=
  if !d.device.appRunning || d.stopped || d.lockedOut address then d
  else match d.openRefusal path level keysel no, d.sessionPlace with
    | some status, _ => d.plainReply path address 0 status (if status = 0x06 then d.stateDetail else 0)
    | none, none => d.plainReply path address 0 0x07 0
    | none, some n =>
      let nonceD := d.random 16
      let d := d.tickFresh
      let key := sessionKey (d.openKey level keysel) nonceC nonceD (d.b Obj.SERIAL_NUMBER) (n + 1)
      let s : Session := ⟨clientOf path no, level, keysel, path, address, key, nonceC, false, 0, 1, false, 0, d.course.elapsed, false,
        [], n + 1, path⟩
      (d.setNet fun v => { v with sessions := v.sessions.set n (some s) }).sendPlain path address 2 0
        (u16 (n + 1) ++ u16 0 ++ nonceD)

/-- A failed CONFIRM (R371): the third from an address within 60 s locks the address out for 60 s. -/
def Dev.confirmFailed (address : List Byte) (d : Dev) : Dev :=
  let recent := d.net.failures.filter fun x => decide (d.course.elapsed < x.2 + 60 * secTicks)
  let n := (recent.filter fun x => x.1 == address).length
  if 2 ≤ n then d.setNet fun v => { v with
    failures := recent.filter fun x => x.1 != address
    lockouts := (address, d.course.elapsed + 60 * secTicks) :: v.lockouts.filter fun x => x.1 != address }
  else d.setNet fun v => { v with failures := recent ++ [(address, d.course.elapsed)] }

/-- CONFIRM (R369–R371). -/
def Dev.confirmSession (n counter : Nat) (mac address : List Byte) (d : Dev) : Dev :=
  match d.session n with
  | none => d
  | some s =>
    if s.upstream || counter != 0 || !d.device.appRunning then d
    else if mac != woredMac s.key (woredHeader 3 0 0 s.number 0 0) [] then (d.authFail address).confirmFailed address
    else if s.confirmed then d.bump Obj.REPLAY_REJECTED
    else
      let d := d.setSession n fun x => { x with confirmed := true, isOpen := true, last := d.course.elapsed, seen := 1 }
      let d := d.sendHandshake n 4 (u8 s.level ++ u8 0 ++ u16 (roomOf s.path s.address) ++ u16 (d.u Obj.SESSION_IDLE))
      d.sessionsChanged.deliver

/-- OPEN_LOCKOUT_END (R371). -/
def Dev.lockoutEnd (address : List Byte) (d : Dev) : Dev :=
  match d.net.lockouts.find? fun x => x.1 == address with
  | none => d
  | some x => (d.advanceTo x.2).setNet fun v => { v with lockouts := v.lockouts.filter fun y => y.1 != address }

/-! ### Frames of a session (R368, R369) -/

/-- A frame of an open session: its MAC and its counter are checked; what it leaves, and whether it is accepted (R369). -/
def Dev.sessionFrame (n kind flags frag : Nat) (body : List Byte) (counter : Nat) (mac : List Byte) (d : Dev) : Dev × Bool :=
  match d.session n with
  | none => (d, false)
  | some s =>
    if !s.isOpen || !d.device.appRunning || d.stopped then (d, false)
    else if mac != woredMac s.key (woredHeader kind flags frag s.number body.length counter) body then (d.authFail s.address, false)
    else match counterStep s.high s.seen counter with
      | none => (d.bump Obj.REPLAY_REJECTED, false)
      | some r => (d.setSession n fun x => { x with high := r.1, seen := r.2, last := d.course.elapsed }, true)

/-- The COUNTER of a message's first fragment. -/
def Fragment.base (f : Fragment) : Nat := (f.counter + 2 ^ 32 - f.index) % 2 ^ 32

/-- The message that some fragments of one base make, if they are all there (R368). -/
def assembled (l : List Fragment) : Option (List Byte) :=
  match l.find? fun f => !f.more with
  | none => none
  | some last =>
    let parts := (List.range (last.index + 1)).map fun k => l.find? fun f => f.index == k
    if parts.all Option.isSome then some (parts.flatMap fun p => (p.map Fragment.body).getD []) else none

/-- A frame's part of a message (R368): the message where it is complete, with its first COUNTER. -/
def Dev.takeFragment (n counter : Nat) (w : WoredBody) (d : Dev) : Dev × Option (List Byte × Nat) :=
  let more := bit w.flags.toNat 1
  let frag := w.frag.toNat
  if frag = 0 ∧ !more then (d, some (w.body, counter))
  -- at most 128 fragments make a message
  else if 128 ≤ frag then (d, none)
  else
    let f : Fragment := ⟨counter, frag, more, w.body, d.course.elapsed⟩
    let all := ((d.session n).map Session.fragments).getD [] ++ [f]
    match assembled (all.filter fun x => x.base == f.base) with
    | some b => (d.setSession n fun s => { s with fragments := all.filter fun x => x.base != f.base }, some (b, f.base))
    | none => (d.setSession n fun s => { s with fragments := all }, none)

/-- FRAG_TIMEOUT (R368): the oldest incomplete message of a session is discarded 1 s after its first fragment. -/
def Dev.fragTimeout (n : Nat) (d : Dev) : Dev :=
  match ((d.session n).map Session.fragments).getD [] with
  | [] => d
  | f :: _ =>
    let d := d.advanceTo (f.instant + secTicks)
    (d.setSession n fun s => { s with fragments := s.fragments.filter fun x => x.base != f.base }).bump Obj.FRAG_DROPPED

/-- A message of a session from one of its frames: what it leaves and the message, if it is complete. -/
def Dev.sessionMessage (n kind counter : Nat) (mac : List Byte) (w : WoredBody) (d : Dev) : Dev × Option (List Byte × Nat) :=
  let r := d.sessionFrame n kind w.flags.toNat w.frag.toNat w.body counter mac
  if r.2 then r.1.takeFragment n counter w else (r.1, none)

/-! ### REQUEST, SUBSCRIBE, ACK, CLOSE (R281, R371–R373, R469) -/

/-- Two byte strings, one XORed on the other. -/
def xorBytes (a b : List Byte) : List Byte := List.zipWith (fun x y => x ^^^ y) a b

/-- A key written in a session is unwrapped (R469). -/
def unwrapOp (s : Session) (counter : Nat) (op : ReqOp) : ReqOp :=
  match op with
  | .write index sub b =>
    if isKey index sub && b.length == 32 then
      .write index sub (xorBytes b (hmac s.key ("WORED-K".toUTF8.data.toList.map (fun c => BitVec.ofNat 8 c.toNat) ++
        u16 s.number ++ u32 counter ++ u16 index ++ u8 sub)))
    else op
  | _ => op

/-- The session as the path of a request. -/
def Session.request (s : Session) (n : Fin 16) (id : BitVec 32) (wp : Bool) : Request :=
  ⟨BitVec.ofNat 16 s.client, ⟨s.level % 4, Nat.mod_lt _ (by decide)⟩, id, .session n, wp⟩

/-- REQUEST (R371, R372): in an unknown or closed session it is answered 0x09 AUTH outside any session. -/
def Dev.sessionRequest (n : Fin 16) (path : SessionPath) (address : List Byte) (counter : Nat) (mac : List Byte) (w : WoredBody) (wp : Bool)
    (d : Dev) : Dev :=
  match d.session n with
  | none => d.when (d.device.appRunning && !d.stopped) (Dev.plainReply path address (ofBe (w.body.take 4)) 0x09 0)
  | some s =>
    if !s.isOpen || s.upstream then
      d.when (d.device.appRunning && !d.stopped) (Dev.plainReply path address (ofBe (w.body.take 4)) 0x09 0)
    else
      let r := d.sessionMessage n 0x10 counter mac w
      match r.2.bind fun m => (parseRequest m.1).map fun q => (q, m.2) with
      | some ((id, ops), c) =>
        (r.1.setSession n fun x => { x with back := path }).request (s.request n id wp) (ops.map (unwrapOp s c))
      | none => r.1

/-- SUB_PORT of a subscription that a session makes (R373, R387). -/
def subPortOf : SessionPath → Nat
  | .port .S => 1
  | .port _ => 0
  | .tunnel _ => 2

/-- The writes of a SUBSCRIBE on a slot (R373). -/
def subscribeOps (u : Nat) (s : Session) (b : List Byte) : List ReqOp :=
  let index := 0x5100 + u
  let f := fun (at' n : Nat) => (b.drop at').take n
  let w := fun (r : Reg) (v : List Byte) => ReqOp.write index (r.key % 256) v
  let address := if s.address.length = 16 then s.address else List.replicate 16 0
  [w (Obj.SUB_STREAM u) (f 4 1), w (Obj.SUB_PORT u) (u8 (subPortOf s.path)),
   w (Obj.SUB_DEST u) (address ++ f 24 2 ++ u16 s.client), w (Obj.SUB_GATE u) (f 5 1), w (Obj.SUB_HOPS u) (f 6 1),
   w (Obj.SUB_BOUND_REQ u) (f 20 4), w (Obj.SUB_WINDOW u) (f 16 2), w (Obj.SUB_RTO u) (f 18 2),
   w (Obj.SUB_FROM u) (f 8 8), w (Obj.SUB_ENABLE u) (u8 1)]

/-- The lowest subscription that neither is enabled nor will be (R373). -/
def Dev.freeSub (d : Dev) : Option Nat :=
  let e := d.prospect
  (List.range 16).find? fun u => !e.on (Obj.SUB_ENABLE u)

/-- The subscription that an earlier SUBSCRIBE of a client took on a stream: the slot that a repeat asks about again (log 43): that of
the request while it is pending, then the enabled one, then one that has been disabled since. -/
def Dev.takenSub (d : Dev) (client id stream : Nat) : Option Nat :=
  let own := fun (u : Nat) => d.u (Obj.SUB_STREAM u) == stream && ofBe ((d.b (Obj.SUB_DEST u)).drop 18) == client
  let pending := d.pendingRequests.find? fun p => p.rq.client.toNat == client && p.rq.id.toNat == id
  match pending.bind fun p => (writesOf p.ops).head? with
  | some w => some (w.2.1 - 0x5100)
  | none => ((List.range 16).find? fun u => d.on (Obj.SUB_ENABLE u) && own u).orElse fun _ => (List.range 16).find? own

/-- Whether a journaled request is a repeat of one that is accepted or pending (R278). -/
def Dev.isRepeat (d : Dev) (client id : Nat) : Bool :=
  (match d.clientSlot client with | some c => c.accepted id | none => false) || d.pendingWith client id

/-- SUBSCRIBE (R373): one journaled request that fills the lowest free subscription and enables it; its reply carries the slot. -/
def Dev.subscribe (n : Fin 16) (counter : Nat) (mac : List Byte) (w : WoredBody) (wp : Bool) (d : Dev) : Dev :=
  match d.session n with
  | none => d
  | some s =>
    if s.upstream then d else
      let r := d.sessionMessage n 0x20 counter mac w
      match r.2 with
      | none => r.1
      | some (b, _) =>
        let d := r.1
        if b.length ≠ 26 then d else
          let rq := s.request n (BitVec.ofNat 32 (ofBe (b.take 4))) wp
          let slot := if d.isRepeat s.client rq.id.toNat then d.takenSub s.client rq.id.toNat (ofBe ((b.drop 4).take 1)) else d.freeSub
          if s.level < d.u Obj.SUB_LEVEL_MIN then d.answer rq 0x05 (2 * 2 ^ 24 + d.u Obj.SUB_LEVEL_MIN)
          else match slot with
            | none => if d.isRepeat s.client rq.id.toNat then d.requestWith rq (subscribeOps 0 s b) [u8 0xFF] else d.answer rq 0x07 0
            | some u => d.requestWith { rq with level := if s.level < 2 then 2 else rq.level } (subscribeOps u s b) [u8 u]

/-- ACK (R281, R373). -/
def Dev.sessionAck (n counter : Nat) (mac : List Byte) (u pos : Nat) (d : Dev) : Dev :=
  let r := d.sessionFrame n 0x22 0 0 (u8 u ++ beBytes 3 0 ++ u64 pos) counter mac
  if r.2 && decide (u < 16) then (r.1.acknowledge u pos).deliverSub u else r.1

/-! ### The upstream session of location (R202) -/

/-- A step of R202 fails: its session ends. -/
def Dev.locFail (reason : Nat) (d : Dev) : Dev :=
  (match d.upstreamSession with | some n => d.dropSession n | none => d).locLost reason

/-- The subscription stands (R202). -/
def Dev.locSucceed (d : Dev) : Dev :=
  (d.setCapture fun c => { c with loc := .subscribed, locFailed := false, retry := none }).put Obj.LOC_UP_STATE 5

/-- Step 1 of R202: OPEN to the upstream station, under the ring key. -/
def Dev.locOpen (d : Dev) : Dev :=
  let a := d.b Obj.LOC_UP_ADDRESS
  if a.isEmpty then d.locFail 1
  else if d.net.ringKey.isEmpty || !(if mapped a then d.ipv4 else d.ipv6) then d.locFail 2
  else match (List.range 16).find? fun n => (d.session n).isNone with
    | none => d.locFail 2
    | some n =>
      let nonceC := d.random 16
      let d := d.tickFresh
      let s : Session := ⟨0x1FFE, 1, 1, .port .A, a, [], nonceC, false, 0, 1, false, 0, d.course.elapsed, true, [], 0, .port .A⟩
      let d := d.setNet fun v => { v with sessions := v.sessions.set n (some s) }
      (d.setCapture fun c => { c with loc := .opening, retry := none }).sendPlain (.port .A) a 1 0
        (u8 1 ++ u8 1 ++ u16 0xFFE ++ nonceC)

/-- LOC_SUBSCRIBE_ATTEMPT (R202): the attempt starts, or, with no answer to the step that runs, fails. -/
def Dev.locAttempt (start : Bool) (d : Dev) : Dev :=
  if !d.on Obj.LOC_ENABLE || !d.device.appRunning || d.stopped || d.device.state = .starting then d
  else match start, d.capture.loc with
    | true, .idle => if d.capture.retry.isSome then d else d.locOpen
    | false, .opening | false, .reading | false, .subscribing => d.locFail 2
    | _, _ => d

/-- LOC_RETRY (R202). -/
def Dev.locRetry (d : Dev) : Dev :=
  match d.capture.retry with
  | some t =>
    if !d.on Obj.LOC_ENABLE || !d.device.appRunning || d.stopped then d
    else ((d.advanceTo t).setCapture fun c => { c with retry := none }).locOpen
  | none => d

/-- The place of the device's own session with a number of the station's. -/
def Dev.upstreamNumber (d : Dev) (number : Nat) : Option Nat :=
  (List.range 16).find? fun n => match d.session n with | some s => s.upstream && s.number == number | none => false

/-- CHALLENGE in the upstream session (R202, R370): the key, and CONFIRM. -/
def Dev.challenged (number : Nat) (nonceD : List Byte) (d : Dev) : Dev :=
  match d.upstreamSession, d.capture.loc with
  | some n, .opening =>
    let d := d.setSession n fun s =>
      if s.number = 0 then { s with number := number, key := sessionKey d.net.ringKey s.nonceC nonceD (d.b Obj.LOC_UP_SERIAL) number }
      else s
    d.sendHandshake n 3 []
  | _, _ => d

/-- The next request ID of the upstream session, and the counter moved on. -/
def Dev.nextLocRequest (d : Dev) : Dev := d.setNet fun v => { v with locRequest := if v.locRequest + 1 = 2 ^ 32 then 1 else v.locRequest + 1 }

/-- ACCEPT in the upstream session (R202, R369, R370): it is open; step 2 reads 1000:05. -/
def Dev.accepted (number level room idle : Nat) (mac : List Byte) (d : Dev) : Dev :=
  match d.upstreamNumber number with
  | none => d
  | some n =>
    match d.session n with
    | none => d
    | some s =>
      let body := u8 level ++ u8 0 ++ u16 room ++ u16 idle
      if mac != woredMac s.key (woredHeader 4 0 0 s.number body.length 0) body then d.authFail s.address
      else if s.confirmed then d.bump Obj.REPLAY_REJECTED
      else
        let d := d.setSession n fun x => { x with confirmed := true, isOpen := true, last := d.course.elapsed, seen := 1 }
        let d := (d.setCapture fun c => { c with loc := .reading }).sessionsChanged.nextLocRequest
        d.sendMessage n 0x10 .own false .best 49840
          (u32 d.net.locRequest ++ u8 1 ++ u8 0 ++ u8 1 ++ u8 5 ++ u16 0x1000 ++ u16 0)

/-- Step 3 of R202: SUBSCRIBE, or the resumption of what LOC_UP_SUB names. -/
def Dev.locSubscribe (n : Nat) (d : Dev) : Dev :=
  if d.u Obj.LOC_UP_SUB ≠ 0xFF then d.locSucceed else
    let d := (d.setCapture fun c => { c with loc := .subscribing }).nextLocRequest
    d.sendMessage n 0x20 .own false .best 49840
      (u32 d.net.locRequest ++ u8 (d.u Obj.LOC_UP_STREAM) ++ u8 (d.u Obj.LOC_UP_GATE) ++ u8 1 ++ u8 0 ++ u64 (2 ^ 63) ++
        u16 32 ++ u16 200 ++ u32 (d.u Obj.LOC_WAIT * 1000) ++ u16 49840)

/-- Closes the upstream session with a CLOSE. -/
def Dev.locClose (n : Nat) (d : Dev) : Dev := (d.sendMessage n 5 .own false .best 49840 []).dropSession n

/-- A REPLY in the upstream session (R202). -/
def Dev.locReply (n : Nat) (b : List Byte) (d : Dev) : Dev :=
  let status := ofBe ((b.drop 4).take 1)
  let value := (b.drop 12).take (ofBe ((b.drop 10).take 2))
  if ofBe (b.take 4) ≠ d.net.locRequest then d
  else match d.capture.loc with
    | .reading =>
      if status ≠ 0 then (d.locClose n).locFail 2
      else if value = d.b Obj.LOC_UP_SERIAL then d.locSubscribe n
      else (d.locClose n).locFail 3
    | .subscribing =>
      if status ≠ 0 then (d.locClose n).locFail 4
      else
        let d := (d.put Obj.LOC_UP_SUB (ofBe value)).bufferInternal .values [Obj.LOC_UP_SUB.write (ofBe value)]
        (d.setNet fun v => { v with locLast := none }).locSucceed
    | _ => d

/-- REPLY (R202, R372). -/
def Dev.upstreamReply (number counter : Nat) (mac : List Byte) (w : WoredBody) (d : Dev) : Dev :=
  match d.upstreamNumber number with
  | none => d
  | some n =>
    let r := d.sessionMessage n 0x11 counter mac w
    match r.2 with | some (b, _) => r.1.locReply n b | none => r.1

/-- The entries of a DELIVERY: stream, position, type and payload of each (R266, R373). -/
def parseEntries : Nat → List Byte → List (Nat × Nat × Nat × List Byte)
  | 0, _ => []
  | fuel + 1, b =>
    if b.length < 28 then [] else
      let size := ofBe ((b.drop 18).take 2)
      (ofBe ((b.drop 1).take 1), ofBe ((b.drop 2).take 2) * 2 ^ 32 + ofBe ((b.drop 4).take 4), ofBe (b.take 1),
        (b.drop 24).take size) :: parseEntries fuel (b.drop (28 + size))

/-- One entry of the upstream station (R202, R283): none that has been received already; a catch waits among the unpaired. -/
def Dev.upstreamEntry (e : Nat × Nat × Nat × List Byte) (d : Dev) : Dev :=
  let again : Bool := match d.net.locLast with | some p => serialCmp p e.2.1 48 != .before | none => false
  if again then d else
    let d := d.setNet fun v => { v with locLast := some e.2.1 }
    d.when (e.2.2.1 == EntryType.catch.code && isCatchPayload e.2.2.2) (Dev.upstreamCatch e.1 e.2.1 e.2.2.2)

/-- DELIVERY (R202, R373): the catches wait for pairing, and everything up to the last entry is acknowledged. -/
def Dev.upstreamDelivery (number counter : Nat) (mac : List Byte) (w : WoredBody) (d : Dev) : Dev :=
  match d.upstreamNumber number with
  | none => d
  | some n =>
    let r := d.sessionMessage n 0x21 counter mac w
    match r.2 with
    | none => r.1
    | some (b, _) =>
      let es := parseEntries (ofBe ((b.drop 1).take 1)) (b.drop 4)
      let d := es.foldl (fun d e => d.upstreamEntry e) r.1
      match es.getLast? with
      | some e => d.sendMessage n 0x22 .own false .best 49840 (b.take 1 ++ beBytes 3 0 ++ u64 e.2.1)
      | none => d

/-! ### The end of a session (R371) -/

/-- A session ends; when it is the device's own, location starts again after 10 s (R202). -/
def Dev.endSession (n : Nat) (d : Dev) : Dev := d.closeSession n

/-- CLOSE (R371), from a client or from the upstream station. -/
def Dev.closed (n counter : Nat) (mac : List Byte) (d : Dev) : Dev :=
  let served := match d.session n with | some s => !s.upstream | none => false
  match (if served then some n else d.upstreamNumber (n + 1)) with
  | none => d
  | some k =>
    let r := d.sessionFrame k 5 0 0 [] counter mac
    if r.2 then r.1.endSession k else r.1

/-- SESSION_IDLE (R371). -/
def Dev.sessionIdle (n : Nat) (d : Dev) : Dev :=
  match d.session n with
  | none => d
  | some s => (d.advanceTo (s.last + d.u Obj.SESSION_IDLE * secTicks)).endSession n

/-! ### Frames of a tunnel (R366, R387) -/

/-- A Wored frame that came through a HART master's tunnel. -/
def Dev.tunnelFrame (primary : Bool) (b : List Byte) (wp : Bool) (d : Dev) : Dev :=
  let f := fun (at' n : Nat) => ofBe ((b.drop at').take n)
  let len := f 6 2
  let body := (b.drop 12).take len
  let mac := (b.drop (12 + len)).take 16
  let session := f 4 2 - 1
  let w : WoredBody := ⟨BitVec.ofNat 8 (f 2 1), BitVec.ofNat 8 (f 3 1), body⟩
  if b.length < 12 + len ∨ f 0 1 ≠ 1 then d
  else match f 1 1 with
    | 1 =>
      if len ≠ 20 ∨ 3 < ofBe (body.take 1) then d
      else d.openSession (.tunnel primary) [] (ofBe (body.take 1)) (ofBe ((body.drop 1).take 1)) (ofBe ((body.drop 2).take 2))
        (body.drop 4)
    | 3 => if f 4 2 = 0 then d else d.confirmSession session (f 8 4) mac []
    | 5 => if f 4 2 = 0 then d else d.closed session (f 8 4) mac
    | 0x10 =>
      if h : 1 ≤ f 4 2 ∧ f 4 2 ≤ 16 then
        d.sessionRequest ⟨f 4 2 - 1, Nat.lt_of_lt_of_le (Nat.sub_lt h.1 Nat.one_pos) h.2⟩ (.tunnel primary) [] (f 8 4) mac w wp
      else d.when (d.device.appRunning && !d.stopped) (Dev.plainReply (.tunnel primary) [] (ofBe (body.take 4)) 0x09 0)
    | 0x20 =>
      if h : 1 ≤ f 4 2 ∧ f 4 2 ≤ 16 then
        d.subscribe ⟨f 4 2 - 1, Nat.lt_of_lt_of_le (Nat.sub_lt h.1 Nat.one_pos) h.2⟩ (f 8 4) mac w wp
      else d
    | 0x22 =>
      if f 4 2 = 0 ∨ len ≠ 12 then d
      else d.sessionAck session (f 8 4) mac (ofBe (body.take 1)) (ofBe (body.drop 4))
    | _ => d

end Sys2Proof.Machine
end

