-- ==== Sys2Proof/Machine/Hart.lean ====
section
/-! DEFINITION. HART on port L: the commands, the mapping of results, the tunnel, burst mode and the loop time marker (R34, R378–R388,
R401). -/

namespace Sys2Proof.Machine

/-- The side of port L of a master. -/
def Dev.master (d : Dev) (primary : Bool) : HartMaster := d.link.masters.getD (flag (!primary)) HartMaster.reset

/-- Changes the side of port L of a master. -/
def Dev.setMaster (primary : Bool) (f : HartMaster → HartMaster) (d : Dev) : Dev :=
  d.setLink fun l => { l with masters := l.masters.modify (flag (!primary)) f }

/-- Whether HART is served (R14, R331): the configuration loaded, the application core running, the device awake. -/
def Dev.hartServed (d : Dev) : Bool := d.device.appRunning && !d.stopped && d.start.configured && !d.security.romLoader

/-! ### Values (R380, R384, R385) -/

/-- PV, SV, TV and QV as process values: LOOP_PV and HART_DV_MAP (R380). -/
def Dev.dynamicVariables (d : Dev) : List Nat :=
  let m := d.u Obj.HART_DV_MAP
  [d.u Obj.LOOP_PV, bits m 23 16, bits m 15 8, bits m 7 0]

/-- The unit code of a process value, 250 (not used) where there is none. -/
def Dev.unitOf (d : Dev) (pv : Nat) : Nat := if pv < 16 then d.u (Obj.PV_UNIT pv) else 250

/-- The value of a process value, a NaN where there is none (log 44). -/
def Dev.valueOf (d : Dev) (pv : Nat) : F32 := if pv < 16 then d.f (Obj.PV_VALUE pv) else 0x7FA00000

/-- The percent of range, unclamped (R219, R380). -/
def Dev.percent (d : Dev) : F32 :=
  let r := d.b Obj.LOOP_RANGE
  let w := F64.ofF32
  F32.ofF64 (F64.mul (F64.nat 100) (F64.div (F64.sub (w (d.valueOf (d.u Obj.LOOP_PV))) (w (rangeLo r)))
    (F64.sub (w (rangeHi r)) (w (rangeLo r)))))

/-- Whether a process value has a category. -/
def Dev.pvHas (d : Dev) (pv cat : Nat) : Bool := decide (pv < 16) && catOf (d.pvStatus pv) == cat

/-- The HART device status byte (R384). -/
def Dev.hartStatus (d : Dev) (m : HartMaster) : Nat :=
  let pv := d.u Obj.LOOP_PV
  let source := bits d.loopStatus 15 12
  flag (d.category == catF || d.pvHas pv catF) * 128 + flag m.changed * 64 + flag m.cold * 32 +
    flag (d.category != 0 || d.areaFlags != 0) * 16 + flag (source == 4 || source == 6 || source == 7) * 8 +
    flag (d.outputs.satHi || d.outputs.satLo) * 4 + flag ((d.dynamicVariables.drop 1).any fun v => d.pvHas v catS) * 2 +
    flag (d.pvHas pv catS)

/-- The variable status byte of command 9 (R385). -/
def variableStatus (status : Nat) : Nat :=
  let quality := match catOf status with | 4 => 0 | 2 => 1 | 3 => 2 | _ => 3
  quality * 64 + (if bit status 10 then 16 else if bit status 11 then 32 else 0)

/-! ### Texts (R380, R399) -/

/-- Packed ASCII as bytes: four characters of six bits in three bytes. -/
def packAscii (text : List Byte) : List Byte :=
  beBytes (text.length * 6 / 8) (text.foldl (fun n c => n * 64 + c.toNat % 64) 0)

/-- The characters of some packed bytes: bit 6 is the inverse of bit 5. -/
def unpackAscii (b : List Byte) : List Byte :=
  let n := ofBe b
  let count := b.length * 8 / 6
  (List.range count).map fun k =>
    let c := n / 64 ^ (count - 1 - k) % 64
    BitVec.ofNat 8 (if c < 32 then c + 64 else c)

/-- A text filled up with a byte. -/
def fillText (n : Nat) (c : Byte) (b : List Byte) : List Byte := b ++ List.replicate (n - b.length) c

/-- A text without the bytes that fill it up. -/
def trimText (c : Byte) (b : List Byte) : List Byte := (b.reverse.dropWhile (· == c)).reverse

/-! ### Data of the responses (R379, R380) -/

/-- The identity of command 0 (R379), in the layout of HART revision 7 (log 44). -/
def Dev.uidData (d : Dev) : List Byte :=
  u8 254 ++ u16 (d.u Obj.HART_EXP_TYPE) ++ u8 5 ++ u8 7 ++ u8 (d.u Obj.DICT_REV / 256) ++ u8 (d.u Obj.FIRMWARE_REV / 2 ^ 24) ++
    u8 (d.u Obj.SILICON_REV / 256 * 8 % 256) ++ u8 0 ++ beBytes 3 (d.u Obj.HART_DEVICE_ID) ++ u8 (d.u Obj.HART_PREAMBLES) ++
    u8 249 ++ u16 (d.u Obj.CONFIG_CHANGED_COUNT) ++ u8 0 ++ u16 (d.u Obj.HART_MFR_ID) ++ u16 (d.u Obj.HART_MFR_ID) ++ u8 1

/-- The data of command 1 (R380). -/
def Dev.pvData (d : Dev) : List Byte := u8 (d.unitOf (d.u Obj.LOOP_PV)) ++ f32b (d.valueOf (d.u Obj.LOOP_PV))

/-- The data of command 2 (R380). -/
def Dev.currentData (d : Dev) : List Byte := f32b (d.f Obj.LOOP_TARGET) ++ f32b d.percent

/-- The data of command 3 (R380): it ends at the first variable that HART_DV_MAP leaves out. -/
def Dev.dynamicData (d : Dev) : List Byte :=
  f32b (d.f Obj.LOOP_TARGET) ++
    (d.dynamicVariables.takeWhile fun v => decide (v < 16)).flatMap fun v => u8 (d.unitOf v) ++ f32b (d.valueOf v)

/-- Unit, value and status of a device variable of command 9 (R380, R385). -/
def Dev.deviceVariable (d : Dev) (code : Nat) : Nat × F32 × Nat :=
  let pv := fun (n : Nat) =>
    if n < 16 then (d.unitOf n, d.valueOf n, variableStatus (d.pvStatus n)) else (250, (0x7FA00000 : F32), 0x30)
  let loop := variableStatus (d.pvStatus (min 15 (d.u Obj.LOOP_PV)))
  if code < 16 then pv code
  else match code with
    | 244 => (57, d.percent, loop)
    | 245 => (39, d.f Obj.LOOP_TARGET, loop)
    | 246 => pv (d.dynamicVariables.getD 0 0xFF)
    | 247 => pv (d.dynamicVariables.getD 1 0xFF)
    | 248 => pv (d.dynamicVariables.getD 2 0xFF)
    | 249 => pv (d.dynamicVariables.getD 3 0xFF)
    | _ => (250, 0x7FA00000, 0x30)

/-- Extended device status (R384). -/
def Dev.extendedStatus (d : Dev) : Nat :=
  match d.category with
  | 1 => 0x01
  | 2 => 0x10
  | 3 => 0x20
  | 4 => 0x08
  | _ => 0

/-- The data of command 9 (R380, R385): extended status, then code, class, unit, value and status of up to eight variables, then the
time of day of the first in 1/32 ms (log 44). -/
def Dev.variablesData (d : Dev) (codes : List Byte) : List Byte :=
  u8 d.extendedStatus ++ ((codes.take 8).flatMap fun c =>
    let v := d.deviceVariable c.toNat
    [c] ++ u8 0 ++ u8 v.1 ++ f32b v.2.1 ++ u8 v.2.2) ++ u32 (d.courseNs % 86400000000000 * 32 / 1000000)

/-- The data of command 15 (R380). -/
def Dev.deviceData (d : Dev) : List Byte :=
  let r := d.b Obj.LOOP_RANGE
  u8 (if d.u Obj.LOOP_FAULT_DIR = 1 then 0 else 1) ++ u8 0 ++ u8 (d.unitOf (d.u Obj.LOOP_PV)) ++ f32b (rangeHi r) ++ f32b (rangeLo r) ++
    f32b F32.zero ++ u8 (flag d.device.wpLow) ++ u8 250 ++ u8 0

/-- The data of command 14 (R380). -/
def Dev.transducerData (d : Dev) : List Byte :=
  beBytes 3 0 ++ u8 (d.unitOf (d.u Obj.LOOP_PV)) ++ f32b (d.f Obj.LOOP_LIMIT_HI) ++ f32b (d.f Obj.LOOP_LIMIT_LO) ++
    f32b (d.f Obj.LOOP_MIN_SPAN)

/-- The data of commands 13 and 18 (R380). -/
def Dev.tagData (d : Dev) : List Byte :=
  packAscii (fillText 8 0x20 (d.b Obj.HART_TAG)) ++ packAscii (fillText 16 0x20 (d.b Obj.HART_DESCRIPTOR)) ++
    beBytes 3 (d.u Obj.HART_DATE)

/-- The data of command 48 (R384). -/
def Dev.statusData (d : Dev) : List Byte :=
  u16 d.deviceStatus ++ u16 d.areaFlags ++ u16 d.loopStatus ++ u8 d.extendedStatus ++ u8 0 ++ u8 0

/-! ### Responses (R381, R383, R384) -/

/-- A response to a master: response code, device status, data. The cold-start bit goes out once (R383). -/
def Dev.respond (primary : Bool) (command code : Nat) (data : List Byte) (d : Dev) : Dev :=
  let status := d.hartStatus (d.master primary)
  let d := d.setMaster primary fun m => { m with cold := false }
  { d with device := { d.device with
      responses := d.device.responses ++ [⟨.hart primary, command, code, status, if code = 0 then data else []⟩] } }

/-- A read command of a master (R380). -/
def Dev.hartRead (primary : Bool) (command : Nat) (data : Dev → List Byte) (d : Dev) : Dev :=
  if d.hartServed then d.respond primary command 0 (data d) else d

/-- The response code of a RANGE refusal (R381). -/
def Dev.hartRange (d : Dev) (command failOp : Nat) (b : List Byte) : Nat :=
  match command with
  | 6 => if failOp = 0 then 3 else 2
  | 35 =>
    let urv := blockF (b.drop 1) 0
    let lrv := blockF (b.drop 1) 1
    let hi := d.f Obj.LOOP_LIMIT_HI
    let lo := d.f Obj.LOOP_LIMIT_LO
    if F32.lt hi lrv then 9 else if F32.lt lrv lo then 10 else if F32.lt hi urv then 11 else if F32.lt urv lo then 12 else 14
  | 40 => if F32.lt (F32.ofInt 23) (blockF b 0) then 3 else 4
  | 45 =>
    if !F32.eq (d.f Obj.LOOP_FIXED) (F32.ofInt 4) then 9 else if F32.lt (F32.ofInt 4) (blockF b 0) then 3 else 4
  | 46 =>
    if !F32.eq (d.f Obj.LOOP_FIXED) (F32.ofInt 20) then 9 else if F32.lt (F32.ofInt 20) (blockF b 0) then 3 else 4
  | _ => 3

/-- The response code of a result (R381). -/
def Dev.hartCode (d : Dev) (command : Nat) (b : List Byte) (r : Reply) : Nat :=
  match r.status with
  | 0x00 => 0
  | 0x03 => 5
  | 0x04 => d.hartRange command r.failOp b
  | 0x05 =>
    if command = 40 ∧ d.on Obj.MULTIDROP then 11 else if r.detail / 2 ^ 24 = 3 then 7 else 16
  | 0x06 => if command = 40 ∧ d.on Obj.MULTIDROP then 11 else 16
  | 0x07 | 0x0C => 32
  | _ => 6

/-- Changes the write of a master that waits for the answer to a request ID. -/
def HartMaster.setWrite (m : HartMaster) (id : Nat) (f : HartWrite → HartWrite) : HartMaster :=
  { m with writes := m.writes.map fun w => if w.id = id ∧ w.code = none then f w else w }

/-- The answer to a write has come (R381): it is given where a frame still waits for it, and kept for a repeat. -/
def Dev.hartReply (primary : Bool) (r : Reply) (d : Dev) : Dev :=
  match (d.master primary).writes.find? fun w => w.id == r.id && w.code == none with
  | none => d
  | some w =>
    let code := d.hartCode w.command w.data r
    let d := d.setMaster primary fun m => m.setWrite w.id fun x => { x with owed := none, code := some code }
    d.when w.owed.isSome (Dev.respond primary w.command code w.data)

/-- Whether some of the operations are journaled: they write a persistent object (R277, R381). -/
def Dev.hartJournaled (d : Dev) (ops : List ReqOp) : Bool :=
  (writesOf ops).any fun w => match d.cardAt w.2.1 w.2.2.1 with | some c => c.persist == .P || c.persist == .PC | none => false

/-- A write command of a master (R381): a repeat within HART_REPEAT_TIME joins or gets the answer again; else, at HART_LEVEL L0, the
response code is 16; else a request of CLIENT kind 0 at HART_LEVEL. -/
def Dev.hartWrite (primary : Bool) (command : Nat) (b : List Byte) (ops : List ReqOp) (wp : Bool) (d : Dev) : Dev :=
  if !d.hartServed then d else
    let now := d.course.elapsed
    let m := d.master primary
    let recent := fun (w : HartWrite) => decide (now ≤ w.instant + d.u Obj.HART_REPEAT_TIME * msTicks)
    match m.writes.find? fun w => w.command == command && w.data == b && recent w && (w.code == none || w.code == some 0) with
    | some w =>
      if w.code = none then d.setMaster primary fun m => m.setWrite w.id fun x => { x with owed := some now }
      else (d.bump Obj.HART_REPEATS).respond primary command 0 b
    | none =>
      if d.u Obj.HART_LEVEL = 0 then d.respond primary command 16 [] else
        let journaled := d.hartJournaled ops
        let id := if journaled then m.counter else 0
        let d := d.setMaster primary fun m => { m with
          counter := if !journaled then m.counter else if m.counter + 1 = 2 ^ 32 then 1 else m.counter + 1
          writes := ⟨command, b, now, id, some now, none⟩ :: m.writes.filter fun w => w.code == none || recent w }
        d.request ⟨BitVec.ofNat 16 (flag primary), ⟨d.u Obj.HART_LEVEL % 4, Nat.mod_lt _ (by decide)⟩, BitVec.ofNat 32 id,
          .hart primary, wp⟩ ops

/-- The write of a register from a HART command. -/
def opOf (r : Reg) (b : List Byte) : ReqOp := .write (r.key / 256) (r.key % 256) b

/-- The write of a master whose frame has waited longest for its response, with the instant of that frame. -/
def HartMaster.oldestOwed (m : HartMaster) : Option (HartWrite × Nat) :=
  m.writes.foldr (fun w x => match w.owed, x with
    | some t, none => some (w, t)
    | some t, some y => if t < y.2 then some (w, t) else x
    | none, _ => x) none

/-- HART_WRITE_BUSY_TIMEOUT (R381): 200 ms after the frame, with no seal yet, the answer is 32. -/
def Dev.hartBusy (primary : Bool) (d : Dev) : Dev :=
  match (d.master primary).oldestOwed with
  | some (w, t) =>
    if !d.hartServed then d else
      let d := d.advanceTo (t + 200 * msTicks)
      let d := d.setMaster primary fun m => m.setWrite w.id fun x => { x with owed := none }
      d.respond primary w.command 32 []
  | none => d

/-- WRITE_RANGE_VALUES (R380, R381): the unit code must equal PV_UNIT. -/
def Dev.hartRangeWrite (primary : Bool) (unit : Nat) (urv lrv : F32) (wp : Bool) (d : Dev) : Dev :=
  if d.hartServed && d.u Obj.HART_LEVEL != 0 && unit != d.unitOf (d.u Obj.LOOP_PV) then d.respond primary 35 2 []
  else d.hartWrite primary 35 (u8 unit ++ f32b urv ++ f32b lrv) [opOf Obj.LOOP_RANGE (f32b lrv ++ f32b urv)] wp

/-- RESET_CONFIG_CHANGED_FLAG (R383), at every HART_LEVEL (DEDUCED, log 101). -/
def Dev.hartClearChanged (primary : Bool) (d : Dev) : Dev :=
  if !d.hartServed then d
  else (d.setMaster primary fun m => { m with changed := false }).respond primary 38 0 (u16 (d.u Obj.CONFIG_CHANGED_COUNT))

/-- READ_UID_BY_SHORT_TAG and READ_UID_BY_LONG_TAG (R379, R380): only the device with the tag answers. -/
def Dev.hartByTag (primary : Bool) (command : Nat) (same : Bool) (d : Dev) : Dev :=
  if same then d.hartRead primary command Dev.uidData else d

/-! ### Burst mode (R386) -/

/-- The data of the burst command. -/
def Dev.burstData (d : Dev) : List Byte :=
  match d.u Obj.BURST_CMD with
  | 1 => d.pvData
  | 2 => d.currentData
  | 3 => d.dynamicData
  | 9 => d.variablesData [246, 247, 248, 249]
  | _ => d.statusData

/-- BURST_PERIOD_EXPIRY (R386): the response of BURST_CMD goes out. It stands among the responses under the primary master, whose
cold-start bit it shows and leaves (DESIGN CHOICE, log 101). -/
def Dev.burst (d : Dev) : Dev :=
  if !d.hartServed || d.u Obj.BURST_MODE = 0 then d else
    let cold := (d.master true).cold
    let d := d.advanceTo (d.link.burst + d.u Obj.BURST_PERIOD * 6553600)
    ((d.setLink fun l => { l with burst := d.course.elapsed }).respond true (d.u Obj.BURST_CMD) 0 d.burstData).setMaster true
      fun m => { m with cold := cold }

/-- HART_FRAME_ERROR (R401). -/
def Dev.hartError (d : Dev) : Dev :=
  if !d.hartServed then d else (d.bump Obj.HART_ERRORS).flagFirst Obj.HOST_FLAGS 4 0x6084 []

/-! ### Command 160 (R34, R387, R388) -/

/-- The oldest frame queued for a master, collected, as the data of a response (R282, R387). -/
def Dev.tunnelPoll (primary : Bool) (d : Dev) : Dev :=
  if !d.hartServed then d
  else match (d.master primary).frames with
    | [] => d.respond primary 160 0 []
    | o :: rest => ((d.setMaster primary fun m => { m with frames := rest }).respond primary 160 0 o.data).collected o

/-- A marker that fails a check (R388): 1 disabled, 2 authentication, 3 level. -/
def Dev.markerRejected (primary : Bool) (reason : Nat) (d : Dev) : Dev :=
  (d.flagRaise Obj.HOST_FLAGS 5 0x6086 (u8 reason)).respond primary 160 16 []

/-- A valid marker (R34, R388): a sample of LOOP_MARKER. The first one qualifies nothing: two have to agree. -/
def Dev.markerAccepted (primary : Bool) (time : Nat) (d : Dev) : Dev :=
  let stamp := d.courseNs
  let off := signed 64 (time + 2 ^ 64 - stamp)
  let d := (d.bump Obj.MARKER_ACCEPTED).putI Obj.MARKER_LAST_OFFSET (Int.tdiv off 1000)
  let d := d.raise 0x6085 (d.b Obj.MARKER_LAST_OFFSET)
  let d := (d.noteMarkerSeries off).offsetSample .loopMarker off
  let d := d.setCourse fun c => { c with marker := some c.elapsed }
  d.respond primary 160 0 (u64 stamp)

/-- LOOP_TIME_MARKER (R388): the session, its level, the MAC and the counter are checked. -/
def Dev.loopMarker (primary : Bool) (m : Marker) (d : Dev) : Dev :=
  if !d.hartServed then d
  else if !d.on Obj.MARKER_ENABLE then d.markerRejected primary 1
  else
    let n := m.session.toNat - 1
    let head := u8 0x4D ++ u8 m.reserved.toNat ++ u16 m.session.toNat ++ u32 m.counter.toNat ++ u64 m.time.toNat
    match (if m.session.toNat = 0 then none else d.session n) with
    | none => d.markerRejected primary 2
    | some s =>
      let tunnel := match s.path with | .tunnel _ => true | .port _ => false
      if !s.isOpen || s.upstream || !tunnel then d.markerRejected primary 2
      else if m.mac ≠ (hmac s.key head).take 16 then (d.authFail s.address).markerRejected primary 2
      else if s.level < 1 then d.markerRejected primary 3
      else match counterStep s.high s.seen m.counter.toNat with
        | none => (d.bump Obj.REPLAY_REJECTED).markerRejected primary 2
        | some r =>
          (d.setSession n fun x => { x with high := r.1, seen := r.2, last := d.course.elapsed }).markerAccepted primary m.time.toNat

/-- A marker in the data of a command 160 (R388). -/
def markerOf (b : List Byte) : Marker :=
  let f := fun (at' n : Nat) => ofBe ((b.drop at').take n)
  ⟨BitVec.ofNat 8 (f 1 1), BitVec.ofNat 16 (f 2 2), BitVec.ofNat 32 (f 4 4), BitVec.ofNat 64 (f 8 8), (b.drop 16).take 16⟩

/-- WORED_TUNNEL_FRAME (R387): byte 0 of the data selects the use. -/
def Dev.tunnelUse (primary : Bool) (b : List Byte) (wp : Bool) (d : Dev) : Dev :=
  if !d.hartServed then d
  else match b with
    | [] => d.tunnelPoll primary
    | c :: rest =>
      if c = 0x01 ∧ rest.length ≤ 252 then (d.tunnelFrame primary rest wp).tunnelPoll primary
      else if c = 0x4D ∧ b.length = 32 then d.loopMarker primary (markerOf b)
      else d.respond primary 160 2 []

end Sys2Proof.Machine
end

