-- ==== Sys2Proof/Machine/HostPort.lean ====
section
/-! DEFINITION. The SPI host port and the wake port: host frames, the holding register, pending operations and messages (R389–R398,
R401). -/

namespace Sys2Proof.Machine

/-- The number of a host port: SPI 0, wake 1. -/
def HostPort.no : HostPort → Nat
  | .spi => 0
  | .wake => 1

/-- A host port as the path of a request. -/
def viaOf : HostPort → Via
  | .spi => .spi
  | .wake => .wake

/-- The state of a host port. -/
def Dev.host (d : Dev) (p : HostPort) : HostState := d.link.hosts.getD (HostPort.no p) HostState.reset

/-- Changes the state of a host port. -/
def Dev.setHost (p : HostPort) (f : HostState → HostState) (d : Dev) : Dev :=
  d.setLink fun l => { l with hosts := l.hosts.modify (HostPort.no p) f }

/-- Sets the pending operation of a host port. -/
def Dev.setPending (p : HostPort) (x : Option HostPending) (d : Dev) : Dev := d.setHost p fun h => { h with pending := x }

/-- Whether a host port takes frames: SPI while its domain has power and SPI_ENABLE is 1 (R395), the wake port also in a wake once
the regulators are ready (R423). -/
def Dev.hostServed (d : Dev) (p : HostPort) : Bool :=
  let started := d.start.phase != .supply && d.start.phase != .verify || d.security.romLoader
  match p with
  | .spi => started && !d.stopped && d.on Obj.SPI_ENABLE
  | .wake =>
    let waking := match d.power.mode with | .waking _ => d.power.regulators | _ => false
    started && !d.security.romLoader && (!d.stopped || waking)

/-- The request of a host port: CLIENT kind 2 or 3, at its level (R276, R393, R463). -/
def Dev.hostRequest (d : Dev) (p : HostPort) (id : BitVec 32) (wp : Bool) : Request :=
  let level := if d.security.romLoader then 2 else match p with | .spi => d.u Obj.HOST_LEVEL | .wake => d.u Obj.WAKE_LEVEL
  ⟨match p with | .spi => 0x2000 | .wake => 0x3000, ⟨level % 4, Nat.mod_lt _ (by decide)⟩, id, viaOf p, wp⟩

/-! ### Responses (R391) -/

/-- A response of a host port: PSTAT, DETAIL and data. -/
def Dev.hostRespond (p : HostPort) (op pstat status detail : Nat) (data : List Byte) (d : Dev) : Dev :=
  { d with device := { d.device with
      responses := d.device.responses ++ [⟨viaOf p, op, pstat * 2 ^ 14 + status, detail, data⟩] } }

/-- DONE. -/
def Dev.hostDone (p : HostPort) (op status detail : Nat) (data : List Byte) (d : Dev) : Dev := d.hostRespond p op 0 status detail data

/-- PENDING. -/
def Dev.hostWaits (p : HostPort) (op : Nat) (d : Dev) : Dev := d.hostRespond p op 1 0 0 []

/-- CRC_ERROR (R391, R401). -/
def Dev.hostCrc (p : HostPort) (op : Nat) (d : Dev) : Dev :=
  let d := match p with | .spi => d.bump Obj.SPI_CRC_ERRORS | .wake => d.bump Obj.WAKE_CRC_ERRORS
  (d.flagFirst Obj.HOST_FLAGS (HostPort.no p) 0x6081 (u8 (HostPort.no p))).hostRespond p op 2 0 0 []

/-- FRAME_ERROR (R391, R397, R401). -/
def Dev.hostFrameError (p : HostPort) (op : Nat) (d : Dev) : Dev :=
  (d.flagFirst Obj.HOST_FLAGS 2 0x6082 (u8 (HostPort.no p))).hostRespond p op 3 0 0 []

/-- A frame of a host port, where the port takes it: a bad CRC has no effect, an operation that would wait while another does is BUSY
(R391). -/
def Dev.hostFrame (p : HostPort) (op : Nat) (crc waits : Bool) (f : Dev → Dev) (d : Dev) : Dev :=
  if !d.hostServed p then d
  else if !crc then d.hostCrc p op
  else if waits && (d.host p).pending.isSome then d.hostDone p op 0x07 0 []
  else f d

/-! ### Words (R389, R394) -/

/-- Pairs of bytes. -/
def pairsOf : List Byte → List (List Byte)
  | a :: b :: rest => [a, b] :: pairsOf rest
  | [a] => [[a, 0]]
  | [] => []

/-- The words of a value: a number's lowest word first, anything else in byte order (R389). -/
def wordsOf (varies : Bool) (b : List Byte) : List (List Byte) :=
  if varies then pairsOf b else (pairsOf (if b.length % 2 = 1 then 0 :: b else b)).reverse

/-- The bytes of a written value, its words in the order of R389, for a type and its longest value: a fixed size takes that many
bytes; a byte that only fills up the last word goes (log 47). -/
def bytesOfWords (c : Card) (words : List (BitVec 16)) : List Byte :=
  let ws := words.map fun w => beBytes 2 w.toNat
  if !c.ty.varies then
    let b := ws.reverse.flatten
    b.drop (b.length - c.ty.size)
  else
    let b := ws.flatten
    if c.maxLen < b.length || (c.ty == .str && b.getLast? == some 0) then b.dropLast else b

/-- The words of a whole value for a read (R394): a value beyond which the read names words is refused. -/
def hostWords (varies : Bool) (b : List Byte) (first count : Nat) : Except Fail (List Byte) :=
  let ws := wordsOf varies b
  if ws.length < first + count then .error ⟨0x04, 0⟩ else .ok ((ws.drop first).take count).flatten

/-- Whether a read is served in its transaction (R391). -/
def servedAtOnce (index sub : Nat) : Bool :=
  (index == 0x1100 && decide (1 ≤ sub) && decide (sub ≤ 5)) || index == 0x2600 ||
    (decide (0x2000 ≤ index) && decide (index < 0x2400) && (index % 256 == 3 || (index % 256 == 0 && sub == 0x33))) ||
    (decide (0x4000 ≤ index) && decide (index < 0x4010)) || (index == 0x6001 && sub == 1) || (index == 0x1650 && sub == 4)

/-- Whether an object's values vary in size. -/
def Dev.variesAt (d : Dev) (index sub : Nat) : Bool :=
  if sub = 0 then false else match Machine.cardAt index sub with
    | some c => c.ty.varies
    | none => match d.cardAt index sub with | some c => c.ty.varies | none => false

/-! ### READ (R391, R394) -/

/-- What a READ copies (R16, R394): the value as it stood before this tick's writes, with the side effect of the read. -/
def Dev.hostCopy (via : Via) (index sub : Nat) (d : Dev) : List Byte × Dev :=
  let r := d.readObject via index sub
  (if sideEffectRead index sub then r.1 else (d.seen.readObject via index sub).1, r.2)

/-- The snapshot of an object into the holding register, and the words asked for; a read that is refused has no effect. -/
def Dev.hostSnapshot (p : HostPort) (index sub count : Nat) (d : Dev) : Dev × Except Fail (List Byte) :=
  let check := if d.security.romLoader then d.romCheck (.read index sub)
    else d.readCheck (viaOf p) (d.hostRequest p 0 d.device.wpLow).level index sub
  match check with
  | some f => (d, .error f)
  | none =>
    let r := d.hostCopy (viaOf p) index sub
    match hostWords (d.variesAt index sub) r.1 0 count with
    | .error f => (d, .error f)
    | .ok words => (r.2.setHost p fun h => { h with holding := some (index * 256 + sub, r.1) }, .ok words)

/-- The words of a READ with FIRST above 0, from the holding register (R394). -/
def Dev.hostHeld (d : Dev) (p : HostPort) (index sub first count : Nat) : Except Fail (List Byte) :=
  match (d.host p).holding with
  | some (key, b) => if key = index * 256 + sub then hostWords (d.variesAt index sub) b first count else .error ⟨0x05, 4 * 2 ^ 24⟩
  | none => .error ⟨0x05, 4 * 2 ^ 24⟩

/-- A READ that is checked and performed now: its failure, or its words with DONE or after PENDING. -/
def Dev.hostReadNow (p : HostPort) (index sub first count : Nat) (d : Dev) : Dev :=
  let r := if first = 0 then d.hostSnapshot p index sub count else (d, d.hostHeld p index sub first count)
  match r.2 with
  | .error f => r.1.hostDone p 1 f.status f.detail []
  | .ok data =>
    if servedAtOnce index sub then r.1.hostDone p 1 0 0 data
    else (r.1.setPending p (some (.reading 0 0 data))).hostWaits p 1

/-- HOST_READ (R391, R394, R398): a read that needs the application core is held until it runs. -/
def Dev.hostRead (p : HostPort) (index sub first count : Nat) (crc : Bool) (d : Dev) : Dev :=
  d.hostFrame p 1 crc true fun d =>
    if d.device.appRunning || d.device.state = .starting || d.security.romLoader || servedAtOnce index sub || first ≠ 0 then
      d.hostReadNow p index sub first count
    else (d.setPending p (some (.held (d.hostRequest p 0 d.device.wpLow) [.read index sub] [] false first count))).hostWaits p 1

/-! ### WRITE, COLLECT (R391, R392, R394) -/

/-- The reply to a request of a port among those just given. -/
def Dev.newReply (d : Dev) (before : Nat) (rq : Request) : Option Reply :=
  (d.device.replies.drop before).find? fun r => r.via == rq.via && r.id == rq.id.toNat

/-- The result of a reply: a REPLY message with its length word, or its status and detail (R391, R392). -/
def resultOf (message : Bool) (r : Reply) : HostPending :=
  if message then
    let b := replyBody r.id r.status r.failOp r.detail r.values
    let m := woredHeader 0x11 0 0 0 b.length 0 ++ b
    .result 0 0 (u16 m.length ++ m)
  else .result r.status r.detail []

/-- A request of a port is made: pending until its reply has come. -/
def Dev.hostSubmit (p : HostPort) (rq : Request) (ops : List ReqOp) (message : Bool) (d : Dev) : Dev :=
  let before := d.device.replies.length
  let d := d.request rq ops
  match d.newReply before rq with
  | some r => d.setPending p (some (resultOf message r))
  | none => d.setPending p (some (.waits rq.id.toNat message))

/-- What a WRITE answers at once: PENDING unless its check has failed. -/
def Dev.hostOutcome (p : HostPort) (op : Nat) (d : Dev) : Dev :=
  match (d.host p).pending with
  | some (.result status detail _) =>
    if status = 0 then d.hostWaits p op else (d.setPending p none).hostDone p op status detail []
  | _ => d.hostWaits p op

/-- The value of a WRITE: FIRST 0 and every word of the value (R394); anything else stands as a value of no length that the object
has, so that the check of its length refuses it in its turn (R324). -/
def Dev.hostValue (d : Dev) (index sub first : Nat) (words : List (BitVec 16)) : List Byte :=
  match (if sub = 0 then none else d.cardAt index sub) with
  | none => words.flatMap fun w => beBytes 2 w.toNat
  | some c =>
    if first ≠ 0 || (!c.ty.varies && words.length != (c.ty.size + 1) / 2) then List.replicate (max c.ty.size c.maxLen + 1) 0
    else bytesOfWords c words

/-- HOST_WRITE (R391, R393, R394). -/
def Dev.hostWrite (p : HostPort) (index sub first : Nat) (id : BitVec 32) (words : List (BitVec 16)) (crc wp : Bool) (d : Dev) : Dev :=
  d.hostFrame p 2 crc true fun d =>
    let b := d.hostValue index sub first words
    let rq := d.hostRequest p id wp
    if d.device.appRunning || d.device.state = .starting || d.security.romLoader then
      (d.hostSubmit p rq [.write index sub b] false).hostOutcome p 2
    else (d.setPending p (some (.held rq [.write index sub b] [] false 0 0))).hostWaits p 2

/-- HOST_COLLECT (R391): the result of the pending operation, or PENDING again; with nothing pending, DONE and no data (log 47). -/
def Dev.hostCollect (p : HostPort) (crc : Bool) (d : Dev) : Dev :=
  d.hostFrame p 3 crc false fun d =>
    match (d.host p).pending with
    | none => d.hostDone p 3 0 0 []
    | some (.result status detail data) => (d.setPending p none).hostDone p 3 status detail data
    | some _ => d.hostWaits p 3

/-! ### WORED, NOP (R392) -/

/-- The oldest message queued for a port, with its length word; it counts as sent (R282, R392). -/
def Dev.hostMessageOut (p : HostPort) (op : Nat) (d : Dev) : Dev :=
  match (d.host p).messages with
  | [] => d.hostDone p op 0 0 (u16 0)
  | o :: rest => ((d.setHost p fun h => { h with messages := rest }).hostDone p op 0 0 (u16 o.data.length ++ o.data)).collected o

/-- HOST_WORED (R392): a REQUEST waits for its REPLY, an ACK acts at once; other messages of R367 are none of this port's. -/
def Dev.hostWored (p : HostPort) (m : HostMessage) (crc wp : Bool) (d : Dev) : Dev :=
  d.hostFrame p 4 crc true fun d =>
    match m.kind.toNat with
    | 0x10 =>
      (match parseRequest m.body with
      | none => d.hostFrameError p 4
      | some (id, ops) =>
        let rq := d.hostRequest p id wp
        if d.device.appRunning || d.device.state = .starting then (d.hostSubmit p rq ops true).hostWaits p 4
        else (d.setPending p (some (.held rq ops [] true 0 0))).hostWaits p 4)
    | 0x22 =>
      let u := ofBe (m.body.take 1)
      if m.body.length ≠ 12 ∨ 16 ≤ u then d.hostFrameError p 4
      else ((d.acknowledge u (ofBe (m.body.drop 4))).deliverSub u).hostMessageOut p 4
    | 0x11 | 0x21 => d.hostMessageOut p 4
    | _ => d.hostFrameError p 4

/-- HOST_NOP (R392). -/
def Dev.hostNop (p : HostPort) (crc : Bool) (d : Dev) : Dev := d.hostFrame p 5 crc false fun d => d.hostMessageOut p 5

/-! ### Completion (R391, R398) -/

/-- An operation that was held is made once the application core runs (R398). -/
def Dev.hostResume (p : HostPort) (d : Dev) : Dev :=
  match (d.host p).pending, d.device.appRunning && !d.stopped with
  | some (.held rq ops _ message first count), true =>
    (match ops, message with
    | [.read index sub], false =>
      let r := if first = 0 then d.hostSnapshot p index sub count else (d, d.hostHeld p index sub first count)
      (match r.2 with
      | .error f => r.1.setPending p (some (.result f.status f.detail []))
      | .ok data => r.1.setPending p (some (.result 0 0 data)))
    | _, _ => d.hostSubmit p rq ops message)
  | _, _ => d

/-- Both ports go on once the application core runs. -/
def Dev.hostsResume (d : Dev) : Dev := (d.hostResume .spi).hostResume .wake

/-- HOST_PENDING_COMPLETE (R391): a read's result is ready, or a held operation is made. -/
def Dev.hostComplete (p : HostPort) (d : Dev) : Dev :=
  match (d.host p).pending with
  | some (.reading status detail data) => d.setPending p (some (.result status detail data))
  | some (.held ..) => d.hostResume p
  | _ => d

/-- The reply to the pending request of a port has come (R391). -/
def Dev.hostReply (p : HostPort) (r : Reply) (d : Dev) : Dev :=
  match (d.host p).pending with
  | some (.waits id message) => if id = r.id then d.setPending p (some (resultOf message r)) else d
  | _ => d

/-! ### The address matcher of the wake port (R398) -/

/-- WAKE_ADDRESS_MATCH (R398): asleep, or in a wake before the port is ready, SCL is held; the match is a wake event (DEDUCED,
log 50). -/
def Dev.addressMatch (d : Dev) : Dev :=
  match d.power.mode with
  | .doze | .stow => (d.setPower fun p => { p with stretch := some d.course.elapsed }).wakeEvent 0
  | .waking _ =>
    if d.power.regulators then d else d.setPower fun p => { p with stretch := p.stretch.orElse fun _ => some d.course.elapsed }
  | _ => d

/-- WAKE_STRETCH_EXPIRY (R398): 5 ms after the hold began, SCL is released with a NACK. -/
def Dev.stretchExpiry (d : Dev) : Dev :=
  match d.power.stretch with
  | none => d
  | some t =>
    let d := (d.advanceTo (t + 5 * msTicks)).setPower fun p => { p with stretch := none }
    (d.bump Obj.WAKE_NACKS).flagFirst Obj.HOST_FLAGS 3 0x6083 []

end Sys2Proof.Machine
end

