-- ==== Sys2Proof/Machine/Act.lean ====
section
/-! DEFINITION. How a command acts on the state: what an earlier command gave out is cleared, the command's effect takes place, and
each reply goes to the path its request came by (R276, R340, R372, R381, R391). -/

namespace Sys2Proof.Machine

/-- Nothing given out yet (log 7). -/
def Dev.cleared (d : Dev) : Dev := d.setDevice fun v => { v with replies := [], responses := [] }

/-- A reply goes to the path of its request: the HART master, the open session of the same client, the host port; a button has
none. -/
def Dev.routeReply (d : Dev) (r : Reply) : Dev :=
  match r.via with
  | .hart primary => d.hartReply primary r
  | .session n => match d.session n with
    | some s => if s.isOpen && !s.upstream && s.client == r.client then d.sendReply n r else d
    | none => d
  | .spi => d.hostReply .spi r
  | .wake => d.hostReply .wake r
  | .button _ => d

/-- Every reply of the command goes on its path, in order. -/
def Dev.routed (d : Dev) : Dev := d.device.replies.foldl Dev.routeReply d

/-- A command with an effect on the device: everything but the queue. -/
def act (f : Dev → Dev) (s : State) : Host.Outcome State Fault Refusal :=
  .next { s with dev := (f s.dev.cleared).routed }

/-- No command waits: one tick passes (log 1). -/
def idle (s : State) : Host.Outcome State Fault Refusal := .next { s with dev := s.dev.advance 1 }

end Sys2Proof.Machine
end

