-- ==== Sys2Proof/Machine/ConversionCommands.lean ====
section
/-! DEFINITION. The commands of chapters 03 to 05: the converters, the seats and their tables, calibrations, the queue, the cross-check. -/

namespace Sys2Proof.Machine

/-! ### The front end -/

/-- RESULT_READY (R74). -/
def execResultReady (conv : Fin 4) (output : FilterOut) (s : State) : Host.Outcome State Fault Refusal :=
  act (·.resultReady conv output) s

/-- MODULATOR_OVERLOAD (R67). -/
def execModulatorOverload (conv : Fin 4) (negative : Bool) (s : State) : Host.Outcome State Fault Refusal :=
  act (·.modulatorOverload conv negative) s

/-- REF_FAULT (R68). -/
def execRefFault (conv : Fin 4) (instant : Nat) (s : State) : Host.Outcome State Fault Refusal :=
  act (·.refFault conv instant) s

/-- REF_FAULT_CLEAR (R68). -/
def execRefFaultClear (conv : Fin 4) (s : State) : Host.Outcome State Fault Refusal := act (·.refFaultClear conv) s

/-- REF_SEL_WRITE (R68). -/
def execRefSelWrite (rq : Request) (n : Fin 4) (value : BitVec 8) (s : State) : Host.Outcome State Fault Refusal :=
  act (·.writeReg rq (Obj.REF_SEL n) (u8 value.toNat)) s

/-- IEXC_COMPLIANCE (R70). -/
def execIexcCompliance (source : Fin 4) (s : State) : Host.Outcome State Fault Refusal := act (·.iexcCompliance source) s

/-- CV_MODE_WRITE (R80). -/
def execCvModeWrite (rq : Request) (n : Fin 4) (value : BitVec 8) (s : State) : Host.Outcome State Fault Refusal :=
  act (·.writeReg rq (Obj.CV_MODE n) (u8 value.toNat)) s

/-- OW_CHECK_START (R84). -/
def execOwCheckStart (seat : Fin 4) (s : State) : Host.Outcome State Fault Refusal := act (·.checkStart seat) s

/-- OW_CHECK_END (R85). -/
def execOwCheckEnd (seat : Fin 4) (xPlus : Reading) (xMinus : Reading) (s : State) : Host.Outcome State Fault Refusal :=
  act (·.checkEnd seat xPlus xMinus) s

/-! ### Tables, triggers and injections -/

/-- ENTRY_WINDOW_END (R97). -/
def execEntryWindowEnd (seat : Fin 4) (s : State) : Host.Outcome State Fault Refusal := act (·.entryWindowEnd seat) s

/-- DELAY_END (R97). -/
def execDelayEnd (seat : Fin 4) (s : State) : Host.Outcome State Fault Refusal := act (·.delayEndNow seat) s

/-- TRIGGER_START_INSTANT (R101). -/
def execTriggerStartInstant (seat : Fin 4) (s : State) : Host.Outcome State Fault Refusal := act (·.triggerStart seat) s

/-- SEQ_STOP (R99): SEQ_CTRL written 0. -/
def execSeqStop (rq : Request) (seat : Fin 4) (s : State) : Host.Outcome State Fault Refusal :=
  act (·.writeReg rq (Obj.SEQ_CTRL seat) (u8 0)) s

/-- SEQ_RUN (R99): SEQ_CTRL written 1. -/
def execSeqRun (rq : Request) (seat : Fin 4) (s : State) : Host.Outcome State Fault Refusal :=
  act (·.writeReg rq (Obj.SEQ_CTRL seat) (u8 1)) s

/-- SEQ_START (R100). -/
def execSeqStart (rq : Request) (seat : Fin 4) (value : BitVec 8) (s : State) : Host.Outcome State Fault Refusal :=
  act (·.writeReg rq (Obj.SEQ_START seat) (u8 value.toNat)) s

/-- INJ_REQUEST (R106). -/
def execInjRequest (rq : Request) (seat : Fin 4) (value : BitVec 8) (s : State) : Host.Outcome State Fault Refusal :=
  act (·.writeReg rq (Obj.INJ_REQUEST seat) (u8 value.toNat)) s

/-- INJ_WINDOW_END (R107). -/
def execInjWindowEnd (seat : Fin 4) (s : State) : Host.Outcome State Fault Refusal := act (·.injWindowEnd seat) s

/-! ### Calibrations -/

/-- SELF_OFFSET (R116): CAL_REQUEST written 1. -/
def execSelfOffset (rq : Request) (conv : Fin 4) (s : State) : Host.Outcome State Fault Refusal :=
  act (·.writeReg rq (Obj.CAL_REQUEST conv) (u8 1)) s

/-- SELF_GAIN (R116): CAL_REQUEST written 2. -/
def execSelfGain (rq : Request) (conv : Fin 4) (s : State) : Host.Outcome State Fault Refusal :=
  act (·.writeReg rq (Obj.CAL_REQUEST conv) (u8 2)) s

/-- SYSTEM_OFFSET (R116): CAL_REQUEST written 3. -/
def execSystemOffset (rq : Request) (conv : Fin 4) (s : State) : Host.Outcome State Fault Refusal :=
  act (·.writeReg rq (Obj.CAL_REQUEST conv) (u8 3)) s

/-- SYSTEM_GAIN (R116): CAL_REQUEST written 4. -/
def execSystemGain (rq : Request) (conv : Fin 4) (s : State) : Host.Outcome State Fault Refusal :=
  act (·.writeReg rq (Obj.CAL_REQUEST conv) (u8 4)) s

/-- CAL_START (R119). -/
def execCalStart (conv : Fin 4) (s : State) : Host.Outcome State Fault Refusal := act (·.calStart conv) s

/-- CAL_MEASUREMENT_END (R117). -/
def execCalMeasurementEnd (conv : Fin 4) (outputs : List Int) (overload : Bool)
    (s : State) : Host.Outcome State Fault Refusal :=
  act (·.measured conv outputs overload) s

/-! ### The queue -/

/-- QUEUE_WORD (R113). -/
def execQueueWord (rq : Request) (s : State) : Host.Outcome State Fault Refusal := act (·.readReg rq Obj.QUEUE_WORD) s

/-- QUEUE_BLOCK (R113). -/
def execQueueBlock (rq : Request) (s : State) : Host.Outcome State Fault Refusal := act (·.readReg rq Obj.QUEUE_BLOCK) s

/-- QUEUE_FLUSH (R113). -/
def execQueueFlush (rq : Request) (value : BitVec 8) (s : State) : Host.Outcome State Fault Refusal :=
  act (·.writeReg rq Obj.QUEUE_FLUSH (u8 value.toNat)) s

/-! ### The cross-check -/

/-- ROTATION (R130). -/
def execRotation (s : State) : Host.Outcome State Fault Refusal := act (·.rotation) s

/-- SPARE_THIRD (R131). -/
def execSpareThird (s : State) : Host.Outcome State Fault Refusal := act (·.spareThird) s

/-- FULL4_PAIR_ADVANCE (R133). -/
def execFull4PairAdvance (s : State) : Host.Outcome State Fault Refusal := act (·.pairAdvance) s

/-- SELF_TEST_START (R139). -/
def execSelfTestStart (s : State) : Host.Outcome State Fault Refusal := act (·.selfTestStart) s

/-- SELF_TEST_LEVEL_END (R140). -/
def execSelfTestLevelEnd (results : List FilterOut) (s : State) : Host.Outcome State Fault Refusal :=
  act (·.levelEnd results) s

/-- ST_REQUEST (R143). -/
def execStRequest (rq : Request) (value : BitVec 8) (s : State) : Host.Outcome State Fault Refusal :=
  act (·.writeReg rq Obj.ST_REQUEST (u8 value.toNat)) s

/-- UNRETIRE (R144). -/
def execUnretire (rq : Request) (value : BitVec 8) (s : State) : Host.Outcome State Fault Refusal :=
  act (·.writeReg rq Obj.UNRETIRE (u8 value.toNat)) s

/-- DIAG_MANUAL (R138). -/
def execDiagManual (rq : Request) (value : BitVec 8) (s : State) : Host.Outcome State Fault Refusal :=
  act (·.writeReg rq Obj.DIAG_MANUAL (u8 value.toNat)) s

end Sys2Proof.Machine
end

