-- ==== Sys2Proof/Machine/Ptp.lean ====
section
/-! DEFINITION. PTP: the grandmaster, the transparent clock, offset samples and Pdelay (R34, R35, R360–R362, R498). -/

namespace Sys2Proof.Machine

/-- The course source of a port (R34). -/
def sourceOfPort : Port → Source
  | .S => .ptpS
  | _ => .ptpRing

/-! ### Announce (R34, R35, R360) -/

/-- The dataset of an Announce, in the order of comparison (R360). -/
def datasetOf (m : Announce) : List Nat :=
  [m.priority1.toNat, m.clockClass.toNat, m.accuracy.toNat, m.variance.toNat, m.priority2.toNat, m.grandmaster.toNat,
   m.steps.toNat, m.source.toNat]

/-- Whether a dataset is better than another: the first difference decides, the lower wins. -/
def betterDataset : List Nat → List Nat → Bool
  | x :: xs, y :: ys => if x = y then betterDataset xs ys else decide (x < y)
  | _, _ => false

/-- The grandmaster's identity in a dataset. -/
def masterOf (s : List Nat) : Nat := s.getD 5 0

/-- Whether an Announce names the grandmaster: there is none, it comes from the same clock, or its dataset is better. -/
def Dev.prefersMaster (d : Dev) (m : Announce) : Bool :=
  match d.net.grandmaster with
  | none => true
  | some s => masterOf s == m.grandmaster.toNat || betterDataset (datasetOf m) s

/-- The timescale of the grandmaster on a port (R35). -/
def Dev.noteTimescale (p : Port) (arb : Bool) (d : Dev) : Dev :=
  let d := d.setCourse fun c => match p with | .S => { c with arbS := arb } | _ => { c with arbRing := arb }
  if d.course.active = some (sourceOfPort p) then (d.setCourse fun c => { c with arb := arb, traced := c.traced || !arb }).noteQuality
  else d

/-- The grandmaster is gone with its source. -/
def Dev.forgetMaster (d : Dev) : Dev := d.setNet fun n => { n with grandmaster := none }

/-- PTP_ANNOUNCE_RX (R34, R360): the best Announce of PTP_DOMAIN names the grandmaster; a new identity raises 0x6009; a clockClass
above PTP_MAX_CLASS loses the source. -/
def Dev.announce (p : Port) (m : Announce) (d : Dev) : Dev :=
  if !d.portUp p.no || m.domain.toNat ≠ d.u Obj.PTP_DOMAIN then d
  else if d.u Obj.PTP_MAX_CLASS < m.clockClass.toNat then
    if d.net.grandmaster.map masterOf = some m.grandmaster.toNat then (d.sourceLost (sourceOfPort p)).forgetMaster else d
  else if !d.prefersMaster m then d
  else
    let changed := d.u Obj.GM_IDENTITY != m.grandmaster.toNat
    let d := d.setNet fun n => { n with grandmaster := some (datasetOf m) }
    let d := (d.put Obj.GM_IDENTITY m.grandmaster.toNat).put Obj.GM_CLASS m.clockClass.toNat
    let d := d.noteTimescale p !m.ptpTimescale
    d.when changed (Dev.flagRaise Obj.PORT_FLAGS 7 0x6009 (u64 m.grandmaster.toNat ++ u8 m.clockClass.toNat))

/-! ### The ring port in use (R34) -/

/-- n² times the variance of some samples. -/
def spread (l : List Int) : Int := (l.length : Int) * (l.map fun x => x * x).sum - l.sum * l.sum

/-- The ring port whose samples show the lower variance; A on a tie, the one that has samples otherwise. -/
def Dev.betterRingPort (d : Dev) : RingPort :=
  let a := d.course.offsetsA
  let b := d.course.offsetsB
  if b.isEmpty then .A
  else if a.isEmpty then .B
  else if spread b * ((a.length * a.length : Nat) : Int) < spread a * ((b.length * b.length : Nat) : Int) then .B else .A

/-- SOURCE_QUALIFIED (R34): a source whose samples have met its qualification; PTP_RING starts with the better port. -/
def Dev.qualified (src : Source) (d : Dev) : Dev :=
  match d.qualifyDue src with
  | none => d
  | some t =>
    let d := d.advanceTo t
    let d := d.when (src == .ptpRing && !(d.source src).qualified) (Dev.setCourse fun c => { c with ringPort := d.betterRingPort })
    d.sourceQualified src

/-- SOURCE_LOST (R34): a qualified source without a valid sample for LOSS_TIME, 600 s for markers; with a PTP source its
grandmaster is forgotten. -/
def Dev.lost (src : Source) (d : Dev) : Dev :=
  if !(d.source src).qualified then d else
    let d := d.advanceTo (d.lossDue src)
    let d := d.when (src == .ptpRing || src == .ptpS) Dev.forgetMaster
    d.sourceLost src

/-! ### Offset samples (R34, R35, R360, R498) -/

/-- Course time in ns of a PTP time, none before the course epoch (R35). -/
def courseOfPtp (arb : Bool) (ns : Int) : Option Int :=
  let t := if arb then ns else ns - 946684800000000000
  if t < 0 then none else some t

/-- The ring port becomes the one in use (R34, R57): no source switch, but ACTIVE_SOURCE names it. -/
def Dev.useRingPort (p : RingPort) (d : Dev) : Dev :=
  let d := d.setCourse fun c => { c with ringPort := p }
  (d.when (d.course.active == some .ptpRing) (Dev.put Obj.ACTIVE_SOURCE (qualityCode .ptpRing p))).noteQuality

/-- Whether a ring port is lost as the one in use (R34): its link is down, or it has had no valid Sync for LOSS_TIME
(DEDUCED, log 67). -/
def Dev.ringPortLost (d : Dev) (place : Nat) : Bool :=
  !d.portUp place || match d.seriesAt place with
    | some s => decide (s.last + d.u Obj.LOSS_TIME * secTicks ≤ d.course.elapsed)
    | none => true

/-- An offset sample from a ring port: those of the port in use alone count, the others only for its variance; a port that is
lost gives way (R34). -/
def Dev.ringSample (p : RingPort) (off : Int) (d : Dev) : Dev :=
  let place := if p = .A then 0 else 1
  let push := fun (l : List Int) => (off :: l).take 16
  let d := (d.setCourse fun c => if p = .A then { c with offsetsA := push c.offsetsA } else { c with offsetsB := push c.offsetsB }).noteSeries
    place off
  let d := d.when (d.course.ringPort != p && d.ringPortLost (1 - place)) (Dev.useRingPort p)
  if d.course.ringPort = p then d.offsetSample .ptpRing off
  else d.setSource .ptpRing fun s => { s with last := some d.course.elapsed }

/-- An offset sample from a port (R34). -/
def Dev.ptpSample (p : Port) (off : Int) (d : Dev) : Dev :=
  match p with
  | .S => (d.noteSeries 2 off).offsetSample .ptpS off
  | .A => d.ringSample .A off
  | .B => d.ringSample .B off

/-- The sample of a Sync whose origin time is known (R34, R35, R360): origin, correction, link delay and asymmetry against the stamp
of its ingress. -/
def Dev.syncSample (p : Port) (origin : Nat) (correction : Int) (stamp : Nat) (d : Dev) : Dev :=
  let arb := match p with | .S => d.course.arbS | _ => d.course.arbRing
  match courseOfPtp arb ((origin : Int) + correction + (d.port p.no).delay + d.i (Obj.ASYM p.no)) with
  | some t => d.ptpSample p (t - stamp)
  | none => d

/-- Whether Sync and Follow_Up messages of a port are used and passed on (R498). -/
def Dev.ptpReady (d : Dev) (p : Port) : Bool := d.portUp p.no && decide (4 ≤ (d.port p.no).exchanges)

/-- Whether a message comes from the grandmaster in PTP_DOMAIN. -/
def Dev.fromMaster (d : Dev) (domain : BitVec 8) (source : BitVec 64) : Bool :=
  domain.toNat == d.u Obj.PTP_DOMAIN && (d.net.grandmaster.map fun s => s.getD 7 0) == some source.toNat

/-! ### The transparent clock (R352, R361) -/

/-- The ports out of which a Sync of a port goes: the other ring port, and S for the first copy; from S both ring ports. -/
def syncPorts (p : Port) (first : Bool) : List Nat :=
  match p with
  | .S => [0, 1]
  | .A => if first then [1, 2] else [1]
  | .B => if first then [0, 2] else [0]

/-- A Sync is passed on (R361): with its Follow_Up to come, or, for a one-step Sync, with one of the device's own. -/
def Dev.passSync (p : Port) (source sequence ingress : Nat) (follow : Option (Nat × Int)) (d : Dev) : Dev :=
  let had := d.net.syncs.filter fun x => x.1 == source && x.2.1 == sequence
  -- a copy that has been passed on from this port, or that S sent into the ring, goes no further
  if had.any (fun x => x.2.2 == p.no || x.2.2 == 2) then d else
    let link := (d.port p.no).delay + d.i (Obj.ASYM p.no)
    let ports := (syncPorts p had.isEmpty).filter d.portUp
    let d := d.setNet fun n => { n with
      syncs := (n.syncs ++ [(source, sequence, p.no)]).drop (n.syncs.length + 1 - 16)
      bridges := n.bridges ++ ports.map fun q => ⟨q, source, sequence, link, none, follow⟩ }
    ports.foldl (fun d q => d.enqueue q ⟨.sync source sequence, .time, false, ptpSize q, ingress,
      u64 source ++ u16 sequence, false⟩) d

/-- PTP_SYNC_RX (R360, R361): timestamped, passed on, and a sample where it carries its time (DEDUCED, log 60). -/
def Dev.ptpSync (p : Port) (m : PtpSync) (d : Dev) : Dev :=
  if !d.ptpReady p then d else
    let d := d.advanceTo m.ingress
    let stamp := d.nsAt m.ingress
    let d := d.passSync p m.source.toNat m.sequence.toNat m.ingress (if m.twoStep then none else some (m.origin, m.correction))
    if !d.fromMaster m.domain m.source || m.interval < -4 || 0 < m.interval then d
    else if m.twoStep then d.setPort p.no fun v => { v with
      sync := some ⟨m.sequence.toNat, m.source.toNat, m.ingress, stamp, m.correction⟩ }
    else d.syncSample p m.origin m.correction stamp

/-- PTP_FOLLOW_UP_RX (R361): it completes the Sync it matches and is passed on with the residence time. -/
def Dev.ptpFollowUp (p : Port) (m : PtpFollowUp) (d : Dev) : Dev :=
  if !d.ptpReady p then d else
    let ports := syncPorts p true
    let fits := fun (b : Bridge) =>
      ports.contains b.port && b.source == m.source.toNat && b.sequence == m.sequence.toNat && b.follow.isNone
    let next := fun (b : Bridge) => if fits b then { b with follow := some (m.origin, m.correction) } else b
    let d := (d.setNet fun n => { n with bridges := n.bridges.map next }).followUps
    match (d.port p.no).sync with
    | some s =>
      if s.sequence = m.sequence.toNat ∧ s.identity = m.source.toNat ∧ d.fromMaster m.domain m.source then
        (d.setPort p.no fun v => { v with sync := none }).syncSample p m.origin (m.correction + s.correction) s.stamp
      else d
    | none => d

/-! ### Pdelay (R360, R498) -/

/-- Bytes of a Pdelay message on a port. -/
def pdelaySize (p : Nat) : Nat := if p = 2 then 72 else 82

/-- The Pdelay interval of 2 ^ PTP_LOG_PDELAY s in ticks (R360). -/
def Dev.pdelayInterval (d : Dev) : Nat :=
  let k := d.i Obj.PTP_LOG_PDELAY
  if k < 0 then secTicks / 2 ^ (-k).toNat else secTicks * 2 ^ k.toNat

/-- PDELAY_REQ_TX (R360): an interval after the last one. -/
def Dev.pdelayRequest (p : Port) (d : Dev) : Dev :=
  if !d.portUp p.no then d else
    let d := d.advanceTo ((d.port p.no).asked + d.pdelayInterval)
    let d := d.setPort p.no fun v => { v with asked := d.course.elapsed }
    d.enqueue p.no ⟨.own, .time, false, pdelaySize p.no, d.course.elapsed, u8 2, false⟩

/-- PDELAY_REQ_RX (R360): answered with Pdelay_Resp and Pdelay_Resp_Follow_Up. -/
def Dev.pdelayAnswer (p : Port) (d : Dev) : Dev :=
  let send := fun (kind : Nat) => Dev.enqueue p.no ⟨.own, .time, false, pdelaySize p.no, d.course.elapsed, u8 kind, false⟩
  send 0x0A (send 3 d)

/-- PDELAY_RESP_RX (R360, R498): an exchange is complete. -/
def Dev.pdelayDone (p : Port) (delay : Int) (d : Dev) : Dev :=
  if !d.portUp p.no then d else
    (d.setPort p.no fun v => { v with delay := delay, exchanges := v.exchanges + 1 }).putI (Obj.PDELAY p.no) delay

end Sys2Proof.Machine
end

