-- ==== Sys2Proof/Machine/CourseCommands.lean ====
section
/-! DEFINITION. The commands of chapters 01 and 02: the application core, the keeper, the SRAM, course time, its sources, strokes, marks, the angle course and the course alarms. -/

namespace Sys2Proof.Machine

/-- RESET_DETAIL of a keeper failure (R485). -/
def keeperDetail : KeeperFault → Nat
  | .watchdog => 1
  | .ecc => 2
  | .lockup => 3

/-- A course alarm fires (R56); one that fires is a wake event (R422). -/
def Dev.alarmFires (n : Nat) (d : Dev) : Dev :=
  if d.course.armed.getD n false && d.u (Obj.COURSE_ALARM n) != 0 then (d.fireAlarm n).wakeEvent 2 else d

/-! ### The application core, the keeper and the SRAM -/

/-- APP_CORE_RESET (R13, R486). -/
def execAppCoreReset (cause : AppResetCause) (s : State) : Host.Outcome State Fault Refusal := act (·.appReset cause) s

/-- APP_CORE_RESTART (R13, R279): what waited for the core takes effect; the host ports' held requests are made. -/
def execAppCoreRestart (s : State) : Host.Outcome State Fault Refusal := act (·.appRestart.hostsResume) s

/-- KEEPER_FAULT (R15, R485): a whole-device reset of cause 2. -/
def execKeeperFault (kind : KeeperFault) (s : State) : Host.Outcome State Fault Refusal :=
  act (·.wholeReset 2 (keeperDetail kind)) s

/-- SRAM_ECC_ERROR (R22). -/
def execSramEccError (bank : SramBank) (s : State) : Host.Outcome State Fault Refusal := act (·.sramError bank) s

/-- SRAM_MARCH_TEST_DONE (R22). -/
def execSramMarchTestDone (bank : SramBank) (lasting : Bool) (s : State) : Host.Outcome State Fault Refusal :=
  act (·.marchDone bank lasting) s

/-! ### Strokes and course time -/

/-- STROKE_BOUNDARY (R27). -/
def execStrokeBoundary (s : State) : Host.Outcome State Fault Refusal := act (·.strokeBoundary) s

/-- COURSE_WRAP (R31). -/
def execCourseWrap (s : State) : Host.Outcome State Fault Refusal := act (·.courseWrap) s

/-- COURSE_SET (R41). -/
def execCourseSet (rq : Request) (value : BitVec 64) (s : State) : Host.Outcome State Fault Refusal :=
  act (·.writeReg rq Obj.COURSE_SET (u64 value.toNat)) s

/-! ### Sources -/

/-- SOURCE_PRIO_WRITE (R38). -/
def execSourcePrioWrite (rq : Request) (n : Fin 5) (value : BitVec 8) (s : State) : Host.Outcome State Fault Refusal :=
  act (·.writeReg rq (Obj.SOURCE_PRIO n) (u8 value.toNat)) s

/-- SOURCE_QUALIFIED (R34). -/
def execSourceQualified (src : Source) (s : State) : Host.Outcome State Fault Refusal := act (·.qualified src) s

/-- SOURCE_LOST (R38). -/
def execSourceLost (src : Source) (s : State) : Host.Outcome State Fault Refusal := act (·.lost src) s

/-- SWITCH_HOLD_EXPIRY (R38). -/
def execSwitchHoldExpiry (s : State) : Host.Outcome State Fault Refusal := act (·.switchHoldExpiry) s

/-- HOLDOVER_LIMIT_REACHED (R42). -/
def execHoldoverLimitReached (s : State) : Host.Outcome State Fault Refusal := act (·.holdoverLimit) s

/-- PPS_EDGE (R36). -/
def execPpsEdge (instant : Nat) (s : State) : Host.Outcome State Fault Refusal := act (·.ppsEdge instant) s

/-! ### Marks -/

/-- MARK_CONV_START (R50, R100). -/
def execMarkConvStart (slot : Fin 128) (s : State) : Host.Outcome State Fault Refusal :=
  act (·.fireMark slot 1 fun m d => d.triggerFrom m.target 0) s

/-- MARK_ALIGN (R77). -/
def execMarkAlign (slot : Fin 128) (s : State) : Host.Outcome State Fault Refusal :=
  act (·.fireMark slot 2 fun m d => d.alignSeat m.target) s

/-- MARK_LANE_SLOT (R151). -/
def execMarkLaneSlot (slot : Fin 128) (s : State) : Host.Outcome State Fault Refusal :=
  act (·.fireMark slot 3 fun m d => d.laneSlot m.target) s

/-- MARK_LOAD_STROBE (R210). -/
def execMarkLoadStrobe (slot : Fin 128) (s : State) : Host.Outcome State Fault Refusal :=
  act (·.fireMark slot 4 fun _ d => d.loadStrobe) s

/-- MARK_GATE_OPEN (R356). -/
def execMarkGateOpen (slot : Fin 128) (s : State) : Host.Outcome State Fault Refusal :=
  act (·.fireMark slot 5 fun m d => d.gateOpen m.target) s

/-- MARK_GATE_CLOSE (R356). -/
def execMarkGateClose (slot : Fin 128) (s : State) : Host.Outcome State Fault Refusal :=
  act (·.fireMark slot 6 fun m d => d.gateClose m.target) s

/-- MARK_PWM_SYNC (R258). -/
def execMarkPwmSync (slot : Fin 128) (s : State) : Host.Outcome State Fault Refusal :=
  act (·.fireMark slot 7 fun m d => d.pwmSync m.target) s

/-! ### The angle course and the course alarms -/

/-- ENC_BOUNDARY (R54, R55). -/
def execEncBoundary (reading : EncReading) (s : State) : Host.Outcome State Fault Refusal :=
  act (·.encBoundaryAt reading.instant reading.count.toNat) s

/-- ENC_INDEX_PULSE (R54). -/
def execEncIndexPulse (instant : Nat) (s : State) : Host.Outcome State Fault Refusal := act (·.encIndexPulse instant) s

/-- ENC_ERROR (R55): counted; the count does not move. -/
def execEncError (s : State) : Host.Outcome State Fault Refusal := act (·.bump Obj.ENC_ERRORS) s

/-- ANGLE_STALL (R55). -/
def execAngleStall (s : State) : Host.Outcome State Fault Refusal := act (·.angleStall) s

/-- COURSE_ALARM_FIRE (R56, R422): the alarm fires, and wakes the device where it is an enabled source. -/
def execCourseAlarmFire (n : Fin 4) (s : State) : Host.Outcome State Fault Refusal := act (·.alarmFires n) s

end Sys2Proof.Machine
end

