-- ==== Sys2Proof/Machine/EngineCommands.lean ====
section
/-! DEFINITION. The commands of chapters 06 and 07: the engine's lanes, the wash buffer, catches and the fault location. -/

namespace Sys2Proof.Machine

/-! ### The engine -/

/-- LANE_FINISH (R153). -/
def execLaneFinish (lane : Fin 32) (s : State) : Host.Outcome State Fault Refusal := act (·.laneFinish lane) s

/-- IN_TIMEOUT (R158). -/
def execInTimeout (lane : Fin 32) (input : Fin 8) (s : State) : Host.Outcome State Fault Refusal :=
  act (·.inTimeout lane input) s

/-- ENGINE_APPLY (R163). -/
def execEngineApply (rq : Request) (value : BitVec 8) (s : State) : Host.Outcome State Fault Refusal :=
  act (·.writeReg rq Obj.ENGINE_APPLY (u8 value.toNat)) s

/-- PARAM_BLOCK_WRITE (R165). -/
def execParamBlockWrite (rq : Request) (block : Fin 512) (bytes : List Byte) (s : State) : Host.Outcome State Fault Refusal :=
  act (·.writeReg rq (Obj.PARAM_BLOCK block) bytes) s

/-- PARITY_ERROR (R177). -/
def execParityError (lane : Fin 32) (place : ParityPlace) (s : State) : Host.Outcome State Fault Refusal :=
  act (·.parityError lane place) s

/-- PARITY_TEST_DONE (R177). -/
def execParityTestDone (place : ParityPlace) (lasting : Bool) (s : State) : Host.Outcome State Fault Refusal :=
  act (·.parityTestDone place lasting) s

/-! ### Wash buffer and catches -/

/-- WASH_APPLY (R182). -/
def execWashApply (rq : Request) (value : BitVec 8) (s : State) : Host.Outcome State Fault Refusal :=
  act (·.writeReg rq Obj.WASH_APPLY (u8 value.toNat)) s

/-- CATCH_ENABLE (R194). -/
def execCatchEnable (rq : Request) (definition : Fin 8) (value : BitVec 8) (s : State) : Host.Outcome State Fault Refusal :=
  act (·.writeReg rq (Obj.CATCH_ENABLE definition) (u8 value.toNat)) s

/-- CATCH_ASSEMBLY (R197). -/
def execCatchAssembly (definition : Fin 8) (s : State) : Host.Outcome State Fault Refusal :=
  act (·.catchAssembly definition) s

/-- FETCH_CATCH (R200). -/
def execFetchCatch (rq : Request) (value : BitVec 32) (s : State) : Host.Outcome State Fault Refusal :=
  act (·.writeReg rq Obj.FETCH_CATCH (u32 value.toNat)) s

/-- FETCH_CHANNEL (R200). -/
def execFetchChannel (rq : Request) (value : BitVec 8) (s : State) : Host.Outcome State Fault Refusal :=
  act (·.writeReg rq Obj.FETCH_CHANNEL (u8 value.toNat)) s

/-- FETCH_DATA (R201). -/
def execFetchData (rq : Request) (s : State) : Host.Outcome State Fault Refusal := act (·.readReg rq Obj.FETCH_DATA) s

/-- The object that a write of LOC_UP_ADDRESS_WRITE goes to (R202). -/
def locReg : LocObject → Reg
  | .address => Obj.LOC_UP_ADDRESS
  | .serial => Obj.LOC_UP_SERIAL
  | .stream => Obj.LOC_UP_STREAM

/-! ### Fault location -/

/-- LOC_SUBSCRIBE_ATTEMPT (R202). -/
def execLocSubscribeAttempt (step : Bool) (s : State) : Host.Outcome State Fault Refusal := act (·.locAttempt step) s

/-- LOC_RETRY (R202). -/
def execLocRetry (s : State) : Host.Outcome State Fault Refusal := act (·.locRetry) s

/-- LOC_UP_ADDRESS_WRITE (R202). -/
def execLocUpAddressWrite (rq : Request) (object : LocObject) (bytes : List Byte)
    (s : State) : Host.Outcome State Fault Refusal :=
  act (·.writeReg rq (locReg object) bytes) s

/-- LOC_UNPAIRED_EXPIRY (R202). -/
def execLocUnpairedExpiry (s : State) : Host.Outcome State Fault Refusal := act (·.unpairedExpiry) s

/-- LOC_PAIRING (R203). -/
def execLocPairing (s : State) : Host.Outcome State Fault Refusal := act (·.pairing) s

end Sys2Proof.Machine
end

