-- ==== Sys2Proof/Machine/HartCommands.lean ====
section
/-! DEFINITION. The commands of port L (chapter 14): the HART commands of R380, the tunnel, burst mode and the loop time marker. -/

namespace Sys2Proof.Machine

/-- The text packed in some bytes of a command, without the spaces that fill it up (R380, log 44). -/
def plainText (b : List Byte) (first count : Nat) : List Byte := trimText 0x20 (unpackAscii ((b.drop first).take count))

/-- The writes of command 18 (R380). -/
def tagOps (tag descriptor date : List Byte) : List ReqOp :=
  [opOf Obj.HART_TAG (plainText tag 0 6), opOf Obj.HART_DESCRIPTOR (plainText descriptor 0 12), opOf Obj.HART_DATE (u32 (ofBe date))]

/-- A write of text (R380, R381): with too few data bytes the response code is 5 (PRESUMED, log 52). -/
def Dev.hartText (primary : Bool) (command need : Nat) (b : List Byte) (ops : List ReqOp) (d : Dev) : Dev :=
  if b.length < need && d.u Obj.HART_LEVEL != 0 then d.when d.hartServed (Dev.respond primary command 5 [])
  else d.hartWrite primary command b ops d.device.wpLow

/-- A command number that the device does not have (R380). -/
def Dev.hartUnknown (primary : Bool) (number : Nat) (d : Dev) : Dev := d.when d.hartServed (Dev.respond primary number 64 [])

/-! ### Reads -/

/-- READ_UNIQUE_IDENTIFIER (R379, R380), command 0. -/
def execReadUniqueIdentifier (master : Master) (s : State) : Host.Outcome State Fault Refusal :=
  act (·.hartRead master.isPrimary 0 Dev.uidData) s

/-- READ_UID_BY_SHORT_TAG (R379, R380), command 11: the tag packed in six bytes. -/
def execReadUidByShortTag (master : Master) (tag : List Byte) (s : State) : Host.Outcome State Fault Refusal :=
  act (fun d => d.hartByTag master.isPrimary 11 (tag == packAscii (fillText 8 0x20 (d.b Obj.HART_TAG)))) s

/-- READ_UID_BY_LONG_TAG (R379, R380), command 21. -/
def execReadUidByLongTag (master : Master) (tag : List Byte) (s : State) : Host.Outcome State Fault Refusal :=
  act (fun d => d.hartByTag master.isPrimary 21 (tag == fillText 32 0 (d.b Obj.HART_LONG_TAG))) s

/-- READ_PV (R380), command 1. -/
def execReadPv (master : Master) (s : State) : Host.Outcome State Fault Refusal :=
  act (·.hartRead master.isPrimary 1 Dev.pvData) s

/-- READ_LOOP_CURRENT_AND_PERCENT (R380), command 2. -/
def execReadLoopCurrentAndPercent (master : Master) (s : State) : Host.Outcome State Fault Refusal :=
  act (·.hartRead master.isPrimary 2 Dev.currentData) s

/-- READ_DYNAMIC_VARIABLES (R380), command 3. -/
def execReadDynamicVariables (master : Master) (s : State) : Host.Outcome State Fault Refusal :=
  act (·.hartRead master.isPrimary 3 Dev.dynamicData) s

/-- READ_LOOP_CONFIGURATION (R380), command 7. -/
def execReadLoopConfiguration (master : Master) (s : State) : Host.Outcome State Fault Refusal :=
  act (·.hartRead master.isPrimary 7 fun d => u8 (d.u Obj.HART_POLL_ADDR) ++ u8 (d.u Obj.HART_LOOP_MODE)) s

/-- READ_DV_CLASSIFICATIONS (R380), command 8: none is classified. -/
def execReadDvClassifications (master : Master) (s : State) : Host.Outcome State Fault Refusal :=
  act (·.hartRead master.isPrimary 8 fun _ => u32 0) s

/-- READ_DEVICE_VARIABLES (R380, R385), command 9. -/
def execReadDeviceVariables (master : Master) (codes : List Byte) (s : State) : Host.Outcome State Fault Refusal :=
  act (·.hartRead master.isPrimary 9 fun d => d.variablesData codes) s

/-- READ_MESSAGE (R380), command 12. -/
def execReadMessage (master : Master) (s : State) : Host.Outcome State Fault Refusal :=
  act (·.hartRead master.isPrimary 12 fun d => packAscii (fillText 32 0x20 (d.b Obj.HART_MESSAGE))) s

/-- READ_TAG_DESCRIPTOR_DATE (R380), command 13. -/
def execReadTagDescriptorDate (master : Master) (s : State) : Host.Outcome State Fault Refusal :=
  act (·.hartRead master.isPrimary 13 Dev.tagData) s

/-- READ_PV_TRANSDUCER_INFO (R380), command 14. -/
def execReadPvTransducerInfo (master : Master) (s : State) : Host.Outcome State Fault Refusal :=
  act (·.hartRead master.isPrimary 14 Dev.transducerData) s

/-- READ_DEVICE_INFORMATION (R380), command 15, with the level of WP_N. -/
def execReadDeviceInformation (master : Master) (wp : Bool) (s : State) : Host.Outcome State Fault Refusal :=
  act (fun d => (d.setDevice fun v => { v with wpLow := wp }).hartRead master.isPrimary 15 Dev.deviceData) s

/-- READ_FINAL_ASSEMBLY_NUMBER (R380), command 16. -/
def execReadFinalAssemblyNumber (master : Master) (s : State) : Host.Outcome State Fault Refusal :=
  act (·.hartRead master.isPrimary 16 fun d => beBytes 3 (d.u Obj.HART_FINAL_ASSY)) s

/-- READ_LONG_TAG (R380), command 20. -/
def execReadLongTag (master : Master) (s : State) : Host.Outcome State Fault Refusal :=
  act (·.hartRead master.isPrimary 20 fun d => fillText 32 0 (d.b Obj.HART_LONG_TAG)) s

/-- READ_ADDITIONAL_DEVICE_STATUS (R380, R384), command 48. -/
def execReadAdditionalDeviceStatus (master : Master) (s : State) : Host.Outcome State Fault Refusal :=
  act (·.hartRead master.isPrimary 48 Dev.statusData) s

/-! ### Writes -/

/-- WRITE_POLLING_ADDRESS (R380, R382), command 6. -/
def execWritePollingAddress (master : Master) (address : BitVec 8) (mode : BitVec 8)
    (s : State) : Host.Outcome State Fault Refusal :=
  act (fun d => d.hartWrite master.isPrimary 6 [address, mode] [opOf Obj.HART_POLL_ADDR [address], opOf Obj.HART_LOOP_MODE [mode]] d.device.wpLow) s

/-- WRITE_MESSAGE (R380), command 17: 24 bytes of packed text. -/
def execWriteMessage (master : Master) (text : List Byte) (s : State) : Host.Outcome State Fault Refusal :=
  act (·.hartText master.isPrimary 17 24 text [opOf Obj.HART_MESSAGE (plainText text 0 24)]) s

/-- WRITE_TAG_DESCRIPTOR_DATE (R380), command 18: 6, 12 and 3 bytes. -/
def execWriteTagDescriptorDate (master : Master) (tag : List Byte) (descriptor : List Byte) (date : List Byte)
    (s : State) : Host.Outcome State Fault Refusal :=
  act (·.hartText master.isPrimary 18 21 (tag ++ descriptor ++ date) (tagOps tag descriptor date)) s

/-- WRITE_FINAL_ASSEMBLY_NUMBER (R380), command 19. -/
def execWriteFinalAssemblyNumber (master : Master) (value : BitVec 24) (s : State) : Host.Outcome State Fault Refusal :=
  act (fun d => d.hartWrite master.isPrimary 19 (beBytes 3 value.toNat) [opOf Obj.HART_FINAL_ASSY (u32 value.toNat)] d.device.wpLow) s

/-- WRITE_LONG_TAG (R380), command 22: 32 bytes, filled up with zeros. -/
def execWriteLongTag (master : Master) (tag : List Byte) (s : State) : Host.Outcome State Fault Refusal :=
  act (·.hartText master.isPrimary 22 32 tag [opOf Obj.HART_LONG_TAG (trimText 0 (tag.take 32))]) s

/-- WRITE_RANGE_VALUES (R231, R380), command 35. -/
def execWriteRangeValues (master : Master) (unit : BitVec 8) (urv : F32) (lrv : F32) (wp : Bool)
    (s : State) : Host.Outcome State Fault Refusal :=
  act (·.hartRangeWrite master.isPrimary unit.toNat urv lrv wp) s

/-- RESET_CONFIG_CHANGED_FLAG (R383), command 38. -/
def execResetConfigChangedFlag (master : Master) (s : State) : Host.Outcome State Fault Refusal :=
  act (·.hartClearChanged master.isPrimary) s

/-- ENTER_EXIT_FIXED_CURRENT (R229, R380), command 40: 0.0 exits. -/
def execEnterExitFixedCurrent (master : Master) (current : F32) (s : State) : Host.Outcome State Fault Refusal :=
  act (fun d => d.hartWrite master.isPrimary 40 (f32b current) [opOf Obj.LOOP_FIXED (f32b current)] d.device.wpLow) s

/-- TRIM_LOOP_CURRENT_ZERO (R230, R380), command 45. -/
def execTrimLoopCurrentZero (master : Master) (current : F32) (wp : Bool) (s : State) : Host.Outcome State Fault Refusal :=
  act (·.hartWrite master.isPrimary 45 (f32b current) [opOf Obj.LOOP_TRIM_ZERO_MEAS (f32b current)] wp) s

/-- TRIM_LOOP_CURRENT_GAIN (R230, R380), command 46. -/
def execTrimLoopCurrentGain (master : Master) (current : F32) (wp : Bool) (s : State) : Host.Outcome State Fault Refusal :=
  act (·.hartWrite master.isPrimary 46 (f32b current) [opOf Obj.LOOP_TRIM_SPAN_MEAS (f32b current)] wp) s

/-! ### Command 160, burst mode and errors -/

/-- WORED_TUNNEL_POLL (R387), command 160 without data. -/
def execWoredTunnelPoll (master : Master) (s : State) : Host.Outcome State Fault Refusal :=
  act (·.tunnelPoll master.isPrimary) s

/-- WORED_TUNNEL_FRAME (R387), command 160 with data, byte 0 selecting the use. -/
def execWoredTunnelFrame (master : Master) (frame : List Byte) (wp : Bool) (s : State) : Host.Outcome State Fault Refusal :=
  act (·.tunnelUse master.isPrimary frame wp) s

/-- LOOP_TIME_MARKER (R388). -/
def execLoopTimeMarker (master : Master) (marker : Marker) (s : State) : Host.Outcome State Fault Refusal :=
  act (·.loopMarker master.isPrimary marker) s

/-- HART_UNKNOWN_COMMAND (R380): response code 64. -/
def execHartUnknownCommand (master : Master) (number : BitVec 8) (s : State) : Host.Outcome State Fault Refusal :=
  act (·.hartUnknown master.isPrimary number.toNat) s

/-- HART_WRITE_BUSY_TIMEOUT (R381). -/
def execHartWriteBusyTimeout (master : Master) (s : State) : Host.Outcome State Fault Refusal :=
  act (·.hartBusy master.isPrimary) s

/-- BURST_PERIOD_EXPIRY (R386). -/
def execBurstPeriodExpiry (s : State) : Host.Outcome State Fault Refusal := act (·.burst) s

/-- HART_FRAME_ERROR (R401). -/
def execHartFrameError (s : State) : Host.Outcome State Fault Refusal := act (·.hartError) s

end Sys2Proof.Machine
end

