-- ==== Sys2Proof/Machine/HostCommands.lean ====
section
/-! DEFINITION. The commands of the host ports and the wake port (chapter 14). -/

namespace Sys2Proof.Machine

/-- HOST_READ (R390, R391): the operand is COUNT - 1, as SPAN carries it. -/
def execHostRead (hostPort : HostPort) (index : BitVec 16) (sub : BitVec 8) (first : BitVec 8) (count : BitVec 8) (crc : Bool)
    (s : State) : Host.Outcome State Fault Refusal :=
  act (·.hostRead hostPort index.toNat sub.toNat first.toNat (count.toNat + 1) crc) s

/-- HOST_WRITE (R391). -/
def execHostWrite (hostPort : HostPort) (index : BitVec 16) (sub : BitVec 8) (first : BitVec 8) (id : BitVec 32) (words : List (BitVec 16)) (crc : Bool) (wp : Bool)
    (s : State) : Host.Outcome State Fault Refusal :=
  act (·.hostWrite hostPort index.toNat sub.toNat first.toNat id words crc wp) s

/-- HOST_COLLECT (R391). -/
def execHostCollect (hostPort : HostPort) (crc : Bool) (s : State) : Host.Outcome State Fault Refusal :=
  act (·.hostCollect hostPort crc) s

/-- HOST_WORED (R392). -/
def execHostWored (hostPort : HostPort) (message : HostMessage) (crc : Bool) (wp : Bool)
    (s : State) : Host.Outcome State Fault Refusal :=
  act (·.hostWored hostPort message crc wp) s

/-- HOST_NOP (R392). -/
def execHostNop (hostPort : HostPort) (crc : Bool) (s : State) : Host.Outcome State Fault Refusal :=
  act (·.hostNop hostPort crc) s

/-- HOST_PENDING_COMPLETE (R391). -/
def execHostPendingComplete (hostPort : HostPort) (s : State) : Host.Outcome State Fault Refusal :=
  act (·.hostComplete hostPort) s

/-- HOST_FRAME_ERROR (R391, R401): a malformed request, or a frame that ends early. -/
def execHostFrameError (hostPort : HostPort) (s : State) : Host.Outcome State Fault Refusal :=
  act (fun d => d.when (d.hostServed hostPort) (Dev.hostFrameError hostPort 0)) s

/-- WAKE_ADDRESS_MATCH (R398). -/
def execWakeAddressMatch (s : State) : Host.Outcome State Fault Refusal := act (·.addressMatch) s

/-- WAKE_STRETCH_EXPIRY (R398). -/
def execWakeStretchExpiry (s : State) : Host.Outcome State Fault Refusal := act (·.stretchExpiry) s

end Sys2Proof.Machine
end

