-- ==== Sys2Proof/Machine/LedgerCommands.lean ====
section
/-! DEFINITION. The commands of chapters 10 to 12: entries and subscriptions, the ledger store, the dictionary and the device states. -/

namespace Sys2Proof.Machine

/-! ### Entries and subscriptions -/

/-- RATE_COUNT_EXPIRY (R273). -/
def execRateCountExpiry (stream : Fin 8) (s : State) : Host.Outcome State Fault Refusal := act (·.rateExpiry stream) s

/-- REQUEST_WITHDRAWN (R279). -/
def execRequestWithdrawn (s : State) : Host.Outcome State Fault Refusal := act (·.withdrawRequests) s

/-- SUB_ENABLE_WRITE (R280). -/
def execSubEnableWrite (rq : Request) (sub : Fin 16) (value : BitVec 8) (s : State) : Host.Outcome State Fault Refusal :=
  act (·.writeReg rq (Obj.SUB_ENABLE sub) (u8 value.toNat)) s

/-- SUB_RTO_EXPIRY (R282): delivery begins again at the oldest entry not acknowledged. -/
def execSubRtoExpiry (sub : Fin 16) (s : State) : Host.Outcome State Fault Refusal :=
  act (fun d => (d.rtoExpiry sub).deliverSub sub) s

/-- ACK_PERSIST_EXPIRY (R283). -/
def execAckPersistExpiry (sub : Fin 16) (s : State) : Host.Outcome State Fault Refusal := act (·.ackPersist sub) s

/-! ### The ledger store -/

/-- ANGLE_GROUP_TIMER (R296). -/
def execAngleGroupTimer (s : State) : Host.Outcome State Fault Refusal := act (·.angleGroupTimer) s

/-- NVM_ROUND_DONE (R291, R297). -/
def execNvmRoundDone (s : State) : Host.Outcome State Fault Refusal := act (·.roundDone) s

/-- APPLY_FEED (R300). -/
def execApplyFeed (s : State) : Host.Outcome State Fault Refusal := act (·.applyFeed) s

/-- RING_PERSIST_EXPIRY (R302). -/
def execRingPersistExpiry (s : State) : Host.Outcome State Fault Refusal := act (·.ringPersist) s

/-- NVM_ERROR (R308). -/
def execNvmError (bank : Fin 2) (pair : Fin 16384) (s : State) : Host.Outcome State Fault Refusal :=
  act (·.nvmError bank pair) s

/-- NVM_TEST_DONE (R308). -/
def execNvmTestDone (bufferPass : Bool) (pagePass : Bool) (s : State) : Host.Outcome State Fault Refusal :=
  act (·.nvmTestDone bufferPass pagePass) s

/-- MARGIN_PASS_START (R310). -/
def execMarginPassStart (s : State) : Host.Outcome State Fault Refusal := act (·.marginStart) s

/-- MARGIN_PASS_END (R310). -/
def execMarginPassEnd (refreshed : Nat) (s : State) : Host.Outcome State Fault Refusal := act (·.marginEnd refreshed) s

/-- The bytes of a write to flags: as many as the object has, two where there is none. -/
def flagBytes (index sub value : Nat) : List Byte :=
  match cardAt index sub with
  | some c => beBytes c.maxLen value
  | none => u16 value

/-! ### The dictionary -/

/-- RC_FLAG_CLEAR (R321, R336). -/
def execRcFlagClear (rq : Request) (index : BitVec 16) (sub : BitVec 8) (value : BitVec 16)
    (s : State) : Host.Outcome State Fault Refusal :=
  act (fun d => d.requestWrite rq index.toNat sub.toNat (flagBytes index.toNat sub.toNat value.toNat)) s

/-- STATE_REQUEST (R332). -/
def execStateRequest (rq : Request) (value : BitVec 8) (s : State) : Host.Outcome State Fault Refusal :=
  act (·.writeReg rq Obj.STATE_REQUEST (u8 value.toNat)) s

/-- STATE_TRANSITION_TIMEOUT (R333). -/
def execStateTransitionTimeout (s : State) : Host.Outcome State Fault Refusal := act (·.transitionTimeout) s

/-- FAST_MAP_WRITE (R341). -/
def execFastMapWrite (rq : Request) (entry : Fin 32) (value : BitVec 32) (s : State) : Host.Outcome State Fault Refusal :=
  act (·.writeReg rq (Obj.FAST_MAP entry) (u32 value.toNat)) s

/-- FAST_DATA_READ (R342). -/
def execFastDataRead (rq : Request) (s : State) : Host.Outcome State Fault Refusal := act (·.readReg rq Obj.FAST_DATA) s

/-- REGISTER_WRITE (R324). -/
def execRegisterWrite (rq : Request) (index : BitVec 16) (sub : BitVec 8) (bytes : List Byte)
    (s : State) : Host.Outcome State Fault Refusal :=
  act (·.requestWrite rq index.toNat sub.toNat bytes) s

end Sys2Proof.Machine
end

