-- ==== Sys2Proof/Machine/NetCommands.lean ====
section
/-! DEFINITION. The commands of chapter 13: the ports, the ring, the switch, PTP, addresses and the Wored protocol. -/

namespace Sys2Proof.Machine

/-! ### Ports and the ring -/

/-- LINK_UP (R346). -/
def execLinkUp (port : Port) (amplitude : BitVec 8) (s : State) : Host.Outcome State Fault Refusal :=
  act (fun d => (d.linkUp port.no amplitude.toNat).deliver) s

/-- LINK_DOWN (R346). -/
def execLinkDown (port : Port) (s : State) : Host.Outcome State Fault Refusal := act (fun d => (d.linkDown port.no).deliver) s

/-- PHY_ERROR_BURST (R347). -/
def execPhyErrorBurst (port : Port) (frames : Nat) (s : State) : Host.Outcome State Fault Refusal :=
  act (·.phyErrorBurst port.no frames) s

/-- PHY_SELF_TEST_DONE (R347). -/
def execPhySelfTestDone (port : Port) (pass : Bool) (s : State) : Host.Outcome State Fault Refusal :=
  act (·.phySelfTestDone port.no pass) s

/-- PODL_POWER_ACCEPTED (R348). -/
def execPodlPowerAccepted (ringPort : RingPort) (s : State) : Host.Outcome State Fault Refusal :=
  act (·.podlAccepted ringPort.no) s

/-- PODL_POWER_LOST (R348): SPoE of the port is no source any more (R402). -/
def execPodlPowerLost (ringPort : RingPort) (s : State) : Host.Outcome State Fault Refusal :=
  act (fun d => (d.podlLost ringPort.no).sourceGone (ringPort.no + 1) (d.f (Obj.SRC_VOLTAGE (ringPort.no + 1)))) s

/-- HSR_FRAME_RX (R352). -/
def execHsrFrameRx (ringPort : RingPort) (frame : RingFrame) (s : State) : Host.Outcome State Fault Refusal :=
  act (fun d => (d.hsrFrame ringPort.no frame).deliver) s

/-- HSR_DUP_EXPIRY (R352). -/
def execHsrDupExpiry (s : State) : Host.Outcome State Fault Refusal := act (·.dupExpiry) s

/-- HSR_SUPERVISION_TX (R353). -/
def execHsrSupervisionTx (s : State) : Host.Outcome State Fault Refusal := act (·.supervisionTx.deliver) s

/-- REDBOX_FRAME_RX (R354). -/
def execRedboxFrameRx (frame : ShoreFrame) (s : State) : Host.Outcome State Fault Refusal := act (·.redboxFrame frame) s

/-- FRAME_TX_END (R356). -/
def execFrameTxEnd (port : Port) (s : State) : Host.Outcome State Fault Refusal := act (·.frameTxEnd port.no) s

/-- ALARM_WINDOW_CLOSE (R359). -/
def execAlarmWindowClose (s : State) : Host.Outcome State Fault Refusal := act (·.alarmWindowClose) s

/-- ALARM_GUARD_END (R356). -/
def execAlarmGuardEnd (s : State) : Host.Outcome State Fault Refusal := act (·.alarmGuardDone) s

/-! ### PTP -/

/-- PTP_ANNOUNCE_RX (R360). -/
def execPtpAnnounceRx (port : Port) (message : Announce) (s : State) : Host.Outcome State Fault Refusal :=
  act (·.announce port message) s

/-- PTP_SYNC_RX (R360, R361). -/
def execPtpSyncRx (port : Port) (message : PtpSync) (s : State) : Host.Outcome State Fault Refusal :=
  act (·.ptpSync port message) s

/-- PTP_FOLLOW_UP_RX (R361). -/
def execPtpFollowUpRx (port : Port) (message : PtpFollowUp) (s : State) : Host.Outcome State Fault Refusal :=
  act (·.ptpFollowUp port message) s

/-- PDELAY_REQ_TX (R360). -/
def execPdelayReqTx (port : Port) (s : State) : Host.Outcome State Fault Refusal := act (·.pdelayRequest port) s

/-- PDELAY_REQ_RX (R360). -/
def execPdelayReqRx (port : Port) (s : State) : Host.Outcome State Fault Refusal := act (·.pdelayAnswer port) s

/-- PDELAY_RESP_RX (R360). -/
def execPdelayRespRx (port : Port) (delay : Int) (s : State) : Host.Outcome State Fault Refusal :=
  act (·.pdelayDone port delay) s

/-! ### Addresses -/

/-- ROUTER_ADVERTISEMENT_RX (R363). -/
def execRouterAdvertisementRx (netPrefix : List Byte) (s : State) : Host.Outcome State Fault Refusal :=
  act (·.routerAdvertisement netPrefix) s

/-- NEIGHBOUR_DISCOVERY_RX (R363). -/
def execNeighbourDiscoveryRx (port : Port) (message : NdMessage) (s : State) : Host.Outcome State Fault Refusal :=
  act (·.neighbourDiscovery port message) s

/-- ARP_RX (R364). -/
def execArpRx (port : Port) (target : BitVec 32) (s : State) : Host.Outcome State Fault Refusal :=
  act (·.arp port target.toNat) s

/-- ICMP_ECHO_RX (R363). -/
def execIcmpEchoRx (port : Port) (version : BitVec 8) (target : List Byte) (bytes : List Byte)
    (s : State) : Host.Outcome State Fault Refusal :=
  act (·.icmpEcho port version.toNat target bytes) s

/-- DAD_COMPLETE (R363). -/
def execDadComplete (address : List Byte) (conflict : Bool) (s : State) : Host.Outcome State Fault Refusal :=
  act (·.dadComplete address conflict) s

/-! ### The Wored protocol -/

/-- FRAG_TIMEOUT (R368). -/
def execFragTimeout (session : Fin 16) (s : State) : Host.Outcome State Fault Refusal := act (·.fragTimeout session) s

/-- OPEN (R370). -/
def execOpenRequest (port : Port) (address : List Byte) (level : Fin 4) (keysel : BitVec 8) (clientNo : BitVec 16) (nonceC : List Byte)
    (s : State) : Host.Outcome State Fault Refusal :=
  act (fun d => d.openSession (.port port) address level keysel.toNat clientNo.toNat nonceC) s

/-- CHALLENGE (R370): to the session that the device itself opens; the number is that of the station's table. -/
def execChallenge (session : Fin 16) (nonceD : List Byte) (s : State) : Host.Outcome State Fault Refusal :=
  act (·.challenged (session + 1) nonceD) s

/-- CONFIRM (R370). -/
def execConfirm (session : Fin 16) (counter : BitVec 32) (mac : List Byte) (address : List Byte)
    (s : State) : Host.Outcome State Fault Refusal :=
  act (·.confirmSession session counter.toNat mac address) s

/-- ACCEPT (R370): to the session that the device itself opens. -/
def execAccept (session : Fin 16) (level : Fin 4) (room : BitVec 16) (idle : BitVec 16) (mac : List Byte)
    (s : State) : Host.Outcome State Fault Refusal :=
  act (·.accepted (session + 1) level room.toNat idle.toNat mac) s

/-- CLOSE (R371). -/
def execClose (session : Fin 16) (counter : BitVec 32) (mac : List Byte) (s : State) : Host.Outcome State Fault Refusal :=
  act (·.closed session counter.toNat mac) s

/-- OPEN_LOCKOUT_END (R371). -/
def execOpenLockoutEnd (address : List Byte) (s : State) : Host.Outcome State Fault Refusal := act (·.lockoutEnd address) s

/-- SESSION_IDLE (R371). -/
def execSessionIdle (session : Fin 16) (s : State) : Host.Outcome State Fault Refusal := act (·.sessionIdle session) s

/-- REQUEST (R372). -/
def execRequest (session : Fin 16) (port : Port) (address : List Byte) (counter : BitVec 32) (mac : List Byte) (request : WoredBody) (wp : Bool)
    (s : State) : Host.Outcome State Fault Refusal :=
  act (·.sessionRequest session (.port port) address counter.toNat mac request wp) s

/-- REPLY (R372): to the session that the device itself has open. -/
def execReply (session : Fin 16) (counter : BitVec 32) (mac : List Byte) (reply : WoredBody)
    (s : State) : Host.Outcome State Fault Refusal :=
  act (·.upstreamReply (session + 1) counter.toNat mac reply) s

/-- SUBSCRIBE (R373). -/
def execSubscribe (session : Fin 16) (counter : BitVec 32) (mac : List Byte) (subscribe : WoredBody) (wp : Bool)
    (s : State) : Host.Outcome State Fault Refusal :=
  act (·.subscribe session counter.toNat mac subscribe wp) s

/-- DELIVERY (R202): to the session that the device itself has open. -/
def execDelivery (session : Fin 16) (counter : BitVec 32) (mac : List Byte) (delivery : WoredBody)
    (s : State) : Host.Outcome State Fault Refusal :=
  act (·.upstreamDelivery (session + 1) counter.toNat mac delivery) s

/-- ACK (R281). -/
def execAck (session : Fin 16) (counter : BitVec 32) (mac : List Byte) (sub : Fin 16) (position : BitVec 48)
    (s : State) : Host.Outcome State Fault Refusal :=
  act (·.sessionAck session counter.toNat mac sub position.toNat) s

/-- PUBLISH (R374). -/
def execPublish (ringPort : RingPort) (frame : PubFrame) (s : State) : Host.Outcome State Fault Refusal :=
  act (fun d =>
    d.publicationRx ringPort.no frame.frame frame.epoch.toNat frame.counter.toNat frame.body frame.mac) s

/-- RING_KEY_SWITCH (R470). -/
def execRingKeySwitch (s : State) : Host.Outcome State Fault Refusal := act (·.ringKeySwitch) s

/-- RING_EPOCH_GRACE_END (R470). -/
def execRingEpochGraceEnd (s : State) : Host.Outcome State Fault Refusal := act (·.ringGraceEnd) s

end Sys2Proof.Machine
end

