-- ==== Sys2Proof/Machine/OutputCommands.lean ====
section
/-! DEFINITION. The commands of chapters 08 and 09: the loop current, the actuator and excitation outputs, the buttons, the controllers and the pulse-width outputs. -/

namespace Sys2Proof.Machine

/-! ### The loop -/

/-- LOOP_SENSE (R224). -/
def execLoopSense (current : F32) (voltage : F32) (draw : Bool) (s : State) : Host.Outcome State Fault Refusal :=
  act (·.loopSense current voltage draw) s

/-- LOOP_COMPLIANCE_SET (R224). -/
def execLoopComplianceSet (s : State) : Host.Outcome State Fault Refusal := act (·.complianceSet) s

/-- LOOP_COMPLIANCE_CLEAR (R224). -/
def execLoopComplianceClear (s : State) : Host.Outcome State Fault Refusal := act (·.complianceClear) s

/-- VBB_ADJUST (R215): the drops of the loop and of the actuator load. -/
def execVbbAdjust (drops : F32 × F32) (s : State) : Host.Outcome State Fault Refusal := act (·.vbbAdjust drops.1 drops.2) s

/-- HV_THERMAL_LIMIT (R226). -/
def execHvThermalLimit (reading : F32) (s : State) : Host.Outcome State Fault Refusal := act (·.hvLimit reading) s

/-- LOOP_FIXED (R229). -/
def execLoopFixed (rq : Request) (value : F32) (s : State) : Host.Outcome State Fault Refusal :=
  act (·.writeReg rq Obj.LOOP_FIXED (f32b value)) s

/-- LOOP_TRIM_ZERO_MEAS (R230). -/
def execLoopTrimZeroMeas (rq : Request) (value : F32) (s : State) : Host.Outcome State Fault Refusal :=
  act (·.writeReg rq Obj.LOOP_TRIM_ZERO_MEAS (f32b value)) s

/-- LOOP_TRIM_SPAN_MEAS (R230). -/
def execLoopTrimSpanMeas (rq : Request) (value : F32) (s : State) : Host.Outcome State Fault Refusal :=
  act (·.writeReg rq Obj.LOOP_TRIM_SPAN_MEAS (f32b value)) s

/-- LOOP_TRIM_RESET (R230). -/
def execLoopTrimReset (rq : Request) (value : BitVec 8) (s : State) : Host.Outcome State Fault Refusal :=
  act (·.writeReg rq Obj.LOOP_TRIM_RESET (u8 value.toNat)) s

/-- LOOP_RANGE_WRITE (R231): LRV, then URV. -/
def execLoopRangeWrite (rq : Request) (lrv : F32) (urv : F32) (s : State) : Host.Outcome State Fault Refusal :=
  act (·.writeReg rq Obj.LOOP_RANGE (f32b lrv ++ f32b urv)) s

/-! ### The buttons -/

/-- ZERO_N_PRESS (R232). -/
def execZeroNPress (wp : Bool) (s : State) : Host.Outcome State Fault Refusal := act (·.buttonPress false wp) s

/-- SPAN_N_PRESS (R232). -/
def execSpanNPress (wp : Bool) (s : State) : Host.Outcome State Fault Refusal := act (·.buttonPress true wp) s

/-- BUTTON_STUCK (R232). -/
def execButtonStuck (button : Button) (s : State) : Host.Outcome State Fault Refusal :=
  act (·.buttonStuck (button == .span)) s

/-- BUTTON_STUCK_RELEASED (R232). -/
def execButtonStuckReleased (button : Button) (s : State) : Host.Outcome State Fault Refusal :=
  act (·.buttonReleased (button == .span)) s

/-! ### The actuator and excitation outputs -/

/-- ACT_THERMAL_LIMIT (R237). -/
def execActThermalLimit (reading : F32) (s : State) : Host.Outcome State Fault Refusal := act (·.actLimit reading) s

/-- ADAC_RANGE_WRITE (R236). -/
def execAdacRangeWrite (rq : Request) (value : BitVec 8) (s : State) : Host.Outcome State Fault Refusal :=
  act (·.writeReg rq Obj.ADAC_RANGE (u8 value.toNat)) s

/-- ADAC_CLAMP_END (R236). -/
def execAdacClampEnd (s : State) : Host.Outcome State Fault Refusal := act (·.clampEnd) s

/-- ADAC_COMPLIANCE_SET (R237). -/
def execAdacComplianceSet (s : State) : Host.Outcome State Fault Refusal := act (·.adacComplianceSet) s

/-- ADAC_COMPLIANCE_CLEAR (R237). -/
def execAdacComplianceClear (s : State) : Host.Outcome State Fault Refusal := act (·.adacComplianceClear) s

/-- ADAC_OVERCURRENT (R237). -/
def execAdacOvercurrent (s : State) : Host.Outcome State Fault Refusal := act (·.adacOvercurrent) s

/-- XDAC_OVERCURRENT (R238). -/
def execXdacOvercurrent (s : State) : Host.Outcome State Fault Refusal := act (·.xdacOvercurrent) s

/-! ### Control -/

/-- CTRL_MODE_WRITE (R249). -/
def execCtrlModeWrite (rq : Request) (controller : Fin 8) (value : BitVec 8) (s : State) : Host.Outcome State Fault Refusal :=
  act (·.writeReg rq (Obj.CTRL_MODE controller) (u8 value.toNat)) s

/-- CTRL_SP_WRITE (R251). -/
def execCtrlSpWrite (rq : Request) (controller : Fin 8) (value : F32) (s : State) : Host.Outcome State Fault Refusal :=
  act (·.writeReg rq (Obj.CTRL_SP controller) (f32b value)) s

/-- PWM_PERIOD_START (R258). -/
def execPwmPeriodStart (channel : Fin 2) (s : State) : Host.Outcome State Fault Refusal := act (·.pwmPeriodStart channel) s

/-- PWM_CENTRE (R258). -/
def execPwmCentre (channel : Fin 2) (s : State) : Host.Outcome State Fault Refusal := act (·.pwmCentre channel) s

end Sys2Proof.Machine
end

