-- ==== Sys2Proof/Machine/PowerCommands.lean ====
section
/-! DEFINITION. The commands of chapters 15 and 16: sources, profiles, sleep and wake, energy, the heartbeat, thermal supervision and ageing. -/

namespace Sys2Proof.Machine

/-! ### Sources and profiles -/

/-- POWER_SOURCE_PRESENT (R402). -/
def execPowerSourcePresent (source : Fin 4) (reading : SourceReading) (s : State) : Host.Outcome State Fault Refusal :=
  act (·.sourcePresent source reading.voltage reading.lsrc) s

/-- POWER_SOURCE_LOST (R402). -/
def execPowerSourceLost (source : Fin 4) (voltage : F32) (s : State) : Host.Outcome State Fault Refusal :=
  act (·.sourceGone source voltage) s

/-- STORE_BELOW_HOLDUP_END (R429). -/
def execStoreBelowHoldupEnd (s : State) : Host.Outcome State Fault Refusal := act (·.storeExhausted) s

/-- PROFILE_TARGET_WRITE (R410). -/
def execProfileTargetWrite (rq : Request) (value : BitVec 8) (s : State) : Host.Outcome State Fault Refusal :=
  act (·.writeReg rq Obj.PROFILE_TARGET (u8 value.toNat)) s

/-- PROFILE_CHANGE_START (R414). -/
def execProfileChangeStart (s : State) : Host.Outcome State Fault Refusal := act (·.profileChangeStart) s

/-- VBB_LIMIT (R412). -/
def execVbbLimit (s : State) : Host.Outcome State Fault Refusal := act (·.vbbLimit) s

/-- EXC_LEAN (R413). -/
def execExcLean (current : F32) (s : State) : Host.Outcome State Fault Refusal := act (·.excLean current) s

/-! ### Sleep -/

/-- SLEEP_DOZE (R416): SLEEP_REQUEST written 1. -/
def execSleepDoze (rq : Request) (s : State) : Host.Outcome State Fault Refusal :=
  act (·.writeReg rq Obj.SLEEP_REQUEST (u8 1)) s

/-- SLEEP_STOW (R416): SLEEP_REQUEST written 2. -/
def execSleepStow (rq : Request) (s : State) : Host.Outcome State Fault Refusal :=
  act (·.writeReg rq Obj.SLEEP_REQUEST (u8 2)) s

/-- SLEEP_OFF (R421): SLEEP_REQUEST written 3. -/
def execSleepOff (rq : Request) (s : State) : Host.Outcome State Fault Refusal :=
  act (·.writeReg rq Obj.SLEEP_REQUEST (u8 3)) s

/-- HANDSHAKE_START (R417). -/
def execHandshakeStart (s : State) : Host.Outcome State Fault Refusal := act (·.handshakeStart) s

/-- AGENT_ANSWER (R418): its answer, and the time it would still need in ms. -/
def execAgentAnswer (agent : Fin 8) (answer : Nat) (s : State) : Host.Outcome State Fault Refusal :=
  act (·.agentAnswer agent answer) s

/-- AGENT_DELAY_EXPIRY (R417). -/
def execAgentDelayExpiry (agent : Fin 8) (s : State) : Host.Outcome State Fault Refusal := act (·.agentDelayExpiry agent) s

/-- AGENT_ANSWER_TIMEOUT (R417). -/
def execAgentAnswerTimeout (agent : Fin 8) (s : State) : Host.Outcome State Fault Refusal := act (·.agentTimeout agent) s

/-! ### Wake -/

/-- WAKE_EVENT (R422). -/
def execWakeEvent (source : Fin 7) (s : State) : Host.Outcome State Fault Refusal := act (·.wakeEvent source) s

/-- REGULATOR_ATTEMPT_FAIL (R425). -/
def execRegulatorAttemptFail (s : State) : Host.Outcome State Fault Refusal := act (·.regulatorFail) s

/-- WAKE_RETRY (R425). -/
def execWakeRetry (s : State) : Host.Outcome State Fault Refusal := act (·.wakeRetry) s

/-- REGULATORS_READY (R423). -/
def execRegulatorsReady (s : State) : Host.Outcome State Fault Refusal := act (·.regulatorsReady) s

/-- TCXO_READY (R423). -/
def execTcxoReady (s : State) : Host.Outcome State Fault Refusal := act (·.tcxoReady) s

/-- TCXO_READY_TIMEOUT (R426). -/
def execTcxoReadyTimeout (s : State) : Host.Outcome State Fault Refusal := act (·.tcxoTimeout) s

/-- TCXO_LOSS (R426). -/
def execTcxoLoss (s : State) : Host.Outcome State Fault Refusal := act (·.tcxoLoss) s

/-- TCXO_CHECK (R426). -/
def execTcxoCheck (present : Bool) (s : State) : Host.Outcome State Fault Refusal := act (·.tcxoCheck present) s

/-- PLL_LOCKED (R47). -/
def execPllLocked (s : State) : Host.Outcome State Fault Refusal := act (·.pllLocked) s

/-- WAKE_APP_CORE_RUNNING (R423): requests that waited are made. -/
def execWakeAppCoreRunning (s : State) : Host.Outcome State Fault Refusal := act (·.wakeDone.hostsResume.deliver) s

/-- OFF_BUTTON_EXIT (R421). -/
def execOffButtonExit (s : State) : Host.Outcome State Fault Refusal := act (·.offButtons) s

/-! ### Energy and the heartbeat -/

/-- ENERGY_INTEGRATE (R432). -/
def execEnergyIntegrate (powers : List F32) (s : State) : Host.Outcome State Fault Refusal := act (·.energyIntegrate powers) s

/-- ENERGY_DAY_ROLLOVER (R432). -/
def execEnergyDayRollover (s : State) : Host.Outcome State Fault Refusal := act (·.dayRollover) s

/-- AUTONOMY_UPDATE (R433). -/
def execAutonomyUpdate (vloc : F32) (s : State) : Host.Outcome State Fault Refusal := act (·.autonomyUpdate vloc) s

/-- HEARTBEAT_WATCHDOG (R430). -/
def execHeartbeatWatchdog (s : State) : Host.Outcome State Fault Refusal := act (·.heartbeatLost) s

/-- HEARTBEAT (R430). -/
def execHeartbeat (ts6 : F32) (ts7 : F32) (s : State) : Host.Outcome State Fault Refusal := act (·.heartbeat ts6 ts7) s

/-! ### Temperature and ageing -/

/-- THERMAL_SAMPLE (R439). -/
def execThermalSample (readings : List F32) (pMs : F32) (pHv : F32) (s : State) : Host.Outcome State Fault Refusal :=
  act (·.thermalSample readings pMs pHv) s

/-- SENSOR_SELF_TEST_DONE (R442). -/
def execSensorSelfTestDone (sensor : Fin 8) (pass : Bool) (s : State) : Host.Outcome State Fault Refusal :=
  act (·.sensorTestDone sensor pass) s

/-- THROTTLE_FALL (R445). -/
def execThrottleFall (s : State) : Host.Outcome State Fault Refusal := act (·.throttleFall) s

/-- WATCH_EXIT (R443). -/
def execWatchExit (s : State) : Host.Outcome State Fault Refusal := act (·.watchExit) s

/-- THERMAL_SHUTDOWN_RELEASE (R447). -/
def execThermalShutdownRelease (s : State) : Host.Outcome State Fault Refusal := act (·.shutdownRelease) s

/-- STORE_TEST_START (R453). -/
def execStoreTestStart (s : State) : Host.Outcome State Fault Refusal := act (·.storeTestStart) s

/-- STORE_TEST_REQUEST (R453). -/
def execStoreTestRequest (rq : Request) (value : BitVec 8) (s : State) : Host.Outcome State Fault Refusal :=
  act (·.writeReg rq Obj.STORE_TEST_REQUEST (u8 value.toNat)) s

/-- STORE_TEST_DONE (R453). -/
def execStoreTestDone (step : F32) (dt : F32) (s : State) : Host.Outcome State Fault Refusal :=
  act (·.storeTestDone step dt) s

/-- STORE_TEST_TIMEOUT (R453). -/
def execStoreTestTimeout (s : State) : Host.Outcome State Fault Refusal := act (·.storeTestTimeout) s

/-- STAGE_DAMAGE_UPDATE (R454). -/
def execStageDamageUpdate (s : State) : Host.Outcome State Fault Refusal := act (·.stageDamage) s

/-- REFERENCE_CHECK_DONE (R455). -/
def execReferenceCheckDone (mean : F32) (s : State) : Host.Outcome State Fault Refusal := act (·.referenceDone mean) s

end Sys2Proof.Machine
end

