-- ==== Sys2Proof/Machine/SecurityCommands.lean ====
section
/-! DEFINITION. The commands of chapters 17 and 18: keys, images, personalities, attestation, the debug port, resets and the start. -/

namespace Sys2Proof.Machine

/-! ### Keys and downloads -/

/-- OEM_KEY_HASH_WRITE (R460). -/
def execOemKeyHashWrite (rq : Request) (bytes : List Byte) (s : State) : Host.Outcome State Fault Refusal :=
  act (·.writeReg rq Obj.OEM_KEY_HASH bytes) s

/-- LOAD_TARGET (R465). -/
def execLoadTarget (rq : Request) (value : BitVec 8) (s : State) : Host.Outcome State Fault Refusal :=
  act (·.writeReg rq Obj.LOAD_TARGET (u8 value.toNat)) s

/-- LOAD_DATA (R465). -/
def execLoadData (rq : Request) (bytes : List Byte) (s : State) : Host.Outcome State Fault Refusal :=
  act (·.writeReg rq Obj.LOAD_DATA bytes) s

/-- LOAD_VERIFY (R465). -/
def execLoadVerify (rq : Request) (value : BitVec 8) (s : State) : Host.Outcome State Fault Refusal :=
  act (·.writeReg rq Obj.LOAD_VERIFY (u8 value.toNat)) s

/-- LOAD_VERIFY_DONE (R465). -/
def execLoadVerifyDone (instant : Nat) (s : State) : Host.Outcome State Fault Refusal := act (·.loadVerifyDone instant) s

/-- IMAGE_ACTIVATE (R466). -/
def execImageActivate (rq : Request) (value : BitVec 8) (s : State) : Host.Outcome State Fault Refusal :=
  act (·.writeReg rq Obj.IMAGE_ACTIVATE (u8 value.toNat)) s

/-- IMAGE_CONFIRM (R467). -/
def execImageConfirm (rq : Request) (value : BitVec 8) (s : State) : Host.Outcome State Fault Refusal :=
  act (·.writeReg rq Obj.IMAGE_CONFIRM (u8 value.toNat)) s

/-- LEVEL_KEY_WRITE (R469): LEVEL_KEY_1 to LEVEL_KEY_3, then RING_KEY_NEXT. -/
def execLevelKeyWrite (rq : Request) (key : Fin 4) (bytes : List Byte) (s : State) : Host.Outcome State Fault Refusal :=
  act (·.writeReg rq (if key.val < 3 then Obj.LEVEL_KEY key else Obj.RING_KEY_NEXT) bytes) s

/-- RING_SWITCH_AT_WRITE (R470). -/
def execRingSwitchAtWrite (rq : Request) (value : BitVec 64) (s : State) : Host.Outcome State Fault Refusal :=
  act (·.writeReg rq Obj.RING_SWITCH_AT (u64 value.toNat)) s

/-! ### Attestation -/

/-- ATTEST_WINDOW_CLOSE (R474). -/
def execAttestWindowClose (stream : Fin 8) (s : State) : Host.Outcome State Fault Refusal :=
  act (·.attestWindowClose stream) s

/-- BOTTOM_TREE_READY (R473). -/
def execBottomTreeReady (s : State) : Host.Outcome State Fault Refusal := act (·.bottomTreeReady) s

/-- TREE_REBUILD_DONE (R473). -/
def execTreeRebuildDone (s : State) : Host.Outcome State Fault Refusal := act (·.treeRebuildDone) s

/-- SIG_SELECT (R480). -/
def execSigSelect (rq : Request) (value : BitVec 64) (s : State) : Host.Outcome State Fault Refusal :=
  act (·.writeReg rq Obj.SIG_SELECT (u64 value.toNat)) s

/-- SIG_DATA (R480). -/
def execSigData (rq : Request) (s : State) : Host.Outcome State Fault Refusal := act (·.readReg rq Obj.SIG_DATA) s

/-- SIGNATURE_READY (R480). -/
def execSignatureReady (s : State) : Host.Outcome State Fault Refusal := act (·.signatureReady) s

/-! ### The debug port -/

/-- DEBUG_EXPIRY (R481). -/
def execDebugExpiry (s : State) : Host.Outcome State Fault Refusal := act (·.debugExpiry) s

/-- DEBUG_LOCK (R481). -/
def execDebugLock (rq : Request) (value : BitVec 8) (s : State) : Host.Outcome State Fault Refusal :=
  act (·.writeReg rq Obj.DEBUG_LOCK (u8 value.toNat)) s

/-! ### Resets -/

/-- DEBUG_RESET (R481, R485): through the unlocked debug port, of cause 7. -/
def execDebugReset (s : State) : Host.Outcome State Fault Refusal :=
  act (fun d => d.when (d.u Obj.DEBUG_STATE == 1) (Dev.wholeReset 7 0)) s

/-- RST_PIN (R485): of cause 1. -/
def execRstPin (s : State) : Host.Outcome State Fault Refusal := act (·.wholeReset 1 0) s

/-- BROWNOUT (R485): of cause 8. -/
def execBrownout (s : State) : Host.Outcome State Fault Refusal := act (·.wholeReset 8 0) s

/-- RESET_REQUEST (R488). -/
def execResetRequest (rq : Request) (value : BitVec 8) (s : State) : Host.Outcome State Fault Refusal :=
  act (·.writeReg rq Obj.RESET_REQUEST (u8 value.toNat)) s

/-- RESET_LOOP_COUNT_EXPIRY (R487). -/
def execResetLoopCountExpiry (s : State) : Host.Outcome State Fault Refusal := act (·.resetLoopExpiry) s

/-! ### The start -/

/-- SUPPLY_VALID (R489). -/
def execSupplyValid (lsrc : Bool) (addr : BitVec 2) (s : State) : Host.Outcome State Fault Refusal :=
  act (·.supplyValid lsrc addr.toNat) s

/-- BOOT_VERIFY_DONE (R462). -/
def execBootVerifyDone (findings : BootFindings) (s : State) : Host.Outcome State Fault Refusal :=
  act (·.bootVerifyDone findings) s

/-- STORE_ENERGY_READY (R490). -/
def execStoreEnergyReady (voltage : F32) (s : State) : Host.Outcome State Fault Refusal := act (·.storeEnergyReady voltage) s

/-- RECOVERY_DONE (R306). -/
def execRecoveryDone (findings : RecoveryFindings) (s : State) : Host.Outcome State Fault Refusal :=
  act (·.recoveryDone findings) s

/-- CONFIG_LOADED (R489). -/
def execConfigLoaded (s : State) : Host.Outcome State Fault Refusal := act (·.configLoaded) s

end Sys2Proof.Machine
end

