-- ==== Sys2Proof/Machine/Dispatch.lean ====
section
/-! DEFINITION. The dispatch: one arm per command, each one direct call of its meaning. -/

namespace Sys2Proof.Machine

/-- What a command does. -/
def exec (i : Instr) (s : State) : Host.Outcome State Fault Refusal :=
  match i with
  | .appCoreReset cause => Sys2Proof.Machine.execAppCoreReset cause s
  | .keeperFault kind => Sys2Proof.Machine.execKeeperFault kind s
  | .sramEccError bank => Sys2Proof.Machine.execSramEccError bank s
  | .sramMarchTestDone bank lasting => Sys2Proof.Machine.execSramMarchTestDone bank lasting s
  | .courseSet rq value => Sys2Proof.Machine.execCourseSet rq value s
  | .sourcePrioWrite rq n value => Sys2Proof.Machine.execSourcePrioWrite rq n value s
  | .sourceQualified src => Sys2Proof.Machine.execSourceQualified src s
  | .sourceLost src => Sys2Proof.Machine.execSourceLost src s
  | .ppsEdge instant => Sys2Proof.Machine.execPpsEdge instant s
  | .markConvStart slot => Sys2Proof.Machine.execMarkConvStart slot s
  | .markAlign slot => Sys2Proof.Machine.execMarkAlign slot s
  | .markLaneSlot slot => Sys2Proof.Machine.execMarkLaneSlot slot s
  | .markLoadStrobe slot => Sys2Proof.Machine.execMarkLoadStrobe slot s
  | .markGateOpen slot => Sys2Proof.Machine.execMarkGateOpen slot s
  | .markGateClose slot => Sys2Proof.Machine.execMarkGateClose slot s
  | .markPwmSync slot => Sys2Proof.Machine.execMarkPwmSync slot s
  | .encBoundary reading => Sys2Proof.Machine.execEncBoundary reading s
  | .encIndexPulse instant => Sys2Proof.Machine.execEncIndexPulse instant s
  | .courseAlarmFire n => Sys2Proof.Machine.execCourseAlarmFire n s
  | .resultReady conv output => Sys2Proof.Machine.execResultReady conv output s
  | .modulatorOverload conv negative => Sys2Proof.Machine.execModulatorOverload conv negative s
  | .refFault conv instant => Sys2Proof.Machine.execRefFault conv instant s
  | .refFaultClear conv => Sys2Proof.Machine.execRefFaultClear conv s
  | .refSelWrite rq n value => Sys2Proof.Machine.execRefSelWrite rq n value s
  | .iexcCompliance source => Sys2Proof.Machine.execIexcCompliance source s
  | .cvModeWrite rq n value => Sys2Proof.Machine.execCvModeWrite rq n value s
  | .owCheckStart seat => Sys2Proof.Machine.execOwCheckStart seat s
  | .owCheckEnd seat xPlus xMinus => Sys2Proof.Machine.execOwCheckEnd seat xPlus xMinus s
  | .entryWindowEnd seat => Sys2Proof.Machine.execEntryWindowEnd seat s
  | .delayEnd seat => Sys2Proof.Machine.execDelayEnd seat s
  | .triggerStartInstant seat => Sys2Proof.Machine.execTriggerStartInstant seat s
  | .seqStop rq seat => Sys2Proof.Machine.execSeqStop rq seat s
  | .seqRun rq seat => Sys2Proof.Machine.execSeqRun rq seat s
  | .seqStart rq seat value => Sys2Proof.Machine.execSeqStart rq seat value s
  | .injRequest rq seat value => Sys2Proof.Machine.execInjRequest rq seat value s
  | .injWindowEnd seat => Sys2Proof.Machine.execInjWindowEnd seat s
  | .selfOffset rq conv => Sys2Proof.Machine.execSelfOffset rq conv s
  | .selfGain rq conv => Sys2Proof.Machine.execSelfGain rq conv s
  | .systemOffset rq conv => Sys2Proof.Machine.execSystemOffset rq conv s
  | .systemGain rq conv => Sys2Proof.Machine.execSystemGain rq conv s
  | .calStart conv => Sys2Proof.Machine.execCalStart conv s
  | .calMeasurementEnd conv outputs overload => Sys2Proof.Machine.execCalMeasurementEnd conv outputs overload s
  | .queueWord rq => Sys2Proof.Machine.execQueueWord rq s
  | .queueBlock rq => Sys2Proof.Machine.execQueueBlock rq s
  | .queueFlush rq value => Sys2Proof.Machine.execQueueFlush rq value s
  | .selfTestLevelEnd results => Sys2Proof.Machine.execSelfTestLevelEnd results s
  | .stRequest rq value => Sys2Proof.Machine.execStRequest rq value s
  | .unretire rq value => Sys2Proof.Machine.execUnretire rq value s
  | .diagManual rq value => Sys2Proof.Machine.execDiagManual rq value s
  | .laneFinish lane => Sys2Proof.Machine.execLaneFinish lane s
  | .inTimeout lane input => Sys2Proof.Machine.execInTimeout lane input s
  | .engineApply rq value => Sys2Proof.Machine.execEngineApply rq value s
  | .paramBlockWrite rq block bytes => Sys2Proof.Machine.execParamBlockWrite rq block bytes s
  | .parityError lane place => Sys2Proof.Machine.execParityError lane place s
  | .parityTestDone place lasting => Sys2Proof.Machine.execParityTestDone place lasting s
  | .washApply rq value => Sys2Proof.Machine.execWashApply rq value s
  | .catchEnable rq definition value => Sys2Proof.Machine.execCatchEnable rq definition value s
  | .catchAssembly definition => Sys2Proof.Machine.execCatchAssembly definition s
  | .fetchCatch rq value => Sys2Proof.Machine.execFetchCatch rq value s
  | .fetchChannel rq value => Sys2Proof.Machine.execFetchChannel rq value s
  | .fetchData rq => Sys2Proof.Machine.execFetchData rq s
  | .locSubscribeAttempt step => Sys2Proof.Machine.execLocSubscribeAttempt step s
  | .locUpAddressWrite rq object bytes => Sys2Proof.Machine.execLocUpAddressWrite rq object bytes s
  | .loopSense current voltage draw => Sys2Proof.Machine.execLoopSense current voltage draw s
  | .vbbAdjust drops => Sys2Proof.Machine.execVbbAdjust drops s
  | .hvThermalLimit reading => Sys2Proof.Machine.execHvThermalLimit reading s
  | .actThermalLimit reading => Sys2Proof.Machine.execActThermalLimit reading s
  | .loopFixed rq value => Sys2Proof.Machine.execLoopFixed rq value s
  | .loopTrimZeroMeas rq value => Sys2Proof.Machine.execLoopTrimZeroMeas rq value s
  | .loopTrimSpanMeas rq value => Sys2Proof.Machine.execLoopTrimSpanMeas rq value s
  | .loopTrimReset rq value => Sys2Proof.Machine.execLoopTrimReset rq value s
  | .loopRangeWrite rq lrv urv => Sys2Proof.Machine.execLoopRangeWrite rq lrv urv s
  | .zeroNPress wp => Sys2Proof.Machine.execZeroNPress wp s
  | .spanNPress wp => Sys2Proof.Machine.execSpanNPress wp s
  | .buttonStuck button => Sys2Proof.Machine.execButtonStuck button s
  | .adacRangeWrite rq value => Sys2Proof.Machine.execAdacRangeWrite rq value s
  | .heartbeat ts6 ts7 => Sys2Proof.Machine.execHeartbeat ts6 ts7 s
  | .ctrlModeWrite rq controller value => Sys2Proof.Machine.execCtrlModeWrite rq controller value s
  | .ctrlSpWrite rq controller value => Sys2Proof.Machine.execCtrlSpWrite rq controller value s
  | .pwmPeriodStart channel => Sys2Proof.Machine.execPwmPeriodStart channel s
  | .pwmCentre channel => Sys2Proof.Machine.execPwmCentre channel s
  | .rateCountExpiry stream => Sys2Proof.Machine.execRateCountExpiry stream s
  | .subEnableWrite rq sub value => Sys2Proof.Machine.execSubEnableWrite rq sub value s
  | .subRtoExpiry sub => Sys2Proof.Machine.execSubRtoExpiry sub s
  | .ackPersistExpiry sub => Sys2Proof.Machine.execAckPersistExpiry sub s
  | .nvmError bank pair => Sys2Proof.Machine.execNvmError bank pair s
  | .nvmTestDone bufferPass pagePass => Sys2Proof.Machine.execNvmTestDone bufferPass pagePass s
  | .marginPassEnd refreshed => Sys2Proof.Machine.execMarginPassEnd refreshed s
  | .rcFlagClear rq index sub value => Sys2Proof.Machine.execRcFlagClear rq index sub value s
  | .stateRequest rq value => Sys2Proof.Machine.execStateRequest rq value s
  | .fastMapWrite rq entry value => Sys2Proof.Machine.execFastMapWrite rq entry value s
  | .fastDataRead rq => Sys2Proof.Machine.execFastDataRead rq s
  | .registerWrite rq index sub bytes => Sys2Proof.Machine.execRegisterWrite rq index sub bytes s
  | .linkUp port amplitude => Sys2Proof.Machine.execLinkUp port amplitude s
  | .linkDown port => Sys2Proof.Machine.execLinkDown port s
  | .phyErrorBurst port frames => Sys2Proof.Machine.execPhyErrorBurst port frames s
  | .phySelfTestDone port pass => Sys2Proof.Machine.execPhySelfTestDone port pass s
  | .podlPowerAccepted ringPort => Sys2Proof.Machine.execPodlPowerAccepted ringPort s
  | .podlPowerLost ringPort => Sys2Proof.Machine.execPodlPowerLost ringPort s
  | .hsrFrameRx ringPort frame => Sys2Proof.Machine.execHsrFrameRx ringPort frame s
  | .redboxFrameRx frame => Sys2Proof.Machine.execRedboxFrameRx frame s
  | .frameTxEnd port => Sys2Proof.Machine.execFrameTxEnd port s
  | .ptpAnnounceRx port message => Sys2Proof.Machine.execPtpAnnounceRx port message s
  | .ptpSyncRx port message => Sys2Proof.Machine.execPtpSyncRx port message s
  | .ptpFollowUpRx port message => Sys2Proof.Machine.execPtpFollowUpRx port message s
  | .pdelayReqTx port => Sys2Proof.Machine.execPdelayReqTx port s
  | .pdelayReqRx port => Sys2Proof.Machine.execPdelayReqRx port s
  | .pdelayRespRx port delay => Sys2Proof.Machine.execPdelayRespRx port delay s
  | .routerAdvertisementRx netPrefix => Sys2Proof.Machine.execRouterAdvertisementRx netPrefix s
  | .neighbourDiscoveryRx port message => Sys2Proof.Machine.execNeighbourDiscoveryRx port message s
  | .arpRx port target => Sys2Proof.Machine.execArpRx port target s
  | .icmpEchoRx port version target bytes => Sys2Proof.Machine.execIcmpEchoRx port version target bytes s
  | .fragTimeout session => Sys2Proof.Machine.execFragTimeout session s
  | .openRequest port address level keysel clientNo nonceC => Sys2Proof.Machine.execOpenRequest port address level keysel clientNo nonceC s
  | .challenge session nonceD => Sys2Proof.Machine.execChallenge session nonceD s
  | .confirm session counter mac address => Sys2Proof.Machine.execConfirm session counter mac address s
  | .accept session level room idle mac => Sys2Proof.Machine.execAccept session level room idle mac s
  | .close session counter mac => Sys2Proof.Machine.execClose session counter mac s
  | .openLockoutEnd address => Sys2Proof.Machine.execOpenLockoutEnd address s
  | .sessionIdle session => Sys2Proof.Machine.execSessionIdle session s
  | .request session port address counter mac request wp => Sys2Proof.Machine.execRequest session port address counter mac request wp s
  | .reply session counter mac reply => Sys2Proof.Machine.execReply session counter mac reply s
  | .subscribe session counter mac subscribe wp => Sys2Proof.Machine.execSubscribe session counter mac subscribe wp s
  | .delivery session counter mac delivery => Sys2Proof.Machine.execDelivery session counter mac delivery s
  | .ack session counter mac sub position => Sys2Proof.Machine.execAck session counter mac sub position s
  | .publish ringPort frame => Sys2Proof.Machine.execPublish ringPort frame s
  | .readUniqueIdentifier master => Sys2Proof.Machine.execReadUniqueIdentifier master s
  | .readUidByShortTag master tag => Sys2Proof.Machine.execReadUidByShortTag master tag s
  | .readUidByLongTag master tag => Sys2Proof.Machine.execReadUidByLongTag master tag s
  | .readPv master => Sys2Proof.Machine.execReadPv master s
  | .readLoopCurrentAndPercent master => Sys2Proof.Machine.execReadLoopCurrentAndPercent master s
  | .readDynamicVariables master => Sys2Proof.Machine.execReadDynamicVariables master s
  | .writePollingAddress master address mode => Sys2Proof.Machine.execWritePollingAddress master address mode s
  | .readLoopConfiguration master => Sys2Proof.Machine.execReadLoopConfiguration master s
  | .readDvClassifications master => Sys2Proof.Machine.execReadDvClassifications master s
  | .readDeviceVariables master codes => Sys2Proof.Machine.execReadDeviceVariables master codes s
  | .readMessage master => Sys2Proof.Machine.execReadMessage master s
  | .writeMessage master text => Sys2Proof.Machine.execWriteMessage master text s
  | .readTagDescriptorDate master => Sys2Proof.Machine.execReadTagDescriptorDate master s
  | .writeTagDescriptorDate master tag descriptor date => Sys2Proof.Machine.execWriteTagDescriptorDate master tag descriptor date s
  | .readPvTransducerInfo master => Sys2Proof.Machine.execReadPvTransducerInfo master s
  | .readDeviceInformation master wp => Sys2Proof.Machine.execReadDeviceInformation master wp s
  | .readFinalAssemblyNumber master => Sys2Proof.Machine.execReadFinalAssemblyNumber master s
  | .writeFinalAssemblyNumber master value => Sys2Proof.Machine.execWriteFinalAssemblyNumber master value s
  | .readLongTag master => Sys2Proof.Machine.execReadLongTag master s
  | .writeLongTag master tag => Sys2Proof.Machine.execWriteLongTag master tag s
  | .writeRangeValues master unit urv lrv wp => Sys2Proof.Machine.execWriteRangeValues master unit urv lrv wp s
  | .resetConfigChangedFlag master => Sys2Proof.Machine.execResetConfigChangedFlag master s
  | .enterExitFixedCurrent master current => Sys2Proof.Machine.execEnterExitFixedCurrent master current s
  | .trimLoopCurrentZero master current wp => Sys2Proof.Machine.execTrimLoopCurrentZero master current wp s
  | .trimLoopCurrentGain master current wp => Sys2Proof.Machine.execTrimLoopCurrentGain master current wp s
  | .readAdditionalDeviceStatus master => Sys2Proof.Machine.execReadAdditionalDeviceStatus master s
  | .woredTunnelPoll master => Sys2Proof.Machine.execWoredTunnelPoll master s
  | .woredTunnelFrame master frame wp => Sys2Proof.Machine.execWoredTunnelFrame master frame wp s
  | .loopTimeMarker master marker => Sys2Proof.Machine.execLoopTimeMarker master marker s
  | .hartUnknownCommand master number => Sys2Proof.Machine.execHartUnknownCommand master number s
  | .hartWriteBusyTimeout master => Sys2Proof.Machine.execHartWriteBusyTimeout master s
  | .hostRead hostPort index sub first count crc => Sys2Proof.Machine.execHostRead hostPort index sub first count crc s
  | .hostWrite hostPort index sub first id words crc wp => Sys2Proof.Machine.execHostWrite hostPort index sub first id words crc wp s
  | .hostCollect hostPort crc => Sys2Proof.Machine.execHostCollect hostPort crc s
  | .hostWored hostPort message crc wp => Sys2Proof.Machine.execHostWored hostPort message crc wp s
  | .hostNop hostPort crc => Sys2Proof.Machine.execHostNop hostPort crc s
  | .hostPendingComplete hostPort => Sys2Proof.Machine.execHostPendingComplete hostPort s
  | .powerSourcePresent source reading => Sys2Proof.Machine.execPowerSourcePresent source reading s
  | .powerSourceLost source voltage => Sys2Proof.Machine.execPowerSourceLost source voltage s
  | .profileTargetWrite rq value => Sys2Proof.Machine.execProfileTargetWrite rq value s
  | .excLean current => Sys2Proof.Machine.execExcLean current s
  | .sleepDoze rq => Sys2Proof.Machine.execSleepDoze rq s
  | .sleepStow rq => Sys2Proof.Machine.execSleepStow rq s
  | .sleepOff rq => Sys2Proof.Machine.execSleepOff rq s
  | .agentAnswer agent answer => Sys2Proof.Machine.execAgentAnswer agent answer s
  | .agentDelayExpiry agent => Sys2Proof.Machine.execAgentDelayExpiry agent s
  | .agentAnswerTimeout agent => Sys2Proof.Machine.execAgentAnswerTimeout agent s
  | .wakeEvent source => Sys2Proof.Machine.execWakeEvent source s
  | .tcxoCheck present => Sys2Proof.Machine.execTcxoCheck present s
  | .energyIntegrate powers => Sys2Proof.Machine.execEnergyIntegrate powers s
  | .autonomyUpdate vloc => Sys2Proof.Machine.execAutonomyUpdate vloc s
  | .thermalSample readings pMs pHv => Sys2Proof.Machine.execThermalSample readings pMs pHv s
  | .sensorSelfTestDone sensor pass => Sys2Proof.Machine.execSensorSelfTestDone sensor pass s
  | .storeTestRequest rq value => Sys2Proof.Machine.execStoreTestRequest rq value s
  | .storeTestDone step dt => Sys2Proof.Machine.execStoreTestDone step dt s
  | .referenceCheckDone mean => Sys2Proof.Machine.execReferenceCheckDone mean s
  | .oemKeyHashWrite rq bytes => Sys2Proof.Machine.execOemKeyHashWrite rq bytes s
  | .loadTarget rq value => Sys2Proof.Machine.execLoadTarget rq value s
  | .loadData rq bytes => Sys2Proof.Machine.execLoadData rq bytes s
  | .loadVerify rq value => Sys2Proof.Machine.execLoadVerify rq value s
  | .loadVerifyDone instant => Sys2Proof.Machine.execLoadVerifyDone instant s
  | .imageActivate rq value => Sys2Proof.Machine.execImageActivate rq value s
  | .imageConfirm rq value => Sys2Proof.Machine.execImageConfirm rq value s
  | .levelKeyWrite rq key bytes => Sys2Proof.Machine.execLevelKeyWrite rq key bytes s
  | .ringSwitchAtWrite rq value => Sys2Proof.Machine.execRingSwitchAtWrite rq value s
  | .attestWindowClose stream => Sys2Proof.Machine.execAttestWindowClose stream s
  | .sigSelect rq value => Sys2Proof.Machine.execSigSelect rq value s
  | .sigData rq => Sys2Proof.Machine.execSigData rq s
  | .debugLock rq value => Sys2Proof.Machine.execDebugLock rq value s
  | .resetRequest rq value => Sys2Proof.Machine.execResetRequest rq value s
  | .supplyValid lsrc addr => Sys2Proof.Machine.execSupplyValid lsrc addr s
  | .bootVerifyDone findings => Sys2Proof.Machine.execBootVerifyDone findings s
  | .storeEnergyReady voltage => Sys2Proof.Machine.execStoreEnergyReady voltage s
  | .recoveryDone findings => Sys2Proof.Machine.execRecoveryDone findings s
  | .buttonStuckReleased button => Sys2Proof.Machine.execButtonStuckReleased button s
  | .hostFrameError hostPort => Sys2Proof.Machine.execHostFrameError hostPort s
  | .dadComplete address conflict => Sys2Proof.Machine.execDadComplete address conflict s
  | .appCoreRestart => Sys2Proof.Machine.execAppCoreRestart s
  | .strokeBoundary => Sys2Proof.Machine.execStrokeBoundary s
  | .courseWrap => Sys2Proof.Machine.execCourseWrap s
  | .switchHoldExpiry => Sys2Proof.Machine.execSwitchHoldExpiry s
  | .holdoverLimitReached => Sys2Proof.Machine.execHoldoverLimitReached s
  | .encError => Sys2Proof.Machine.execEncError s
  | .angleStall => Sys2Proof.Machine.execAngleStall s
  | .rotation => Sys2Proof.Machine.execRotation s
  | .spareThird => Sys2Proof.Machine.execSpareThird s
  | .full4PairAdvance => Sys2Proof.Machine.execFull4PairAdvance s
  | .selfTestStart => Sys2Proof.Machine.execSelfTestStart s
  | .locRetry => Sys2Proof.Machine.execLocRetry s
  | .locUnpairedExpiry => Sys2Proof.Machine.execLocUnpairedExpiry s
  | .locPairing => Sys2Proof.Machine.execLocPairing s
  | .loopComplianceSet => Sys2Proof.Machine.execLoopComplianceSet s
  | .loopComplianceClear => Sys2Proof.Machine.execLoopComplianceClear s
  | .adacClampEnd => Sys2Proof.Machine.execAdacClampEnd s
  | .adacComplianceSet => Sys2Proof.Machine.execAdacComplianceSet s
  | .adacComplianceClear => Sys2Proof.Machine.execAdacComplianceClear s
  | .adacOvercurrent => Sys2Proof.Machine.execAdacOvercurrent s
  | .xdacOvercurrent => Sys2Proof.Machine.execXdacOvercurrent s
  | .heartbeatWatchdog => Sys2Proof.Machine.execHeartbeatWatchdog s
  | .requestWithdrawn => Sys2Proof.Machine.execRequestWithdrawn s
  | .angleGroupTimer => Sys2Proof.Machine.execAngleGroupTimer s
  | .nvmRoundDone => Sys2Proof.Machine.execNvmRoundDone s
  | .applyFeed => Sys2Proof.Machine.execApplyFeed s
  | .ringPersistExpiry => Sys2Proof.Machine.execRingPersistExpiry s
  | .marginPassStart => Sys2Proof.Machine.execMarginPassStart s
  | .stateTransitionTimeout => Sys2Proof.Machine.execStateTransitionTimeout s
  | .hsrDupExpiry => Sys2Proof.Machine.execHsrDupExpiry s
  | .hsrSupervisionTx => Sys2Proof.Machine.execHsrSupervisionTx s
  | .ringKeySwitch => Sys2Proof.Machine.execRingKeySwitch s
  | .ringEpochGraceEnd => Sys2Proof.Machine.execRingEpochGraceEnd s
  | .burstPeriodExpiry => Sys2Proof.Machine.execBurstPeriodExpiry s
  | .wakeAddressMatch => Sys2Proof.Machine.execWakeAddressMatch s
  | .wakeStretchExpiry => Sys2Proof.Machine.execWakeStretchExpiry s
  | .storeBelowHoldupEnd => Sys2Proof.Machine.execStoreBelowHoldupEnd s
  | .profileChangeStart => Sys2Proof.Machine.execProfileChangeStart s
  | .vbbLimit => Sys2Proof.Machine.execVbbLimit s
  | .handshakeStart => Sys2Proof.Machine.execHandshakeStart s
  | .regulatorAttemptFail => Sys2Proof.Machine.execRegulatorAttemptFail s
  | .wakeRetry => Sys2Proof.Machine.execWakeRetry s
  | .regulatorsReady => Sys2Proof.Machine.execRegulatorsReady s
  | .tcxoReady => Sys2Proof.Machine.execTcxoReady s
  | .tcxoReadyTimeout => Sys2Proof.Machine.execTcxoReadyTimeout s
  | .tcxoLoss => Sys2Proof.Machine.execTcxoLoss s
  | .pllLocked => Sys2Proof.Machine.execPllLocked s
  | .wakeAppCoreRunning => Sys2Proof.Machine.execWakeAppCoreRunning s
  | .offButtonExit => Sys2Proof.Machine.execOffButtonExit s
  | .energyDayRollover => Sys2Proof.Machine.execEnergyDayRollover s
  | .throttleFall => Sys2Proof.Machine.execThrottleFall s
  | .watchExit => Sys2Proof.Machine.execWatchExit s
  | .thermalShutdownRelease => Sys2Proof.Machine.execThermalShutdownRelease s
  | .storeTestStart => Sys2Proof.Machine.execStoreTestStart s
  | .storeTestTimeout => Sys2Proof.Machine.execStoreTestTimeout s
  | .stageDamageUpdate => Sys2Proof.Machine.execStageDamageUpdate s
  | .bottomTreeReady => Sys2Proof.Machine.execBottomTreeReady s
  | .treeRebuildDone => Sys2Proof.Machine.execTreeRebuildDone s
  | .debugExpiry => Sys2Proof.Machine.execDebugExpiry s
  | .debugReset => Sys2Proof.Machine.execDebugReset s
  | .rstPin => Sys2Proof.Machine.execRstPin s
  | .brownout => Sys2Proof.Machine.execBrownout s
  | .resetLoopCountExpiry => Sys2Proof.Machine.execResetLoopCountExpiry s
  | .configLoaded => Sys2Proof.Machine.execConfigLoaded s
  | .alarmWindowClose => Sys2Proof.Machine.execAlarmWindowClose s
  | .alarmGuardEnd => Sys2Proof.Machine.execAlarmGuardEnd s
  | .hartFrameError => Sys2Proof.Machine.execHartFrameError s
  | .signatureReady => Sys2Proof.Machine.execSignatureReady s

end Sys2Proof.Machine
end

