-- ==== Sys2Proof/Safety.lean ====
section
/-! DEFINITION. What counts as a safe step, and the two shapes in which the statements say where a command ends. -/

namespace Sys2Proof.Machine

/-- An outcome that is a next state. -/
def goesOn (o : Host.Outcome State Fault Refusal) : Prop := ∃ t, o = .next t

/-- A state from which the block goes on. -/
def State.safe (s : State) : Prop := goesOn (step s)

/-- In state `s` the command `c` ends in a next state: the queue as it was, the device `e` with its replies sent. -/
def State.becomes (s : State) (c : Instr) (e : Dev) : Prop := exec c s = .next { s with dev := e.routed }

/-- In state `s` the command `c` ends in a next state: the queue as it was, the device as `P` says. -/
def State.after (s : State) (c : Instr) (P : Dev → Prop) : Prop := ∃ e, exec c s = .next { s with dev := e } ∧ P e

/-- The register files agree but for the keys listed. -/
def Dev.registersBut (keys : List Nat) (a b : Dev) : Prop :=
  ∀ k x, k ∉ keys → b.live.get k x = a.live.get k x

/-- When a mark of an action comes due in a slot (R49, R50, R489): the configuration loaded and strokes running, the slot of that
action firing in this stroke, its offset within P, or in a stroke of the angle course before it ends (R40, R55). -/
def Dev.markDue (d : Dev) (slot action : Nat) : Prop :=
  d.course.running = true ∧ d.start.configured = true ∧ (d.device.state = .starting → 4 ≤ action) ∧
    (d.mark slot).action = action ∧ (d.mark slot).firesIn (d.u Obj.STROKE_COUNT) = true ∧
    (d.mark slot).offset < d.markLimit

/-- When the block takes requests up (R13, R331, R447, R462, R489): its application core runs, past the start, out of the ROM
loader and out of a thermal shutdown or holdup. -/
def Dev.serves (d : Dev) : Prop :=
  d.security.romLoader = false ∧ d.stopped = false ∧ d.start.phase ≠ .supply ∧ d.start.phase ≠ .verify ∧
    d.device.state ≠ .starting ∧ d.device.appRunning = true

end Sys2Proof.Machine
end

