-- ==== Sys2Proof/WellFormed.lean ====
section
/-! DEFINITION. Which commands are well formed: every operand that stands for a field of fixed size has that size. A command that
is not well formed stands for nothing that can happen outside; exec gives it some meaning all the same. -/

namespace Sys2Proof

/-- A list of a length. -/
def hasLength {α : Type} (n : Nat) (l : List α) : Bool := l.length == n

/-- The FLAGS, FRAG and BODY of a frame: at most 1,444 bytes fit a frame (R368). -/
def WoredBody.wf (b : WoredBody) : Bool := decide (b.body.length ≤ 1444)

/-- A ring frame: 48-bit addresses, a 16-bit sequence number, a PCP of 3 bits (R352). -/
def RingFrame.wf (f : RingFrame) : Bool :=
  decide (f.dest < 2 ^ 48) && decide (f.source < 2 ^ 48) && decide (f.sequence < 2 ^ 16) && decide (f.pcp < 8)

/-- A frame from S: 48-bit addresses (R354). -/
def ShoreFrame.wf (f : ShoreFrame) : Bool := decide (f.dest < 2 ^ 48) && decide (f.source < 2 ^ 48)

/-- A Sync message: an origin time of 64 bits (R360). -/
def PtpSync.wf (m : PtpSync) : Bool := decide (m.origin < 2 ^ 64)

/-- A Follow_Up message: an origin time of 64 bits (R361). -/
def PtpFollowUp.wf (m : PtpFollowUp) : Bool := decide (m.origin < 2 ^ 64)

/-- A neighbour discovery message: two IPv6 addresses (R363). -/
def NdMessage.wf (m : NdMessage) : Bool := hasLength 16 m.source && hasLength 16 m.target

/-- Whether a command is well formed. -/
def Instr.wf : Instr → Bool
  | .selfTestLevelEnd results => hasLength 16 results
  | .calMeasurementEnd _ outputs _ => hasLength 16 outputs
  | .hsrFrameRx _ frame => frame.wf
  | .redboxFrameRx frame => frame.wf
  | .ptpSyncRx _ m => m.wf
  | .ptpFollowUpRx _ m => m.wf
  | .routerAdvertisementRx p => hasLength 8 p
  | .neighbourDiscoveryRx _ m => m.wf
  | .icmpEchoRx _ version target _ =>
    (version == 6 && hasLength 16 target) || (version == 4 && hasLength 4 target)
  | .dadComplete address _ => hasLength 16 address
  | .openRequest _ address _ _ _ nonceC => hasLength 16 address && hasLength 16 nonceC
  | .challenge _ nonceD => hasLength 16 nonceD
  | .confirm _ _ mac address => hasLength 16 mac && hasLength 16 address
  | .accept _ _ _ _ mac => hasLength 16 mac
  | .close _ _ mac => hasLength 16 mac
  | .openLockoutEnd address => hasLength 16 address
  | .request _ _ address _ mac b _ => hasLength 16 address && hasLength 16 mac && b.wf
  | .reply _ _ mac b => hasLength 16 mac && b.wf
  | .subscribe _ _ mac b _ => hasLength 16 mac && b.wf
  | .delivery _ _ mac b => hasLength 16 mac && b.wf
  | .ack _ _ mac _ _ => hasLength 16 mac
  | .publish _ frame => frame.frame.wf && hasLength 16 frame.mac
  | .readUidByShortTag _ tag => hasLength 6 tag
  | .readUidByLongTag _ tag => hasLength 32 tag
  | .loopTimeMarker _ marker => hasLength 16 marker.mac
  | .energyIntegrate powers => hasLength 4 powers
  | .thermalSample readings _ _ => hasLength 8 readings
  | _ => true

end Sys2Proof
end

