-- ==== Sys2Proof/Certificates/Slice0/Obligations.lean ====
section
/-! DEFINITION. The statements about the block, chapter by chapter. In them `d` is the device as a command finds it, with nothing
given out yet; `s.becomes c e` says that exec answers a next state with device `e`, and `s.after c P` one whose device is as `P`
says. -/

open Sys2Proof Sys2Proof.Machine

/-! ### The block as a whole -/

/-- A step with a command in front is that command on the rest of the queue. -/
def Obligations.StepRunsTheFrontCommand : Prop :=
  ∀ (c : Instr) (rest : List Instr) (s : State), step { s with pending := c :: rest } = exec c { s with pending := rest }

/-! ### Chapters 01 and 02 -/

/-- What a reset of the application core leaves (R486): it counts, drops a pending transition and the sessions, and touches no
conversion, seat, lane, output, clock or store. -/
def Obligations.AppCoreResetKeepsTheRest : Prop :=
  ∀ (s : State) (cause : AppResetCause), s.dev.device.appRunning = true →
    s.after (.appCoreReset cause) fun e =>
      e.u Obj.RESET_CAUSE = s.dev.u Obj.RESET_CAUSE ∧ e.u Obj.APP_RESETS = (s.dev.u Obj.APP_RESETS + 1) % 2 ^ 32 ∧
      e.u Obj.APP_RESET_CAUSE = (match cause with | .watchdog => 1 | .ecc => 2 | .supervision => 3) ∧
      e.u Obj.STATE_PENDING = 0xFF ∧ e.device.pending = none ∧ e.device.appRunning = false ∧
      e.device.state = s.dev.device.state ∧ (∀ n, n < 16 → e.session n = none) ∧
      e.nvm = s.dev.nvm ∧ e.shadow = s.dev.shadow ∧ e.course = s.dev.course ∧ e.convs = s.dev.convs ∧
      e.seats = s.dev.seats ∧ e.queue = s.dev.queue ∧ e.xcheck = s.dev.xcheck ∧ e.engine = s.dev.engine ∧
      e.outputs = s.dev.outputs ∧ e.pwm = s.dev.pwm ∧ e.power = s.dev.power ∧ e.thermal = s.dev.thermal ∧
      e.start = s.dev.start

/-- APP_CORE_RESTART with nothing waiting, the keeper's failure and the SRAM's errors (R13, R15, R22, R485): the first of the banks 2
to 14 with a lasting fault is rebuilt into bank 15 where that is whole. -/
def Obligations.CoreKeeperAndSramCommands : Prop :=
  ∀ s : State, let d := s.dev.cleared
    (d.device.appRunning = false → d.stopped = false → d.start.configured = true → d.ledger.unapplied = [] →
      s.becomes .appCoreRestart (d.setDevice fun v => { v with appRunning := true }).drainTriggers.deliver.hostsResume) ∧
    (∀ kind, s.becomes (.keeperFault kind)
      (d.wholeReset 2 (match kind with | .watchdog => 1 | .ecc => 2 | .lockup => 3))) ∧
    (∀ bank, s.becomes (.sramEccError bank)
      (d.setStart fun x => { x with sramTesting := setBit x.sramTesting bank.no })) ∧
    (∀ (bank : SramBank) (lasting : Bool), bit d.start.sramTesting bank.no = true →
      let passed := d.setStart fun x => { x with sramTesting := clearBit x.sramTesting bank.no }
      let takes : Bool := match bank with
        | .system n => 2 ≤ n.val && n.val < 15 && d.start.sramSpare.isNone && !bit d.start.sramRetired 15
        | .wash _ => false
      let retired := passed.setStart fun x => { x with
        sramRetired := setBit x.sramRetired bank.no
        sramSpare := if takes then some bank.no else x.sramSpare }
      s.becomes (.sramMarchTestDone bank lasting)
        (if lasting = false then passed
         else match bank with
          | .wash n => retired.retireWashBank n
          | .system n => if n.val < 2 then retired.wholeReset 3 n else retired))

/-- The strokes, the wrap of course time and the sources (R27, R31, R34–R38, R42). The angle course and the course alarms (R54–R56,
R422). -/
def Obligations.StrokeAndSourceCommands : Prop :=
  (∀ s : State, let d := s.dev.cleared
      (d.strokesGo = true → (d.angle = false ∨ d.course.fallback = true) →
        let a := d.advanceTo (d.course.strokeStart + d.course.strokeLen)
        s.becomes .strokeBoundary (if d.angle then (a.dropMarks a.course.strokeLen).boundary else a.boundary)) ∧
      (d.course.ticks < courseModulus →
        s.becomes .courseWrap ((d.advance (courseModulus - d.course.ticks)).flagRaise Obj.COURSE_FLAGS 11 0xA00D []) ∧
        (d.advance (courseModulus - d.course.ticks)).course.ticks = 0) ∧
      (∀ src, d.qualifyDue src = none → s.becomes (.sourceQualified src) d) ∧
      (∀ src t, d.qualifyDue src = some t → (d.source src).qualified = false →
        let a := d.advanceTo t
        let p := a.when (src == .ptpRing) (Dev.setCourse fun c => { c with ringPort := a.betterRingPort })
        let q := p.setSource src fun x => { x with qualified := true, since := a.course.elapsed }
        s.becomes (.sourceQualified src)
          ((q.put Obj.SOURCE_QUALIFIED (setBit (d.u Obj.SOURCE_QUALIFIED) src.code)).raise 0xA001 (u8 src.code)).reselect) ∧
      (∀ (first last : Nat) (off : Int), d.course.series[3]? = some (some ⟨first, last, off⟩) →
        first + d.u Obj.QUAL_TIME * 65536000 ≤ last → d.qualifyDue .pps = some (first + d.u Obj.QUAL_TIME * 65536000)) ∧
      (d.higherSources = [] → s.becomes .switchHoldExpiry d) ∧
      (∀ x, d.higherSources = [x] → s.becomes .switchHoldExpiry
        (((d.advanceTo ((d.source x).since + d.u Obj.SWITCH_HOLD * 65536000)).flagRaise Obj.COURSE_FLAGS 2 0xA003 []).selectSource x)) ∧
      (d.course.sync = .holdover → s.becomes .holdoverLimitReached ((d.advanceTo d.holdoverDue).enterSync .free)) ∧
      (∀ instant, d.stopped = true → s.becomes (.ppsEdge instant) d) ∧
      (∀ instant, d.stopped = false → let a := d.advanceTo instant
        let now := a.course.elapsed
        let e := a.setCourse fun c => { c with ppsEdge := some now }
        let anew := e.setSeries 3 (some ⟨now, now, 0⟩)
        let goes := e.setSeries 3 (some ⟨((d.seriesAt 3).map Series.since).getD now, now, 0⟩)
        let off := ppsOffset (((nsOfTicks a.course.ticks : Int) - d.i Obj.PPS_DELAY) % 2 ^ 64).toNat
        (d.course.ppsEdge = none → s.becomes (.ppsEdge instant) anew) ∧
        (∀ t, d.course.ppsEdge = some t →
          ((now - t) * 15625 < 999900000 * 1024 ∨ 1000100000 * 1024 < (now - t) * 15625) →
          s.becomes (.ppsEdge instant) ((anew.bump Obj.PPS_REJECTED).flagRaise Obj.COURSE_FLAGS 9 0xA00B [])) ∧
        (∀ t, d.course.ppsEdge = some t →
          999900000 * 1024 ≤ (now - t) * 15625 → (now - t) * 15625 ≤ 1000100000 * 1024 →
          s.becomes (.ppsEdge instant)
            (if a.phaseCapture = false ∧ 250000000 < off.natAbs
              then (goes.bump Obj.PPS_REJECTED).flagRaise Obj.COURSE_FLAGS 9 0xA00B []
              else goes.offsetSample .pps off)))) ∧
  (∀ s : State, let d := s.dev.cleared
      (∀ instant (count : BitVec 32), d.stopped = false →
        let e := d.put Obj.ENC_COUNT count.toNat
        (d.u Obj.STROKE_MODE = 1 → d.strokesGo = true → count.toNat % max 1 d.encStep = 0 →
          s.becomes (.encBoundary ⟨instant, count⟩) (e.angleBoundary instant)) ∧
        ((d.u Obj.STROKE_MODE ≠ 1 ∨ count.toNat % max 1 d.encStep ≠ 0) → s.becomes (.encBoundary ⟨instant, count⟩) e)) ∧
      (∀ instant, d.stopped = false →
        let a := d.advanceTo instant
        (d.u Obj.ENC_INDEX = 0 → s.becomes (.encIndexPulse instant) (a.triggerAll 5)) ∧
        (d.u Obj.ENC_INDEX ≠ 0 → d.u Obj.STROKE_MODE ≠ 1 →
          s.becomes (.encIndexPulse instant) ((a.put Obj.ENC_COUNT 0).triggerAll 5)) ∧
        (d.u Obj.ENC_INDEX ≠ 0 → d.u Obj.STROKE_MODE = 1 → d.strokesGo = true →
          s.becomes (.encIndexPulse instant) (((a.put Obj.ENC_COUNT 0).angleBoundary instant).triggerAll 5))) ∧
      (∀ instant count, d.stopped = true →
        s.becomes (.encBoundary ⟨instant, count⟩) d ∧ s.becomes (.encIndexPulse instant) d) ∧
      s.after .encError (fun e => e.u Obj.ENC_ERRORS = (d.u Obj.ENC_ERRORS + 1) % 2 ^ 32 ∧
        e.u Obj.ENC_COUNT = d.u Obj.ENC_COUNT ∧ Dev.registersBut [Obj.ENC_ERRORS.key] d e ∧ e = { d with live := e.live }) ∧
      (d.u Obj.STROKE_MODE = 1 → d.course.running = true → d.course.fallback = false →
        let a := d.advanceTo d.stallDue
        s.becomes .angleStall
          (((a.dropMarks (a.course.elapsed - a.course.strokeStart)).flagRaise Obj.COURSE_FLAGS 7 0xA009 []).setCourse fun c =>
            { c with fallback := true }).boundary) ∧
      (∀ n : Fin 4, d.course.armed.getD n false = true → d.u (Obj.COURSE_ALARM n) ≠ 0 → bit (d.u Obj.WAKE_MASK) 2 = false →
        let t := d.course.elapsed + (ceilDiv (d.u (Obj.COURSE_ALARM n) * 1024) 15625 - d.course.ticks)
        let due := if d.power.mode = .stow then d.power.asleepAt + ceilDiv (t - d.power.asleepAt) 2000 * 2000 else t
        s.becomes (.courseAlarmFire n)
          (((d.advanceTo due).setFlag Obj.ALARM_FLAGS n).setCourse fun c => { c with armed := c.armed.set n false })) ∧
      (∀ n : Fin 4, d.course.armed.getD n false = false → s.becomes (.courseAlarmFire n) d))

/-- The loss of a source (R34, R38, R42), LOSS_TIME after its last valid sample, 600 s for markers: where the active source is lost and no other is qualified, a LOCKED course goes to
HOLDOVER after an hour of discipline and to FREE before it, and no source is active; a source that is not the active one leaves
the selection alone. -/
def Obligations.LostSource : Prop :=
  ∀ (s : State) (src : Source), let d := s.dev
    let wait := if src = .loopMarker then 600 else d.u Obj.LOSS_TIME
    let a := d.advanceTo (match (d.source src).last with | some t => t + wait * 65536000 | none => 0)
    (d.source src).qualified = true →
    (d.course.active = some src → d.course.sync = .locked → (∀ x, x ≠ src → (d.source x).qualified = false) →
      s.after (.sourceLost src) fun e =>
        e.course.sync = (if 3600 * 65536000 ≤ a.course.disc then .holdover else .free) ∧ e.course.active = none ∧
        e.u Obj.ACTIVE_SOURCE = 0 ∧ (e.source src).qualified = false ∧ e.course.ticks = a.course.ticks) ∧
    (d.course.active ≠ some src →
      s.after (.sourceLost src) fun e =>
        e.course.sync = d.course.sync ∧ e.course.active = d.course.active ∧
        e.u Obj.ACTIVE_SOURCE = d.u Obj.ACTIVE_SOURCE ∧ (e.source src).qualified = false ∧ e.course.ticks = a.course.ticks)

/-- The seven actions of a mark that is due and does not collide (R50, R77, R100, R151, R210, R258, R356): each at the instant of its
offset. A mark that a lower slot takes the place of (R51) is counted and flagged, and does nothing else. -/
def Obligations.MarksAct : Prop :=
  (∀ (s : State) (slot : Fin 128), let d := s.dev.cleared
      let m := d.mark slot
      let a := d.advanceTo (d.course.strokeStart + m.offset)
      d.markCollides slot = false →
      (d.markDue slot 1 → d.u (Obj.TRIG_SRC m.target) = 0 → s.becomes (.markConvStart slot) (a.trigger m.target)) ∧
      (d.markDue slot 1 → d.u (Obj.TRIG_SRC m.target) ≠ 0 → s.becomes (.markConvStart slot) a) ∧
      (d.markDue slot 2 → s.becomes (.markAlign slot) (a.alignSeat m.target)) ∧
      (d.markDue slot 3 → s.becomes (.markLaneSlot slot) (a.laneSlot m.target)) ∧
      (d.markDue slot 4 → d.stopped = false →
        s.becomes (.markLoadStrobe slot) (a.consume fun x => x.takeLoopMode.strobeLoop.strobeAdac.strobeXdac)) ∧
      (d.markDue slot 5 → s.becomes (.markGateOpen slot)
        (((a.setNet fun n => { n with gates := setBit n.gates m.target }).pump 0).pump 1 |>.pump 2)) ∧
      (d.markDue slot 6 → s.becomes (.markGateClose slot)
        (((a.setNet fun n => { n with gates := clearBit n.gates m.target }).pump 0).pump 1 |>.pump 2)) ∧
      (d.markDue slot 7 → (d.pwmOf m.target).start = none → s.becomes (.markPwmSync slot) (a.pwmBegin m.target)) ∧
      (∀ t, d.markDue slot 7 → (d.pwmOf m.target).start = some t → t ≠ a.course.elapsed →
        s.becomes (.markPwmSync slot)
          ((if a.course.elapsed < t + d.u (Obj.PWM_PERIOD m.target)
            then (a.bump (Obj.PWM_RESYNC m.target)).flagFirst Obj.CTRL_FLAGS 6 0x9007 (u8 m.target) else a).pwmBegin m.target))) ∧
  (∀ (s : State) (slot : Fin 128), let d := s.dev.cleared
      let e := ((d.advanceTo (d.course.strokeStart + (d.mark slot).offset)).bump Obj.MARK_COLLISIONS).flagRaise
        Obj.COURSE_FLAGS 6 0xA008 []
      d.markCollides slot = true →
      (d.markDue slot 1 → s.becomes (.markConvStart slot) e) ∧ (d.markDue slot 2 → s.becomes (.markAlign slot) e) ∧
      (d.markDue slot 3 → s.becomes (.markLaneSlot slot) e) ∧ (d.markDue slot 4 → s.becomes (.markLoadStrobe slot) e) ∧
      (d.markDue slot 5 → s.becomes (.markGateOpen slot) e) ∧ (d.markDue slot 6 → s.becomes (.markGateClose slot) e) ∧
      (d.markDue slot 7 → s.becomes (.markPwmSync slot) e))

/-! ### Chapter 03 -/

/-- An entry result of a seat's own converter and an injected one, with no join and no comparison under way (R65, R66, R74, R108): it
comes at its ready instant, is taken from the converter's flight, and goes to the seat; in range an entry's ends the entry's
overrange, overranged for the first time it is counted, flagged and reported. A converter with no result under way takes none; of
results ready in one tick the seats' order decides, and one sent too early has no effect (log 2). -/
def Obligations.ResultsAreDelivered : Prop :=
  (∀ (s : State) (c : Fin 4) (out : FilterOut) (b : Batch) (rest : List Batch), let d := s.dev.cleared
      (d.conv c).flight = b :: rest → d.laterThanAnother c b = false → d.xcheck.join = none → d.xcheck.comparison = none →
      let a := d.advanceTo b.ready
      let code := (a.resultCode c b out).1
      let flags := a.resultFlags c b code
      let taken := a.setConv c fun _ => { (a.resultCode c b out).2 with
        flight := liveBatches [{ b with first := b.first + b.T, count := b.count - 1 }] ++ rest
        last := some ⟨b.first, a.nsAt b.first, code, flags, b.seat, b.entry, b.use⟩ }
      (b.use = .entry → isOvr code = false → (d.seat b.seat).conv = some c.val →
        s.becomes (.resultReady c out)
          ((taken.setSeat b.seat fun x => { x with ovr := clearBit x.ovr b.entry }).deliverResult b flags code)) ∧
      (b.use = .entry → isOvr code = true → (d.seat b.seat).conv = some c.val → bit (d.seat b.seat).ovr b.entry = false →
        s.becomes (.resultReady c out)
          ((((taken.bump (Obj.OVERRANGE_COUNT c)).setSeat b.seat fun x => { x with ovr := setBit x.ovr b.entry }).flagRaise
            (Obj.CV_FLAGS c) 0 0x2001 (u8 c ++ u8 b.entry)).deliverResult b flags code)) ∧
      (b.use = .injected → s.becomes (.resultReady c out)
        ((if isOvr code then taken.bump (Obj.OVERRANGE_COUNT c) else taken).deliverResult b flags code))) ∧
  (∀ (s : State) (c : Fin 4) (out : FilterOut), let d := s.dev.cleared
      ((d.conv c).flight = [] → s.becomes (.resultReady c out) d) ∧
      (∀ b rest, (d.conv c).flight = b :: rest → d.laterThanAnother c b = true → s.becomes (.resultReady c out) d))

/-- The front end's commands (R67, R68, R70, R84, R85): overload, reference fault and its end, excitation compliance, and the
open-wire check. The instant at which the overload's reset ends is a free value (log 6). What an open-wire check finds (R85, R86):
a first open result marks the entry and asks for another, a second declares it open, a clean one between them counts as transient,
and a clean one of a declared entry closes it. -/
def Obligations.FrontEndCommands : Prop :=
  (∀ s : State, let d := s.dev.cleared
      (∀ (c : Fin 4) (negative : Bool),
        let done := d.course.elapsed + d.freshNat % 66
        let o := ((d.tickFresh).setConv c fun v => { v with overload := some negative, clean := done + 132 }).overloadPhase c done
        s.becomes (.modulatorOverload c negative)
          (if (d.conv c).overload = none then (o.bump (Obj.OVERLOAD_COUNT c)).flagRaise (Obj.CV_FLAGS c) 1 0x2002 (u8 c) else o)) ∧
      (∀ (c : Fin 4) (instant : Nat), d.refExternal c = true → (d.conv c).refActive = false →
        s.becomes (.refFault c instant)
          (((d.advanceTo (instant + 656)).setConv c fun v => { v with
            refs := (instant, none) :: (d.advanceTo (instant + 656)).recentRefs v.refs
            refActive := true }).flagRaise (Obj.CV_FLAGS c) 2 0x2003 (u8 c))) ∧
      (∀ c : Fin 4, (d.conv c).refActive = true → s.becomes (.refFaultClear c)
        ((d.setConv c fun v => { v with
          refActive := false
          refs := v.refs.map fun p => (p.1, p.2.orElse fun _ => some d.course.elapsed) }).raise 0x2004 (u8 c))) ∧
      (∀ k : Fin 4, d.u (Obj.IEXC_LEVEL k) ≠ 0 →
        s.becomes (.iexcCompliance k) ((d.setFlag Obj.IEXC_FLAGS k).raise 0x2005 (u8 k))) ∧
      (∀ k : Fin 4, d.u (Obj.IEXC_LEVEL k) = 0 → s.becomes (.iexcCompliance k) d) ∧
      (∀ n : Fin 4, (d.seat n).check = some .due → d.dacBusy = false → d.lowerDue n = false → s.becomes (.owCheckStart n)
        (d.setSeat n fun x => { x with
          check := some (.running d.course.elapsed), cont := none
          spans := (d.course.elapsed, d.course.elapsed + 13108, d.u (Obj.SEQ_ENTRY n x.entryNow)) ::
            x.spans.filter fun p => decide (d.course.elapsed ≤ p.2.1 + longestWindow) })) ∧
      (∀ (n : Fin 4) (c : Nat), (d.seat n).check = some .due → (d.dacBusy = true ∨ d.lowerDue n = true) → (d.seat n).conv = some c →
        s.becomes (.owCheckStart n)
          ((((d.setSeat n fun x => { x with check := none }).bump (Obj.OW_DEFERRED n)).setFlag (Obj.CV_FLAGS c) 5).nextEntry n)) ∧
      (∀ (n : Fin 4) (t : Nat) (xp xm : Reading), (d.seat n).check = some (.running t) →
        let e := (d.seat n).entryNow
        let found := (d.advanceTo (t + 12751)).checkFinding n e
          (findsOpen (d.u (Obj.OW_THRESHOLD n)) (d.u (Obj.OW_AMPLITUDE n)) xp xm)
        let done := ((found.advanceTo (t + 13108)).bump (Obj.OW_CHECKS n)).setSeat n fun x => { x with
          check := none, checked := (e, t) :: x.checked.filter fun p => p.1 != e }
        s.becomes (.owCheckEnd n xp xm) (done.release n false fun x =>
          if past x.course.elapsed (x.seat n).startAt then x.startTable n else x.nextEntry n))) ∧
  (∀ (d : Dev) (n e c : Nat), (d.seat n).conv = some c → n < d.seats.length → e < 16 → n < 4 →
      (bit (d.u (Obj.OW_OPEN n)) e = false → bit (d.seat n).recheck e = false →
        let t := d.checkFinding n e true
        bit (t.seat n).marked e = true ∧ bit (t.seat n).recheck e = true ∧ t.u (Obj.OW_OPEN n) = d.u (Obj.OW_OPEN n)) ∧
      (bit (d.u (Obj.OW_OPEN n)) e = false → bit (d.seat n).recheck e = true →
        d.checkFinding n e true =
          ((d.setSeat n fun x => { x with recheck := clearBit x.recheck e }).put (Obj.OW_OPEN n)
            (setBit (d.u (Obj.OW_OPEN n)) e)).flagRaise (Obj.CV_FLAGS c) 3 0x2006 (u8 n ++ u8 e) ∧
        (d.checkFinding n e false).u (Obj.OW_TRANSIENT n) = (d.u (Obj.OW_TRANSIENT n) + 1) % 2 ^ 32 ∧
        bit ((d.checkFinding n e false).seat n).marked e = false) ∧
      (bit (d.u (Obj.OW_OPEN n)) e = true →
        d.checkFinding n e true = d ∧
        d.checkFinding n e false =
          ((d.setSeat n fun x => { x with marked := clearBit x.marked e }).put (Obj.OW_OPEN n)
            (clearBit (d.u (Obj.OW_OPEN n)) e)).flagRaise (Obj.CV_FLAGS c) 4 0x2007 (u8 n ++ u8 e)) ∧
      (bit (d.u (Obj.OW_OPEN n)) e = false → bit (d.seat n).recheck e = false → d.checkFinding n e false = d))

/-! ### Chapter 04 -/

/-- The ends of windows and delays, delayed triggers and injected conversions (R97, R100, R101, R107). A trigger of a table
(R99–R101): an idle one starts after TRIG_DELAY, at once where that is 0; a table that is converting and ignores a second trigger
counts it as missed; a stopped one does nothing. -/
def Obligations.SequencingCommands : Prop :=
  (∀ (s : State) (n : Fin 4), let d := s.dev.cleared
      (∀ r, (d.seat n).run = some r →
        let a := (d.advanceTo r.windowEnd).setSeat n fun x => { x with run := none }
        (a.calTakes n = true → s.becomes (.entryWindowEnd n) (a.setSeat n fun x => { x with cont := none })) ∧
        (a.calTakes n = false → delayOf r.word ≠ 0 → s.becomes (.entryWindowEnd n)
          (a.setSeat n fun x => { x with delayEnd := some (r.windowEnd + delayOf r.word) })) ∧
        (a.calTakes n = false → delayOf r.word = 0 →
          let b := a.setSeat n fun x => { x with delayEnd := none }
          s.becomes (.entryWindowEnd n)
            (if b.checkDue n then b.setSeat n fun x => { x with check := some .due } else b.nextEntry n))) ∧
      (∀ t, (d.seat n).delayEnd = some t → (d.advanceTo t).guarded n = false →
        let b := (d.advanceTo t).setSeat n fun x => { x with delayEnd := none }
        s.becomes (.delayEnd n)
          (if b.checkDue n then b.setSeat n fun x => { x with check := some .due } else b.nextEntry n)) ∧
      (∀ t, (d.seat n).startAt = some t → (d.advanceTo t).guarded n = false → d.armed n = true →
        s.becomes (.triggerStartInstant n) ((d.advanceTo t).startTable n)) ∧
      (∀ t, (d.seat n).startAt = some t → (d.advanceTo t).guarded n = false → d.armed n = false →
        s.becomes (.triggerStartInstant n) ((d.advanceTo t).setSeat n fun x => { x with startAt := none })) ∧
      (∀ t, (d.seat n).inj = some t → s.becomes (.injWindowEnd n)
        (((d.advanceTo t).setSeat n fun x => { x with inj := none }).release n false (Dev.resumeTable n)))) ∧
  (∀ (d : Dev) (n : Nat), n < d.seats.length → n < 4 →
      (d.condition n = .idle → d.u (Obj.TRIG_DELAY n) ≠ 0 →
        ((d.trigger n).seat n).startAt = some (d.course.elapsed + 8 * d.u (Obj.TRIG_DELAY n)) ∧
        (d.trigger n).live = d.live ∧ (d.trigger n).convs = d.convs) ∧
      (d.condition n = .idle → d.u (Obj.TRIG_DELAY n) = 0 → d.trigger n = d.startTable n) ∧
      (d.condition n = .converting → d.u (Obj.RETRIG n) = 1 →
        (d.trigger n).u (Obj.TRIG_MISSED n) = (d.u (Obj.TRIG_MISSED n) + 1) % 2 ^ 32 ∧
        bit ((d.trigger n).u (Obj.SEQ_FLAGS n)) 0 = true ∧ (d.trigger n).seats = d.seats ∧ (d.trigger n).convs = d.convs) ∧
      (d.condition n = .stopped → d.trigger n = d))

/-- The calibrations' commands (R116–R119): a waiting calibration of a converter that serves no seat starts at the next edge of
the divided clock; a mean beyond the limit fails an offset; overranged results fail any. -/
def Obligations.CalibrationCommands : Prop :=
  ∀ (s : State) (c : Fin 4) (k : Calibration), let d := s.dev.cleared
    (d.conv c).cal = some k →
    (k.running = true → s.becomes (.calStart c) d) ∧
    (k.running = false → d.calBlocked c = false → d.seatOf c = none → k.after = none →
      let e := d.setConv c fun v => { v with flight := [] }
      s.becomes (.calStart c)
        ((e.setConv c fun v => { v with
          cal := some { k with running := true, start := d.edge k.paddle d.course.elapsed } }).put (Obj.CAL_STATUS c) 0x2000)) ∧
    (∀ (m : Measurement) (rest : List Measurement) (outputs : List Int), k.running = true → k.todo = m :: rest →
      let a := d.advanceTo (measurementEnd k)
      s.becomes (.calMeasurementEnd c outputs true) (a.calFail c k 1) ∧
      ((outputs.any fun r => isOvr (a.calibrated c m.gain k.paddle (.code r))) = false → k.procedure = 1 →
        2147484 < ((outputs.sum + 8) / 16).natAbs → s.becomes (.calMeasurementEnd c outputs false) (a.calFail c k 3)) ∧
      ((outputs.any fun r => isOvr (a.calibrated c m.gain k.paddle (.code r))) = false → k.procedure = 1 →
        ((outputs.sum + 8) / 16).natAbs ≤ 2147484 → rest ≠ [] →
        s.becomes (.calMeasurementEnd c outputs false)
          ((a.setConv c fun v => { v with cal := some { k with
            writes := k.writes ++ [(offsetReg c m.gain k.paddle).write (unsigned 32 ((outputs.sum + 8) / 16))]
            done := setBit k.done m.gain, todo := rest, handed := false
            start := a.edge k.paddle a.course.elapsed } }).put (Obj.CAL_STATUS c)
              (0x2000 + setBit k.done m.gain % 256))))

/-! ### Chapter 05 -/

/-- The cross-check's commands (R130, R131, R133, R139, R140). -/
def Obligations.CrossCheckCommands : Prop :=
  ∀ s : State, let d := s.dev.cleared
    (d.xcheck.rotationDue = true → d.course.elapsed = d.course.strokeStart → d.rotationBlocked = true →
      s.becomes .rotation (d.setFlag Obj.XCHK_FLAGS 7)) ∧
    (∀ x c n, d.xcheck.rotationDue = true → d.course.elapsed = d.course.strokeStart → d.rotationBlocked = false →
      d.xcheck.spare = some x →
      (d.followingConvs x).head? = some c → d.seatOf c = some n →
      s.becomes .rotation ((d.setXcheck fun v => { v with rotationDue := false }).startJoin n x .rotation)) ∧
    ((d.xcheck.rotationDue = false ∨ d.course.elapsed ≠ d.course.strokeStart) → s.becomes .rotation d) ∧
    (d.u Obj.XCHK_MODE = 0 → d.u Obj.PROFILE_ACTIVE ≠ 2 →
      [d.u Obj.ROTATE_STROKES, d.u Obj.ROTATE_STROKES - d.u Obj.ROTATE_STROKES / 3,
        d.u Obj.ROTATE_STROKES - 2 * d.u Obj.ROTATE_STROKES / 3].contains (d.u Obj.ROTATE_COUNTDOWN) = true →
      d.xcheck.join = none → d.xcheck.test = none → ∀ x y, d.xcheck.spare = some x →
      (d.followingConvs x)[d.thirdNow]? = some y → s.becomes .spareThird (d.shadowSeat x y)) ∧
    (d.u Obj.XCHK_MODE ≠ 1 → s.becomes .full4PairAdvance d) ∧
    (d.u Obj.XCHK_MODE = 1 → d.xcheck.pairLeft = 0 → d.u Obj.PROFILE_ACTIVE ≠ 2 →
      let counted := if d.xcheck.paired then d else (d.bump Obj.XCHK_STARVED).flagFirst Obj.XCHK_FLAGS 6 0x2026 []
      let e := counted.endComparison.setXcheck fun x => { x with pairLeft := counted.u Obj.FULL4_PAIR_PERIOD, paired := true }
      (e.nextPair = none → s.becomes .full4PairAdvance e) ∧
      (∀ k, e.nextPair = some k →
        let f := e.setXcheck fun x => { x with pair := k }
        let p := pairCycle.getD k (0, 1)
        (f.startPair = none → s.becomes .full4PairAdvance f.skipCheck) ∧
        (∀ n m, f.seatOf p.1 = some n → f.seatOf p.2 = some m → f.pairable n m = true →
          let g := if f.xcheck.test.isSome then f else
            f.setXcheck fun x => { x with comparison := some (f.comparison p.1 p.2 n (f.u (Obj.XCHK_ENTRY n)) 0) }
          s.becomes .full4PairAdvance (g.setXcheck fun x => { x with paired := false })))) ∧
    (∀ call, d.xcheck.call = some call →
      (d.checkRuns || d.calRuns || d.thermal.refRun.isSome || d.xcheck.join.isSome || bit (d.u Obj.DIAG_FLAGS) 1) = true →
      s.becomes .selfTestStart d) ∧
    (∀ call, d.xcheck.call = some call → d.checkRuns = false → d.calRuns = false → d.thermal.refRun = none →
      d.xcheck.join = none → bit (d.u Obj.DIAG_FLAGS) 1 = false → s.becomes .selfTestStart (d.beginTest call)) ∧
    (∀ (t : SelfTest) (c : Nat) (results : List FilterOut), d.xcheck.test = some t → d.underTest = some c → t.level < 2 →
      let a := d.advanceTo (t.start + 149104)
      let codes := results.map (a.calibrated c t.gain false)
      s.becomes (.selfTestLevelEnd results)
        (a.setXcheck fun x => { x with test := some { t with
          level := t.level + 1, start := a.course.elapsed, ovr := t.ovr || codes.any isOvr
          means := t.means ++ [(codes.sum + 8) / 16] } })) ∧
    (∀ (t : SelfTest) (c : Nat) (results : List FilterOut), d.xcheck.test = some t → d.underTest = some c → t.level = 2 →
      let a := d.advanceTo (t.start + 149104)
      let codes := results.map (a.calibrated c t.gain false)
      let t' := { t with
        level := 3, start := a.course.elapsed, ovr := t.ovr || codes.any isOvr, means := t.means ++ [(codes.sum + 8) / 16] }
      s.becomes (.selfTestLevelEnd results) ((a.setXcheck fun x => { x with test := some t' }).pathDone t'))

/-! ### Chapter 06 -/

/-- The lanes' commands (R153, R154, R158, R177): the front slot finishes after its own cycles, counted from its tick or, where it
follows others without a pause, with theirs from the first one's; an input fails for want of results; a parity error takes the slot
away, its lane's outputs go to their failed status and the lanes of the frame or row are tested; a transient one lets them run
again; a lasting one retires the frame or row, its content on a spare, or fails them. The assembly of a catch (R197–R199): once
its last sample is there and no earlier catch of its stream is open, it takes the next identifier, counts, and its CATCH entry is
handed over for its definition's stream; the catch is no longer open. -/
def Obligations.LaneCommands : Prop :=
  (∀ (s : State) (l : Fin 32), let d := s.dev.cleared
      (∀ x rest, d.engine.queue = x :: rest → x.lane = l.val →
        let fresh : Bool := d.engine.idleSince ≤ x.tick
        let start := if fresh then x.tick else d.engine.busyTick
        let total : Int := (if fresh then 0 else d.engine.busyCycles) + (d.runSlot x).cycles
        let a := d.advanceTo (start + ceilDiv (total.toNat * 65536000) d.engineHz)
        let e := a.setEngine fun v => { v with
          queue := rest, idleSince := a.course.elapsed, busyTick := start, busyCycles := total }
        s.becomes (.laneFinish l) (Dev.finishSlot x (e.runSlot x))) ∧
      (∀ x rest, d.engine.queue = x :: rest → x.lane ≠ l.val → s.becomes (.laneFinish l) d) ∧
      (∀ k : Fin 8, let t := d.u (Obj.IN_TIMEOUT l k)
        d.start.configured = true → d.inputBound l k = true → t ≠ 0 → (d.input l k).stroke + t ≤ d.strokeNumber →
        (d.input l k).failed = none →
        let e := d.setInput l k fun i => { i with failed := some 5 }
        s.becomes (.inTimeout l k)
          (((e.put (Obj.IN_FAILED l) (setBit (d.u (Obj.IN_FAILED l)) k)).setFlag (Obj.LANE_FLAGS l) 4).raise 0x3005
            (u8 l ++ u8 k))) ∧
      (∀ x rest place, d.engine.queue = x :: rest → x.lane = l.val →
        let e := d.setEngine fun v => { v with queue := rest, idleSince := d.course.elapsed }
        let f := ((((e.bump Obj.PARITY_ERRORS).setFlag (Obj.LANE_FLAGS l) 3).setFlag Obj.ENGINE_FLAGS 0).failLaneOutputs l)
        let ls := (l.val :: f.lanesAt place).eraseDups
        let g := f.setEngine fun v => { v with tests := (v.tests.filter fun t => t.1 != place) ++ [(place, ls)] }
        s.becomes (.parityError l place)
          (ls.foldl (fun d k =>
            (d.setLane k fun v => { v with testing := true }).setEngine fun v => { v with
              queue := v.queue.filter fun s => s.lane != k }) g)) ∧
      (∀ place, (d.engine.tests.find? fun t => t.1 == place) = none → ∀ lasting, s.becomes (.parityTestDone place lasting) d) ∧
      (∀ (place p : ParityPlace) k rest, (d.engine.tests.find? fun t => t.1 == place) = some (p, k :: rest) →
        let ended := d.setEngine fun e => { e with tests := e.tests.filter fun t => t.1 != place }
        s.becomes (.parityTestDone place false)
          (((ended.bump Obj.PARITY_TRANSIENT).raise 0x3002 (u8 k)).resumeLanes (k :: rest)) ∧
        (∀ f : Fin 33, place = .frame f →
          let mask := setBit (ended.u Obj.FRAMES_RETIRED) f
          let e := ((ended.put Obj.FRAMES_RETIRED mask).bufferInternal .retired [Obj.FRAMES_RETIRED.write mask]).flagRaise
            Obj.ENGINE_FLAGS 1 0x3003 (u8 k)
          (e.spareFrame = none → s.becomes (.parityTestDone place true) (e.failLanes (k :: rest))) ∧
          (∀ q, e.spareFrame = some q → s.becomes (.parityTestDone place true)
            ((e.setEngine fun v => { v with lanes := v.lanes.map fun x => if x.frame = f.val then { x with frame := q } else x
              }).resumeLanes (k :: rest)))) ∧
        (∀ n : Fin 528, place = .row n →
          let t := (ended.setEngine fun v => { v with rowsRetired := n.val :: v.rowsRetired }).bump Obj.ROWS_RETIRED
          let e := (t.bufferInternal .retired [Obj.ROWS_RETIRED.write (t.u Obj.ROWS_RETIRED)]).flagRaise
            Obj.ENGINE_FLAGS 2 0x3003 (u8 k)
          (e.spareRow = none → s.becomes (.parityTestDone place true) (e.failLanes (k :: rest))) ∧
          (∀ q, e.spareRow = some q →
            let block := ((List.range 512).find? fun b => e.rowOf b == n.val).getD n.val
            s.becomes (.parityTestDone place true)
              ((e.setEngine fun v => { v with rows := (block, q) :: v.rows.filter fun x => x.1 != block }).resumeLanes
                (k :: rest)))))) ∧
  (∀ (s : State) (c : Fin 8) (o : OpenCatch), let d := s.dev
      d.openCatch c = some o → o.definition = c.val → d.device.appRunning = true →
      d.postCount c ≤ d.samplesBack (d.u (Obj.CATCH_CHANNEL c)) o.trigger.instant + 1 → d.earlierOpen o = false →
      s.after (.catchAssembly c) fun e =>
        e.u Obj.CATCH_LAST_ID = (d.u Obj.CATCH_LAST_ID + 1) % 2 ^ 32 ∧
        e.u (Obj.CATCH_COUNT c) = (d.u (Obj.CATCH_COUNT c) + 1) % 2 ^ 32 ∧
        (∃ x, e.handedOver = d.handedOver ++ [.entry x] ∧ x.type = .catch ∧ x.stream = d.u (Obj.CATCH_STREAM c)) ∧
        e.openCatch c = none ∧
        Dev.registersBut [Obj.CATCH_LAST_ID.key, (Obj.CATCH_COUNT c).key] d e ∧
        e.capture.channels = d.capture.channels ∧ e.course = d.course ∧ e.nvm = d.nvm)

/-! ### Chapter 07 -/

/-- The fault location's commands (R202, R203): an attempt to subscribe, its failure at a step, the retry, and the catches that find
no partner. Without the address of an upstream station a subscription fails with reason 1, for good; the first failure since one
succeeded raises 0x3026 (R202). -/
def Obligations.LocationCommands : Prop :=
  (∀ s : State, let d := s.dev.cleared
      (d.on Obj.LOC_ENABLE = true → d.device.appRunning = true → d.stopped = false → d.device.state ≠ .starting →
        (d.capture.loc = .idle → d.capture.retry = none → s.becomes (.locSubscribeAttempt true) d.locOpen) ∧
        (d.capture.loc = .opening ∨ d.capture.loc = .reading ∨ d.capture.loc = .subscribing →
          s.becomes (.locSubscribeAttempt false) (d.locFail 2)) ∧
        (∀ t, d.capture.retry = some t →
          s.becomes .locRetry ((d.advanceTo t).setCapture fun c => { c with retry := none }).locOpen)) ∧
      (d.on Obj.LOC_ENABLE = false → s.becomes (.locSubscribeAttempt true) d ∧ s.becomes .locRetry d) ∧
      (∀ x rest, d.capture.upstream = x :: rest →
        s.becomes .locUnpairedExpiry
          (((d.advanceTo (x.since + d.u Obj.LOC_WAIT * 65536 + d.windowTicks + 1)).setCapture fun c => { c with
            upstream := rest }).add Obj.LOC_UNPAIRED 1)) ∧
      (∀ x rest, d.capture.own = x :: rest → x.failed = false → d.on Obj.LOC_ENABLE = true →
        let a := (d.advanceTo (x.since + d.u Obj.LOC_WAIT * 65536)).setCapture fun c => { c with own := rest }
        a.partner x = none →
        s.becomes .locPairing ((a.put Obj.LOC_LAST_RESULT 3).waitEntry
          ((a.put Obj.LOC_LAST_RESULT 3).stamp .catch (d.u Obj.LOC_STREAM) ((a.put Obj.LOC_LAST_RESULT 3).locationPayload x 3 none)))) ∧
      (∀ x rest u, d.capture.own = x :: rest → x.failed = false → d.on Obj.LOC_ENABLE = true →
        let a := (d.advanceTo (x.since + d.u Obj.LOC_WAIT * 65536)).setCapture fun c => { c with own := rest }
        a.partner x = some u → (syncAdmissible x.sync = false ∨ syncAdmissible u.sync = false) →
        let b := (a.setCapture fun c => { c with upstream := c.upstream.filter fun y => decide (y ≠ u) }).put Obj.LOC_LAST_RESULT 4
        s.becomes .locPairing (b.waitEntry (b.stamp .catch (d.u Obj.LOC_STREAM) (b.locationPayload x 4 none)))) ∧
      (∀ x rest, d.capture.own = x :: rest → (x.failed = true ∨ d.on Obj.LOC_ENABLE = false) →
        s.becomes .locPairing
          ((d.advanceTo (x.since + d.u Obj.LOC_WAIT * 65536)).setCapture fun c => { c with own := rest }))) ∧
  (∀ d : Dev, d.b Obj.LOC_UP_ADDRESS = [] → d.upstreamSession = none →
      d.locOpen.u Obj.LOC_UP_STATE = 1 ∧ d.locOpen.capture.retry = none ∧ d.locOpen.capture.loc = .idle ∧
      (d.capture.locFailed = true → d.locOpen.ledger = d.ledger ∧ d.locOpen.device = d.device))

/-! ### Chapters 08 and 09 -/

/-- The first row of R218's table whose condition holds is the row of a strobe. -/
def Obligations.LoopRowIsTheFirstThatHolds : Prop :=
  ∀ d : Dev,
    let holds : Nat → Prop := fun k =>
      (k = 1 ∧ d.outputs.loaded = false) ∨ (k = 2 ∧ d.outputs.watchdog = true) ∨ (k = 3 ∧ d.outputs.thermal = true) ∨
      (k = 4 ∧ d.on Obj.MULTIDROP = true) ∨
      (k = 5 ∧ d.device.state = .service ∧ F32.eq (d.f Obj.LOOP_FIXED) F32.zero = false) ∨
      (k = 6 ∧ d.device.state = .safe) ∨ (k = 7 ∧ d.device.state = .config) ∨ (k = 8 ∧ d.device.state = .hold) ∨
      (k = 9 ∧ d.u Obj.LOOP_PV = 0xFF) ∨ (k = 10 ∧ d.loopFails = true) ∨ k = 11
    holds d.loopRow ∧ ∀ k, k < d.loopRow → ¬ holds k

/-- When the process value fails (R220). -/
def Obligations.ProcessValueFails : Prop :=
  ∀ d : Dev, d.loopFails = true ↔
    (catOf (d.pvStatus (d.u Obj.LOOP_PV)) = catF ∨ d.u Obj.LOOP_STALE_STROKES ≤ d.outputs.staleStrobes)

/-- The loop's commands (R215, R224, R226, R448): what the sense reports, compliance and open loop after 10 ms and 100 ms, the
headroom of VBB, and the thermal limit, held against the higher of the HV die's reading and the keeper's within 1 s of a heartbeat,
which holds from 125 °C until below 115 °C and the next load. The headroom that VBB is set to (R215): 24 V on the limiter's rows
of a sourced loop. The buttons (R232): a press that WP_N low forbids is refused with reason 1, a press outside RUN or with
BUTTON_ENABLE 0 with reason 2, and none is taken while one of them is stuck; one that nothing forbids is a write of LOOP_RANGE by
the device's own client. -/
def Obligations.LoopCommands : Prop :=
  (∀ s : State, let d := s.dev.cleared
      (∀ (i v : F32) (draw : Bool),
        let e := ((d.putF Obj.LOOP_MEASURED i).putF Obj.LOOP_VOLTAGE v).compareLoop.setOutputs fun o => { o with
          drawHigh := draw && !d.outputs.source }
        s.becomes (.loopSense i v draw)
          (if draw = true ∧ d.outputs.source = false ∧ d.outputs.drawHigh = false
            then (e.setFlag Obj.LOOP_FLAGS 5).raise 0x400D [] else e)) ∧
      (∀ t, d.outputs.offSince = some t → 4 ≤ d.outputs.row → d.outputs.row ≠ 9 → d.outputs.compliance = false →
        let e := (d.advanceTo (t + 655360)).setOutputs fun o => { o with compliance := true }
        let isOpen := F32.lt (d.f Obj.LOOP_MEASURED) (F32.ofRat 1 2) && F64.le (F64.nat codeDown) e.slewedNow
        let f := if isOpen then e.setFlag Obj.LOOP_FLAGS 2 else e
        s.becomes .loopComplianceSet ((f.setFlag Obj.LOOP_FLAGS 1).raise 0x4001 (f32b (d.f Obj.LOOP_MEASURED)))) ∧
      ((d.outputs.row < 4 ∨ d.outputs.row = 9 ∨ d.outputs.offSince = none ∨ d.outputs.compliance = true) →
        s.becomes .loopComplianceSet d) ∧
      (∀ t, d.outputs.nearSince = some t → 4 ≤ d.outputs.row → d.outputs.row ≠ 9 → d.outputs.compliance = true →
        s.becomes .loopComplianceClear
          (((d.advanceTo (t + 6553600)).setOutputs fun o => { o with compliance := false }).raise 0x4002 [])) ∧
      ((d.outputs.row < 4 ∨ d.outputs.row = 9 ∨ d.outputs.nearSince = none ∨ d.outputs.compliance = false) →
        s.becomes .loopComplianceClear d) ∧
      (∀ drops, s.after (.vbbAdjust drops) fun e =>
        e = { d with outputs := { d.outputs with vbb := e.outputs.vbb } }) ∧
      (∀ own, let x := d.hvReading own d.outputs.sent6
        (F32.le (F32.ofInt 125) x = true →
          let e := d.setOutputs fun o => { o with
            thermal := true, hot := true, row := if 3 < o.row then 3 else o.row, slewed := F64.nat codeDown }
          s.becomes (.hvThermalLimit own)
            (if d.outputs.hot = true ∧ d.outputs.thermal = true then e else (e.setFlag Obj.LOOP_FLAGS 4).raise 0x4005 [])) ∧
        (F32.le (F32.ofInt 125) x = false → F32.lt x (F32.ofInt 115) = true →
          s.becomes (.hvThermalLimit own) (d.setOutputs fun o => { o with hot := false })) ∧
        (F32.le (F32.ofInt 125) x = false → F32.lt x (F32.ofInt 115) = false → s.becomes (.hvThermalLimit own) d))) ∧
  (∀ (d : Dev) (own sent : F32),
      d.hvReading own sent = if d.outputs.beating = true ∧ d.course.elapsed < d.outputs.beatAt + 65536000
        then F32.max own sent else own) ∧
  (∀ (s : State) (drops : F32 × F32), let d := s.dev
      d.outputs.source = true → d.outputs.row ≤ 3 → d.on Obj.ADAC_ENABLE = false →
      s.after (.vbbAdjust drops) fun e => e.outputs.vbb = F32.ofInt 24) ∧
  (∀ (s : State) (wp : Bool), let d := s.dev.cleared
      let e := d.setDevice fun v => { v with wpLow := wp }
      (d.stopped = false → bit d.outputs.stuck 0 = false → bit d.outputs.stuck 1 = false →
        (wp = true →
          s.becomes (.zeroNPress wp) ((e.setFlag Obj.LOOP_FLAGS 8).raise 0x4008 (u8 1)) ∧
          s.becomes (.spanNPress wp) ((e.setFlag Obj.LOOP_FLAGS 8).raise 0x4008 (u8 1))) ∧
        (wp = false → (d.device.state ≠ .run ∨ d.on Obj.BUTTON_ENABLE = false) →
          s.becomes (.zeroNPress wp) ((e.setFlag Obj.LOOP_FLAGS 8).raise 0x4008 (u8 2)) ∧
          s.becomes (.spanNPress wp) ((e.setFlag Obj.LOOP_FLAGS 8).raise 0x4008 (u8 2))) ∧
        (e.buttonReason false wp = none →
          s.becomes (.zeroNPress wp) (e.ownRequest (.button false) wp [.write 0x3400 3 (e.buttonRange false)])) ∧
        (e.buttonReason true wp = none →
          s.becomes (.spanNPress wp) (e.ownRequest (.button true) wp [.write 0x3400 3 (e.buttonRange true)]))) ∧
      ((d.stopped = true ∨ bit d.outputs.stuck 0 = true ∨ bit d.outputs.stuck 1 = true) →
        s.becomes (.zeroNPress wp) e ∧ s.becomes (.spanNPress wp) e) ∧
      (∀ b : Button, let k := if b = .span then 1 else 0
        s.becomes (.buttonStuck b)
          (((d.setOutputs fun o => { o with stuck := setBit o.stuck k }).setFlag Obj.LOOP_FLAGS 9).raise 0x400C (u8 k)) ∧
        s.becomes (.buttonStuckReleased b) (d.setOutputs fun o => { o with stuck := clearBit o.stuck k })))

/-- The actuator and excitation outputs (R236–R238). The PWM channels (R258, R259): a period starts where the one before ends, takes
the pending duty and its on-time, and gives the period-start triggers; the centre trigger comes at the middle of the on-pulse, or
of the period. -/
def Obligations.ActuatorCommands : Prop :=
  (∀ s : State, let d := s.dev.cleared
      (∀ own, let x := d.hvReading own d.outputs.sent7
        (F32.le (F32.ofInt 125) x = true →
          let e := (d.setOutputs fun o => { o with adacThermal := true, adacHot := true, adacSource := 0 }).put Obj.ADAC_CODE 0
          s.becomes (.actThermalLimit own)
            (if d.outputs.adacThermal = true ∧ d.outputs.adacHot = true then e
              else (e.setFlag Obj.ADAC_FLAGS 2).raise 0x4009 [])) ∧
        (F32.le (F32.ofInt 125) x = false → F32.lt x (F32.ofInt 115) = true →
          s.becomes (.actThermalLimit own) (d.setOutputs fun o => { o with adacHot := false })) ∧
        (F32.le (F32.ofInt 125) x = false → F32.lt x (F32.ofInt 115) = false → s.becomes (.actThermalLimit own) d)) ∧
      (∀ t, d.outputs.adacClamp = some t →
        s.becomes .adacClampEnd ((d.advanceTo t).setOutputs fun o => { o with adacClamp := none, adacWait := true })) ∧
      (d.outputs.adacRange = 2 → d.outputs.adacCompliance = false →
        s.becomes .adacComplianceSet
          (((d.setOutputs fun o => { o with adacCompliance := true }).setFlag Obj.ADAC_FLAGS 0).raise 0x4009 [])) ∧
      ((d.outputs.adacRange ≠ 2 ∨ d.outputs.adacCompliance = true) → s.becomes .adacComplianceSet d) ∧
      s.becomes .adacComplianceClear (d.setOutputs fun o => { o with adacCompliance := false }) ∧
      (d.outputs.adacRange ≠ 2 → d.adacOn = true →
        s.becomes .adacOvercurrent ((d.setFlag Obj.ADAC_FLAGS 1).raise 0x4009 [])) ∧
      (d.xdacOn = true → s.becomes .xdacOvercurrent ((d.setFlag Obj.XDAC_FLAGS 0).raise 0x400B [])) ∧
      (d.xdacOn = false → s.becomes .xdacOvercurrent d)) ∧
  (∀ (s : State) (n : Fin 2), let d := s.dev.cleared
      (d.start.configured = true →
        let a := match (d.pwmOf n).start with | some t => d.advanceTo (t + d.u (Obj.PWM_PERIOD n)) | none => d
        let x := a.seen.pwmPending n
        let k := (clampInt 0 (d.u (Obj.PWM_PERIOD n)) (F64.round (F64.mul (F64.ofF32 x) (F64.nat (d.u (Obj.PWM_PERIOD n)))))).toNat
        s.becomes (.pwmPeriodStart n)
          ((({ a with pwm := a.pwm.set n ⟨some a.course.elapsed, x⟩ } : Dev).put (Obj.PWM_DUTY n) k).triggerAll (1 + 2 * n))) ∧
      (d.start.configured = false → s.becomes (.pwmPeriodStart n) d) ∧
      (∀ t, (d.pwmOf n).start = some t → d.u (Obj.PWM_DUTY n) ≠ 0 →
        s.becomes (.pwmCentre n)
          ((d.advanceTo (t + (if d.u (Obj.PWM_ALIGN n) = 1 then d.u (Obj.PWM_PERIOD n) else d.u (Obj.PWM_DUTY n)) / 2)).triggerAll
            (2 + 2 * n))) ∧
      ((d.u (Obj.PWM_DUTY n) = 0 ∨ (d.pwmOf n).start = none) → s.becomes (.pwmCentre n) d))

/-- The duty of a PWM channel by device state, and when its pin is low (R260). -/
def Obligations.PwmFollowsTheState : Prop :=
  (∀ (d : Dev) (n : Nat), n < 2 →
    let inForce := F32.le F32.zero (d.f (Obj.PWM_FIXED n)) && F32.le (d.f (Obj.PWM_FIXED n)) F32.one
    let held := (d.pwmOf n).duty
    let running := match d.writerOf (0x31 + n), d.engine.outs.getD (1 + n) none with
      | some _, some e =>
        if e.failed then (if d.u (Obj.PWM_FAULT_ACTION n) = 0 then held else d.f (Obj.PWM_SAFE n)) else e.value
      | _, _ => d.f (Obj.PWM_SAFE n)
    (d.start.configured = false → d.pwmPin n = false) ∧
    (d.device.state = .starting → d.pwmPending n = d.f (Obj.PWM_SAFE n)) ∧
    (d.device.state = .run → d.pwmPending n = running) ∧
    (d.device.state = .hold → d.pwmPending n = held) ∧
    (d.device.state = .config →
      d.pwmPending n = if d.u (Obj.PWM_CONFIG_ACTION n) = 0 then held else d.f (Obj.PWM_SAFE n)) ∧
    (d.device.state = .service → d.pwmPending n = if inForce then d.f (Obj.PWM_FIXED n) else running) ∧
    (d.device.state = .safe → d.pwmPending n = d.f (Obj.PWM_SAFE n)) ∧
    (d.on (Obj.PWM_ENABLE n) = false → d.pwmPin n = false)) ∧
  (∀ (s : State) (kind : KeeperFault), s.after (.keeperFault kind) fun e => ∀ n, n < 2 → e.pwmPin n = false)

/-! ### Chapters 10 and 11 -/

/-- An event (R267, R273, R274, R338): it is counted and becomes EVENT_LAST; one that EVENT_MASK records is one more EVENT entry of
EVENT_STREAM in the buffer, with its code and data; one that EVENT_MASK leaves out makes none; before recovery it is held. A
refusal at source (R273): an event whose stream's rate count is full is not recorded, STREAM_REFUSED counts it, and REFUSED is set
in ENTRY_FLAGS; where the flag was set before, nothing more is raised. -/
def Obligations.EventsAreCountedAndRecorded : Prop :=
  (∀ (d : Dev) (code : Nat) (data : List Byte), let e := d.raise code data
      (d.start.recovered = true → bit (d.u Obj.EVENT_MASK) (code / 4096) = false →
        e.u Obj.EVENT_COUNT = (d.u Obj.EVENT_COUNT + 1) % 2 ^ 32 ∧
        e.get Obj.EVENT_LAST = .bytes (u64 d.courseNs ++ (u16 code ++ u8 data.length ++ u8 0 ++ data)) ∧
        e.ledger = d.ledger ∧ Dev.registersBut [Obj.EVENT_COUNT.key, Obj.EVENT_LAST.key] d e) ∧
      (d.start.recovered = true → bit (d.u Obj.EVENT_MASK) (code / 4096) = true →
        d.rateCount (d.u Obj.EVENT_STREAM) < d.u (Obj.STREAM_RATE_MAX (d.u Obj.EVENT_STREAM)) →
        d.ledger.burst.getD (d.u Obj.EVENT_STREAM) 0 < d.u (Obj.STREAM_BURST (d.u Obj.EVENT_STREAM)) →
        d.bufferFill + 32 + data.length ≤ 16384 → d.heldByLog (d.u Obj.EVENT_STREAM) = false →
        e.u Obj.EVENT_COUNT = (d.u Obj.EVENT_COUNT + 1) % 2 ^ 32 ∧
        (∃ x, e.ledger.buffer = d.ledger.buffer ++ [.entry x] ∧ x.type = .event ∧ x.stream = d.u Obj.EVENT_STREAM ∧
          x.time = d.courseNs ∧ x.sync = d.syncQuality ∧ x.payload = u16 code ++ u8 data.length ++ u8 0 ++ data) ∧
        e.ledger.log = d.ledger.log ∧ e.ledger.clients = d.ledger.clients ∧
        Dev.registersBut [Obj.EVENT_COUNT.key, Obj.EVENT_LAST.key] d e) ∧
      (d.start.recovered = false →
        e.live = d.live ∧ e.ledger = d.ledger ∧ e.device.heldEvents = d.device.heldEvents ++ [(code, data)])) ∧
  (∀ (d : Dev) (code : Nat) (data : List Byte), let k := d.u Obj.EVENT_STREAM
      d.start.recovered = true → bit (d.u Obj.EVENT_MASK) (code / 4096) = true → bit (d.u Obj.ENTRY_FLAGS) 0 = true → k < 8 →
      d.u (Obj.STREAM_RATE_MAX k) ≤ d.rateCount k →
      let e := d.raise code data
      e.u (Obj.STREAM_REFUSED k) = (d.u (Obj.STREAM_REFUSED k) + 1) % 2 ^ 32 ∧
      e.u Obj.EVENT_COUNT = (d.u Obj.EVENT_COUNT + 1) % 2 ^ 32 ∧ bit (e.u Obj.ENTRY_FLAGS) 0 = true ∧
      e.ledger = d.ledger)

/-- The serial-number comparison (R270), for two numbers of the width. -/
def Obligations.SerialNumberComparison : Prop :=
  ∀ (a b w : Nat), 0 < w → a < 2 ^ w → b < 2 ^ w → let d := (b + 2 ^ w - a) % 2 ^ w
    (d = 0 → serialCmp a b w = .equal) ∧ (0 < d → d < 2 ^ (w - 1) → serialCmp a b w = .before) ∧
    (2 ^ (w - 1) < d → serialCmp a b w = .after) ∧ (0 < d → d = 2 ^ (w - 1) → serialCmp a b w = .unordered) ∧
    (serialCmp a b w = .equal ↔ a = b) ∧ (serialCmp a b w = .before ↔ serialCmp b a w = .after)

/-- A write to a flag object (R336): every flag written 1 is cleared but those set in this tick; the others stay. -/
def Obligations.FlagsAreClearedByOnes : Prop :=
  ∀ (d : Dev) (r : Reg) (mask k : Nat), r.size = 2 → k < 16 → d.u r < 2 ^ 16 →
    bit ((d.clearFlags r mask).u r) k =
      (bit (d.u r) k && (!bit mask k || d.device.setNow.contains (r.key, k)))

/-- When an entry is formed UNATTESTED (R478): its other flags, and all else of it, stay. -/
def Obligations.UnattestedEntries : Prop :=
  ∀ (d : Dev) (e : Entry),
    (bit (d.formed e).flags 0 = true ↔
      (d.u (Obj.ATTEST_WINDOW e.stream) = 0 ∨ d.u Obj.IDENTITY_STATE = 0 ∨ d.u Obj.IDENTITY_STATE = 3)) ∧
    (∀ k, 0 < k → bit (d.formed e).flags k = bit e.flags k) ∧ { d.formed e with flags := e.flags } = e

/-- The commands of chapter 10 (R273, R279, R282, R283): the end of a rate-counted hour, a withdrawal, a retransmission timeout, the
eighth of which stalls the subscription, and an acknowledgement that is to be committed. A state change that is due at the end of its 8 ms on the angle course (R333): the
device changes its state, no transition is pending, and the request that asked for it is answered 0x00 OK. -/
def Obligations.EntryCommands : Prop :=
  (∀ s : State, let d := s.dev.cleared
      (∀ (k : Fin 8) t rest, d.ledger.rate.getD k [] = t :: rest →
        let a := d.advanceTo (rest.foldl min t)
        s.becomes (.rateCountExpiry k)
          (a.setLedger fun l => { l with rate := l.rate.modify k fun r => r.filter fun t => decide (a.course.elapsed < t) })) ∧
      (∀ p es cs, d.ledger.group = none → d.ledger.buffer = [.request p es cs] → (Item.request p es cs).withdrawable = true →
        d.device.appRunning = true → p.joined = [] →
        let a := (d.advanceTo (p.arrived + d.u Obj.ACK_WAIT * 65536)).setLedger fun l => { l with buffer := [] }
        s.becomes .requestWithdrawn
          ((((a.bump Obj.REQ_WITHDRAWN).setFlag Obj.ENTRY_FLAGS 1).raise 0x5002 (u16 p.rq.client.toNat ++ u32 p.rq.id.toNat)).reply
            ⟨p.rq.via, p.rq.client.toNat, p.rq.id.toNat, 0x0C, 0, 255, []⟩).drainOutside) ∧
      (∀ (u : Fin 16) t, (d.sub u).timer = some t → d.on (Obj.SUB_ENABLE u) = true → d.outstanding u = true →
        d.u (Obj.SUB_STATE u) = 1 →
        let a := d.advanceTo (t + d.u (Obj.SUB_RTO u) * 65536)
        let e := (a.setSub u fun x => { x with
          timer := some a.course.elapsed, timeouts := (d.sub u).timeouts + 1, resend := true }).bump (Obj.SUB_RETX u)
        s.becomes (.subRtoExpiry u)
          ((if (d.sub u).timeouts + 1 = 8
            then ((e.put (Obj.SUB_STATE u) 2).setFlag Obj.ENTRY_FLAGS 2).raise 0x5004 (u8 u ++ u64 (d.u (Obj.SUB_ACKED u)))
            else e).deliverSub u)) ∧
      (∀ u : Fin 16, d.u (Obj.SUB_ACKED u) ≠ (d.sub u).committed → d.on (Obj.SUB_ENABLE u) = true →
        let a := d.advanceTo ((d.sub u).lastCommit + d.u Obj.ACK_PERSIST * 65536000)
        s.becomes (.ackPersistExpiry u)
          ((a.bufferWait (.acked u (d.u (Obj.SUB_ACKED u)) a.course.elapsed)).setSub u fun x => { x with
            lastCommit := a.course.elapsed }))) ∧
  (∀ s : State, let d := s.dev.cleared
      (∀ p, d.device.pending = some p → d.angle = true → p.target ≠ .safe → d.device.state ≠ .config →
        let a := ((d.advanceTo (p.accepted + 8 * 65536)).setDevice fun v => { v with pending := none }).put Obj.STATE_PENDING 0xFF
        s.becomes .stateTransitionTimeout ((a.changeState p.target p.rq.client.toNat).answerAll p.rq p.joined 0 0 p.pos p.values)) ∧
      (d.device.pending = none → s.becomes .stateTransitionTimeout d))

/-- The commands of the ledger store (R291, R292, R296, R297, R300, R302, R308, R310): a round programs the next page of the group's
plan, in both banks, at the next place of its region's order. A page that fails its test is retired (R308): its region has one page
less, PAIRS_RETIRED counts it, 0x5016 names it; a pair of COPY leaves its records to others. -/
def Obligations.LedgerStoreCommands : Prop :=
  (∀ s : State, let d := s.dev.cleared
      (d.angle = true → d.stopped = false → d.start.recovered = true →
        let a := d.advanceTo (d.ledger.groupTimer + 8 * 65536)
        s.becomes .angleGroupTimer (a.setLedger fun l => { l with groupTimer := a.course.elapsed }).formGroups) ∧
      (∀ g t image, d.ledger.group = some g → d.groupHeld g = false → g.plan[g.done.length]? = some (t, image) →
        let place := d.inService t.order.1 t.order.2 t.order.2 (g.heads.of t)
        let pair := t.order.1 + place % t.order.2
        let e := (d.program pair image).bump (Obj.REGION_PROGRAMS (regionOf pair))
        let h := { g with
          left := g.left - 1, done := g.done ++ [pair], heads := g.heads.take t place
          logAt := if t = .log then g.logAt ++ [place] else g.logAt }
        s.becomes .nvmRoundDone
          (if 1 < g.left then e.setLedger fun l => { l with group := some h } else e.sealGroup h)) ∧
      (∀ g, d.ledger.group = some g → d.groupHeld g = true → s.becomes .nvmRoundDone d) ∧
      (d.ledger.group = none → s.becomes .nvmRoundDone d) ∧
      (∀ a, (d.ledger.applies.find? fun x => !x.selected) = some a → a.rest = [] → d.bufferFill + 15 ≤ 16384 →
        s.becomes .applyFeed ((d.buffer (.selector a.kind)).setApply a.kind fun x => { x with selected := true })) ∧
      (∀ a, (d.ledger.applies.find? fun x => !x.selected) = some a → a.rest ≠ [] → d.nextPart a.rest ≠ [] →
        s.becomes .applyFeed ((d.buffer (.applyPart a.kind (d.nextPart a.rest))).setApply a.kind fun x => { x with
          rest := x.rest.drop (d.nextPart a.rest).length })) ∧
      (∀ a, (d.ledger.applies.find? fun x => !x.selected) = some a → a.rest ≠ [] → d.nextPart a.rest = [] →
        s.becomes .applyFeed d) ∧
      s.becomes .ringPersistExpiry (d.advanceTo (d.ledger.ringCommit + d.u Obj.RING_PERSIST * 65536000)).ringCommit ∧
      (∀ bank pair, s.becomes (.nvmError bank pair)
        ((d.bump Obj.NVM_ERRORS).setLedger fun l => { l with testing := l.testing ++ [(bank.val, pair.val)] })) ∧
      (d.ledger.testing = [] → ∀ buffer page, s.becomes (.nvmTestDone buffer page) d) ∧
      (∀ bank pair rest, d.ledger.testing = (bank, pair) :: rest →
        let e := d.setLedger fun l => { l with testing := rest }
        s.becomes (.nvmTestDone true true) ((e.bump Obj.NVM_TRANSIENT).raise 0x5015 (u8 bank ++ u16 pair)) ∧
        s.becomes (.nvmTestDone true false) (e.retirePair bank pair) ∧
        (d.ledger.banksRetired.getD bank false = false → ∀ page,
          s.becomes (.nvmTestDone false page)
            (((e.setLedger fun l => { l with banksRetired := l.banksRetired.set bank true }).setFlag Obj.NVM_FLAGS 5).raise 0x5017
              (u8 bank)))) ∧
      (d.ledger.margin = false → d.ledger.group = none → d.thermal.level = 0 →
        let a := d.advanceTo (d.ledger.marginAt + d.u Obj.MARGIN_INTERVAL * 86400 * 65536000)
        s.becomes .marginPassStart (a.setLedger fun l => { l with margin := true, marginAt := a.course.elapsed })) ∧
      ((d.ledger.margin = true ∨ d.ledger.group ≠ none ∨ d.thermal.level ≠ 0) → s.becomes .marginPassStart d) ∧
      (d.ledger.margin = false → ∀ n, s.becomes (.marginPassEnd n) d) ∧
      (∀ n, d.ledger.margin = true →
        let e := (((d.setLedger fun l => { l with margin := false }).add Obj.PAGES_REFRESHED n).put Obj.MARGIN_LAST
          d.courseNs).bufferInternal .values [Obj.MARGIN_LAST.write d.courseNs]
        s.becomes (.marginPassEnd n) (if 0 < n then (e.setFlag Obj.NVM_FLAGS 8).raise 0x501A (u32 n) else e))) ∧
  (∀ (d : Dev) (bank pair : Nat),
      ((d.ledger.retiredPairs.any fun x => x.2 == pair) = true → d.retirePair bank pair = d) ∧
      ((d.ledger.retiredPairs.any fun x => x.2 == pair) = false →
        (d.ledger.retiredPairs.filter fun p => p.1 == bank).length < 64 →
        let e := (((d.bump Obj.PAIRS_RETIRED).flagRaise Obj.NVM_FLAGS 4 0x5016 (u8 bank ++ u16 pair)).setLedger fun l => { l with
          retiredPairs := l.retiredPairs ++ [(bank, pair)] }).countPages
        let f := (e.put Obj.LEDGER_CYCLE_BUDGET e.cycleBudget).checkLife
        d.retirePair bank pair = if 768 ≤ pair ∧ pair < 6400 then f.moveRecords pair else f)) ∧
  (∀ (d : Dev) (r : Nat), r < 4 → d.countPages.u (Obj.REGION_PAGES r) =
      [256, 512, 5632, 9984].getD r 0 -
        ((d.ledger.retiredPairs.map Prod.snd).filter fun p => regionOf p == r).eraseDups.length)

/-! ### Chapter 12 -/

/-! ### Chapter 13 -/

/-- The links (R346–R348): a link that comes up with the amplitude that PORT_MODE forces or autonegotiation has selected, or goes
down, an error burst and its self-test of 20 ms, and PoDL, whose power goes with its source. -/
def Obligations.LinkCommands : Prop :=
  ∀ (s : State) (p : Port), let d := s.dev.cleared
    let n := p.no
    (d.portUsable n = true → d.u (Obj.LINK_STATE n) ≠ 2 → ∀ amplitude : BitVec 8,
      let shown := if n = 2 then 0 else match d.u (Obj.PORT_MODE n) with | 1 => 1 | 2 => 2 | _ => amplitude.toNat
      let e := ((d.put (Obj.LINK_STATE n) 2).put (Obj.LINK_AMPLITUDE n) shown).setPort n fun v => { v with
        missed := 0, returned := false, free := d.course.elapsed, exchanges := 0, sync := none, asked := d.course.elapsed }
      s.becomes (.linkUp p amplitude) (((e.raise 0x6001 (u8 n ++ u8 shown)).updateRing).checkPaths).deliver) ∧
    (d.u (Obj.LINK_STATE n) ≠ 0 →
      let e := ((d.put (Obj.LINK_STATE n) 0).put (Obj.LINK_AMPLITUDE n) 0).setPort n fun v => { v with
        waiting := [], sending := none }
      s.becomes (.linkDown p) (((e.setFlag Obj.PORT_FLAGS 0).raise 0x6002 (u8 n)).updateRing.checkPaths).deliver) ∧
    (∀ k, d.u Obj.PHY_ERR_LIMIT < k → (d.port n).testing = none → d.portUsable n = true →
      s.becomes (.phyErrorBurst p k)
        ((d.setPort n fun v => { v with testing := some d.course.elapsed, waiting := [], sending := none }).updateRing).checkPaths) ∧
    (∀ k, k ≤ d.u Obj.PHY_ERR_LIMIT → s.becomes (.phyErrorBurst p k) d) ∧
    (∀ t, (d.port n).testing = some t →
      let e := (d.advanceTo (t + 20 * 65536)).setPort n fun v => { v with testing := none }
      let mask := setBit (d.u Obj.PORTS_RETIRED) n
      s.becomes (.phySelfTestDone p true)
        (((e.bump (Obj.PHY_TRANSIENT n)).raise 0x6005 (u8 n)).updateRing).checkPaths ∧
      s.becomes (.phySelfTestDone p false)
        (((((e.put Obj.PORTS_RETIRED mask).bufferInternal .retired
          [Obj.PORTS_RETIRED.write (clearMask mask (d.device.unretired % 8))]).setFlag Obj.PORT_FLAGS 6).raise 0x6006
            (u8 n)).linkDown n)) ∧
    (∀ q : RingPort, s.becomes (.podlPowerAccepted q)
      (((d.put (Obj.PODL_STATE q.no) 3).put (Obj.PODL_CLASS q.no) 10).raise 0x6007 (u8 q.no ++ u8 10))) ∧
    (∀ q : RingPort, s.becomes (.podlPowerLost q)
      (((((d.put (Obj.PODL_STATE q.no) 0).put (Obj.PODL_CLASS q.no) 0xFF).setFlag Obj.PORT_FLAGS 8).raise 0x6008
        (u8 q.no)).sourceGone (q.no + 1) (d.f (Obj.SRC_VOLTAGE (q.no + 1)))))

/-- A frame from the shore link (R351, R354): a whole one of at most 1518 bytes, 1522 with a tag, whose source is one of the sixteen
addresses that the RedBox proxies or can still take up, and whose destination is neither the device nor one of them, leaves on A and
B with its HSR and priority tags, and its own copies from the ring are discarded for 400 ms; one that the ring cannot carry is
counted and reported once; a damaged or longer one is an error; the others go no further. -/
def Obligations.ShoreFrames : Prop :=
  ∀ (s : State) (f : ShoreFrame), let d := s.dev.cleared
    let longest := if f.tagged then 1522 else 1518
    let a := d.bump (Obj.RX_FRAMES 2)
    let known := d.net.proxies.contains f.source
    let e := if known then a else a.setNet fun n => { n with proxies := n.proxies ++ [f.source] }
    (d.portUp 2 = false → s.becomes (.redboxFrameRx f) d) ∧
    (d.portUp 2 = true →
      ((f.intact = false ∨ longest < f.size) → s.becomes (.redboxFrameRx f) (d.bump (Obj.RX_ERRORS 2))) ∧
      (f.intact = true → f.size ≤ longest →
        (f.dest = d.mac → s.becomes (.redboxFrameRx f) a) ∧
        (f.dest ≠ d.mac → known = false → 16 ≤ d.net.proxies.length → s.becomes (.redboxFrameRx f) a) ∧
        (f.dest ≠ d.mac → (known = true ∨ d.net.proxies.length < 16) →
          (e.net.proxies.contains f.dest = true → s.becomes (.redboxFrameRx f) e) ∧
          (e.net.proxies.contains f.dest = false → 512 < shoreRingSize f →
            s.becomes (.redboxFrameRx f) ((e.bump Obj.OVERSIZE_DROPPED).flagFirst Obj.PORT_FLAGS 5 0x600D [])) ∧
          (e.net.proxies.contains f.dest = false → shoreRingSize f ≤ 512 →
            s.becomes (.redboxFrameRx f)
              ((e.putDup ⟨f.source, e.net.sequence, e.course.elapsed + 400 * 65536, true, true, true⟩).sendRing
                ⟨.transit, if f.ptp then .time else .best, false, shoreRingSize f, d.course.elapsed, f.data, false⟩)))))

/-- The ring (R350–R356, R359): damaged frames, frames on their way, the supervision of the ring, what a frame's end releases, and the
alarm window, at whose end each alarm frame left over is counted. -/
def Obligations.RingCommands : Prop :=
  ∀ s : State, let d := s.dev.cleared
    (∀ (q : RingPort) (f : RingFrame), d.portUp q.no = true → (f.intact = false ∨ oversizeFrame f = true) →
      s.becomes (.hsrFrameRx q f) (d.bump (Obj.RX_ERRORS q.no)).deliver) ∧
    (∀ (q : RingPort) (f : RingFrame), d.portUp q.no = true → f.intact = true → oversizeFrame f = false → f.source = d.mac →
      let a := d.bump (Obj.RX_FRAMES q.no)
      s.becomes (.hsrFrameRx q f)
        (if f.supervision then (a.setPort q.no fun v => { v with missed := 0, returned := true }).updateRing else a).deliver) ∧
    (∀ (q : RingPort) (f : RingFrame), d.portUp q.no = true → f.intact = true → oversizeFrame f = false →
      f.source ≠ d.mac →
      let g : Frame := ⟨.transit, if f.supervision then .time else queueOfPcp f.pcp, false, f.size, d.course.elapsed, f.data, false⟩
      let a := d.bump (Obj.RX_FRAMES q.no)
      s.becomes (.hsrFrameRx q f) ((a.relay q.no f g).deliverRing f g).deliver) ∧
    (∀ e rest, d.net.dup = e :: rest →
      let a := d.advanceTo e.expiry
      s.becomes .hsrDupExpiry (a.setNet fun n => { n with
        dup := (e :: rest).filter fun x => decide (a.course.elapsed < x.expiry) })) ∧
    (d.start.configured = true → d.stopped = false → d.device.state ≠ .starting →
      let a := (d.advanceTo (d.net.supervised + d.u Obj.HSR_SUPERVISION_INTERVAL * 65536)).updateRing
      let b := ((a.setPort 0 fun v => { v with missed := v.missed + 1 }).setPort 1 fun v => { v with
        missed := v.missed + 1 }).setNet fun n => { n with supervised := a.course.elapsed }
      s.becomes .hsrSupervisionTx
        (b.sendRing ⟨.supervision, .time, false, 74, a.course.elapsed, beBytes 2 b.net.sequence, false⟩).deliver) ∧
    (∀ (p : Port) x, (d.port p.no).sending = some x →
      s.becomes (.frameTxEnd p)
        ((((d.advanceTo x.stop).setPort p.no fun v => { v with
          sending := none, free := x.stop + byteTicks p.no 12 }).frameSent p.no x).pump p.no)) ∧
    (∀ p : Port, (d.port p.no).sending = none → s.becomes (.frameTxEnd p) d) ∧
    (d.course.running = true →
      let a := d.advanceTo (d.course.strokeStart + alarmWindowTicks)
      ((∀ p, p < 3 → ((a.port p).waiting.filter fun f => f.queue == .alarm && a.alarmDue f) = []) →
        s.becomes .alarmWindowClose a) ∧
      s.after .alarmWindowClose fun e => e.u Obj.ALARM_DEFERRED = (d.u Obj.ALARM_DEFERRED +
        ((List.range 3).map fun p => ((a.port p).waiting.filter fun f => f.queue == .alarm && a.alarmDue f).length).sum) % 2 ^ 32) ∧
    (d.course.running = true →
      s.becomes .alarmGuardEnd
        ((((d.advanceTo (d.course.strokeStart + alarmGuardEnd)).pump 0).pump 1).pump 2))

/-- PTP (R360, R361): the better master of the domain becomes grandmaster, and its change is reported once; one whose class is
beyond PTP_MAX_CLASS and that is not the present one is passed over; delay messages keep the port's delay. -/
def Obligations.PtpCommands : Prop :=
  ∀ (s : State) (p : Port), let d := s.dev.cleared
    (∀ m : Announce, d.portUp p.no = true → m.domain.toNat = d.u Obj.PTP_DOMAIN →
      m.clockClass.toNat ≤ d.u Obj.PTP_MAX_CLASS → d.prefersMaster m = true →
      let e := (((d.setNet fun n => { n with grandmaster := some (datasetOf m) }).put Obj.GM_IDENTITY m.grandmaster.toNat).put
        Obj.GM_CLASS m.clockClass.toNat).noteTimescale p !m.ptpTimescale
      s.becomes (.ptpAnnounceRx p m)
        (if d.u Obj.GM_IDENTITY = m.grandmaster.toNat then e
          else (e.setFlag Obj.PORT_FLAGS 7).raise 0x6009 (u64 m.grandmaster.toNat ++ u8 m.clockClass.toNat))) ∧
    (∀ m : Announce, m.domain.toNat ≠ d.u Obj.PTP_DOMAIN → s.becomes (.ptpAnnounceRx p m) d) ∧
    (∀ m : Announce, d.portUp p.no = true → m.domain.toNat = d.u Obj.PTP_DOMAIN →
      d.u Obj.PTP_MAX_CLASS < m.clockClass.toNat → d.net.grandmaster.map masterOf = some m.grandmaster.toNat →
      s.becomes (.ptpAnnounceRx p m)
        ((d.sourceLost (if p = .S then .ptpS else .ptpRing)).setNet fun n => { n with grandmaster := none })) ∧
    (∀ m : Announce, d.u Obj.PTP_MAX_CLASS < m.clockClass.toNat →
      d.net.grandmaster.map masterOf ≠ some m.grandmaster.toNat → s.becomes (.ptpAnnounceRx p m) d) ∧
    (∀ m : PtpSync, d.ptpReady p = true →
      let a := d.advanceTo m.ingress
      let b := a.passSync p m.source.toNat m.sequence.toNat m.ingress
        (if m.twoStep then none else some (m.origin, m.correction))
      (b.fromMaster m.domain m.source = true → -4 ≤ m.interval → m.interval ≤ 0 →
        s.becomes (.ptpSyncRx p m)
          (if m.twoStep then b.setPort p.no fun v => { v with
              sync := some ⟨m.sequence.toNat, m.source.toNat, m.ingress, a.nsAt m.ingress, m.correction⟩ }
            else b.syncSample p m.origin m.correction (a.nsAt m.ingress))) ∧
      ((b.fromMaster m.domain m.source = false ∨ m.interval < -4 ∨ 0 < m.interval) → s.becomes (.ptpSyncRx p m) b)) ∧
    (d.ptpReady p = false → ∀ m, s.becomes (.ptpSyncRx p m) d) ∧
    (∀ m : PtpFollowUp, d.ptpReady p = true → d.net.bridges = [] → ∀ x, (d.port p.no).sync = some x →
      x.sequence = m.sequence.toNat → x.identity = m.source.toNat → d.fromMaster m.domain m.source = true →
      s.becomes (.ptpFollowUpRx p m)
        ((d.setPort p.no fun v => { v with sync := none }).syncSample p m.origin (m.correction + x.correction) x.stamp)) ∧
    (d.portUp p.no = true →
      let k := d.i Obj.PTP_LOG_PDELAY
      let a := d.advanceTo ((d.port p.no).asked + (if k < 0 then 65536000 / 2 ^ (-k).toNat else 65536000 * 2 ^ k.toNat))
      s.becomes (.pdelayReqTx p)
        ((a.setPort p.no fun v => { v with asked := a.course.elapsed }).enqueue p.no
          ⟨.own, .time, false, pdelaySize p.no, a.course.elapsed, u8 2, false⟩)) ∧
    (d.portUp p.no = false → s.becomes (.pdelayReqTx p) d) ∧
    s.becomes (.pdelayReqRx p)
      ((d.enqueue p.no ⟨.own, .time, false, pdelaySize p.no, d.course.elapsed, u8 3, false⟩).enqueue p.no
        ⟨.own, .time, false, pdelaySize p.no, d.course.elapsed, u8 10, false⟩) ∧
    (∀ k : Int, d.portUp p.no = true → s.becomes (.pdelayRespRx p k)
      ((d.setPort p.no fun v => { v with delay := k, exchanges := v.exchanges + 1 }).putI (Obj.PDELAY p.no) k)) ∧
    (∀ k : Int, d.portUp p.no = false → s.becomes (.pdelayRespRx p k) d)

/-- Addresses (R363, R364). -/
def Obligations.AddressCommands : Prop :=
  ∀ s : State, let d := s.dev.cleared
    (∀ a : List Byte, d.u Obj.IP_MODE ≠ 1 → d.start.configured = true → a.length = 8 →
      (d.net.addresses.any fun x => x.bytes == a ++ d.interfaceId) = false → d.net.addresses.length < 3 →
      s.becomes (.routerAdvertisementRx a)
        (d.setNet fun n => { n with addresses := n.addresses ++ [⟨a ++ d.interfaceId, 64, true⟩] })) ∧
    (∀ (p : Port) (m : NdMessage), d.answersOn p = true → d.u Obj.IP_MODE ≠ 1 → m.solicitation = false →
      s.becomes (.neighbourDiscoveryRx p m)
        (d.setNet fun n => { n with
          neighbours := (m.target, m.link.toNat) :: n.neighbours.filter fun x => x.1 != m.target })) ∧
    (∀ (p : Port) (t : BitVec 32), d.answersOn p = true → d.ownIpv4 t.toNat = true →
      s.becomes (.arpRx p t)
        (d.sendOwn p .best .own false 28
          (u16 1 ++ u16 0x0800 ++ u8 6 ++ u8 4 ++ u16 2 ++ beBytes 6 d.mac ++ u32 t.toNat ++ beBytes 10 0))) ∧
    (∀ (p : Port) (t : BitVec 32), d.ownIpv4 t.toNat = false → s.becomes (.arpRx p t) d) ∧
    (∀ (p : Port) (target data : List Byte), d.answersOn p = true → d.ownIpv6 target = true →
      s.becomes (.icmpEchoRx p 6 target data) (d.sendOwn p .best .own false (44 + data.length) (u8 129 ++ target ++ data))) ∧
    (∀ (p : Port) (target data : List Byte), d.ownIpv6 target = false → s.becomes (.icmpEchoRx p 6 target data) d) ∧
    (∀ a : List Byte, s.becomes (.dadComplete a true)
      (d.setNet fun n => { n with addresses := n.addresses.filter fun x => !(x.bytes == a && x.tentative) })) ∧
    (∀ a : List Byte, s.becomes (.dadComplete a false)
      (d.setNet fun n => { n with
        addresses := n.addresses.map fun x => if x.bytes == a then { x with tentative := false } else x }))

/-- A counter that a session has accepted is never accepted again (R369): not at once, and not after any further counter. The counters
that a session accepts (R369): above the highest accepted one minus 64, and not accepted before. -/
def Obligations.AcceptedCountersAreSpent : Prop :=
  ((∀ high seen c h v, counterStep high seen c = some (h, v) → counterStep h v c = none ∧ high ≤ h) ∧
    (∀ high seen c c' h v, counterStep high seen c = none → counterStep high seen c' = some (h, v) → counterStep h v c = none)) ∧
  (∀ high seen c, (counterStep high seen c).isSome = true ↔ (high < c + 64 ∧ (c ≤ high → bit seen (high - c) = false)))

/-- The handshake of a session (R370, R371): an OPEN that nothing refuses is answered with CHALLENGE; a CONFIRM under the session's
key opens it, and a second one is a replay; one under another key is an authentication failure; the session that the device itself
opens takes its number and key from CHALLENGE and goes on at ACCEPT. The nonce of CHALLENGE is a free value (log 6). What ends of
itself in a session (R368, R371): a message whose fragments stay away, a lockout, an idle session; a request in a session that is
not open is answered 0x09 AUTH in session 0. -/
def Obligations.SessionHandshake : Prop :=
  (∀ s : State, let d := s.dev.cleared
      (∀ (p : Port) (address : List Byte) (level : Fin 4) (keysel : BitVec 8) (no : BitVec 16) (nonce : List Byte) (n : Nat),
        d.device.appRunning = true → d.stopped = false → d.lockedOut address = false →
        d.openRefusal (.port p) level keysel.toNat no.toNat = none → d.sessionPlace = some n →
        let a := d.tickFresh
        let key := sessionKey (a.openKey level keysel.toNat) nonce (d.random 16) (a.b Obj.SERIAL_NUMBER) (n + 1)
        s.becomes (.openRequest p address level keysel no nonce)
          ((a.setNet fun v => { v with sessions := v.sessions.set n (some
            ⟨clientOf (.port p) no.toNat, level, keysel.toNat, .port p, address, key, nonce, false, 0, 1, false, 0,
              d.course.elapsed, false, [], n + 1, .port p⟩) }).sendPlain (.port p) address 2 0
                (u16 (n + 1) ++ u16 0 ++ d.random 16))) ∧
      (∀ (p : Port) (address : List Byte) (level : Fin 4) (keysel : BitVec 8) (no : BitVec 16) (nonce : List Byte) (status : Nat),
        d.device.appRunning = true → d.stopped = false → d.lockedOut address = false →
        d.openRefusal (.port p) level keysel.toNat no.toNat = some status →
        s.becomes (.openRequest p address level keysel no nonce)
          (d.sendPlain (.port p) address 0x11 0 (replyBody 0 status 0xFF (if status = 0x06 then d.stateDetail else 0) []))) ∧
      (∀ (k : Fin 16) (x : Session) (mac address : List Byte), d.session k = some x → x.upstream = false →
        d.device.appRunning = true →
        (mac = woredMac x.key (woredHeader 3 0 0 x.number 0 0) [] →
          (x.confirmed = true → s.becomes (.confirm k 0 mac address) (d.bump Obj.REPLAY_REJECTED)) ∧
          (x.confirmed = false → s.becomes (.confirm k 0 mac address)
            (((d.setSession k fun y => { y with
              confirmed := true, isOpen := true, last := d.course.elapsed, seen := 1 }).sendHandshake k 4
              (u8 x.level ++ u8 0 ++ u16 (roomOf x.path x.address) ++ u16 (d.u Obj.SESSION_IDLE))).sessionsChanged.deliver))) ∧
        (mac ≠ woredMac x.key (woredHeader 3 0 0 x.number 0 0) [] →
          s.becomes (.confirm k 0 mac address)
            (((d.bump Obj.AUTH_FAILURES).flagFirst Obj.PORT_FLAGS 2 0x600C address).confirmFailed address))) ∧
      (∀ (k : Fin 16) (nonce : List Byte) (n : Nat) (x : Session), d.upstreamSession = some n → d.capture.loc = .opening →
        d.session n = some x → x.number = 0 →
        s.becomes (.challenge k nonce)
          ((d.setSession n fun y => if y.number = 0 then { y with
              number := k.val + 1
              key := sessionKey d.net.ringKey y.nonceC nonce (d.b Obj.LOC_UP_SERIAL) (k.val + 1) } else y).sendHandshake n 3 [])) ∧
      (d.upstreamSession = none → ∀ k nonce, s.becomes (.challenge k nonce) d) ∧
      (∀ (k : Fin 16) (level : Fin 4) (room idle : BitVec 16) (mac : List Byte) (n : Nat) (x : Session),
        d.upstreamNumber (k.val + 1) = some n → d.session n = some x →
        let body := u8 level ++ u8 0 ++ u16 room.toNat ++ u16 idle.toNat
        mac = woredMac x.key (woredHeader 4 0 0 x.number body.length 0) body →
        (x.confirmed = true → s.becomes (.accept k level room idle mac) (d.bump Obj.REPLAY_REJECTED)) ∧
        (x.confirmed = false →
          let a := ((d.setSession n fun y => { y with
            confirmed := true, isOpen := true, last := d.course.elapsed, seen := 1 }).setCapture
              fun c => { c with loc := .reading }).sessionsChanged.nextLocRequest
          s.becomes (.accept k level room idle mac)
            (a.sendMessage n 0x10 .own false .best 49840
              (u32 a.net.locRequest ++ u8 1 ++ u8 0 ++ u8 1 ++ u8 5 ++ u16 0x1000 ++ u16 0))))) ∧
  (∀ (s : State) (k : Fin 16), let d := s.dev.cleared
      (∀ x f rest, d.session k = some x → x.fragments = f :: rest →
        s.becomes (.fragTimeout k)
          (((d.advanceTo (f.instant + 65536000)).setSession k fun y => { y with
            fragments := y.fragments.filter fun g => g.base != f.base }).bump Obj.FRAG_DROPPED)) ∧
      (∀ address x, (d.net.lockouts.find? fun y => y.1 == address) = some x →
        s.becomes (.openLockoutEnd address)
          ((d.advanceTo x.2).setNet fun v => { v with lockouts := v.lockouts.filter fun y => y.1 != address })) ∧
      (∀ x, d.session k = some x →
        s.becomes (.sessionIdle k) ((d.advanceTo (x.last + d.u Obj.SESSION_IDLE * 65536000)).closeSession k)) ∧
      (d.session k = none → d.device.appRunning = true → d.stopped = false → ∀ p address c mac body wp,
        s.becomes (.request k p address c mac ⟨0, 0, body⟩ wp)
          (d.sendPlain (.port p) address 0x11 0 (replyBody (ofBe (body.take 4)) 0x09 0xFF 0 []))))

/-- The frames of an open session (R281, R368, R369, R371–R373): one whose MAC is right and whose counter is acceptable moves the
session's window on and has its effect; one whose MAC is wrong is an authentication failure and nothing else; one whose counter
was accepted before is a replay and nothing else. The frames of the session that the device itself has open to the upstream
station (R202, R372). -/
def Obligations.SessionFrames : Prop :=
  (∀ (s : State) (k : Fin 16) (x : Session) (c : BitVec 32), let d := s.dev.cleared
      d.session k = some x → x.isOpen = true → x.upstream = false → d.device.appRunning = true → d.stopped = false →
      let key := fun kind body => woredMac x.key (woredHeader kind 0 0 x.number body.length c.toNat) body
      let badMac := (d.bump Obj.AUTH_FAILURES).flagFirst Obj.PORT_FLAGS 2 0x600C x.address
      (∀ h v, counterStep x.high x.seen c.toNat = some (h, v) →
        let a := d.setSession k fun y => { y with high := h, seen := v, last := d.course.elapsed }
        (∀ (p : Port) address body wp id ops, parseRequest body = some (id, ops) →
          s.becomes (.request k p address c (key 0x10 body) ⟨0, 0, body⟩ wp)
            ((a.setSession k fun y => { y with back := .port p }).request (x.request k id wp) (ops.map (unwrapOp x c.toNat)))) ∧
        (∀ body wp, body.length = 26 →
          let rq := x.request k (BitVec.ofNat 32 (ofBe (body.take 4))) wp
          (x.level < d.u Obj.SUB_LEVEL_MIN →
            s.becomes (.subscribe k c (key 0x20 body) ⟨0, 0, body⟩ wp) (a.answer rq 0x05 (2 * 2 ^ 24 + d.u Obj.SUB_LEVEL_MIN))) ∧
          (d.u Obj.SUB_LEVEL_MIN ≤ x.level → a.isRepeat x.client rq.id.toNat = false →
            (a.freeSub = none → s.becomes (.subscribe k c (key 0x20 body) ⟨0, 0, body⟩ wp) (a.answer rq 0x07 0)) ∧
            (∀ u, a.freeSub = some u →
              s.becomes (.subscribe k c (key 0x20 body) ⟨0, 0, body⟩ wp)
                (a.requestWith { rq with level := if x.level < 2 then 2 else rq.level } (subscribeOps u x body) [u8 u])))) ∧
        (∀ (u : Fin 16) (pos : BitVec 48),
          s.becomes (.ack k c (key 0x22 (u8 u ++ beBytes 3 0 ++ u64 pos.toNat)) u pos) ((a.acknowledge u pos.toNat).deliverSub u)) ∧
        s.becomes (.close k c (key 5 [])) (a.closeSession k)) ∧
      (counterStep x.high x.seen c.toNat = none →
        s.becomes (.close k c (key 5 [])) (d.bump Obj.REPLAY_REJECTED) ∧
        ∀ p address body wp, s.becomes (.request k p address c (key 0x10 body) ⟨0, 0, body⟩ wp) (d.bump Obj.REPLAY_REJECTED)) ∧
      (∀ mac, mac ≠ key 5 [] → s.becomes (.close k c mac) badMac) ∧
      (∀ p address mac body wp, mac ≠ key 0x10 body → s.becomes (.request k p address c mac ⟨0, 0, body⟩ wp) badMac)) ∧
  (∀ (s : State) (k : Fin 16) (n : Nat) (x : Session) (c : BitVec 32), let d := s.dev.cleared
      d.upstreamNumber (k.val + 1) = some n → d.session n = some x → x.isOpen = true → d.device.appRunning = true →
      d.stopped = false →
      ∀ h v, counterStep x.high x.seen c.toNat = some (h, v) →
      let a := d.setSession n fun y => { y with high := h, seen := v, last := d.course.elapsed }
      (∀ body, s.becomes (.reply k c (woredMac x.key (woredHeader 0x11 0 0 x.number body.length c.toNat) body) ⟨0, 0, body⟩)
        (a.locReply n body)) ∧
      (∀ body e rest, parseEntries (ofBe ((body.drop 1).take 1)) (body.drop 4) = e :: rest →
        s.becomes (.delivery k c (woredMac x.key (woredHeader 0x21 0 0 x.number body.length c.toNat) body) ⟨0, 0, body⟩)
          (((e :: rest).foldl (fun d e => d.upstreamEntry e) a).sendMessage n 0x22 .own false .best 49840
            (body.take 1 ++ beBytes 3 0 ++ u64 (((e :: rest).getLast (by simp)).2.1)))))

/-- Publications and the ring keys (R374, R470). -/
def Obligations.PublicationsAndRingKeys : Prop :=
  ∀ s : State, let d := s.dev.cleared
    (∀ (q : RingPort) (f : PubFrame), d.portUp q.no = false → s.becomes (.publish q f) d) ∧
    (∀ (q : RingPort) (f : PubFrame) key h v, d.portUp q.no = true → f.frame.source ≠ d.mac →
      (d.dupOf f.frame.source f.frame.sequence).delivered = false → f.frame.intact = true → oversizeFrame f.frame = false →
      let a := d.hsrFrame q.no f.frame
      a.ringKeyOf f.epoch.toNat = some key →
      f.mac = woredMac (publicationKey key f.frame.source f.epoch.toNat)
        (woredHeader 0x30 0 0 f.epoch.toNat f.body.length f.counter.toNat) f.body →
      (a.net.pubSeen.find? fun x => x.1 == f.frame.source) = none → counterStep 0 0 f.counter.toNat = some (h, v) →
      s.becomes (.publish q f)
        (a.setNet fun n => { n with pubSeen := (f.frame.source, (h, v)) :: n.pubSeen.filter fun x => x.1 != f.frame.source })) ∧
    (d.b Obj.RING_KEY_NEXT ≠ [] → d.u Obj.RING_SWITCH_AT ≠ 0 →
      let a := d.advance (d.ticksUntil (d.u Obj.RING_SWITCH_AT))
      let old := d.u Obj.RING_EPOCH
      let next := d.b Obj.RING_KEY_NEXT
      let b := ((a.setNet fun n => { n with
        ringBefore := some (old, n.ringKey, a.course.elapsed + 60 * 65536000), ringKey := next }).put Obj.RING_EPOCH (old + 1)).putB
          Obj.RING_KEY_NEXT []
      s.becomes .ringKeySwitch
        ((b.bufferInternal .values
          [⟨ringKeyKey, .bytes next⟩, Obj.RING_KEY_NEXT.writeB [], Obj.RING_EPOCH.write (old + 1)]).flagRaise Obj.SEC_FLAGS 8
            0x800A (u16 (b.u Obj.RING_EPOCH)))) ∧
    (∀ o key till, d.net.ringBefore = some (o, key, till) →
      s.becomes .ringEpochGraceEnd ((d.advanceTo till).setNet fun n => { n with ringBefore := none }))

/-! ### Chapter 14 -/

/-- The read commands of HART (R379, R380): where HART is served each is answered with code 0 and its data. What a response of HART
carries and changes (R383, R384): the command, its code, the device status of its master, and data where the code is 0; the
cold-start bit of that master goes out once. -/
def Obligations.HartReads : Prop :=
  (∀ (s : State) (m : Master), let d := s.dev.cleared
      let p := m.isPrimary
      d.hartServed = true →
      s.becomes (.readUniqueIdentifier m) (d.respond p 0 0 d.uidData) ∧
      (∀ tag, tag = packAscii (fillText 8 0x20 (d.b Obj.HART_TAG)) → s.becomes (.readUidByShortTag m tag) (d.respond p 11 0 d.uidData)) ∧
      (∀ tag, tag ≠ packAscii (fillText 8 0x20 (d.b Obj.HART_TAG)) → s.becomes (.readUidByShortTag m tag) d) ∧
      (∀ tag, tag = fillText 32 0 (d.b Obj.HART_LONG_TAG) → s.becomes (.readUidByLongTag m tag) (d.respond p 21 0 d.uidData)) ∧
      (∀ tag, tag ≠ fillText 32 0 (d.b Obj.HART_LONG_TAG) → s.becomes (.readUidByLongTag m tag) d) ∧
      s.becomes (.readPv m) (d.respond p 1 0 (u8 (d.unitOf (d.u Obj.LOOP_PV)) ++ f32b (d.valueOf (d.u Obj.LOOP_PV)))) ∧
      s.becomes (.readLoopCurrentAndPercent m) (d.respond p 2 0 (f32b (d.f Obj.LOOP_TARGET) ++ f32b d.percent)) ∧
      s.becomes (.readDynamicVariables m) (d.respond p 3 0 (f32b (d.f Obj.LOOP_TARGET) ++
        (d.dynamicVariables.takeWhile fun v => decide (v < 16)).flatMap fun v => u8 (d.unitOf v) ++ f32b (d.valueOf v))) ∧
      s.becomes (.readLoopConfiguration m) (d.respond p 7 0 (u8 (d.u Obj.HART_POLL_ADDR) ++ u8 (d.u Obj.HART_LOOP_MODE))) ∧
      s.becomes (.readDvClassifications m) (d.respond p 8 0 [0, 0, 0, 0]) ∧
      (∀ codes, s.becomes (.readDeviceVariables m codes) (d.respond p 9 0 (d.variablesData codes))) ∧
      s.becomes (.readMessage m) (d.respond p 12 0 (packAscii (fillText 32 0x20 (d.b Obj.HART_MESSAGE)))) ∧
      s.becomes (.readTagDescriptorDate m) (d.respond p 13 0 (packAscii (fillText 8 0x20 (d.b Obj.HART_TAG)) ++
        packAscii (fillText 16 0x20 (d.b Obj.HART_DESCRIPTOR)) ++ beBytes 3 (d.u Obj.HART_DATE))) ∧
      s.becomes (.readPvTransducerInfo m) (d.respond p 14 0 d.transducerData) ∧
      (∀ wp, let e := d.setDevice fun v => { v with wpLow := wp }
        s.becomes (.readDeviceInformation m wp) (e.respond p 15 0 e.deviceData)) ∧
      s.becomes (.readFinalAssemblyNumber m) (d.respond p 16 0 (beBytes 3 (d.u Obj.HART_FINAL_ASSY))) ∧
      s.becomes (.readLongTag m) (d.respond p 20 0 (fillText 32 0 (d.b Obj.HART_LONG_TAG))) ∧
      s.becomes (.readAdditionalDeviceStatus m) (d.respond p 48 0 d.statusData)) ∧
  (∀ (d : Dev) (primary : Bool) (command code : Nat) (data : List Byte), d.link.masters.length = 2 →
      let e := d.respond primary command code data
      e.device.responses = d.device.responses ++
        [⟨.hart primary, command, code, d.hartStatus (d.master primary), if code = 0 then data else []⟩] ∧
      (e.master primary).cold = false ∧ (e.master primary).changed = (d.master primary).changed ∧
      e.master (!primary) = d.master (!primary) ∧ e.live = d.live ∧ e.nvm = d.nvm ∧ e.ledger = d.ledger ∧ e.course = d.course ∧
      (bit (d.hartStatus (d.master primary)) 5 = (d.master primary).cold))

/-- What a write command of HART asks for (R380, R381): its master, number and data, the writes of its request, the level of WP_N,
and the response code of its data where they are none that can be written (5 too few bytes, 2 another unit). -/
def hartWriteOf (d : Dev) : Instr → Option (Bool × Nat × List Byte × List ReqOp × Bool × Nat)
  | .writePollingAddress m a mode =>
    some (m.isPrimary, 6, [a, mode], [.write 0x1640 1 [a], .write 0x1640 2 [mode]], d.device.wpLow, 0)
  | .writeMessage m text =>
    some (m.isPrimary, 17, text, [opOf Obj.HART_MESSAGE (plainText text 0 24)], d.device.wpLow, if text.length < 24 then 5 else 0)
  | .writeTagDescriptorDate m tag descriptor date => let b := tag ++ descriptor ++ date
    some (m.isPrimary, 18, b, [opOf Obj.HART_TAG (plainText tag 0 6), opOf Obj.HART_DESCRIPTOR (plainText descriptor 0 12),
      opOf Obj.HART_DATE (u32 (ofBe date))], d.device.wpLow, if b.length < 21 then 5 else 0)
  | .writeFinalAssemblyNumber m v =>
    some (m.isPrimary, 19, beBytes 3 v.toNat, [opOf Obj.HART_FINAL_ASSY (u32 v.toNat)], d.device.wpLow, 0)
  | .writeLongTag m tag =>
    some (m.isPrimary, 22, tag, [opOf Obj.HART_LONG_TAG (trimText 0 (tag.take 32))], d.device.wpLow, if tag.length < 32 then 5 else 0)
  | .writeRangeValues m unit urv lrv wp =>
    some (m.isPrimary, 35, u8 unit.toNat ++ f32b urv ++ f32b lrv, [opOf Obj.LOOP_RANGE (f32b lrv ++ f32b urv)], wp,
      if unit.toNat = d.unitOf (d.u Obj.LOOP_PV) then 0 else 2)
  | .enterExitFixedCurrent m x => some (m.isPrimary, 40, f32b x, [opOf Obj.LOOP_FIXED (f32b x)], d.device.wpLow, 0)
  | .trimLoopCurrentZero m x wp => some (m.isPrimary, 45, f32b x, [opOf Obj.LOOP_TRIM_ZERO_MEAS (f32b x)], wp, 0)
  | .trimLoopCurrentGain m x wp => some (m.isPrimary, 46, f32b x, [opOf Obj.LOOP_TRIM_SPAN_MEAS (f32b x)], wp, 0)
  | _ => none

/-- The write commands of HART (R380, R381): at HART_LEVEL L0 the answer is 16, of data that cannot be written 5 or 2; a write that
none of the last HART_REPEAT_TIME repeats becomes a request of CLIENT kind 0 at HART_LEVEL, with an ID of that master's counter
where it is journaled, and waits for its reply; a repeat of one that waits joins it, and one of a write that succeeded is answered
again and counted. -/
def Obligations.HartWrites : Prop :=
  ∀ (s : State) (c : Instr) (p : Bool) (command : Nat) (b : List Byte) (ops : List ReqOp) (wp : Bool) (bad : Nat),
    let d := s.dev.cleared
    let m := d.master p
    let same := fun w : HartWrite =>
      w.command = command ∧ w.data = b ∧ d.course.elapsed ≤ w.instant + d.u Obj.HART_REPEAT_TIME * 65536
    hartWriteOf d c = some (p, command, b, ops, wp, bad) → d.hartServed = true →
    (d.u Obj.HART_LEVEL ≠ 0 → bad ≠ 0 → s.becomes c (d.respond p command bad [])) ∧
    ((∀ w ∈ m.writes, ¬ same w) → d.u Obj.HART_LEVEL = 0 → s.becomes c (d.respond p command 16 [])) ∧
    ((∀ w ∈ m.writes, ¬ same w) → d.u Obj.HART_LEVEL ≠ 0 → bad = 0 →
      let j := d.hartJournaled ops
      let id := if j then m.counter else 0
      s.becomes c ((d.setMaster p fun x => { x with
        counter := if !j then x.counter else if x.counter + 1 = 2 ^ 32 then 1 else x.counter + 1
        writes := ⟨command, b, d.course.elapsed, id, some d.course.elapsed, none⟩ ::
          x.writes.filter fun w => w.code == none || decide (d.course.elapsed ≤ w.instant + d.u Obj.HART_REPEAT_TIME * 65536) }).request
        ⟨BitVec.ofNat 16 (if p then 1 else 0), ⟨d.u Obj.HART_LEVEL % 4, Nat.mod_lt _ (by decide)⟩, BitVec.ofNat 32 id, .hart p, wp⟩
        ops)) ∧
    (∀ w rest, m.writes = w :: rest → same w → bad = 0 →
      (w.code = none → s.becomes c (d.setMaster p fun x => { x with
        writes := x.writes.map fun y => if y.id = w.id ∧ y.code = none then { y with owed := some d.course.elapsed } else y })) ∧
      (w.code = some 0 → s.becomes c ((d.bump Obj.HART_REPEATS).respond p command 0 b)))

/-- The configuration-changed and cold-start bits (R383): every accepted write of a P or PC object sets both masters' bits and
counts; command 38 clears the bit of the master that sends it; after a whole-device reset the first response to each master carries
the cold-start bit. -/
def Obligations.ConfigurationChangedBits : Prop :=
  (∀ (d : Dev) (ws : List Write), d.link.masters.length = 2 →
    let n := (ws.filter fun w => match d.cardAt (w.key / 256) (w.key % 256) with
      | some c => c.persist = .P || c.persist = .PC
      | none => false).length
    (0 < n → (d.noteConfigChanged ws).u Obj.CONFIG_CHANGED_COUNT = (d.u Obj.CONFIG_CHANGED_COUNT + n) % 2 ^ 16 ∧
      ∀ p, ((d.noteConfigChanged ws).master p).changed = true) ∧
    (n = 0 → d.noteConfigChanged ws = d)) ∧
  (∀ (s : State) (m : Master), s.dev.hartServed = true → s.dev.link.masters.length = 2 →
    s.after (.resetConfigChangedFlag m) fun e =>
      (e.master m.isPrimary).changed = false ∧ (e.master !m.isPrimary).changed = (s.dev.master !m.isPrimary).changed ∧
      e.u Obj.CONFIG_CHANGED_COUNT = s.dev.u Obj.CONFIG_CHANGED_COUNT) ∧
  (∀ (d : Dev) (cause detail : Nat) (p : Bool), d.link.masters.length = 2 →
    ((d.wholeReset cause detail).master p).cold = true) ∧
  (∀ (d : Dev) (p : Bool) (command code : Nat) (data : List Byte), d.link.masters.length = 2 →
    bit (d.hartStatus (d.master p)) 5 = (d.master p).cold ∧ ((d.respond p command code data).master p).cold = false)

/-- The variable status byte of command 9 (R385). -/
def Obligations.VariableStatusByte : Prop :=
  ∀ status : Nat, let b := variableStatus status
    (catOf status = 4 → b / 64 = 0) ∧ (catOf status = 2 → b / 64 = 1) ∧ (catOf status = 3 → b / 64 = 2) ∧
    ((catOf status = 0 ∨ catOf status = 1) → b / 64 = 3) ∧
    (bit status 10 = true → bits b 5 4 = 1) ∧ (bit status 10 = false → bit status 11 = true → bits b 5 4 = 2) ∧
    (bit status 10 = false → bit status 11 = false → bits b 5 4 = 0) ∧ bits b 3 0 = 0

/-- The rest of HART (R229, R381, R383, R386–R388, R401): the tunnel, a repeat of a write, the busy timeout, the burst, unknown
commands, errors and loop time markers. An accepted loop time marker (R34, R388): it is counted, its offset from course time in µs
becomes MARKER_LAST_OFFSET, 0x6085 carries it, and the response holds the course time of arrival. -/
def Obligations.HartOtherCommands : Prop :=
  (∀ (s : State) (m : Master), let d := s.dev.cleared
      let p := m.isPrimary
      d.hartServed = true →
      ((d.master p).frames = [] → s.becomes (.woredTunnelPoll m) (d.respond p 160 0 [])) ∧
      (∀ o rest, (d.master p).frames = o :: rest → s.becomes (.woredTunnelPoll m)
        (((d.setMaster p fun x => { x with frames := rest }).respond p 160 0 o.data).collected o)) ∧
      (∀ rest wp, rest.length ≤ 252 →
        s.becomes (.woredTunnelFrame m (1 :: rest) wp) ((d.tunnelFrame p rest wp).tunnelPoll p)) ∧
      (∀ c rest wp, c ≠ 1 → c ≠ 0x4D → s.becomes (.woredTunnelFrame m (c :: rest) wp) (d.respond p 160 2 [])) ∧
      (∀ n : BitVec 8, s.becomes (.hartUnknownCommand m n) (d.respond p n.toNat 64 [])) ∧
      (∀ w t, (d.master p).oldestOwed = some (w, t) →
        s.becomes (.hartWriteBusyTimeout m)
          (((d.advanceTo (t + 200 * 65536)).setMaster p fun x => { x with
            writes := x.writes.map fun y => if y.id = w.id ∧ y.code = none then { y with owed := none } else y }).respond p
              w.command 32 [])) ∧
      ((d.master p).oldestOwed = none → s.becomes (.hartWriteBusyTimeout m) d) ∧
      (d.u Obj.BURST_MODE ≠ 0 →
        let a := d.advanceTo (d.link.burst + d.u Obj.BURST_PERIOD * 6553600)
        let b := a.setLink fun l => { l with burst := a.course.elapsed }
        s.becomes .burstPeriodExpiry ((b.respond true (a.u Obj.BURST_CMD) 0 a.burstData).setMaster true fun x => { x with
          cold := (d.master true).cold })) ∧
      (d.u Obj.BURST_MODE = 0 → s.becomes .burstPeriodExpiry d) ∧
      s.becomes .hartFrameError ((d.bump Obj.HART_ERRORS).flagFirst Obj.HOST_FLAGS 4 0x6084 []) ∧
      (d.on Obj.MARKER_ENABLE = false → ∀ k, s.becomes (.loopTimeMarker m k)
        (((d.setFlag Obj.HOST_FLAGS 5).raise 0x6086 (u8 1)).respond p 160 16 [])) ∧
      (d.on Obj.MARKER_ENABLE = true → ∀ (k : Marker) (x : Session) (q : Bool) h v, k.session.toNat ≠ 0 →
        d.session (k.session.toNat - 1) = some x → x.isOpen = true → x.upstream = false → x.path = .tunnel q → 1 ≤ x.level →
        k.mac = (hmac x.key (u8 0x4D ++ u8 k.reserved.toNat ++ u16 k.session.toNat ++ u32 k.counter.toNat ++
          u64 k.time.toNat)).take 16 → counterStep x.high x.seen k.counter.toNat = some (h, v) →
        s.becomes (.loopTimeMarker m k)
          ((d.setSession (k.session.toNat - 1) fun y => { y with high := h, seen := v, last := d.course.elapsed }).markerAccepted p
            k.time.toNat))) ∧
  (∀ (d : Dev) (p : Bool) (time : Nat), let off := signed 64 (time + 2 ^ 64 - d.courseNs)
      let b := ((d.bump Obj.MARKER_ACCEPTED).putI Obj.MARKER_LAST_OFFSET (Int.tdiv off 1000))
      let c := ((b.raise 0x6085 (b.b Obj.MARKER_LAST_OFFSET)).noteMarkerSeries off).offsetSample .loopMarker off
      d.markerAccepted p time =
        (c.setCourse fun k => { k with marker := some k.elapsed }).respond p 160 0 (u64 d.courseNs))

/-- The host ports (R391–R394): a frame with a bad CRC has no effect but its error; a read of an object that is served at once is
answered DONE, any other PENDING; what waits is collected; a second operation that would wait is BUSY. The address matcher of the
wake port (R398): asleep a match holds SCL and is a wake event; after 5 ms SCL is released. -/
def Obligations.HostPortCommands : Prop :=
  (∀ (s : State) (p : HostPort), let d := s.dev.cleared
      d.hostServed p = true →
      (∀ index sub first count, s.becomes (.hostRead p index sub first count false) (d.hostCrc p 1)) ∧
      (∀ (index : BitVec 16) (sub first count : BitVec 8), (d.host p).pending ≠ none →
        s.becomes (.hostRead p index sub first count true) (d.hostDone p 1 0x07 0 [])) ∧
      (∀ (index : BitVec 16) (sub count : BitVec 8), (d.host p).pending = none → d.device.appRunning = true →
        let r := d.hostSnapshot p index.toNat sub.toNat (count.toNat + 1)
        (∀ f, r.2 = .error f → s.becomes (.hostRead p index sub 0 count true) (r.1.hostDone p 1 f.status f.detail [])) ∧
        (∀ data, r.2 = .ok data → servedAtOnce index.toNat sub.toNat = true →
          s.becomes (.hostRead p index sub 0 count true) (r.1.hostDone p 1 0 0 data)) ∧
        (∀ data, r.2 = .ok data → servedAtOnce index.toNat sub.toNat = false →
          s.becomes (.hostRead p index sub 0 count true) ((r.1.setPending p (some (.reading 0 0 data))).hostWaits p 1))) ∧
      (∀ (index : BitVec 16) (sub first : BitVec 8) (id : BitVec 32) words wp, (d.host p).pending = none →
        let rq := d.hostRequest p id wp
        let ops := [ReqOp.write index.toNat sub.toNat (d.hostValue index.toNat sub.toNat first.toNat words)]
        let goes := d.device.appRunning = true ∨ d.device.state = .starting ∨ d.security.romLoader = true
        (goes → s.becomes (.hostWrite p index sub first id words true wp) ((d.hostSubmit p rq ops false).hostOutcome p 2)) ∧
        (¬ goes → s.becomes (.hostWrite p index sub first id words true wp)
          ((d.setPending p (some (.held rq ops [] false 0 0))).hostWaits p 2))) ∧
      (∀ (index : BitVec 16) (sub count : BitVec 8), (d.host p).pending = none → d.device.appRunning = false →
        d.device.state ≠ .starting → d.security.romLoader = false → servedAtOnce index.toNat sub.toNat = false →
        s.becomes (.hostRead p index sub 0 count true)
          ((d.setPending p (some (.held (d.hostRequest p 0 d.device.wpLow) [.read index.toNat sub.toNat] [] false 0
            (count.toNat + 1)))).hostWaits p 1)) ∧
      (∀ status detail data, (d.host p).pending = some (.result status detail data) →
        s.becomes (.hostCollect p true) ((d.setPending p none).hostDone p 3 status detail data)) ∧
      ((d.host p).pending = none → s.becomes (.hostCollect p true) (d.hostDone p 3 0 0 [])) ∧
      (∀ status detail data, (d.host p).pending = some (.reading status detail data) →
        s.becomes (.hostPendingComplete p) (d.setPending p (some (.result status detail data)))) ∧
      ((d.host p).pending = none → d.device.appRunning = true → ∀ body wp id ops, parseRequest body = some (id, ops) →
        s.becomes (.hostWored p ⟨0x10, body⟩ true wp) ((d.hostSubmit p (d.hostRequest p id wp) ops true).hostWaits p 4)) ∧
      ((d.host p).messages = [] → s.becomes (.hostNop p true) (d.hostDone p 5 0 0 (u16 0))) ∧
      (∀ o rest, (d.host p).messages = o :: rest →
        s.becomes (.hostNop p true)
          (((d.setHost p fun h => { h with messages := rest }).hostDone p 5 0 0 (u16 o.data.length ++ o.data)).collected o)) ∧
      s.becomes (.hostFrameError p) ((d.flagFirst Obj.HOST_FLAGS 2 0x6082 (u8 (HostPort.no p))).hostRespond p 0 3 0 0 [])) ∧
  (∀ s : State, let d := s.dev.cleared
      ((d.power.mode = .doze ∨ d.power.mode = .stow) →
        s.becomes .wakeAddressMatch ((d.setPower fun p => { p with stretch := some d.course.elapsed }).wakeEvent 0)) ∧
      (d.power.mode = .on → s.becomes .wakeAddressMatch d) ∧
      (∀ t, d.power.stretch = some t →
        s.becomes .wakeStretchExpiry
          ((((d.advanceTo (t + 5 * 65536)).setPower fun p => { p with stretch := none }).bump Obj.WAKE_NACKS).flagFirst
            Obj.HOST_FLAGS 3 0x6083 [])) ∧
      (d.power.stretch = none → s.becomes .wakeStretchExpiry d))

/-! ### Chapters 15 and 16 -/

/-- The sources (R402, R404, R412, R421, R422, R428, R429, R494): a loop in source mode and an unpowered SPoE port are no source; each
change of presence sets SRC_PRESENT, SRC_CHANGED and the ceiling and raises its event, VLOC is a wake event; in OFF a first source
after a second starts the device, in holdup a source with the store at 3.0 V restarts it; with the last source the device enters
holdup, or before recovery waits on its store; a store below 3.0 V in holdup ends in OFF. EXC_LEAN in LEAN (R413): the current stands
in XDAC_CURRENT, and a total of the IEXC levels and it above 1.2 mA sets EXC_LEAN and raises event 0x100C with that total (log
53). -/
def Obligations.SupplyCommands : Prop :=
  (∀ s : State, let d := s.dev.cleared
      (∀ (n : Fin 4) v lsrc,
        let fit := ¬ (n = 3 ∧ d.outputs.source = true) ∧
          ((n = 1 ∨ n = 2) → d.u (Obj.PODL_STATE (n - 1)) = 3 ∨ d.power.mode = .off)
        let volts := d.putF (Obj.SRC_VOLTAGE n) v
        let there := volts.putOn (Obj.SRC_PRESENT n) true
        let e := if n = 0 then there.wakeEvent 6 else there
        let shown := (e.flagRaise Obj.PWR_FLAGS 0 0x1001 (u8 n)).put Obj.PROFILE_CEILING e.ceiling
        (¬ fit → s.becomes (.powerSourcePresent n ⟨v, lsrc⟩) d) ∧
        (fit → volts.present n = true → s.becomes (.powerSourcePresent n ⟨v, lsrc⟩) volts) ∧
        (fit → volts.present n = false → d.power.mode = .off → volts.anySource = false → d.power.lostAt + secTicks ≤ d.course.elapsed →
          s.becomes (.powerSourcePresent n ⟨v, lsrc⟩) there.coldStart) ∧
        (fit → volts.present n = false → d.power.mode = .off →
          (volts.anySource = true ∨ d.course.elapsed < d.power.lostAt + secTicks) →
          s.becomes (.powerSourcePresent n ⟨v, lsrc⟩) there) ∧
        (fit → volts.present n = false → e.power.mode ≠ .off → e.power.mode ≠ .holdup →
          s.becomes (.powerSourcePresent n ⟨v, lsrc⟩) shown) ∧
        (fit → volts.present n = false → d.power.mode = .holdup →
          (F32.lt (shown.f Obj.STORE_VOLTAGE) (F32.ofInt 3) = true → s.becomes (.powerSourcePresent n ⟨v, lsrc⟩) shown) ∧
          (F32.lt (shown.f Obj.STORE_VOLTAGE) (F32.ofInt 3) = false →
            s.becomes (.powerSourcePresent n ⟨v, lsrc⟩) (shown.holdupRestart lsrc)))) ∧
      (∀ (n : Fin 4) v,
        let volts := d.putF (Obj.SRC_VOLTAGE n) v
        let gone := volts.putOn (Obj.SRC_PRESENT n) false
        let e := gone.flagRaise Obj.PWR_FLAGS 0 0x1002 (u8 n)
        let f := e.setPower fun p => { p with lostAt := e.course.elapsed }
        (volts.present n = false → s.becomes (.powerSourceLost n v) volts) ∧
        (volts.present n = true → d.power.mode = .off → gone.anySource = true → s.becomes (.powerSourceLost n v) gone) ∧
        (volts.present n = true → d.power.mode = .off → gone.anySource = false →
          s.becomes (.powerSourceLost n v) (gone.setPower fun p => { p with lostAt := d.course.elapsed })) ∧
        (volts.present n = true → d.power.mode ≠ .off → e.anySource = true →
          s.becomes (.powerSourceLost n v) (if n = 0 then e.wakeEvent 6 else e).checkCeiling) ∧
        (volts.present n = true → d.power.mode ≠ .off → e.anySource = false → d.start.recovered = true → d.power.mode ≠ .holdup →
          s.becomes (.powerSourceLost n v) f.enterHoldup) ∧
        (volts.present n = true → d.power.mode ≠ .off → e.anySource = false →
          (d.start.recovered = false ∨ d.power.mode = .holdup) → s.becomes (.powerSourceLost n v) f)) ∧
      (d.anySource = false → d.power.mode = .holdup → s.becomes .storeBelowHoldupEnd d.enterOff) ∧
      (d.anySource = false → d.power.mode = .on → d.start.recovered = false → s.becomes .storeBelowHoldupEnd d.enterOff) ∧
      (d.anySource = true → s.becomes .storeBelowHoldupEnd d) ∧
      s.becomes .vbbLimit (d.flagRaise Obj.PWR_FLAGS 7 0x100B []) ∧
      (d.power.mode = .off → d.anySource = true → s.becomes .offButtonExit d.coldStart)) ∧
  (∀ (s : State) (current : F32), let d := s.dev.cleared
      let e := d.putF Obj.XDAC_CURRENT current
      let iexc := F32.div (F32.ofInt ((List.range 4).map fun n => iexcMicroamps (e.u (Obj.IEXC_LEVEL n))).sum) (F32.ofInt 1000)
      let total := F32.add iexc current
      d.u Obj.PROFILE_ACTIVE = 2 →
      (F32.lt (F32.ofRat 12 10) total = true → s.becomes (.excLean current) (e.flagRaise Obj.PWR_FLAGS 8 0x100C (f32b total))) ∧
      (F32.lt (F32.ofRat 12 10) total = false → s.becomes (.excLean current) e))

/-- Transitions (R414, R417, R418): a queued profile change passes its checks or is refused, a sleep entry begins by querying the
eight agents, and each answer, delay and time out is taken as R417 states. A refused transition (R414): REFUSED is set,
SLEEP_REFUSED counts where it was a sleep entry and stands otherwise, and PWR_RESULT shows the kind, the agent and the reason;
nothing runs after it. A transition that is requested while another runs (R414): it waits alone, and one that waited before ends
SUPERSEDED. -/
def Obligations.TransitionCommands : Prop :=
  (∀ s : State, let d := s.dev.cleared
      (∀ k, k < 3 → d.power.running = none → d.power.queued = some k → d.power.mode = .on →
        let e := d.setPower fun p => { p with queued := none }
        (∀ f, e.profileCheck k = .ok f →
          s.becomes .profileChangeStart (f.setPower fun p => { p with running := some (.profile k) })) ∧
        (∀ r f, e.profileCheck k = .error (r, f) → s.becomes .profileChangeStart (f.refuseTransition k 0 0xF0))) ∧
      (∀ k, 3 ≤ k → d.power.running = none → d.power.queued = some k → d.power.mode = .on →
        s.becomes .handshakeStart ((d.storeTestFailed 2).setPower fun p => { p with
          queued := none, latched := 0
          running := some (.handshake k (List.replicate 8 (.queried (d.storeTestFailed 2).course.elapsed false))) })) ∧
      (∀ k l (a : Fin 8) t again ms, d.power.running = some (.handshake k l) → l.getD a .accepted = .queried t again →
        (∀ r, d.agentRefuses k a = some r → s.becomes (.agentAnswer a ms) (d.refuseTransition k a r)) ∧
        (d.agentRefuses k a = none → d.agentDelays a = true → again = true →
          s.becomes (.agentAnswer a ms) (d.refuseTransition k a (if a.val = 7 then 0x08 else 0xFE))) ∧
        (d.agentRefuses k a = none → d.agentDelays a = true → again = false → 100 < ms →
          s.becomes (.agentAnswer a ms) (d.refuseTransition k a (agentReason a))) ∧
        (d.agentRefuses k a = none → d.agentDelays a = true → again = false → ms ≤ 100 →
          s.becomes (.agentAnswer a ms) (d.setPower fun p => { p with
            running := some (.handshake k (l.set a (.delayed (d.course.elapsed + ms * msTicks)))) })) ∧
        (d.agentRefuses k a = none → d.agentDelays a = false →
          let e := d.setPower fun p => { p with running := some (.handshake k (l.set a .accepted)) }
          s.becomes (.agentAnswer a ms) (if (l.set a .accepted).all (fun x => x == .accepted) then e.closingPhase k else e)) ∧
        s.becomes (.agentAnswerTimeout a) ((d.advanceTo (t + msTicks)).refuseTransition k a 0xFE)) ∧
      (∀ k l (a : Fin 8) due, d.power.running = some (.handshake k l) → l.getD a .accepted = .delayed due →
        let e := d.advanceTo due
        s.becomes (.agentDelayExpiry a) (e.setPower fun p => { p with
          running := some (.handshake k (l.set a (.queried e.course.elapsed true))) }))) ∧
  (∀ (d : Dev) (k a r : Nat), k < 6 → a < 8 → r < 256 →
      let e := d.refuseTransition k a r
      e.u Obj.PWR_RESULT = 2 * 2 ^ 24 + k * 2 ^ 16 + a * 2 ^ 8 + r ∧ bit (e.u Obj.PWR_FLAGS) 2 = true ∧
      (3 ≤ k → e.u Obj.SLEEP_REFUSED = (d.u Obj.SLEEP_REFUSED + 1) % 2 ^ 32) ∧
      (k < 3 → e.u Obj.SLEEP_REFUSED = d.u Obj.SLEEP_REFUSED) ∧
      e.power.running = none ∧ e.power.latched = 0 ∧ e.power.mode = d.power.mode ∧ e.power.queued = d.power.queued) ∧
  (∀ (d : Dev) (kind : Nat), d.power.running ≠ none →
      (d.queueTransition kind).power.queued = some kind ∧ (d.queueTransition kind).power.running = d.power.running ∧
      (d.power.queued = none → (d.queueTransition kind).live = d.live) ∧
      (∀ k, k < 6 → d.power.queued = some k → let e := d.queueTransition kind
        e.u Obj.PWR_RESULT = 3 * 2 ^ 24 + k * 2 ^ 16 ∧
        e.u Obj.TRANSITIONS_SUPERSEDED = (d.u Obj.TRANSITIONS_SUPERSEDED + 1) % 2 ^ 32 ∧ bit (e.u Obj.PWR_FLAGS) 3 = true))

/-- Waking (R422–R427): a masked wake event starts a wake, the regulators are tried, the bypass comes in at the fourth failure and a
fifth one ends the wake, which is tried again after 10 s; TCXO and PLL follow, without the TCXO 5 ms after the regulators the wake
goes on in RC, and the wake ends with the application core. The loss of the TCXO (R47, R426): the course enters RC, and no register
of the power chapter moves. -/
def Obligations.WakeCommands : Prop :=
  (∀ s : State, let d := s.dev.cleared
      (∀ b : Fin 7, bit (d.u Obj.WAKE_MASK) b = false ∨ d.thermal.shutdown ≠ none → s.becomes (.wakeEvent b) d) ∧
      (∀ b : Fin 7, bit (d.u Obj.WAKE_MASK) b = true → d.thermal.shutdown = none → (d.power.mode = .doze ∨ d.power.mode = .stow) →
        s.becomes (.wakeEvent b) (d.startWake (setBit 0 b))) ∧
      (∀ (b : Fin 7) n, bit (d.u Obj.WAKE_MASK) b = true → d.thermal.shutdown = none → d.power.mode = .waking n →
        s.becomes (.wakeEvent b) ((d.put Obj.WAKE_CAUSE (setBit (d.u Obj.WAKE_CAUSE) b)).setPower fun p => { p with
          cause := setBit p.cause b })) ∧
      (d.regulating = false → s.becomes .regulatorAttemptFail d ∧ s.becomes .regulatorsReady d) ∧
      (d.regulating = true →
        let e := (d.advance (2 * msTicks)).setPower fun p => { p with attempts := d.power.attempts + 1 }
        (d.power.attempts < 3 → s.becomes .regulatorAttemptFail (e.bump Obj.REG_RETRIES)) ∧
        (d.power.attempts = 3 → d.power.bypass = false →
          let f := e.setPower fun p => { p with bypass := true }
          s.becomes .regulatorAttemptFail (f.flagRaise Obj.PWR_FLAGS 4 0x1007 (u32 (f.u Obj.REG_RETRIES))).checkCeiling) ∧
        (∀ n, d.power.mode = .waking n → 3 < d.power.attempts →
          let f := (e.abandonTransition.bump Obj.WAKE_FAILS).setFlag Obj.PWR_FLAGS 5
          s.becomes .regulatorAttemptFail (f.setPower fun p => { p with
            mode := .stow, bypass := false, tcxo := false, wakeFailed := true, failedAt := f.course.elapsed
            asleepAt := f.course.elapsed })) ∧
        s.becomes .regulatorsReady (d.setPower fun p => { p with
          regulators := true, readyAt := d.course.elapsed, stretch := none })) ∧
      (d.power.mode = .stow → d.power.wakeFailed = true → d.thermal.shutdown = none →
        s.becomes .wakeRetry ((d.advanceTo (d.power.failedAt + 10 * secTicks)).startWake d.power.cause)) ∧
      s.becomes .tcxoReady (d.setPower fun p => { p with tcxo := true }) ∧
      (d.power.tcxo = false → d.power.regulators = true →
        s.becomes .tcxoReadyTimeout (d.advanceTo (d.power.readyAt + 5 * msTicks)).tcxoGone.wakeCourse) ∧
      (d.power.tcxo = true ∨ d.power.regulators = false → s.becomes .tcxoReadyTimeout d) ∧
      (d.power.mode = .on → d.power.tcxo = true → s.becomes .tcxoLoss d.tcxoGone) ∧
      (d.course.sync = .rc → ∀ there,
        let e := d.advanceTo (d.power.checkedAt + secTicks)
        s.becomes (.tcxoCheck there) (e.setPower fun p => { p with
          checkedAt := e.course.elapsed, tcxo := if there then true else p.tcxo })) ∧
      (d.course.sync ≠ .rc → ∀ there, s.becomes (.tcxoCheck there) d) ∧
      (d.power.tcxo = true → s.becomes .pllLocked d.leaveRc.wakeCourse) ∧
      (d.power.tcxo = false → s.becomes .pllLocked d) ∧
      ((∀ n, d.power.mode ≠ .waking n) ∨ d.start.holdup = true → s.becomes .wakeAppCoreRunning d.hostsResume.deliver) ∧
      (∀ n, d.power.mode = .waking n → d.start.holdup = false →
        let e := (d.setPower fun p => { p with mode := .on }).restartDomain.resumeShadow.pwrResult 1 (n + 2) 0 0
        let f := e.raise 0x1006 (u8 (e.u Obj.WAKE_CAUSE) ++ u8 n)
        (f.power.wakeFailed = false → s.becomes .wakeAppCoreRunning f.checkCeiling.hostsResume.deliver) ∧
        (f.power.wakeFailed = true → s.becomes .wakeAppCoreRunning
          (((f.setPower fun p => { p with wakeFailed := false }).raise 0x1008
            (u32 (f.u Obj.WAKE_FAILS))).checkCeiling.hostsResume.deliver)))) ∧
  (∀ d : Dev, d.tcxoGone.course.sync = .rc ∧ d.tcxoGone.power.tcxo = false ∧
      d.tcxoGone.power.mode = d.power.mode ∧ d.tcxoGone.nvm = d.nvm ∧ d.tcxoGone.outputs = d.outputs)

/-- Energy and the heartbeat (R430, R432, R433). -/
def Obligations.EnergyCommands : Prop :=
  ∀ s : State, let d := s.dev.cleared
    (∀ (powers : List F32) (n : Fin 4), d.power.mode ≠ .off → d.course.elapsed < d.power.hourStart + 3600 * secTicks →
      let e := d.energyIntegrate powers
      s.becomes (.energyIntegrate powers) e ∧
      e.f (Obj.SRC_POWER n) = powers.getD n F32.zero ∧
      e.f64 (Obj.ENERGY_TOTAL n) = F64.add (d.f64 (Obj.ENERGY_TOTAL n)) (milliWattHours (powers.getD n F32.zero))) ∧
    (d.power.mode ≠ .off → s.becomes .energyDayRollover d.dayRollover ∧
      ∀ n : Fin 4, d.u Obj.AGE_SAMPLE_DAYS > d.thermal.sinceSample + 1 →
        d.dayRollover.f (Obj.ENERGY_TODAY n) = F32.zero ∧
        d.dayRollover.f (Obj.ENERGY_YESTERDAY n) = d.f (Obj.ENERGY_TODAY n)) ∧
    (∀ v, d.b Obj.BATT_CURVE = [] → s.becomes (.autonomyUpdate v) (d.putF Obj.AUTONOMY F32.qnan)) ∧
    (∀ v, d.present 0 = false → s.becomes (.autonomyUpdate v) (d.putF Obj.AUTONOMY F32.qnan)) ∧
    (∀ v, d.b Obj.BATT_CURVE ≠ [] → d.present 0 = true →
      let e := battEnergy (d.b Obj.BATT_CURVE) v ((d.b Obj.BATT_CURVE).length / 8)
      let a := F32.div e (d.f Obj.POWER_MEAN_24H)
      let f := (d.putF Obj.BATT_ENERGY e).putF Obj.AUTONOMY a
      s.becomes (.autonomyUpdate v)
        (if F32.lt a (f.f Obj.AUTONOMY_WARN) = true ∧ F32.lt (d.f Obj.AUTONOMY) (f.f Obj.AUTONOMY_WARN) = false then
          f.flagFirst Obj.PWR_FLAGS 9 0x100D (f32b a) else f)) ∧
    (d.power.mode ≠ .off → d.power.mode ≠ .holdup → s.after .heartbeatWatchdog fun e =>
      e.outputs.row = min d.outputs.row 2 ∧ e.outputs.watchdog = true ∧ e.outputs.beating = false ∧ e.start.watchdog = true ∧
      (d.adacOn = true → e.u Obj.ADAC_CODE = d.outputs.adacSafe % 2 ^ 16 ∧ e.outputs.adacSource = 1) ∧
      (d.adacOn = false → e.live = d.live) ∧ e.nvm = d.nvm ∧
      e.course = (d.advanceTo (d.outputs.beatAt + 65536000)).course) ∧
    (d.power.mode = .off ∨ d.power.mode = .holdup → s.becomes .heartbeatWatchdog d) ∧
    (∀ a b, d.power.mode ≠ .off →
      let e := d.setOutputs fun o => { o with
        beating := true, beatAt := d.course.elapsed, sent6 := d.f (Obj.TS_EFFECTIVE 6), sent7 := d.f (Obj.TS_EFFECTIVE 7) }
      let f := e.hvThermal (e.hvReading a (d.f (Obj.TS_EFFECTIVE 6)))
      s.becomes (.heartbeat a b) (f.actThermal (f.hvReading b f.outputs.sent7))) ∧
    (∀ a b, d.power.mode = .off → s.becomes (.heartbeat a b) d)

/-- Temperature (R439–R447): a sample, the outcome of a self-test, the falls of the throttle and of the sampling rate, and the reset
that ends a shutdown. A retired sensor (R442): its state reads RETIRED, its bit of SENSORS_RETIRED is set and its mark is
buffered. -/
def Obligations.ThermalCommands : Prop :=
  (∀ s : State, let d := s.dev.cleared
      (∀ r p q, d.power.mode ≠ .off → 
        let a := (List.range 8).foldl (fun d i => d.putF (Obj.TS_RAW i) (r.getD i (d.f (Obj.TS_RAW i))))
          ((d.putF Obj.THERM_P_MS p).putF Obj.THERM_P_HV q)
        let b := ((List.range 8).foldl (fun d i => d.countSensor ((List.range 8).map a.deviation) i) a).startSensorTest
        let c := (List.range 8).foldl (fun d i => d.showSensor i) b
        s.becomes (.thermalSample r p q) (c.putF Obj.T_HOT (c.f (Obj.TS_EFFECTIVE c.hot))).watchSample.throttleSample.shutdownSample) ∧
      (∀ i : Fin 8, d.thermal.testing = some i.val →
        let e := d.setThermal fun t => { t with testing := none }
        s.becomes (.sensorSelfTestDone i true)
          ((((e.put (Obj.TS_STATUS i) 0).setSensor i fun x => { x with
            count := 0, quiet := d.course.elapsed + 60 * secTicks, passes := (d.course.elapsed :: x.passes).take 3 }).bump
              (Obj.TS_TRANSIENT i)).flagRaise Obj.THERM_FLAGS 4 0x7002 (u8 i)).startSensorTest.showSensors ∧
        s.becomes (.sensorSelfTestDone i false) 
          (((e.retireSensor i 1).setSensor i fun x => { x with count := 0 }).holdFall i).startSensorTest.showSensors) ∧
      (∀ t, d.thermal.below = some t → 0 < d.thermal.level →
        s.becomes .throttleFall
          (((d.advanceTo (max (t + 10 * secTicks) (d.thermal.fallHold.getD 0))).setThrottle (d.thermal.level - 1)).throttleSample)) ∧
      (d.thermal.below = none → s.becomes .throttleFall d) ∧
      (∀ t, d.thermal.cool = some t → s.after .watchExit fun e =>
        e.thermal.watch = false ∧ e.course.elapsed = max d.course.elapsed (t + 10 * secTicks) ∧ e.live = d.live) ∧
      (d.thermal.cool = none → s.becomes .watchExit d) ∧
      (∀ i r t, d.thermal.shutdown = some (i, r) → d.thermal.safe = some t →
        s.becomes .thermalShutdownRelease ((d.advanceTo (t + 10 * secTicks)).wholeReset 4 i))) ∧
  (∀ (d : Dev) (i : Fin 8) (reason : Nat),
      let e := d.retireSensor i reason
      e.u (Obj.TS_STATUS i) = 3 ∧ bit (e.u Obj.SENSORS_RETIRED) i = true ∧
      (∀ j : Fin 8, j ≠ i → bit (e.u Obj.SENSORS_RETIRED) j = bit (d.u Obj.SENSORS_RETIRED) j) ∧
      bit (e.u Obj.THERM_FLAGS) 5 = true ∧ e.nvm = d.nvm ∧ e.thermal = d.thermal)

/-- The store's test, the stages' damage and the reference check (R453–R455). -/
def Obligations.AgeingCommands : Prop :=
  ∀ s : State, let d := s.dev.cleared
    (d.storeTestDue = true → d.thermal.storeTest = false → d.stopped = false →
      F32.lt (d.f Obj.STORE_VOLTAGE) (F32.ofRat 490 100) = false → d.ledger.group = none → d.thermal.level = 0 →
      s.becomes .storeTestStart (d.setThermal fun t => { t with storeTest := true, storeDue := false, storeLast := d.course.elapsed })) ∧
    (d.storeTestDue = false → s.becomes .storeTestStart d) ∧
    (∀ step dt, d.thermal.storeTest = true →
      let i := F32.ofInt (d.u Obj.STORE_TEST_CURRENT)
      let esr := F32.div (F32.mul step (F32.ofInt 1000)) i
      let c := F32.div (F32.mul i dt) (F32.ofRat 20 100)
      let good := F32.le (F32.ofInt 20) c && F32.le c (F32.ofInt 600) && F32.le F32.zero esr && F32.le esr (F32.ofInt 10)
      let e := (d.setThermal fun t => { t with storeTest := false })
      let f := ((e.putF Obj.STORE_ESR esr).putF Obj.STORE_C c).putF Obj.STORE_C_LOW (F32.mul (F32.ofRat 95 100) c)
      let g := f.put Obj.STORE_TEST_LAST f.courseNs
      (F32.lt (F32.ofInt 10) dt = true → s.becomes (.storeTestDone step dt) (e.flagRaise Obj.THERM_FLAGS 8 0x700A (u8 3))) ∧
      (F32.lt (F32.ofInt 10) dt = false → good = false →
        s.becomes (.storeTestDone step dt) (e.flagRaise Obj.THERM_FLAGS 8 0x700A (u8 4))) ∧
      (F32.lt (F32.ofInt 10) dt = false → good = true → s.becomes (.storeTestDone step dt)
        (g.bufferInternal .values (g.snapshot [Obj.STORE_ESR, Obj.STORE_C, Obj.STORE_C_LOW, Obj.STORE_TEST_LAST])))) ∧
    (d.thermal.storeTest = true → s.becomes .storeTestTimeout
      ((d.setThermal fun t => { t with storeTest := false }).flagRaise Obj.THERM_FLAGS 8 0x700A (u8 3))) ∧
    (d.power.mode ≠ .off →
      let a := d.damageStage 6 Obj.STAGE_DAMAGE_LOOP Obj.STAGE_CYCLES_LOOP d.thermal.loopSwing
      let b := a.1.damageStage 7 Obj.STAGE_DAMAGE_ACT Obj.STAGE_CYCLES_ACT d.thermal.actSwing
      let e := b.1.setThermal fun t => { t with loopSwing := a.2, actSwing := b.2 }
      s.becomes .stageDamageUpdate (if 1 ≤ e.thermal.level then e.bump Obj.THROTTLE_TIME else e)) ∧
    (∀ mean,
      let able := d.thermal.refRun ≠ none ∨ d.device.state = .service ∨ ∃ n : Fin 4, d.u (Obj.SEQ_CTRL n) = 0
      let a := match d.thermal.refRun with | some r => d.advanceTo (r.2 + 13107536) | none => d
      let b := (a.setThermal fun t => { t with reference := false, refRun := none }).appendAge 8
        (F64.mul (F64.nat 1000000) (F64.sub (F64.div (F64.ofF32 mean) (F64.ofF32 Config.referenceFactory)) (F64.nat 1)))
      (d.thermal.reference = true → able →
        (∀ m, b.xcheck.comparison = some m → b.xcheck.spare = some m.b →
          s.becomes (.referenceCheckDone mean) (b.shadowAgain m.seat)) ∧
        ((∀ m, b.xcheck.comparison = some m → b.xcheck.spare ≠ some m.b) → s.becomes (.referenceCheckDone mean) b)) ∧
      (d.thermal.reference = false ∨ ¬ able → s.becomes (.referenceCheckDone mean) d))

/-! ### Chapters 17 and 18 -/

/-- Images, personalities and debug tokens (R465, R481): the check of a download ends within a second, and what it
finds decides, VALID with what the content brings or INVALID with its reason; the debug port's time limit, and its reset. The reasons of a component (R464, R468) in their
order, and of a token's body (R481). Attestation (R472–R474, R480): a window closes its seconds after the last close, signing
follows, and a signature set that waits becomes ready. -/
def Obligations.DownloadAndDebugCommands : Prop :=
  (∀ s : State, let d := s.dev.cleared
      (∀ instant, d.security.load ≠ .verifying → s.becomes (.loadVerifyDone instant) d) ∧
      (∀ instant, d.security.load = .verifying →
        let d := d.advanceTo (min instant (d.security.verifyAt + 65536000))
        let v := d.loadFinding
        let slot := d.security.loadSlot
        let e := d.setSecurity fun x => { x with load := .valid, loadReason := 0 }
        (v.reason ≠ 0 → s.becomes (.loadVerifyDone instant)
          ((d.setSecurity fun x => { x with load := .invalid, loadReason := v.reason }).flagRaise Obj.SEC_FLAGS 4 0x8005
            (u8 d.security.loadTarget ++ u8 v.reason))) ∧
        (v.reason = 0 → d.security.loadTarget = 0 → s.becomes (.loadVerifyDone instant)
          ((e.setImage slot fun _ => ⟨true, v.rev, v.secVersion⟩).put
            (if slot = 0 then Obj.IMAGE_REV_0 else Obj.IMAGE_REV_1) v.rev)) ∧
        (v.reason = 0 → d.security.loadTarget = 1 → s.becomes (.loadVerifyDone instant) (e.setBundle slot fun _ => ⟨true, v.rev, v.records⟩)) ∧
        (v.reason = 0 → 2 ≤ d.security.loadTarget → s.becomes (.loadVerifyDone instant) (e.debugUnlock v.lifetime))) ∧
      (∀ t, d.security.debugUntil = some t → d.u Obj.DEBUG_STATE ≠ 0 →
        s.becomes .debugExpiry ((((d.advanceTo t).put Obj.DEBUG_STATE 0).setSecurity fun x => { x with debugUntil := none }).raise
          0x8009 [])) ∧
      (d.security.debugUntil = none → s.becomes .debugExpiry d) ∧
      (d.u Obj.DEBUG_STATE = 1 → s.becomes .debugReset (d.wholeReset 7 0)) ∧
      (d.u Obj.DEBUG_STATE ≠ 1 → s.becomes .debugReset d)) ∧
  (∀ (d : Dev) (kind : Nat) (c : Component),
      let r := d.componentReason kind c
      let h := c.header
      let formed := beAt h 0 4 = 0x47534649 ∧ beAt h 6 1 = 1 ∧ beAt h 4 1 = kind ∧ c.fits = true ∧ (kind = 4 → c.body.length = 32)
      let keyed := sha256 c.key = if kind = 3 then (d.committed Obj.OEM_KEY_HASH).toBytes 0 else d.b Obj.VENDOR_KEY_HASH
      let signed := hssTypesOk c.key c.signature = true ∧ hssVerify c.key h c.signature = true
      let whole := sha256 c.body = (h.drop 32).take 32
      let old := (kind ≤ 2 ∧ c.secVersion < d.u Obj.ROLLBACK_COUNT) ∨
        (kind = 3 ∧ c.rev < max (d.u Obj.PERSONALITY_MIN) (d.committed Obj.PERSONALITY_MIN).toNat)
      (¬ formed → r = 1) ∧ (formed → ¬ keyed → r = 2) ∧ (formed → keyed → ¬ signed → r = 3 ∨ r = 4) ∧
      (formed → keyed → signed → ¬ whole → r = 5) ∧ (formed → keyed → signed → whole → old → r = 6) ∧
      (r = 0 → formed ∧ keyed ∧ signed ∧ whole ∧ ¬ old) ∧ r ≤ 7) ∧
  (∀ (d : Dev) (body : List Byte),
      (body.take 12 ≠ d.b Obj.SERIAL_NUMBER ∨ (body.drop 12).take 16 ≠ d.b Obj.DEBUG_CHALLENGE → d.tokenReason body = 10) ∧
      (body.take 12 = d.b Obj.SERIAL_NUMBER → (body.drop 12).take 16 = d.b Obj.DEBUG_CHALLENGE → 1 ≤ beAt body 28 4 →
        beAt body 28 4 ≤ 86400 → d.tokenReason body = 0)) ∧
  (∀ s : State, let d := s.dev.cleared
      (∀ n : Fin 8, d.attestWindow n ≠ 0 → d.u Obj.IDENTITY_STATE ≠ 3 → d.u Obj.IDENTITY_STATE ≠ 0 → d.security.closing = false →
        d.start.recovered = true →
        let e := d.advanceTo ((d.attest n).closed + d.attestWindow n * secTicks)
        s.becomes (.attestWindowClose n) ((e.setAttest n fun a => { a with closed := e.course.elapsed }).closeWindow false n).sign) ∧
      (∀ n : Fin 8, d.attestWindow n = 0 → s.becomes (.attestWindowClose n) d) ∧
      (d.treeLeft < 4096 → s.becomes .bottomTreeReady (d.setSecurity fun x => { x with nextTree := true }).sign) ∧
      s.becomes .treeRebuildDone (d.setSecurity fun x => { x with rebuilding := false }).sign ∧
      (∀ f, d.security.sigs = [f] → f.ready = false → (bits f.select 63 56 = 0 ∨ d.security.rebuilding = false) →
        s.after .signatureReady fun e => e.security.sigs = [{ f with ready := true }] ∧ e.live = d.live) ∧
      (d.security.sigs = [] → s.becomes .signatureReady d))

/-- What a whole-device reset leaves (R15, R120, R217, R485, R487): every register at its default, but CAL_STATUS of a calibration that
it cuts short, which reads FAILED with reason 4; what the store holds as it was, no session, no engine slot, the outputs at their
start, STARTING, and the cause latched; causes 2, 3 and 8 count towards the reset loop. A start after OFF knows the sources that are
present (R404; log 77). The resets of R485 that a command makes, and the return of the loop count (R487). -/
def Obligations.WholeResetLeaves : Prop :=
  (∀ (d : Dev) (cause detail : Nat), let e := d.wholeReset cause detail
      (∀ k x, (∀ c : Fin 4, k ≠ (Obj.CAL_STATUS c).key) → e.live.get k x = x) ∧
      (∀ c : Fin 4, ((d.conv c).cal = none → e.u (Obj.CAL_STATUS c) = 0) ∧
        ∀ k, (d.conv c).cal = some k → e.u (Obj.CAL_STATUS c) = calStatus 4 4 k.done % 2 ^ 16) ∧
      e.nvm = d.nvm ∧ e.ledger.log = d.ledger.log ∧ e.ledger.next = d.ledger.next ∧ e.ledger.pages = d.ledger.pages ∧
      e.ledger.generation = d.ledger.generation ∧ e.ledger.clients = d.ledger.clients ∧
      e.device.state = .starting ∧ e.device.appRunning = false ∧ e.start.configured = false ∧
      (∀ n, n < 16 → e.session n = none) ∧ e.engine.queue = [] ∧ e.outputs = Outputs.reset ∧ e.course.running = false ∧
      e.course.elapsed = d.course.elapsed ∧ e.start.cause = cause ∧ e.start.detail = detail ∧
      e.start.loopCount = (if cause = 2 ∨ cause = 3 ∨ cause = 8 then d.start.loopCount + 1 else d.start.loopCount)) ∧
  (∀ (d : Dev) (n : Fin 4), d.coldStart.on (Obj.SRC_PRESENT n) = d.on (Obj.SRC_PRESENT n) ∧
      (d.on (Obj.SRC_PRESENT n) = true → d.coldStart.get (Obj.SRC_VOLTAGE n) = d.get (Obj.SRC_VOLTAGE n)) ∧
      d.coldStart.start.loopCount = 0) ∧
  (∀ s : State, let d := s.dev.cleared
      s.becomes .rstPin (d.wholeReset 1 0) ∧ s.becomes .brownout (d.wholeReset 8 0) ∧
      (0 < d.start.loopCount → s.after .resetLoopCountExpiry fun e =>
        e.u Obj.RESET_LOOP_COUNT = 0 ∧ e.start.loopCount = 0 ∧
        e.course.elapsed = max d.course.elapsed (d.start.loopLast + 600 * secTicks)) ∧
      (d.start.loopCount = 0 → s.becomes .resetLoopCountExpiry d))

/-- The steps of a start, each in its phase and without effect in another (R462, R489, R490). The cause of a start once recovery has
run (R485): RESET_CAUSE and RESET_DETAIL show it, RESET_COUNT counts, and the history gains a record of 12 bytes in front, of
which it keeps eight. -/
def Obligations.StartCommands : Prop :=
  (∀ s : State, let d := s.dev.cleared
      (∀ lsrc (a : BitVec 2), d.start.phase = .supply →
        let e := (d.setOutputs fun o => { o with source := lsrc }).setStart fun x => { x with
          phase := .verify, supply := d.course.elapsed, address := a.toNat }
        s.becomes (.supplyValid lsrc a) ((e.putB Obj.DEBUG_CHALLENGE (e.random 16)).tickFresh)) ∧
      (∀ lsrc a, d.start.phase ≠ .supply → s.becomes (.supplyValid lsrc a) d) ∧
      (∀ f, d.start.phase = .verify → d.security.romLoader = false →
        let a := d.put Obj.ROLLBACK_COUNT d.security.fuses
        let b := (if a.security.onTrial = true then
          (a.setSecurity fun x => { x with onTrial := false }).flagRaise Obj.SEC_FLAGS 1 0x8002 [] else a).noteSlots f
        let r := b.trySlots f b.security.bootOrder
        let c := r.1.setSecurity fun x => { x with trialSlot := none }
        (r.2 = none → s.becomes (.bootVerifyDone f) (c.setSecurity fun x => { x with romLoader := true })) ∧
        (∀ slot, r.2 = some slot →
          let g := ((c.setSecurity fun x => { x with
            runningSlot := slot, onTrial := decide (b.security.trialSlot = some slot) }).put
              Obj.FIRMWARE_REV (imageFinding f slot).rev.toNat).bootBundle f
          s.becomes (.bootVerifyDone f) (g.setStart fun x => { x with
            phase := .energy, detail := if x.cause = 5 then slot else x.detail }).reportBefore)) ∧
      (∀ v, d.start.phase = .energy →
        let e := F32.mul (F32.mul (F32.ofRat 1 2) (F32.ofInt 35)) (F32.sub (F32.mul v v) (F32.ofInt 9))
        (F32.lt e (energyNeeded 32) = false → s.becomes (.storeEnergyReady v)
          ((d.putF Obj.STORE_VOLTAGE v).setStart fun x => { x with phase := .recovery })) ∧
        (F32.lt e (energyNeeded 32) = true → s.becomes (.storeEnergyReady v) d)) ∧
      (∀ f, d.start.phase = .recovery →
        let a := (d.recoverStore f).loadPersistent.retireKnown.countPages.assignFrames.startCourse.rebuildStreams.rebuildCatchId
        let b := (d.enabledByRecovery f).foldl (fun d u => d.startRecovered u) a
        let c := b.releaseHeld.reportCause.raisePersonalityMin.restartIndices.baseAssign.setStart fun x => { x with phase := .load }
        s.becomes (.recoveryDone f)
          (if c.anySource = false ∧ c.start.supply < c.power.lostAt then c.enterHoldup else c)) ∧
      (∀ f, d.start.phase ≠ .recovery → s.becomes (.recoveryDone f) d) ∧
      (d.start.phase = .load →
        let a := (d.setStart fun x => { x with configured := true }).setDevice fun v => { v with appRunning := true }
        let b := (a.putOn Obj.MULTIDROP (a.u Obj.HART_LOOP_MODE == 0)).startProfile.runConfiguration.refreshAddresses.reservePublications
        s.becomes .configLoaded (if b.start.holdup = true
          then ((b.setPower fun p => { p with mode := .on }).resumeStrokes.wakeSucceeded.restartDomain.startChecks).setStart fun x => { x with
            phase := .ready }
          else (b.startChecks.setStart fun x => { x with phase := .calibrate }).nextStartCal b.startChecks.startCalList)) ∧
      (d.start.phase ≠ .load → s.becomes .configLoaded d)) ∧
  (∀ d : Dev, d.start.cause < 256 → d.start.detail < 65536 →
      let e := d.reportCause
      e.u Obj.RESET_CAUSE = d.start.cause ∧ e.u Obj.RESET_DETAIL = d.start.detail ∧
      e.u Obj.RESET_COUNT = (d.u Obj.RESET_COUNT + 1) % 2 ^ 32 ∧
      e.get Obj.RESET_HISTORY =
        .bytes ((u64 d.courseNs ++ u8 d.start.cause ++ u8 0 ++ u16 d.start.detail ++ d.b Obj.RESET_HISTORY).take 96) ∧
      e.u Obj.RESET_LOOP_COUNT = min 255 d.start.loopCount ∧
      (d.u Obj.RESET_LOOP_LIMIT ≤ d.start.loopCount → 6 ∈ e.start.safeCauses) ∧
      (d.start.loopCount < d.u Obj.RESET_LOOP_LIMIT → e.start.safeCauses = d.start.safeCauses))

/-! ### Chapter 12: the commands that read and write registers -/

/-- The one operation that a command on a register stands for: a write of bytes, or a read, at the index and sub of its card. -/
def registerOp : Instr → Option (Request × ReqOp)
  | .courseSet rq v => some (rq, .write 0x1100 7 (u64 v.toNat))
  | .sourcePrioWrite rq n v => some (rq, .write 0x1102 (1 + n.val) (u8 v.toNat))
  | .profileTargetWrite rq v => some (rq, .write 0x1200 3 (u8 v.toNat))
  | .sleepDoze rq => some (rq, .write 0x1200 6 [1])
  | .sleepStow rq => some (rq, .write 0x1200 6 [2])
  | .sleepOff rq => some (rq, .write 0x1200 6 [3])
  | .resetRequest rq v => some (rq, .write 0x1280 5 (u8 v.toNat))
  | .storeTestRequest rq v => some (rq, .write 0x1320 8 (u8 v.toNat))
  | .loadTarget rq v => some (rq, .write 0x1400 6 (u8 v.toNat))
  | .loadData rq b => some (rq, .write 0x1400 8 b)
  | .loadVerify rq v => some (rq, .write 0x1400 9 (u8 v.toNat))
  | .imageActivate rq v => some (rq, .write 0x1400 0x0A (u8 v.toNat))
  | .imageConfirm rq v => some (rq, .write 0x1400 0x0B (u8 v.toNat))
  | .oemKeyHashWrite rq b => some (rq, .write 0x1400 0x0F b)
  | .levelKeyWrite rq k b => some (rq, .write 0x1410 (1 + k.val) b)
  | .ringSwitchAtWrite rq v => some (rq, .write 0x1410 5 (u64 v.toNat))
  | .sigSelect rq v => some (rq, .write 0x1420 9 (u64 v.toNat))
  | .sigData rq => some (rq, .read 0x1420 0x0B)
  | .debugLock rq v => some (rq, .write 0x1440 4 (u8 v.toNat))
  | .stateRequest rq v => some (rq, .write 0x1001 2 (u8 v.toNat))
  | .cvModeWrite rq n v => some (rq, .write (0x2000 + 0x100 * n.val) 1 (u8 v.toNat))
  | .refSelWrite rq n v => some (rq, .write (0x2000 + 0x100 * n.val) 2 (u8 v.toNat))
  | .injRequest rq n v => some (rq, .write (0x2000 + 0x100 * n.val) 0x32 (u8 v.toNat))
  | .seqStop rq n => some (rq, .write (0x2000 + 0x100 * n.val) 0x35 [0])
  | .seqRun rq n => some (rq, .write (0x2000 + 0x100 * n.val) 0x35 [1])
  | .seqStart rq n v => some (rq, .write (0x2000 + 0x100 * n.val) 0x3B (u8 v.toNat))
  | .selfOffset rq n => some (rq, .write (0x2000 + 0x100 * n.val) 0x43 [1])
  | .selfGain rq n => some (rq, .write (0x2000 + 0x100 * n.val) 0x43 [2])
  | .systemOffset rq n => some (rq, .write (0x2000 + 0x100 * n.val) 0x43 [3])
  | .systemGain rq n => some (rq, .write (0x2000 + 0x100 * n.val) 0x43 [4])
  | .diagManual rq v => some (rq, .write 0x2400 1 (u8 v.toNat))
  | .queueWord rq => some (rq, .read 0x2600 1)
  | .queueBlock rq => some (rq, .read 0x2600 2)
  | .queueFlush rq v => some (rq, .write 0x2600 7 (u8 v.toNat))
  | .unretire rq v => some (rq, .write 0x2700 0x11 (u8 v.toNat))
  | .stRequest rq v => some (rq, .write 0x2700 0x12 (u8 v.toNat))
  | .engineApply rq v => some (rq, .write 0x2800 4 (u8 v.toNat))
  | .paramBlockWrite rq n b => some (rq, .write (0x2A00 + n.val) 1 b)
  | .washApply rq v => some (rq, .write 0x3000 1 (u8 v.toNat))
  | .catchEnable rq n v => some (rq, .write (0x3100 + n.val) 1 (u8 v.toNat))
  | .fetchCatch rq v => some (rq, .write 0x3200 1 (u32 v.toNat))
  | .fetchChannel rq v => some (rq, .write 0x3200 2 (u8 v.toNat))
  | .fetchData rq => some (rq, .read 0x3200 4)
  | .locUpAddressWrite rq .address b => some (rq, .write 0x3300 0x10 b)
  | .locUpAddressWrite rq .serial b => some (rq, .write 0x3300 2 b)
  | .locUpAddressWrite rq .stream b => some (rq, .write 0x3300 3 b)
  | .loopRangeWrite rq a b => some (rq, .write 0x3400 3 (f32b a ++ f32b b))
  | .loopFixed rq v => some (rq, .write 0x3400 0x0B (f32b v))
  | .loopTrimZeroMeas rq v => some (rq, .write 0x3401 3 (f32b v))
  | .loopTrimSpanMeas rq v => some (rq, .write 0x3401 4 (f32b v))
  | .loopTrimReset rq v => some (rq, .write 0x3401 5 (u8 v.toNat))
  | .adacRangeWrite rq v => some (rq, .write 0x3500 2 (u8 v.toNat))
  | .ctrlModeWrite rq n v => some (rq, .write (0x3810 + n.val) 1 (u8 v.toNat))
  | .ctrlSpWrite rq n v => some (rq, .write (0x3810 + n.val) 2 (f32b v))
  | .subEnableWrite rq n v => some (rq, .write (0x5100 + n.val) 1 (u8 v.toNat))
  | .fastMapWrite rq n v => some (rq, .write 0x6000 (1 + n.val) (u32 v.toNat))
  | .fastDataRead rq => some (rq, .read 0x6001 1)
  | .registerWrite rq i k b => some (rq, .write i.toNat k.toNat b)
  | .rcFlagClear rq i k v => some (rq, .write i.toNat k.toNat (flagBytes i.toNat k.toNat v.toNat))
  | _ => none

/-- Each command on a register is the request of its one operation, at the address of its card. -/
def Obligations.RegisterCommandsAreRequests : Prop :=
  ∀ (s : State) (c : Instr) (rq : Request) (o : ReqOp), registerOp c = some (rq, o) →
    s.becomes c (s.dev.cleared.request rq [o])

/-- A read that passes its checks is answered with its value (R277), and a write of request ID 0 that passes its checks acts at once
and is answered 0x00 OK, a change of state once it is made (R332) and an apply once its tables switch (R174); none is recorded. -/
def Obligations.UnjournaledRequestsAct : Prop :=
  ∀ (s : State) (c : Instr) (rq : Request), let d := s.dev.cleared.setDevice fun v => { v with wpLow := rq.wpLow }
    d.serves →
    (∀ i k, registerOp c = some (rq, .read i k) → d.readCheck rq.via rq.level i k = none →
      s.becomes c ((d.readObject rq.via i k).2.answerAt rq 0 0 255 [(d.readObject rq.via i k).1])) ∧
    (∀ i k b, registerOp c = some (rq, .write i k b) → rq.id = 0 → d.writeCheck rq i k b = none →
      appliesOf [d.writeOf i k b] = [] → ¬(i = 0x1001 ∧ k = 2) →
      s.becomes c (((d.effect rq (d.writeOf i k b)).noteConfigChanged [d.writeOf i k b]).answerAt rq 0 0 255 [])) ∧
    (∀ b t, registerOp c = some (rq, .write 0x1001 2 b) → rq.id = 0 → d.writeCheck rq 0x1001 2 b = none →
      DeviceState.ofCode (ofBe b) = some t → s.becomes c (d.stateRequest rq [] 0 [] t)) ∧
    (∀ i k b a, registerOp c = some (rq, .write i k b) → rq.id = 0 → d.writeCheck rq i k b = none →
      let w := d.writeOf i k b
      let second := (d.effect rq w).recordsOf [w]
      let ws := (second.filter fun x => decide (x.1 = a)).map Prod.snd
      appliesOf [w] = [a] → d.copyRoom [] (second.map Prod.snd) = true →
      s.becomes c (((d.effect rq w).noteConfigChanged [w]).setLedger fun l => { l with
        applies := l.applies ++ [⟨a, ws, false, ws, ⟨rq, [.write i k b], [w], d.course.elapsed, [], [], second⟩, []⟩] }))

/-- A journaled write that passes its checks is pending (R278, R279): its COMMAND entry and its copies wait in the commit buffer, and
no object, stored value or reply comes of it yet. -/
def Obligations.JournaledWritesWait : Prop :=
  ∀ (s : State) (c : Instr) (rq : Request) (i k : Nat) (b : List Byte),
    let d := s.dev.cleared.setDevice fun v => { v with wpLow := rq.wpLow }
    let client := rq.client.toNat
    let w := d.writeOf i k b
    let f := d.prospect
    let second := (f.effect rq w).recordsOf [w]
    let copies := lastCopies (f.copiesOf w)
    let entries := d.commandEntries rq [.write i k b]
    let item := Item.request ⟨rq, [.write i k b], [w], d.course.elapsed, [], [], second⟩ entries copies
    registerOp c = some (rq, .write i k b) → d.serves → rq.id ≠ 0 → d.pendingWith client rq.id.toNat = false →
    (d.clientSlot client = none ∧ d.slotAvailable client = true ∨
      ∃ x, d.clientSlot client = some x ∧ x.accepted rq.id.toNat = false ∧
        serialCmp rq.id.toNat ((x.high + 2 ^ 32 - 255) % 2 ^ 32) 32 ≠ .before) →
    f.writeCheck rq i k b = none → roundsOf [item] ≤ 32 → d.copyRoom copies (second.map Prod.snd) = true →
    d.refusedAtSource (d.u Obj.CMD_STREAM) entries.length item.bytes (!entries.isEmpty && d.heldByLog (d.u Obj.CMD_STREAM)) = false →
    s.becomes c (((d.reserveSlot client).buffer item).countBurst (d.u Obj.CMD_STREAM) entries.length) ∧
    s.after c fun e => e.live = d.live ∧ e.shadow = d.shadow ∧ e.nvm = d.nvm ∧ e.ledger.log = d.ledger.log ∧
      e.ledger.clients = d.ledger.clients ∧ e.ledger.buffer = d.ledger.buffer ++ [item] ∧ e.device.responses = []

/-- A request that its checks refuse leaves only the objects that name its conflict and its reply (R325, R331); in STARTING every
request is answered 0x06 STATE and does nothing. -/
def Obligations.RefusedRequestsHaveNoEffect : Prop :=
  ∀ (s : State) (c : Instr) (rq : Request) (o : ReqOp), registerOp c = some (rq, o) →
    let d := s.dev.cleared.setDevice fun v => { v with wpLow := rq.wpLow }
    (d.security.romLoader = false → d.stopped = false → d.start.phase ≠ .supply → d.start.phase ≠ .verify →
      d.device.state = .starting → s.becomes c (d.answerAt rq 0x06 d.stateDetail 0 [])) ∧
    (d.serves → (rq.id = 0 ∨ ∃ i k, o = .read i k) → ∀ x n, d.firstDeny rq 0 [o] = some (x, n) →
      s.becomes c ((x.apply d).answerAt rq x.fail.status x.fail.detail n [])) ∧
    (d.serves → ∀ i k b, o = .write i k b → rq.id = 0 → ∀ card, d.cardAt i k = some card → card.access ≠ .R →
      rq.level.val < writeLevel card i k → d.lastSub i ≠ 0 → k ≠ 0 →
      s.becomes c (d.answerAt rq 0x05 (2 * 2 ^ 24 + writeLevel card i k) 0 []))

/-- What an applied write does, conversions and engine (R30, R33, R60, R85–R91, R104, R109, R117, R133, R176, R199, R202). -/
def Obligations.EffectsOfConversionWrites : Prop :=
  ∀ (d : Dev) (rq : Request) (v : Nat) (b : List Byte),
    d.effect rq ⟨0x110007, .num v⟩ = 
      (d.setCourse (fun c => { c with step := some (.toTime (ticksOfNs v)), arb := false, traced := true })).noteQuality ∧
    (∀ n, n < 5 → d.effect rq ⟨0x110201 + n, .num v⟩ = (d.setKey ⟨0x110201 + n, .num v⟩).reselect) ∧
    (∀ n, n < 4 → d.effect rq ⟨0x200001 + 0x10000 * n, .num v⟩ = d.setKey ⟨0x200001 + 0x10000 * n, .num v⟩ ∧
      d.effect rq ⟨0x200002 + 0x10000 * n, .num v⟩ = ((d.setKey ⟨0x200002 + 0x10000 * n, .num v⟩).injChange n).refMonitors ∧
      d.effect rq ⟨0x200032 + 0x10000 * n, .num 1⟩ = 
        (match d.injCheck n with | none => d.injStart n | some f => if f.status = 7 then d.injDrop n else d) ∧
      d.effect rq ⟨0x200035 + 0x10000 * n, .num 0⟩ = (d.put (Obj.SEQ_CTRL n) 0).stopTable n ∧
      (d.device.state ≠ .config → d.device.state ≠ .starting →
        d.effect rq ⟨0x200035 + 0x10000 * n, .num 1⟩ = (d.put (Obj.SEQ_CTRL n) 1).armTable n) ∧
      d.effect rq ⟨0x20003B + 0x10000 * n, .num 1⟩ = d.trigger n ∧
      (d.calCheck n v = none → d.effect rq ⟨0x200043 + 0x10000 * n, .num v⟩ = d.calAccept n v (d.u (Obj.CAL_GAIN_MASK n)))) ∧
    d.effect rq ⟨0x240001, .num v⟩ = d.setKey ⟨0x240001, .num v⟩ ∧
    d.effect rq ⟨0x260007, .num 1⟩ =
      ({ d with queue := { d.queue with words := [] } } : Dev).add Obj.QUEUE_LOST (d.queue.words.filter isResultWord).length ∧
    d.effect rq ⟨0x270011, .num v⟩ = d.unretireWrite v ∧
    (d.stCheck v = none → d.effect rq ⟨0x270012, .num v⟩ = d.stRequest v) ∧
    d.effect rq ⟨0x280004, .num v⟩ = d ∧ d.effect rq ⟨0x300001, .num v⟩ = d ∧
    (∀ n, n < 512 → d.effect rq ⟨0x2A0001 + 0x100 * n, .bytes b⟩ = d.setKey ⟨0x2A0001 + 0x100 * n, .bytes b⟩) ∧
    (∀ n, n < 8 → d.effect rq ⟨0x310001 + 0x100 * n, .num v⟩ = (d.setKey ⟨0x310001 + 0x100 * n, .num v⟩).entrySumsAgain) ∧
    (∀ h, d.heldCatch v = some h → d.effect rq ⟨0x320001, .num v⟩ = d.setFetch ⟨rq.via, v, h.channel, 0⟩) ∧
    d.effect rq ⟨0x320002, .num v⟩ = d.setFetch { d.fetchSet rq.via with channel := v } ∧
    d.effect rq ⟨0x330010, .bytes b⟩ = (d.setKey ⟨0x330010, .bytes b⟩).forgetUpstream ∧
    d.effect rq ⟨0x330002, .bytes b⟩ = (d.setKey ⟨0x330002, .bytes b⟩).forgetUpstream ∧
    d.effect rq ⟨0x330003, .num v⟩ = (d.setKey ⟨0x330003, .num v⟩).forgetUpstream

/-- What an applied write does, outputs, entries, power, security and reset (R230, R248, R280, R328, R410, R416, R453, R465–R470,
R480, R481, R488). -/
def Obligations.EffectsOfSystemWrites : Prop :=
  ∀ (d : Dev) (rq : Request) (v : Nat) (b : List Byte),
    d.effect rq ⟨0x340003, .bytes b⟩ = (d.keepKey 0x340003).rangeWrite rq.via b ∧
    d.effect rq ⟨0x34000B, .num v⟩ = (d.keepKey 0x34000B).setKey ⟨0x34000B, .num v⟩ ∧
    (∀ n, 3 ≤ n → n ≤ 5 → d.effect rq ⟨0x340100 + n, .num v⟩ = (d.keepKey (0x340100 + n)).trimWrite n (.num v)) ∧
    d.effect rq ⟨0x350002, .num v⟩ = (d.keepKey 0x350002).setKey ⟨0x350002, .num v⟩ ∧
    (∀ n, n < 8 → d.effect rq ⟨0x381001 + 0x100 * n, .num v⟩ = d.ctrlModeApplied n v ∧
      d.effect rq ⟨0x381002 + 0x100 * n, .num v⟩ = (d.keepKey (0x381002 + 0x100 * n)).setKey ⟨0x381002 + 0x100 * n, .num v⟩) ∧
    (∀ n, n < 16 → d.effect rq ⟨0x510001 + 0x100 * n, .num 1⟩ = d.subEnable n true ∧
      d.effect rq ⟨0x510001 + 0x100 * n, .num 0⟩ = d.subEnable n false) ∧
    d.effect rq ⟨0x100102, .num v⟩ = d ∧
    (∀ n, n < 32 → d.effect rq ⟨0x600001 + n, .num v⟩ = d.setKey ⟨0x600001 + n, .num v⟩) ∧
    d.effect rq ⟨0x120003, .num v⟩ = (d.setKey ⟨0x120003, .num v⟩).queueTransition v ∧
    d.effect rq ⟨0x120006, .num v⟩ = d.queueTransition (2 + v) ∧
    d.effect rq ⟨0x132008, .num 1⟩ = d.setThermal (fun t => { t with storeDue := true }) ∧
    d.effect rq ⟨0x140006, .num v⟩ = d.loadTargetSet v ∧ d.effect rq ⟨0x140008, .bytes b⟩ = d.loadDataSet b ∧
    d.effect rq ⟨0x140009, .num 1⟩ = d.loadVerifySet ∧ d.effect rq ⟨0x14000A, .num 1⟩ = d.activate ∧
    d.effect rq ⟨0x14000B, .num 1⟩ = d.confirmImage ∧
    d.effect rq ⟨0x14000F, .bytes b⟩ = (d.setKey ⟨0x14000F, .bytes b⟩).commitKey ⟨0x14000F, .bytes b⟩ ∧
    (∀ n, n < 4 → d.effect rq ⟨0x141001 + n, .bytes b⟩ = d.setKey ⟨0x141001 + n, .bytes b⟩) ∧
    d.effect rq ⟨0x141005, .num v⟩ = d.setKey ⟨0x141005, .num v⟩ ∧
    d.effect rq ⟨0x142009, .num v⟩ = d.setSig ⟨rq.via, v, 0, false⟩ ∧
    d.effect rq ⟨0x144004, .num 1⟩ = d.debugLock ∧
    d.effect rq ⟨0x128005, .num 1⟩ = d.setStart (fun x => { x with resetDue := some (6, rq.client.toNat) })

/-! ### The whole machine -/

/-- The steps of a machine, one after another, as far as they answer next states. -/
def runSteps : Nat → State → Host.Outcome State Machine.Fault Machine.Refusal
  | 0, s => .next s
  | n + 1, s => match step s with
    | .next t => runSteps n t
    | .fault f => .fault f
    | .refused r => .refused r

/-- Commands that wait are taken first in, first out, one a step, and what waits behind them has no part in what they do: as many
steps as there are commands take them all and leave the rest of the queue. -/
def Obligations.CommandsAreTakenInOrder : Prop :=
  ∀ (a b : List Instr) (d : Dev), ∃ e,
    runSteps a.length { pending := a ++ b, dev := d } = .next { pending := b, dev := e } ∧
    runSteps a.length { pending := a, dev := d } = .next { pending := [], dev := e } ∧
    (∀ c rest, b = c :: rest → runSteps (a.length + 1) { pending := a ++ b, dev := d } = exec c { pending := rest, dev := e })

/-- An invariant of every step: a queue of well-formed commands stays one, one command shorter where one waited. Every command ends in
a next state and leaves the queue as it is. -/
def Obligations.QueueStaysWellFormed : Prop :=
  (∀ s t : State, (∀ c ∈ s.pending, c.wf = true) → step s = .next t →
      (∀ c ∈ t.pending, c.wf = true) ∧ t.pending = s.pending.tail) ∧
  (∀ (c : Instr) (s : State), ∃ t, exec c s = .next t ∧ t.pending = s.pending)

/-- The model's choice (log 1): with no command waiting n steps are n ticks of the clocks: course time goes on modulo its range (log
3), elapsed time by n, and no object or stored record changes. Course time stays in its range and elapsed time never goes back
(R25, R42; log 3) over the commands of the time sources, the encoder and the alarms. -/
def Obligations.IdleStepsAreTicks : Prop :=
  (∀ (n : Nat) (d : Dev), d.course.ticks < courseModulus → ∃ e, runSteps n { pending := [], dev := d } = .next { pending := [], dev := e } ∧
      e.course.elapsed = d.course.elapsed + n ∧ e.course.ticks = (d.course.ticks + n) % courseModulus ∧
      e.live = d.live ∧ e.shadow = d.shadow ∧ e.nvm = d.nvm ∧ e.ledger = d.ledger ∧ e.convs = d.convs ∧ e.seats = d.seats ∧
      e.outputs = d.outputs ∧ e.net = d.net ∧ e.power = d.power ∧ e.security = d.security) ∧
  (∀ (s : State), s.dev.course.ticks < courseModulus →
      let P := fun e : Dev => e.course.ticks < courseModulus ∧ s.dev.course.elapsed ≤ e.course.elapsed
      (∀ t, s.after (.ppsEdge t) P) ∧ (∀ x, s.after (.sourceQualified x) P) ∧ (∀ x, s.after (.sourceLost x) P) ∧
      s.after .switchHoldExpiry P ∧ s.after .holdoverLimitReached P ∧ s.after .encError P ∧
      (∀ n, s.after (.courseAlarmFire n) P) ∧ s.after .courseWrap P ∧
      (s.pending = [] → ∃ e, step s = .next { s with dev := e } ∧ P e))

/-- The block right after reset (R7, R317, R487): nothing waits, every register reads its default, nothing is stored, the
device is STARTING with no strokes, the loop and the other outputs at their start. -/
def Obligations.ResetState : Prop :=
  State.reset.pending = [] ∧ (∀ r : Reg, State.reset.dev.get r = r.dflt) ∧ State.reset.dev.nvm = [] ∧ State.reset.dev.shadow = [] ∧
  State.reset.dev.ledger.log = [] ∧ State.reset.dev.ledger.buffer = [] ∧ State.reset.dev.queue.words = [] ∧
  State.reset.dev.device.state = .starting ∧ State.reset.dev.device.appRunning = false ∧
  State.reset.dev.course.running = false ∧ State.reset.dev.start.phase = .supply ∧ State.reset.dev.outputs = Outputs.reset ∧
  (∀ n, n < 16 → State.reset.dev.session n = none)

/-- When a mark fires (R49): in the strokes whose number leaves the phase on division by the divider; a divider that is a power of
two up to 1024 keeps the pattern unbroken where STROKE_COUNT wraps. -/
def Obligations.MarksFireByPhase : Prop :=
  ∀ (m : MarkSlot) (n : Nat), m.action ≠ 0 →
    (m.divider ≠ 0 → (m.firesIn n = true ↔ n % m.divider = m.phase)) ∧
    (∀ k j, k ≤ 10 → m.divider = 2 ^ k → m.firesIn ((n + j) % 2 ^ 32) = m.firesIn (n + j))

/-- The fields of CV_STATUS (R91): MODE, CHECKING, REF_FAULT and RECOVERING at their bits, the reserved bits 0. -/
def Obligations.ConverterStatusWord : Prop :=
  ∀ (d : Dev) (c : Nat), d.convMode c < 4 → let w := d.cvStatus c
    w / 2 ^ 7 = 0 ∧ w / 2 ^ 5 % 4 = d.convMode c ∧
    (bit w 4 = true ↔ ∃ n x, d.seatOf c = some n ∧ (d.seat n).check = some (.running x)) ∧
    bit w 3 = (d.conv c).refActive ∧ bit w 2 = (d.conv c).overload.isSome ∧ w % 4 = 0
end

