-- ==== Sys2Proof/Laws/State.lean ====
section
/-! SUPPORT. What each update of the device leaves in each of its parts: one equation for every part and update, true by unfolding. -/

namespace Sys2Proof.Machine

/-! ### setCourse -/

@[simp] theorem Dev.setCourse_live (d : Dev) (f : Course → Course) : (d.setCourse f).live = d.live := rfl
@[simp] theorem Dev.setCourse_shadow (d : Dev) (f : Course → Course) : (d.setCourse f).shadow = d.shadow := rfl
@[simp] theorem Dev.setCourse_nvm (d : Dev) (f : Course → Course) : (d.setCourse f).nvm = d.nvm := rfl
@[simp] theorem Dev.setCourse_course (d : Dev) (f : Course → Course) : (d.setCourse f).course = f d.course := rfl
@[simp] theorem Dev.setCourse_convs (d : Dev) (f : Course → Course) : (d.setCourse f).convs = d.convs := rfl
@[simp] theorem Dev.setCourse_seats (d : Dev) (f : Course → Course) : (d.setCourse f).seats = d.seats := rfl
@[simp] theorem Dev.setCourse_queue (d : Dev) (f : Course → Course) : (d.setCourse f).queue = d.queue := rfl
@[simp] theorem Dev.setCourse_xcheck (d : Dev) (f : Course → Course) : (d.setCourse f).xcheck = d.xcheck := rfl
@[simp] theorem Dev.setCourse_engine (d : Dev) (f : Course → Course) : (d.setCourse f).engine = d.engine := rfl
@[simp] theorem Dev.setCourse_capture (d : Dev) (f : Course → Course) : (d.setCourse f).capture = d.capture := rfl
@[simp] theorem Dev.setCourse_outputs (d : Dev) (f : Course → Course) : (d.setCourse f).outputs = d.outputs := rfl
@[simp] theorem Dev.setCourse_pwm (d : Dev) (f : Course → Course) : (d.setCourse f).pwm = d.pwm := rfl
@[simp] theorem Dev.setCourse_ledger (d : Dev) (f : Course → Course) : (d.setCourse f).ledger = d.ledger := rfl
@[simp] theorem Dev.setCourse_net (d : Dev) (f : Course → Course) : (d.setCourse f).net = d.net := rfl
@[simp] theorem Dev.setCourse_power (d : Dev) (f : Course → Course) : (d.setCourse f).power = d.power := rfl
@[simp] theorem Dev.setCourse_thermal (d : Dev) (f : Course → Course) : (d.setCourse f).thermal = d.thermal := rfl
@[simp] theorem Dev.setCourse_security (d : Dev) (f : Course → Course) : (d.setCourse f).security = d.security := rfl
@[simp] theorem Dev.setCourse_link (d : Dev) (f : Course → Course) : (d.setCourse f).link = d.link := rfl
@[simp] theorem Dev.setCourse_device (d : Dev) (f : Course → Course) : (d.setCourse f).device = d.device := rfl
@[simp] theorem Dev.setCourse_start (d : Dev) (f : Course → Course) : (d.setCourse f).start = d.start := rfl
@[simp] theorem Dev.setCourse_get (d : Dev) (f : Course → Course) (q : Reg) : (d.setCourse f).get q = d.get q := rfl
@[simp] theorem Dev.setCourse_u (d : Dev) (f : Course → Course) (q : Reg) : (d.setCourse f).u q = d.u q := rfl

/-! ### setXcheck -/

@[simp] theorem Dev.setXcheck_live (d : Dev) (f : Xcheck → Xcheck) : (d.setXcheck f).live = d.live := rfl
@[simp] theorem Dev.setXcheck_shadow (d : Dev) (f : Xcheck → Xcheck) : (d.setXcheck f).shadow = d.shadow := rfl
@[simp] theorem Dev.setXcheck_nvm (d : Dev) (f : Xcheck → Xcheck) : (d.setXcheck f).nvm = d.nvm := rfl
@[simp] theorem Dev.setXcheck_course (d : Dev) (f : Xcheck → Xcheck) : (d.setXcheck f).course = d.course := rfl
@[simp] theorem Dev.setXcheck_convs (d : Dev) (f : Xcheck → Xcheck) : (d.setXcheck f).convs = d.convs := rfl
@[simp] theorem Dev.setXcheck_seats (d : Dev) (f : Xcheck → Xcheck) : (d.setXcheck f).seats = d.seats := rfl
@[simp] theorem Dev.setXcheck_queue (d : Dev) (f : Xcheck → Xcheck) : (d.setXcheck f).queue = d.queue := rfl
@[simp] theorem Dev.setXcheck_xcheck (d : Dev) (f : Xcheck → Xcheck) : (d.setXcheck f).xcheck = f d.xcheck := rfl
@[simp] theorem Dev.setXcheck_engine (d : Dev) (f : Xcheck → Xcheck) : (d.setXcheck f).engine = d.engine := rfl
@[simp] theorem Dev.setXcheck_capture (d : Dev) (f : Xcheck → Xcheck) : (d.setXcheck f).capture = d.capture := rfl
@[simp] theorem Dev.setXcheck_outputs (d : Dev) (f : Xcheck → Xcheck) : (d.setXcheck f).outputs = d.outputs := rfl
@[simp] theorem Dev.setXcheck_pwm (d : Dev) (f : Xcheck → Xcheck) : (d.setXcheck f).pwm = d.pwm := rfl
@[simp] theorem Dev.setXcheck_ledger (d : Dev) (f : Xcheck → Xcheck) : (d.setXcheck f).ledger = d.ledger := rfl
@[simp] theorem Dev.setXcheck_net (d : Dev) (f : Xcheck → Xcheck) : (d.setXcheck f).net = d.net := rfl
@[simp] theorem Dev.setXcheck_power (d : Dev) (f : Xcheck → Xcheck) : (d.setXcheck f).power = d.power := rfl
@[simp] theorem Dev.setXcheck_thermal (d : Dev) (f : Xcheck → Xcheck) : (d.setXcheck f).thermal = d.thermal := rfl
@[simp] theorem Dev.setXcheck_security (d : Dev) (f : Xcheck → Xcheck) : (d.setXcheck f).security = d.security := rfl
@[simp] theorem Dev.setXcheck_link (d : Dev) (f : Xcheck → Xcheck) : (d.setXcheck f).link = d.link := rfl
@[simp] theorem Dev.setXcheck_device (d : Dev) (f : Xcheck → Xcheck) : (d.setXcheck f).device = d.device := rfl
@[simp] theorem Dev.setXcheck_start (d : Dev) (f : Xcheck → Xcheck) : (d.setXcheck f).start = d.start := rfl
@[simp] theorem Dev.setXcheck_get (d : Dev) (f : Xcheck → Xcheck) (q : Reg) : (d.setXcheck f).get q = d.get q := rfl
@[simp] theorem Dev.setXcheck_u (d : Dev) (f : Xcheck → Xcheck) (q : Reg) : (d.setXcheck f).u q = d.u q := rfl

/-! ### setEngine -/

@[simp] theorem Dev.setEngine_live (d : Dev) (f : Engine → Engine) : (d.setEngine f).live = d.live := rfl
@[simp] theorem Dev.setEngine_shadow (d : Dev) (f : Engine → Engine) : (d.setEngine f).shadow = d.shadow := rfl
@[simp] theorem Dev.setEngine_nvm (d : Dev) (f : Engine → Engine) : (d.setEngine f).nvm = d.nvm := rfl
@[simp] theorem Dev.setEngine_course (d : Dev) (f : Engine → Engine) : (d.setEngine f).course = d.course := rfl
@[simp] theorem Dev.setEngine_convs (d : Dev) (f : Engine → Engine) : (d.setEngine f).convs = d.convs := rfl
@[simp] theorem Dev.setEngine_seats (d : Dev) (f : Engine → Engine) : (d.setEngine f).seats = d.seats := rfl
@[simp] theorem Dev.setEngine_queue (d : Dev) (f : Engine → Engine) : (d.setEngine f).queue = d.queue := rfl
@[simp] theorem Dev.setEngine_xcheck (d : Dev) (f : Engine → Engine) : (d.setEngine f).xcheck = d.xcheck := rfl
@[simp] theorem Dev.setEngine_engine (d : Dev) (f : Engine → Engine) : (d.setEngine f).engine = f d.engine := rfl
@[simp] theorem Dev.setEngine_capture (d : Dev) (f : Engine → Engine) : (d.setEngine f).capture = d.capture := rfl
@[simp] theorem Dev.setEngine_outputs (d : Dev) (f : Engine → Engine) : (d.setEngine f).outputs = d.outputs := rfl
@[simp] theorem Dev.setEngine_pwm (d : Dev) (f : Engine → Engine) : (d.setEngine f).pwm = d.pwm := rfl
@[simp] theorem Dev.setEngine_ledger (d : Dev) (f : Engine → Engine) : (d.setEngine f).ledger = d.ledger := rfl
@[simp] theorem Dev.setEngine_net (d : Dev) (f : Engine → Engine) : (d.setEngine f).net = d.net := rfl
@[simp] theorem Dev.setEngine_power (d : Dev) (f : Engine → Engine) : (d.setEngine f).power = d.power := rfl
@[simp] theorem Dev.setEngine_thermal (d : Dev) (f : Engine → Engine) : (d.setEngine f).thermal = d.thermal := rfl
@[simp] theorem Dev.setEngine_security (d : Dev) (f : Engine → Engine) : (d.setEngine f).security = d.security := rfl
@[simp] theorem Dev.setEngine_link (d : Dev) (f : Engine → Engine) : (d.setEngine f).link = d.link := rfl
@[simp] theorem Dev.setEngine_device (d : Dev) (f : Engine → Engine) : (d.setEngine f).device = d.device := rfl
@[simp] theorem Dev.setEngine_start (d : Dev) (f : Engine → Engine) : (d.setEngine f).start = d.start := rfl
@[simp] theorem Dev.setEngine_get (d : Dev) (f : Engine → Engine) (q : Reg) : (d.setEngine f).get q = d.get q := rfl
@[simp] theorem Dev.setEngine_u (d : Dev) (f : Engine → Engine) (q : Reg) : (d.setEngine f).u q = d.u q := rfl

/-! ### setCapture -/

@[simp] theorem Dev.setCapture_live (d : Dev) (f : Capture → Capture) : (d.setCapture f).live = d.live := rfl
@[simp] theorem Dev.setCapture_shadow (d : Dev) (f : Capture → Capture) : (d.setCapture f).shadow = d.shadow := rfl
@[simp] theorem Dev.setCapture_nvm (d : Dev) (f : Capture → Capture) : (d.setCapture f).nvm = d.nvm := rfl
@[simp] theorem Dev.setCapture_course (d : Dev) (f : Capture → Capture) : (d.setCapture f).course = d.course := rfl
@[simp] theorem Dev.setCapture_convs (d : Dev) (f : Capture → Capture) : (d.setCapture f).convs = d.convs := rfl
@[simp] theorem Dev.setCapture_seats (d : Dev) (f : Capture → Capture) : (d.setCapture f).seats = d.seats := rfl
@[simp] theorem Dev.setCapture_queue (d : Dev) (f : Capture → Capture) : (d.setCapture f).queue = d.queue := rfl
@[simp] theorem Dev.setCapture_xcheck (d : Dev) (f : Capture → Capture) : (d.setCapture f).xcheck = d.xcheck := rfl
@[simp] theorem Dev.setCapture_engine (d : Dev) (f : Capture → Capture) : (d.setCapture f).engine = d.engine := rfl
@[simp] theorem Dev.setCapture_capture (d : Dev) (f : Capture → Capture) : (d.setCapture f).capture = f d.capture := rfl
@[simp] theorem Dev.setCapture_outputs (d : Dev) (f : Capture → Capture) : (d.setCapture f).outputs = d.outputs := rfl
@[simp] theorem Dev.setCapture_pwm (d : Dev) (f : Capture → Capture) : (d.setCapture f).pwm = d.pwm := rfl
@[simp] theorem Dev.setCapture_ledger (d : Dev) (f : Capture → Capture) : (d.setCapture f).ledger = d.ledger := rfl
@[simp] theorem Dev.setCapture_net (d : Dev) (f : Capture → Capture) : (d.setCapture f).net = d.net := rfl
@[simp] theorem Dev.setCapture_power (d : Dev) (f : Capture → Capture) : (d.setCapture f).power = d.power := rfl
@[simp] theorem Dev.setCapture_thermal (d : Dev) (f : Capture → Capture) : (d.setCapture f).thermal = d.thermal := rfl
@[simp] theorem Dev.setCapture_security (d : Dev) (f : Capture → Capture) : (d.setCapture f).security = d.security := rfl
@[simp] theorem Dev.setCapture_link (d : Dev) (f : Capture → Capture) : (d.setCapture f).link = d.link := rfl
@[simp] theorem Dev.setCapture_device (d : Dev) (f : Capture → Capture) : (d.setCapture f).device = d.device := rfl
@[simp] theorem Dev.setCapture_start (d : Dev) (f : Capture → Capture) : (d.setCapture f).start = d.start := rfl
@[simp] theorem Dev.setCapture_get (d : Dev) (f : Capture → Capture) (q : Reg) : (d.setCapture f).get q = d.get q := rfl
@[simp] theorem Dev.setCapture_u (d : Dev) (f : Capture → Capture) (q : Reg) : (d.setCapture f).u q = d.u q := rfl

/-! ### setOutputs -/

@[simp] theorem Dev.setOutputs_live (d : Dev) (f : Outputs → Outputs) : (d.setOutputs f).live = d.live := rfl
@[simp] theorem Dev.setOutputs_shadow (d : Dev) (f : Outputs → Outputs) : (d.setOutputs f).shadow = d.shadow := rfl
@[simp] theorem Dev.setOutputs_nvm (d : Dev) (f : Outputs → Outputs) : (d.setOutputs f).nvm = d.nvm := rfl
@[simp] theorem Dev.setOutputs_course (d : Dev) (f : Outputs → Outputs) : (d.setOutputs f).course = d.course := rfl
@[simp] theorem Dev.setOutputs_convs (d : Dev) (f : Outputs → Outputs) : (d.setOutputs f).convs = d.convs := rfl
@[simp] theorem Dev.setOutputs_seats (d : Dev) (f : Outputs → Outputs) : (d.setOutputs f).seats = d.seats := rfl
@[simp] theorem Dev.setOutputs_queue (d : Dev) (f : Outputs → Outputs) : (d.setOutputs f).queue = d.queue := rfl
@[simp] theorem Dev.setOutputs_xcheck (d : Dev) (f : Outputs → Outputs) : (d.setOutputs f).xcheck = d.xcheck := rfl
@[simp] theorem Dev.setOutputs_engine (d : Dev) (f : Outputs → Outputs) : (d.setOutputs f).engine = d.engine := rfl
@[simp] theorem Dev.setOutputs_capture (d : Dev) (f : Outputs → Outputs) : (d.setOutputs f).capture = d.capture := rfl
@[simp] theorem Dev.setOutputs_outputs (d : Dev) (f : Outputs → Outputs) : (d.setOutputs f).outputs = f d.outputs := rfl
@[simp] theorem Dev.setOutputs_pwm (d : Dev) (f : Outputs → Outputs) : (d.setOutputs f).pwm = d.pwm := rfl
@[simp] theorem Dev.setOutputs_ledger (d : Dev) (f : Outputs → Outputs) : (d.setOutputs f).ledger = d.ledger := rfl
@[simp] theorem Dev.setOutputs_net (d : Dev) (f : Outputs → Outputs) : (d.setOutputs f).net = d.net := rfl
@[simp] theorem Dev.setOutputs_power (d : Dev) (f : Outputs → Outputs) : (d.setOutputs f).power = d.power := rfl
@[simp] theorem Dev.setOutputs_thermal (d : Dev) (f : Outputs → Outputs) : (d.setOutputs f).thermal = d.thermal := rfl
@[simp] theorem Dev.setOutputs_security (d : Dev) (f : Outputs → Outputs) : (d.setOutputs f).security = d.security := rfl
@[simp] theorem Dev.setOutputs_link (d : Dev) (f : Outputs → Outputs) : (d.setOutputs f).link = d.link := rfl
@[simp] theorem Dev.setOutputs_device (d : Dev) (f : Outputs → Outputs) : (d.setOutputs f).device = d.device := rfl
@[simp] theorem Dev.setOutputs_start (d : Dev) (f : Outputs → Outputs) : (d.setOutputs f).start = d.start := rfl
@[simp] theorem Dev.setOutputs_get (d : Dev) (f : Outputs → Outputs) (q : Reg) : (d.setOutputs f).get q = d.get q := rfl
@[simp] theorem Dev.setOutputs_u (d : Dev) (f : Outputs → Outputs) (q : Reg) : (d.setOutputs f).u q = d.u q := rfl

/-! ### setLedger -/

@[simp] theorem Dev.setLedger_live (d : Dev) (f : Ledger → Ledger) : (d.setLedger f).live = d.live := rfl
@[simp] theorem Dev.setLedger_shadow (d : Dev) (f : Ledger → Ledger) : (d.setLedger f).shadow = d.shadow := rfl
@[simp] theorem Dev.setLedger_nvm (d : Dev) (f : Ledger → Ledger) : (d.setLedger f).nvm = d.nvm := rfl
@[simp] theorem Dev.setLedger_course (d : Dev) (f : Ledger → Ledger) : (d.setLedger f).course = d.course := rfl
@[simp] theorem Dev.setLedger_convs (d : Dev) (f : Ledger → Ledger) : (d.setLedger f).convs = d.convs := rfl
@[simp] theorem Dev.setLedger_seats (d : Dev) (f : Ledger → Ledger) : (d.setLedger f).seats = d.seats := rfl
@[simp] theorem Dev.setLedger_queue (d : Dev) (f : Ledger → Ledger) : (d.setLedger f).queue = d.queue := rfl
@[simp] theorem Dev.setLedger_xcheck (d : Dev) (f : Ledger → Ledger) : (d.setLedger f).xcheck = d.xcheck := rfl
@[simp] theorem Dev.setLedger_engine (d : Dev) (f : Ledger → Ledger) : (d.setLedger f).engine = d.engine := rfl
@[simp] theorem Dev.setLedger_capture (d : Dev) (f : Ledger → Ledger) : (d.setLedger f).capture = d.capture := rfl
@[simp] theorem Dev.setLedger_outputs (d : Dev) (f : Ledger → Ledger) : (d.setLedger f).outputs = d.outputs := rfl
@[simp] theorem Dev.setLedger_pwm (d : Dev) (f : Ledger → Ledger) : (d.setLedger f).pwm = d.pwm := rfl
@[simp] theorem Dev.setLedger_ledger (d : Dev) (f : Ledger → Ledger) : (d.setLedger f).ledger = f d.ledger := rfl
@[simp] theorem Dev.setLedger_net (d : Dev) (f : Ledger → Ledger) : (d.setLedger f).net = d.net := rfl
@[simp] theorem Dev.setLedger_power (d : Dev) (f : Ledger → Ledger) : (d.setLedger f).power = d.power := rfl
@[simp] theorem Dev.setLedger_thermal (d : Dev) (f : Ledger → Ledger) : (d.setLedger f).thermal = d.thermal := rfl
@[simp] theorem Dev.setLedger_security (d : Dev) (f : Ledger → Ledger) : (d.setLedger f).security = d.security := rfl
@[simp] theorem Dev.setLedger_link (d : Dev) (f : Ledger → Ledger) : (d.setLedger f).link = d.link := rfl
@[simp] theorem Dev.setLedger_device (d : Dev) (f : Ledger → Ledger) : (d.setLedger f).device = d.device := rfl
@[simp] theorem Dev.setLedger_start (d : Dev) (f : Ledger → Ledger) : (d.setLedger f).start = d.start := rfl
@[simp] theorem Dev.setLedger_get (d : Dev) (f : Ledger → Ledger) (q : Reg) : (d.setLedger f).get q = d.get q := rfl
@[simp] theorem Dev.setLedger_u (d : Dev) (f : Ledger → Ledger) (q : Reg) : (d.setLedger f).u q = d.u q := rfl

/-! ### setNet -/

@[simp] theorem Dev.setNet_live (d : Dev) (f : Net → Net) : (d.setNet f).live = d.live := rfl
@[simp] theorem Dev.setNet_shadow (d : Dev) (f : Net → Net) : (d.setNet f).shadow = d.shadow := rfl
@[simp] theorem Dev.setNet_nvm (d : Dev) (f : Net → Net) : (d.setNet f).nvm = d.nvm := rfl
@[simp] theorem Dev.setNet_course (d : Dev) (f : Net → Net) : (d.setNet f).course = d.course := rfl
@[simp] theorem Dev.setNet_convs (d : Dev) (f : Net → Net) : (d.setNet f).convs = d.convs := rfl
@[simp] theorem Dev.setNet_seats (d : Dev) (f : Net → Net) : (d.setNet f).seats = d.seats := rfl
@[simp] theorem Dev.setNet_queue (d : Dev) (f : Net → Net) : (d.setNet f).queue = d.queue := rfl
@[simp] theorem Dev.setNet_xcheck (d : Dev) (f : Net → Net) : (d.setNet f).xcheck = d.xcheck := rfl
@[simp] theorem Dev.setNet_engine (d : Dev) (f : Net → Net) : (d.setNet f).engine = d.engine := rfl
@[simp] theorem Dev.setNet_capture (d : Dev) (f : Net → Net) : (d.setNet f).capture = d.capture := rfl
@[simp] theorem Dev.setNet_outputs (d : Dev) (f : Net → Net) : (d.setNet f).outputs = d.outputs := rfl
@[simp] theorem Dev.setNet_pwm (d : Dev) (f : Net → Net) : (d.setNet f).pwm = d.pwm := rfl
@[simp] theorem Dev.setNet_ledger (d : Dev) (f : Net → Net) : (d.setNet f).ledger = d.ledger := rfl
@[simp] theorem Dev.setNet_net (d : Dev) (f : Net → Net) : (d.setNet f).net = f d.net := rfl
@[simp] theorem Dev.setNet_power (d : Dev) (f : Net → Net) : (d.setNet f).power = d.power := rfl
@[simp] theorem Dev.setNet_thermal (d : Dev) (f : Net → Net) : (d.setNet f).thermal = d.thermal := rfl
@[simp] theorem Dev.setNet_security (d : Dev) (f : Net → Net) : (d.setNet f).security = d.security := rfl
@[simp] theorem Dev.setNet_link (d : Dev) (f : Net → Net) : (d.setNet f).link = d.link := rfl
@[simp] theorem Dev.setNet_device (d : Dev) (f : Net → Net) : (d.setNet f).device = d.device := rfl
@[simp] theorem Dev.setNet_start (d : Dev) (f : Net → Net) : (d.setNet f).start = d.start := rfl
@[simp] theorem Dev.setNet_get (d : Dev) (f : Net → Net) (q : Reg) : (d.setNet f).get q = d.get q := rfl
@[simp] theorem Dev.setNet_u (d : Dev) (f : Net → Net) (q : Reg) : (d.setNet f).u q = d.u q := rfl

/-! ### setPower -/

@[simp] theorem Dev.setPower_live (d : Dev) (f : Power → Power) : (d.setPower f).live = d.live := rfl
@[simp] theorem Dev.setPower_shadow (d : Dev) (f : Power → Power) : (d.setPower f).shadow = d.shadow := rfl
@[simp] theorem Dev.setPower_nvm (d : Dev) (f : Power → Power) : (d.setPower f).nvm = d.nvm := rfl
@[simp] theorem Dev.setPower_course (d : Dev) (f : Power → Power) : (d.setPower f).course = d.course := rfl
@[simp] theorem Dev.setPower_convs (d : Dev) (f : Power → Power) : (d.setPower f).convs = d.convs := rfl
@[simp] theorem Dev.setPower_seats (d : Dev) (f : Power → Power) : (d.setPower f).seats = d.seats := rfl
@[simp] theorem Dev.setPower_queue (d : Dev) (f : Power → Power) : (d.setPower f).queue = d.queue := rfl
@[simp] theorem Dev.setPower_xcheck (d : Dev) (f : Power → Power) : (d.setPower f).xcheck = d.xcheck := rfl
@[simp] theorem Dev.setPower_engine (d : Dev) (f : Power → Power) : (d.setPower f).engine = d.engine := rfl
@[simp] theorem Dev.setPower_capture (d : Dev) (f : Power → Power) : (d.setPower f).capture = d.capture := rfl
@[simp] theorem Dev.setPower_outputs (d : Dev) (f : Power → Power) : (d.setPower f).outputs = d.outputs := rfl
@[simp] theorem Dev.setPower_pwm (d : Dev) (f : Power → Power) : (d.setPower f).pwm = d.pwm := rfl
@[simp] theorem Dev.setPower_ledger (d : Dev) (f : Power → Power) : (d.setPower f).ledger = d.ledger := rfl
@[simp] theorem Dev.setPower_net (d : Dev) (f : Power → Power) : (d.setPower f).net = d.net := rfl
@[simp] theorem Dev.setPower_power (d : Dev) (f : Power → Power) : (d.setPower f).power = f d.power := rfl
@[simp] theorem Dev.setPower_thermal (d : Dev) (f : Power → Power) : (d.setPower f).thermal = d.thermal := rfl
@[simp] theorem Dev.setPower_security (d : Dev) (f : Power → Power) : (d.setPower f).security = d.security := rfl
@[simp] theorem Dev.setPower_link (d : Dev) (f : Power → Power) : (d.setPower f).link = d.link := rfl
@[simp] theorem Dev.setPower_device (d : Dev) (f : Power → Power) : (d.setPower f).device = d.device := rfl
@[simp] theorem Dev.setPower_start (d : Dev) (f : Power → Power) : (d.setPower f).start = d.start := rfl
@[simp] theorem Dev.setPower_get (d : Dev) (f : Power → Power) (q : Reg) : (d.setPower f).get q = d.get q := rfl
@[simp] theorem Dev.setPower_u (d : Dev) (f : Power → Power) (q : Reg) : (d.setPower f).u q = d.u q := rfl

/-! ### setThermal -/

@[simp] theorem Dev.setThermal_live (d : Dev) (f : Thermal → Thermal) : (d.setThermal f).live = d.live := rfl
@[simp] theorem Dev.setThermal_shadow (d : Dev) (f : Thermal → Thermal) : (d.setThermal f).shadow = d.shadow := rfl
@[simp] theorem Dev.setThermal_nvm (d : Dev) (f : Thermal → Thermal) : (d.setThermal f).nvm = d.nvm := rfl
@[simp] theorem Dev.setThermal_course (d : Dev) (f : Thermal → Thermal) : (d.setThermal f).course = d.course := rfl
@[simp] theorem Dev.setThermal_convs (d : Dev) (f : Thermal → Thermal) : (d.setThermal f).convs = d.convs := rfl
@[simp] theorem Dev.setThermal_seats (d : Dev) (f : Thermal → Thermal) : (d.setThermal f).seats = d.seats := rfl
@[simp] theorem Dev.setThermal_queue (d : Dev) (f : Thermal → Thermal) : (d.setThermal f).queue = d.queue := rfl
@[simp] theorem Dev.setThermal_xcheck (d : Dev) (f : Thermal → Thermal) : (d.setThermal f).xcheck = d.xcheck := rfl
@[simp] theorem Dev.setThermal_engine (d : Dev) (f : Thermal → Thermal) : (d.setThermal f).engine = d.engine := rfl
@[simp] theorem Dev.setThermal_capture (d : Dev) (f : Thermal → Thermal) : (d.setThermal f).capture = d.capture := rfl
@[simp] theorem Dev.setThermal_outputs (d : Dev) (f : Thermal → Thermal) : (d.setThermal f).outputs = d.outputs := rfl
@[simp] theorem Dev.setThermal_pwm (d : Dev) (f : Thermal → Thermal) : (d.setThermal f).pwm = d.pwm := rfl
@[simp] theorem Dev.setThermal_ledger (d : Dev) (f : Thermal → Thermal) : (d.setThermal f).ledger = d.ledger := rfl
@[simp] theorem Dev.setThermal_net (d : Dev) (f : Thermal → Thermal) : (d.setThermal f).net = d.net := rfl
@[simp] theorem Dev.setThermal_power (d : Dev) (f : Thermal → Thermal) : (d.setThermal f).power = d.power := rfl
@[simp] theorem Dev.setThermal_thermal (d : Dev) (f : Thermal → Thermal) : (d.setThermal f).thermal = f d.thermal := rfl
@[simp] theorem Dev.setThermal_security (d : Dev) (f : Thermal → Thermal) : (d.setThermal f).security = d.security := rfl
@[simp] theorem Dev.setThermal_link (d : Dev) (f : Thermal → Thermal) : (d.setThermal f).link = d.link := rfl
@[simp] theorem Dev.setThermal_device (d : Dev) (f : Thermal → Thermal) : (d.setThermal f).device = d.device := rfl
@[simp] theorem Dev.setThermal_start (d : Dev) (f : Thermal → Thermal) : (d.setThermal f).start = d.start := rfl
@[simp] theorem Dev.setThermal_get (d : Dev) (f : Thermal → Thermal) (q : Reg) : (d.setThermal f).get q = d.get q := rfl
@[simp] theorem Dev.setThermal_u (d : Dev) (f : Thermal → Thermal) (q : Reg) : (d.setThermal f).u q = d.u q := rfl

/-! ### setSecurity -/

@[simp] theorem Dev.setSecurity_live (d : Dev) (f : Security → Security) : (d.setSecurity f).live = d.live := rfl
@[simp] theorem Dev.setSecurity_shadow (d : Dev) (f : Security → Security) : (d.setSecurity f).shadow = d.shadow := rfl
@[simp] theorem Dev.setSecurity_nvm (d : Dev) (f : Security → Security) : (d.setSecurity f).nvm = d.nvm := rfl
@[simp] theorem Dev.setSecurity_course (d : Dev) (f : Security → Security) : (d.setSecurity f).course = d.course := rfl
@[simp] theorem Dev.setSecurity_convs (d : Dev) (f : Security → Security) : (d.setSecurity f).convs = d.convs := rfl
@[simp] theorem Dev.setSecurity_seats (d : Dev) (f : Security → Security) : (d.setSecurity f).seats = d.seats := rfl
@[simp] theorem Dev.setSecurity_queue (d : Dev) (f : Security → Security) : (d.setSecurity f).queue = d.queue := rfl
@[simp] theorem Dev.setSecurity_xcheck (d : Dev) (f : Security → Security) : (d.setSecurity f).xcheck = d.xcheck := rfl
@[simp] theorem Dev.setSecurity_engine (d : Dev) (f : Security → Security) : (d.setSecurity f).engine = d.engine := rfl
@[simp] theorem Dev.setSecurity_capture (d : Dev) (f : Security → Security) : (d.setSecurity f).capture = d.capture := rfl
@[simp] theorem Dev.setSecurity_outputs (d : Dev) (f : Security → Security) : (d.setSecurity f).outputs = d.outputs := rfl
@[simp] theorem Dev.setSecurity_pwm (d : Dev) (f : Security → Security) : (d.setSecurity f).pwm = d.pwm := rfl
@[simp] theorem Dev.setSecurity_ledger (d : Dev) (f : Security → Security) : (d.setSecurity f).ledger = d.ledger := rfl
@[simp] theorem Dev.setSecurity_net (d : Dev) (f : Security → Security) : (d.setSecurity f).net = d.net := rfl
@[simp] theorem Dev.setSecurity_power (d : Dev) (f : Security → Security) : (d.setSecurity f).power = d.power := rfl
@[simp] theorem Dev.setSecurity_thermal (d : Dev) (f : Security → Security) : (d.setSecurity f).thermal = d.thermal := rfl
@[simp] theorem Dev.setSecurity_security (d : Dev) (f : Security → Security) : (d.setSecurity f).security = f d.security := rfl
@[simp] theorem Dev.setSecurity_link (d : Dev) (f : Security → Security) : (d.setSecurity f).link = d.link := rfl
@[simp] theorem Dev.setSecurity_device (d : Dev) (f : Security → Security) : (d.setSecurity f).device = d.device := rfl
@[simp] theorem Dev.setSecurity_start (d : Dev) (f : Security → Security) : (d.setSecurity f).start = d.start := rfl
@[simp] theorem Dev.setSecurity_get (d : Dev) (f : Security → Security) (q : Reg) : (d.setSecurity f).get q = d.get q := rfl
@[simp] theorem Dev.setSecurity_u (d : Dev) (f : Security → Security) (q : Reg) : (d.setSecurity f).u q = d.u q := rfl

/-! ### setLink -/

@[simp] theorem Dev.setLink_live (d : Dev) (f : Link → Link) : (d.setLink f).live = d.live := rfl
@[simp] theorem Dev.setLink_shadow (d : Dev) (f : Link → Link) : (d.setLink f).shadow = d.shadow := rfl
@[simp] theorem Dev.setLink_nvm (d : Dev) (f : Link → Link) : (d.setLink f).nvm = d.nvm := rfl
@[simp] theorem Dev.setLink_course (d : Dev) (f : Link → Link) : (d.setLink f).course = d.course := rfl
@[simp] theorem Dev.setLink_convs (d : Dev) (f : Link → Link) : (d.setLink f).convs = d.convs := rfl
@[simp] theorem Dev.setLink_seats (d : Dev) (f : Link → Link) : (d.setLink f).seats = d.seats := rfl
@[simp] theorem Dev.setLink_queue (d : Dev) (f : Link → Link) : (d.setLink f).queue = d.queue := rfl
@[simp] theorem Dev.setLink_xcheck (d : Dev) (f : Link → Link) : (d.setLink f).xcheck = d.xcheck := rfl
@[simp] theorem Dev.setLink_engine (d : Dev) (f : Link → Link) : (d.setLink f).engine = d.engine := rfl
@[simp] theorem Dev.setLink_capture (d : Dev) (f : Link → Link) : (d.setLink f).capture = d.capture := rfl
@[simp] theorem Dev.setLink_outputs (d : Dev) (f : Link → Link) : (d.setLink f).outputs = d.outputs := rfl
@[simp] theorem Dev.setLink_pwm (d : Dev) (f : Link → Link) : (d.setLink f).pwm = d.pwm := rfl
@[simp] theorem Dev.setLink_ledger (d : Dev) (f : Link → Link) : (d.setLink f).ledger = d.ledger := rfl
@[simp] theorem Dev.setLink_net (d : Dev) (f : Link → Link) : (d.setLink f).net = d.net := rfl
@[simp] theorem Dev.setLink_power (d : Dev) (f : Link → Link) : (d.setLink f).power = d.power := rfl
@[simp] theorem Dev.setLink_thermal (d : Dev) (f : Link → Link) : (d.setLink f).thermal = d.thermal := rfl
@[simp] theorem Dev.setLink_security (d : Dev) (f : Link → Link) : (d.setLink f).security = d.security := rfl
@[simp] theorem Dev.setLink_link (d : Dev) (f : Link → Link) : (d.setLink f).link = f d.link := rfl
@[simp] theorem Dev.setLink_device (d : Dev) (f : Link → Link) : (d.setLink f).device = d.device := rfl
@[simp] theorem Dev.setLink_start (d : Dev) (f : Link → Link) : (d.setLink f).start = d.start := rfl
@[simp] theorem Dev.setLink_get (d : Dev) (f : Link → Link) (q : Reg) : (d.setLink f).get q = d.get q := rfl
@[simp] theorem Dev.setLink_u (d : Dev) (f : Link → Link) (q : Reg) : (d.setLink f).u q = d.u q := rfl

/-! ### setDevice -/

@[simp] theorem Dev.setDevice_live (d : Dev) (f : Device → Device) : (d.setDevice f).live = d.live := rfl
@[simp] theorem Dev.setDevice_shadow (d : Dev) (f : Device → Device) : (d.setDevice f).shadow = d.shadow := rfl
@[simp] theorem Dev.setDevice_nvm (d : Dev) (f : Device → Device) : (d.setDevice f).nvm = d.nvm := rfl
@[simp] theorem Dev.setDevice_course (d : Dev) (f : Device → Device) : (d.setDevice f).course = d.course := rfl
@[simp] theorem Dev.setDevice_convs (d : Dev) (f : Device → Device) : (d.setDevice f).convs = d.convs := rfl
@[simp] theorem Dev.setDevice_seats (d : Dev) (f : Device → Device) : (d.setDevice f).seats = d.seats := rfl
@[simp] theorem Dev.setDevice_queue (d : Dev) (f : Device → Device) : (d.setDevice f).queue = d.queue := rfl
@[simp] theorem Dev.setDevice_xcheck (d : Dev) (f : Device → Device) : (d.setDevice f).xcheck = d.xcheck := rfl
@[simp] theorem Dev.setDevice_engine (d : Dev) (f : Device → Device) : (d.setDevice f).engine = d.engine := rfl
@[simp] theorem Dev.setDevice_capture (d : Dev) (f : Device → Device) : (d.setDevice f).capture = d.capture := rfl
@[simp] theorem Dev.setDevice_outputs (d : Dev) (f : Device → Device) : (d.setDevice f).outputs = d.outputs := rfl
@[simp] theorem Dev.setDevice_pwm (d : Dev) (f : Device → Device) : (d.setDevice f).pwm = d.pwm := rfl
@[simp] theorem Dev.setDevice_ledger (d : Dev) (f : Device → Device) : (d.setDevice f).ledger = d.ledger := rfl
@[simp] theorem Dev.setDevice_net (d : Dev) (f : Device → Device) : (d.setDevice f).net = d.net := rfl
@[simp] theorem Dev.setDevice_power (d : Dev) (f : Device → Device) : (d.setDevice f).power = d.power := rfl
@[simp] theorem Dev.setDevice_thermal (d : Dev) (f : Device → Device) : (d.setDevice f).thermal = d.thermal := rfl
@[simp] theorem Dev.setDevice_security (d : Dev) (f : Device → Device) : (d.setDevice f).security = d.security := rfl
@[simp] theorem Dev.setDevice_link (d : Dev) (f : Device → Device) : (d.setDevice f).link = d.link := rfl
@[simp] theorem Dev.setDevice_device (d : Dev) (f : Device → Device) : (d.setDevice f).device = f d.device := rfl
@[simp] theorem Dev.setDevice_start (d : Dev) (f : Device → Device) : (d.setDevice f).start = d.start := rfl
@[simp] theorem Dev.setDevice_get (d : Dev) (f : Device → Device) (q : Reg) : (d.setDevice f).get q = d.get q := rfl
@[simp] theorem Dev.setDevice_u (d : Dev) (f : Device → Device) (q : Reg) : (d.setDevice f).u q = d.u q := rfl

/-! ### setStart -/

@[simp] theorem Dev.setStart_live (d : Dev) (f : Start → Start) : (d.setStart f).live = d.live := rfl
@[simp] theorem Dev.setStart_shadow (d : Dev) (f : Start → Start) : (d.setStart f).shadow = d.shadow := rfl
@[simp] theorem Dev.setStart_nvm (d : Dev) (f : Start → Start) : (d.setStart f).nvm = d.nvm := rfl
@[simp] theorem Dev.setStart_course (d : Dev) (f : Start → Start) : (d.setStart f).course = d.course := rfl
@[simp] theorem Dev.setStart_convs (d : Dev) (f : Start → Start) : (d.setStart f).convs = d.convs := rfl
@[simp] theorem Dev.setStart_seats (d : Dev) (f : Start → Start) : (d.setStart f).seats = d.seats := rfl
@[simp] theorem Dev.setStart_queue (d : Dev) (f : Start → Start) : (d.setStart f).queue = d.queue := rfl
@[simp] theorem Dev.setStart_xcheck (d : Dev) (f : Start → Start) : (d.setStart f).xcheck = d.xcheck := rfl
@[simp] theorem Dev.setStart_engine (d : Dev) (f : Start → Start) : (d.setStart f).engine = d.engine := rfl
@[simp] theorem Dev.setStart_capture (d : Dev) (f : Start → Start) : (d.setStart f).capture = d.capture := rfl
@[simp] theorem Dev.setStart_outputs (d : Dev) (f : Start → Start) : (d.setStart f).outputs = d.outputs := rfl
@[simp] theorem Dev.setStart_pwm (d : Dev) (f : Start → Start) : (d.setStart f).pwm = d.pwm := rfl
@[simp] theorem Dev.setStart_ledger (d : Dev) (f : Start → Start) : (d.setStart f).ledger = d.ledger := rfl
@[simp] theorem Dev.setStart_net (d : Dev) (f : Start → Start) : (d.setStart f).net = d.net := rfl
@[simp] theorem Dev.setStart_power (d : Dev) (f : Start → Start) : (d.setStart f).power = d.power := rfl
@[simp] theorem Dev.setStart_thermal (d : Dev) (f : Start → Start) : (d.setStart f).thermal = d.thermal := rfl
@[simp] theorem Dev.setStart_security (d : Dev) (f : Start → Start) : (d.setStart f).security = d.security := rfl
@[simp] theorem Dev.setStart_link (d : Dev) (f : Start → Start) : (d.setStart f).link = d.link := rfl
@[simp] theorem Dev.setStart_device (d : Dev) (f : Start → Start) : (d.setStart f).device = d.device := rfl
@[simp] theorem Dev.setStart_start (d : Dev) (f : Start → Start) : (d.setStart f).start = f d.start := rfl
@[simp] theorem Dev.setStart_get (d : Dev) (f : Start → Start) (q : Reg) : (d.setStart f).get q = d.get q := rfl
@[simp] theorem Dev.setStart_u (d : Dev) (f : Start → Start) (q : Reg) : (d.setStart f).u q = d.u q := rfl

/-! ### setConv -/

@[simp] theorem Dev.setConv_live (d : Dev) (c : Nat) (f : Conv → Conv) : (d.setConv c f).live = d.live := rfl
@[simp] theorem Dev.setConv_shadow (d : Dev) (c : Nat) (f : Conv → Conv) : (d.setConv c f).shadow = d.shadow := rfl
@[simp] theorem Dev.setConv_nvm (d : Dev) (c : Nat) (f : Conv → Conv) : (d.setConv c f).nvm = d.nvm := rfl
@[simp] theorem Dev.setConv_course (d : Dev) (c : Nat) (f : Conv → Conv) : (d.setConv c f).course = d.course := rfl
@[simp] theorem Dev.setConv_convs (d : Dev) (c : Nat) (f : Conv → Conv) : (d.setConv c f).convs = d.convs.modify c f := rfl
@[simp] theorem Dev.setConv_seats (d : Dev) (c : Nat) (f : Conv → Conv) : (d.setConv c f).seats = d.seats := rfl
@[simp] theorem Dev.setConv_queue (d : Dev) (c : Nat) (f : Conv → Conv) : (d.setConv c f).queue = d.queue := rfl
@[simp] theorem Dev.setConv_xcheck (d : Dev) (c : Nat) (f : Conv → Conv) : (d.setConv c f).xcheck = d.xcheck := rfl
@[simp] theorem Dev.setConv_engine (d : Dev) (c : Nat) (f : Conv → Conv) : (d.setConv c f).engine = d.engine := rfl
@[simp] theorem Dev.setConv_capture (d : Dev) (c : Nat) (f : Conv → Conv) : (d.setConv c f).capture = d.capture := rfl
@[simp] theorem Dev.setConv_outputs (d : Dev) (c : Nat) (f : Conv → Conv) : (d.setConv c f).outputs = d.outputs := rfl
@[simp] theorem Dev.setConv_pwm (d : Dev) (c : Nat) (f : Conv → Conv) : (d.setConv c f).pwm = d.pwm := rfl
@[simp] theorem Dev.setConv_ledger (d : Dev) (c : Nat) (f : Conv → Conv) : (d.setConv c f).ledger = d.ledger := rfl
@[simp] theorem Dev.setConv_net (d : Dev) (c : Nat) (f : Conv → Conv) : (d.setConv c f).net = d.net := rfl
@[simp] theorem Dev.setConv_power (d : Dev) (c : Nat) (f : Conv → Conv) : (d.setConv c f).power = d.power := rfl
@[simp] theorem Dev.setConv_thermal (d : Dev) (c : Nat) (f : Conv → Conv) : (d.setConv c f).thermal = d.thermal := rfl
@[simp] theorem Dev.setConv_security (d : Dev) (c : Nat) (f : Conv → Conv) : (d.setConv c f).security = d.security := rfl
@[simp] theorem Dev.setConv_link (d : Dev) (c : Nat) (f : Conv → Conv) : (d.setConv c f).link = d.link := rfl
@[simp] theorem Dev.setConv_device (d : Dev) (c : Nat) (f : Conv → Conv) : (d.setConv c f).device = d.device := rfl
@[simp] theorem Dev.setConv_start (d : Dev) (c : Nat) (f : Conv → Conv) : (d.setConv c f).start = d.start := rfl
@[simp] theorem Dev.setConv_get (d : Dev) (c : Nat) (f : Conv → Conv) (q : Reg) : (d.setConv c f).get q = d.get q := rfl
@[simp] theorem Dev.setConv_u (d : Dev) (c : Nat) (f : Conv → Conv) (q : Reg) : (d.setConv c f).u q = d.u q := rfl

/-! ### setSeat -/

@[simp] theorem Dev.setSeat_live (d : Dev) (n : Nat) (f : Seat → Seat) : (d.setSeat n f).live = d.live := rfl
@[simp] theorem Dev.setSeat_shadow (d : Dev) (n : Nat) (f : Seat → Seat) : (d.setSeat n f).shadow = d.shadow := rfl
@[simp] theorem Dev.setSeat_nvm (d : Dev) (n : Nat) (f : Seat → Seat) : (d.setSeat n f).nvm = d.nvm := rfl
@[simp] theorem Dev.setSeat_course (d : Dev) (n : Nat) (f : Seat → Seat) : (d.setSeat n f).course = d.course := rfl
@[simp] theorem Dev.setSeat_convs (d : Dev) (n : Nat) (f : Seat → Seat) : (d.setSeat n f).convs = d.convs := rfl
@[simp] theorem Dev.setSeat_seats (d : Dev) (n : Nat) (f : Seat → Seat) : (d.setSeat n f).seats = d.seats.modify n f := rfl
@[simp] theorem Dev.setSeat_queue (d : Dev) (n : Nat) (f : Seat → Seat) : (d.setSeat n f).queue = d.queue := rfl
@[simp] theorem Dev.setSeat_xcheck (d : Dev) (n : Nat) (f : Seat → Seat) : (d.setSeat n f).xcheck = d.xcheck := rfl
@[simp] theorem Dev.setSeat_engine (d : Dev) (n : Nat) (f : Seat → Seat) : (d.setSeat n f).engine = d.engine := rfl
@[simp] theorem Dev.setSeat_capture (d : Dev) (n : Nat) (f : Seat → Seat) : (d.setSeat n f).capture = d.capture := rfl
@[simp] theorem Dev.setSeat_outputs (d : Dev) (n : Nat) (f : Seat → Seat) : (d.setSeat n f).outputs = d.outputs := rfl
@[simp] theorem Dev.setSeat_pwm (d : Dev) (n : Nat) (f : Seat → Seat) : (d.setSeat n f).pwm = d.pwm := rfl
@[simp] theorem Dev.setSeat_ledger (d : Dev) (n : Nat) (f : Seat → Seat) : (d.setSeat n f).ledger = d.ledger := rfl
@[simp] theorem Dev.setSeat_net (d : Dev) (n : Nat) (f : Seat → Seat) : (d.setSeat n f).net = d.net := rfl
@[simp] theorem Dev.setSeat_power (d : Dev) (n : Nat) (f : Seat → Seat) : (d.setSeat n f).power = d.power := rfl
@[simp] theorem Dev.setSeat_thermal (d : Dev) (n : Nat) (f : Seat → Seat) : (d.setSeat n f).thermal = d.thermal := rfl
@[simp] theorem Dev.setSeat_security (d : Dev) (n : Nat) (f : Seat → Seat) : (d.setSeat n f).security = d.security := rfl
@[simp] theorem Dev.setSeat_link (d : Dev) (n : Nat) (f : Seat → Seat) : (d.setSeat n f).link = d.link := rfl
@[simp] theorem Dev.setSeat_device (d : Dev) (n : Nat) (f : Seat → Seat) : (d.setSeat n f).device = d.device := rfl
@[simp] theorem Dev.setSeat_start (d : Dev) (n : Nat) (f : Seat → Seat) : (d.setSeat n f).start = d.start := rfl
@[simp] theorem Dev.setSeat_get (d : Dev) (n : Nat) (f : Seat → Seat) (q : Reg) : (d.setSeat n f).get q = d.get q := rfl
@[simp] theorem Dev.setSeat_u (d : Dev) (n : Nat) (f : Seat → Seat) (q : Reg) : (d.setSeat n f).u q = d.u q := rfl

/-! ### setSource -/

@[simp] theorem Dev.setSource_live (d : Dev) (x : Source) (f : SourceState → SourceState) : (d.setSource x f).live = d.live := rfl
@[simp] theorem Dev.setSource_shadow (d : Dev) (x : Source) (f : SourceState → SourceState) : (d.setSource x f).shadow = d.shadow := rfl
@[simp] theorem Dev.setSource_nvm (d : Dev) (x : Source) (f : SourceState → SourceState) : (d.setSource x f).nvm = d.nvm := rfl
@[simp] theorem Dev.setSource_course (d : Dev) (x : Source) (f : SourceState → SourceState) : (d.setSource x f).course = { d.course with sources := d.course.sources.modify (x.code - 1) f } := rfl
@[simp] theorem Dev.setSource_convs (d : Dev) (x : Source) (f : SourceState → SourceState) : (d.setSource x f).convs = d.convs := rfl
@[simp] theorem Dev.setSource_seats (d : Dev) (x : Source) (f : SourceState → SourceState) : (d.setSource x f).seats = d.seats := rfl
@[simp] theorem Dev.setSource_queue (d : Dev) (x : Source) (f : SourceState → SourceState) : (d.setSource x f).queue = d.queue := rfl
@[simp] theorem Dev.setSource_xcheck (d : Dev) (x : Source) (f : SourceState → SourceState) : (d.setSource x f).xcheck = d.xcheck := rfl
@[simp] theorem Dev.setSource_engine (d : Dev) (x : Source) (f : SourceState → SourceState) : (d.setSource x f).engine = d.engine := rfl
@[simp] theorem Dev.setSource_capture (d : Dev) (x : Source) (f : SourceState → SourceState) : (d.setSource x f).capture = d.capture := rfl
@[simp] theorem Dev.setSource_outputs (d : Dev) (x : Source) (f : SourceState → SourceState) : (d.setSource x f).outputs = d.outputs := rfl
@[simp] theorem Dev.setSource_pwm (d : Dev) (x : Source) (f : SourceState → SourceState) : (d.setSource x f).pwm = d.pwm := rfl
@[simp] theorem Dev.setSource_ledger (d : Dev) (x : Source) (f : SourceState → SourceState) : (d.setSource x f).ledger = d.ledger := rfl
@[simp] theorem Dev.setSource_net (d : Dev) (x : Source) (f : SourceState → SourceState) : (d.setSource x f).net = d.net := rfl
@[simp] theorem Dev.setSource_power (d : Dev) (x : Source) (f : SourceState → SourceState) : (d.setSource x f).power = d.power := rfl
@[simp] theorem Dev.setSource_thermal (d : Dev) (x : Source) (f : SourceState → SourceState) : (d.setSource x f).thermal = d.thermal := rfl
@[simp] theorem Dev.setSource_security (d : Dev) (x : Source) (f : SourceState → SourceState) : (d.setSource x f).security = d.security := rfl
@[simp] theorem Dev.setSource_link (d : Dev) (x : Source) (f : SourceState → SourceState) : (d.setSource x f).link = d.link := rfl
@[simp] theorem Dev.setSource_device (d : Dev) (x : Source) (f : SourceState → SourceState) : (d.setSource x f).device = d.device := rfl
@[simp] theorem Dev.setSource_start (d : Dev) (x : Source) (f : SourceState → SourceState) : (d.setSource x f).start = d.start := rfl
@[simp] theorem Dev.setSource_get (d : Dev) (x : Source) (f : SourceState → SourceState) (q : Reg) : (d.setSource x f).get q = d.get q := rfl
@[simp] theorem Dev.setSource_u (d : Dev) (x : Source) (f : SourceState → SourceState) (q : Reg) : (d.setSource x f).u q = d.u q := rfl

/-! ### setChannel -/

@[simp] theorem Dev.setChannel_live (d : Dev) (n : Nat) (f : Channel → Channel) : (d.setChannel n f).live = d.live := rfl
@[simp] theorem Dev.setChannel_shadow (d : Dev) (n : Nat) (f : Channel → Channel) : (d.setChannel n f).shadow = d.shadow := rfl
@[simp] theorem Dev.setChannel_nvm (d : Dev) (n : Nat) (f : Channel → Channel) : (d.setChannel n f).nvm = d.nvm := rfl
@[simp] theorem Dev.setChannel_course (d : Dev) (n : Nat) (f : Channel → Channel) : (d.setChannel n f).course = d.course := rfl
@[simp] theorem Dev.setChannel_convs (d : Dev) (n : Nat) (f : Channel → Channel) : (d.setChannel n f).convs = d.convs := rfl
@[simp] theorem Dev.setChannel_seats (d : Dev) (n : Nat) (f : Channel → Channel) : (d.setChannel n f).seats = d.seats := rfl
@[simp] theorem Dev.setChannel_queue (d : Dev) (n : Nat) (f : Channel → Channel) : (d.setChannel n f).queue = d.queue := rfl
@[simp] theorem Dev.setChannel_xcheck (d : Dev) (n : Nat) (f : Channel → Channel) : (d.setChannel n f).xcheck = d.xcheck := rfl
@[simp] theorem Dev.setChannel_engine (d : Dev) (n : Nat) (f : Channel → Channel) : (d.setChannel n f).engine = d.engine := rfl
@[simp] theorem Dev.setChannel_capture (d : Dev) (n : Nat) (f : Channel → Channel) : (d.setChannel n f).capture = { d.capture with channels := d.capture.channels.modify n f } := rfl
@[simp] theorem Dev.setChannel_outputs (d : Dev) (n : Nat) (f : Channel → Channel) : (d.setChannel n f).outputs = d.outputs := rfl
@[simp] theorem Dev.setChannel_pwm (d : Dev) (n : Nat) (f : Channel → Channel) : (d.setChannel n f).pwm = d.pwm := rfl
@[simp] theorem Dev.setChannel_ledger (d : Dev) (n : Nat) (f : Channel → Channel) : (d.setChannel n f).ledger = d.ledger := rfl
@[simp] theorem Dev.setChannel_net (d : Dev) (n : Nat) (f : Channel → Channel) : (d.setChannel n f).net = d.net := rfl
@[simp] theorem Dev.setChannel_power (d : Dev) (n : Nat) (f : Channel → Channel) : (d.setChannel n f).power = d.power := rfl
@[simp] theorem Dev.setChannel_thermal (d : Dev) (n : Nat) (f : Channel → Channel) : (d.setChannel n f).thermal = d.thermal := rfl
@[simp] theorem Dev.setChannel_security (d : Dev) (n : Nat) (f : Channel → Channel) : (d.setChannel n f).security = d.security := rfl
@[simp] theorem Dev.setChannel_link (d : Dev) (n : Nat) (f : Channel → Channel) : (d.setChannel n f).link = d.link := rfl
@[simp] theorem Dev.setChannel_device (d : Dev) (n : Nat) (f : Channel → Channel) : (d.setChannel n f).device = d.device := rfl
@[simp] theorem Dev.setChannel_start (d : Dev) (n : Nat) (f : Channel → Channel) : (d.setChannel n f).start = d.start := rfl
@[simp] theorem Dev.setChannel_get (d : Dev) (n : Nat) (f : Channel → Channel) (q : Reg) : (d.setChannel n f).get q = d.get q := rfl
@[simp] theorem Dev.setChannel_u (d : Dev) (n : Nat) (f : Channel → Channel) (q : Reg) : (d.setChannel n f).u q = d.u q := rfl

/-! ### setLane -/

@[simp] theorem Dev.setLane_live (d : Dev) (n : Nat) (f : Lane → Lane) : (d.setLane n f).live = d.live := rfl
@[simp] theorem Dev.setLane_shadow (d : Dev) (n : Nat) (f : Lane → Lane) : (d.setLane n f).shadow = d.shadow := rfl
@[simp] theorem Dev.setLane_nvm (d : Dev) (n : Nat) (f : Lane → Lane) : (d.setLane n f).nvm = d.nvm := rfl
@[simp] theorem Dev.setLane_course (d : Dev) (n : Nat) (f : Lane → Lane) : (d.setLane n f).course = d.course := rfl
@[simp] theorem Dev.setLane_convs (d : Dev) (n : Nat) (f : Lane → Lane) : (d.setLane n f).convs = d.convs := rfl
@[simp] theorem Dev.setLane_seats (d : Dev) (n : Nat) (f : Lane → Lane) : (d.setLane n f).seats = d.seats := rfl
@[simp] theorem Dev.setLane_queue (d : Dev) (n : Nat) (f : Lane → Lane) : (d.setLane n f).queue = d.queue := rfl
@[simp] theorem Dev.setLane_xcheck (d : Dev) (n : Nat) (f : Lane → Lane) : (d.setLane n f).xcheck = d.xcheck := rfl
@[simp] theorem Dev.setLane_engine (d : Dev) (n : Nat) (f : Lane → Lane) : (d.setLane n f).engine = { d.engine with lanes := d.engine.lanes.modify n f } := rfl
@[simp] theorem Dev.setLane_capture (d : Dev) (n : Nat) (f : Lane → Lane) : (d.setLane n f).capture = d.capture := rfl
@[simp] theorem Dev.setLane_outputs (d : Dev) (n : Nat) (f : Lane → Lane) : (d.setLane n f).outputs = d.outputs := rfl
@[simp] theorem Dev.setLane_pwm (d : Dev) (n : Nat) (f : Lane → Lane) : (d.setLane n f).pwm = d.pwm := rfl
@[simp] theorem Dev.setLane_ledger (d : Dev) (n : Nat) (f : Lane → Lane) : (d.setLane n f).ledger = d.ledger := rfl
@[simp] theorem Dev.setLane_net (d : Dev) (n : Nat) (f : Lane → Lane) : (d.setLane n f).net = d.net := rfl
@[simp] theorem Dev.setLane_power (d : Dev) (n : Nat) (f : Lane → Lane) : (d.setLane n f).power = d.power := rfl
@[simp] theorem Dev.setLane_thermal (d : Dev) (n : Nat) (f : Lane → Lane) : (d.setLane n f).thermal = d.thermal := rfl
@[simp] theorem Dev.setLane_security (d : Dev) (n : Nat) (f : Lane → Lane) : (d.setLane n f).security = d.security := rfl
@[simp] theorem Dev.setLane_link (d : Dev) (n : Nat) (f : Lane → Lane) : (d.setLane n f).link = d.link := rfl
@[simp] theorem Dev.setLane_device (d : Dev) (n : Nat) (f : Lane → Lane) : (d.setLane n f).device = d.device := rfl
@[simp] theorem Dev.setLane_start (d : Dev) (n : Nat) (f : Lane → Lane) : (d.setLane n f).start = d.start := rfl
@[simp] theorem Dev.setLane_get (d : Dev) (n : Nat) (f : Lane → Lane) (q : Reg) : (d.setLane n f).get q = d.get q := rfl
@[simp] theorem Dev.setLane_u (d : Dev) (n : Nat) (f : Lane → Lane) (q : Reg) : (d.setLane n f).u q = d.u q := rfl

/-! ### setInput -/

@[simp] theorem Dev.setInput_live (d : Dev) (n k : Nat) (f : LaneInput → LaneInput) : (d.setInput n k f).live = d.live := rfl
@[simp] theorem Dev.setInput_shadow (d : Dev) (n k : Nat) (f : LaneInput → LaneInput) : (d.setInput n k f).shadow = d.shadow := rfl
@[simp] theorem Dev.setInput_nvm (d : Dev) (n k : Nat) (f : LaneInput → LaneInput) : (d.setInput n k f).nvm = d.nvm := rfl
@[simp] theorem Dev.setInput_course (d : Dev) (n k : Nat) (f : LaneInput → LaneInput) : (d.setInput n k f).course = d.course := rfl
@[simp] theorem Dev.setInput_convs (d : Dev) (n k : Nat) (f : LaneInput → LaneInput) : (d.setInput n k f).convs = d.convs := rfl
@[simp] theorem Dev.setInput_seats (d : Dev) (n k : Nat) (f : LaneInput → LaneInput) : (d.setInput n k f).seats = d.seats := rfl
@[simp] theorem Dev.setInput_queue (d : Dev) (n k : Nat) (f : LaneInput → LaneInput) : (d.setInput n k f).queue = d.queue := rfl
@[simp] theorem Dev.setInput_xcheck (d : Dev) (n k : Nat) (f : LaneInput → LaneInput) : (d.setInput n k f).xcheck = d.xcheck := rfl
@[simp] theorem Dev.setInput_engine (d : Dev) (n k : Nat) (f : LaneInput → LaneInput) : (d.setInput n k f).engine = (d.setLane n fun v => { v with ins := v.ins.modify k f }).engine := rfl
@[simp] theorem Dev.setInput_capture (d : Dev) (n k : Nat) (f : LaneInput → LaneInput) : (d.setInput n k f).capture = d.capture := rfl
@[simp] theorem Dev.setInput_outputs (d : Dev) (n k : Nat) (f : LaneInput → LaneInput) : (d.setInput n k f).outputs = d.outputs := rfl
@[simp] theorem Dev.setInput_pwm (d : Dev) (n k : Nat) (f : LaneInput → LaneInput) : (d.setInput n k f).pwm = d.pwm := rfl
@[simp] theorem Dev.setInput_ledger (d : Dev) (n k : Nat) (f : LaneInput → LaneInput) : (d.setInput n k f).ledger = d.ledger := rfl
@[simp] theorem Dev.setInput_net (d : Dev) (n k : Nat) (f : LaneInput → LaneInput) : (d.setInput n k f).net = d.net := rfl
@[simp] theorem Dev.setInput_power (d : Dev) (n k : Nat) (f : LaneInput → LaneInput) : (d.setInput n k f).power = d.power := rfl
@[simp] theorem Dev.setInput_thermal (d : Dev) (n k : Nat) (f : LaneInput → LaneInput) : (d.setInput n k f).thermal = d.thermal := rfl
@[simp] theorem Dev.setInput_security (d : Dev) (n k : Nat) (f : LaneInput → LaneInput) : (d.setInput n k f).security = d.security := rfl
@[simp] theorem Dev.setInput_link (d : Dev) (n k : Nat) (f : LaneInput → LaneInput) : (d.setInput n k f).link = d.link := rfl
@[simp] theorem Dev.setInput_device (d : Dev) (n k : Nat) (f : LaneInput → LaneInput) : (d.setInput n k f).device = d.device := rfl
@[simp] theorem Dev.setInput_start (d : Dev) (n k : Nat) (f : LaneInput → LaneInput) : (d.setInput n k f).start = d.start := rfl
@[simp] theorem Dev.setInput_get (d : Dev) (n k : Nat) (f : LaneInput → LaneInput) (q : Reg) : (d.setInput n k f).get q = d.get q := rfl
@[simp] theorem Dev.setInput_u (d : Dev) (n k : Nat) (f : LaneInput → LaneInput) (q : Reg) : (d.setInput n k f).u q = d.u q := rfl

/-! ### setSub -/

@[simp] theorem Dev.setSub_live (d : Dev) (n : Nat) (f : SubState → SubState) : (d.setSub n f).live = d.live := rfl
@[simp] theorem Dev.setSub_shadow (d : Dev) (n : Nat) (f : SubState → SubState) : (d.setSub n f).shadow = d.shadow := rfl
@[simp] theorem Dev.setSub_nvm (d : Dev) (n : Nat) (f : SubState → SubState) : (d.setSub n f).nvm = d.nvm := rfl
@[simp] theorem Dev.setSub_course (d : Dev) (n : Nat) (f : SubState → SubState) : (d.setSub n f).course = d.course := rfl
@[simp] theorem Dev.setSub_convs (d : Dev) (n : Nat) (f : SubState → SubState) : (d.setSub n f).convs = d.convs := rfl
@[simp] theorem Dev.setSub_seats (d : Dev) (n : Nat) (f : SubState → SubState) : (d.setSub n f).seats = d.seats := rfl
@[simp] theorem Dev.setSub_queue (d : Dev) (n : Nat) (f : SubState → SubState) : (d.setSub n f).queue = d.queue := rfl
@[simp] theorem Dev.setSub_xcheck (d : Dev) (n : Nat) (f : SubState → SubState) : (d.setSub n f).xcheck = d.xcheck := rfl
@[simp] theorem Dev.setSub_engine (d : Dev) (n : Nat) (f : SubState → SubState) : (d.setSub n f).engine = d.engine := rfl
@[simp] theorem Dev.setSub_capture (d : Dev) (n : Nat) (f : SubState → SubState) : (d.setSub n f).capture = d.capture := rfl
@[simp] theorem Dev.setSub_outputs (d : Dev) (n : Nat) (f : SubState → SubState) : (d.setSub n f).outputs = d.outputs := rfl
@[simp] theorem Dev.setSub_pwm (d : Dev) (n : Nat) (f : SubState → SubState) : (d.setSub n f).pwm = d.pwm := rfl
@[simp] theorem Dev.setSub_ledger (d : Dev) (n : Nat) (f : SubState → SubState) : (d.setSub n f).ledger = { d.ledger with subs := d.ledger.subs.modify n f } := rfl
@[simp] theorem Dev.setSub_net (d : Dev) (n : Nat) (f : SubState → SubState) : (d.setSub n f).net = d.net := rfl
@[simp] theorem Dev.setSub_power (d : Dev) (n : Nat) (f : SubState → SubState) : (d.setSub n f).power = d.power := rfl
@[simp] theorem Dev.setSub_thermal (d : Dev) (n : Nat) (f : SubState → SubState) : (d.setSub n f).thermal = d.thermal := rfl
@[simp] theorem Dev.setSub_security (d : Dev) (n : Nat) (f : SubState → SubState) : (d.setSub n f).security = d.security := rfl
@[simp] theorem Dev.setSub_link (d : Dev) (n : Nat) (f : SubState → SubState) : (d.setSub n f).link = d.link := rfl
@[simp] theorem Dev.setSub_device (d : Dev) (n : Nat) (f : SubState → SubState) : (d.setSub n f).device = d.device := rfl
@[simp] theorem Dev.setSub_start (d : Dev) (n : Nat) (f : SubState → SubState) : (d.setSub n f).start = d.start := rfl
@[simp] theorem Dev.setSub_get (d : Dev) (n : Nat) (f : SubState → SubState) (q : Reg) : (d.setSub n f).get q = d.get q := rfl
@[simp] theorem Dev.setSub_u (d : Dev) (n : Nat) (f : SubState → SubState) (q : Reg) : (d.setSub n f).u q = d.u q := rfl

/-! ### setPort -/

@[simp] theorem Dev.setPort_live (d : Dev) (n : Nat) (f : PortState → PortState) : (d.setPort n f).live = d.live := rfl
@[simp] theorem Dev.setPort_shadow (d : Dev) (n : Nat) (f : PortState → PortState) : (d.setPort n f).shadow = d.shadow := rfl
@[simp] theorem Dev.setPort_nvm (d : Dev) (n : Nat) (f : PortState → PortState) : (d.setPort n f).nvm = d.nvm := rfl
@[simp] theorem Dev.setPort_course (d : Dev) (n : Nat) (f : PortState → PortState) : (d.setPort n f).course = d.course := rfl
@[simp] theorem Dev.setPort_convs (d : Dev) (n : Nat) (f : PortState → PortState) : (d.setPort n f).convs = d.convs := rfl
@[simp] theorem Dev.setPort_seats (d : Dev) (n : Nat) (f : PortState → PortState) : (d.setPort n f).seats = d.seats := rfl
@[simp] theorem Dev.setPort_queue (d : Dev) (n : Nat) (f : PortState → PortState) : (d.setPort n f).queue = d.queue := rfl
@[simp] theorem Dev.setPort_xcheck (d : Dev) (n : Nat) (f : PortState → PortState) : (d.setPort n f).xcheck = d.xcheck := rfl
@[simp] theorem Dev.setPort_engine (d : Dev) (n : Nat) (f : PortState → PortState) : (d.setPort n f).engine = d.engine := rfl
@[simp] theorem Dev.setPort_capture (d : Dev) (n : Nat) (f : PortState → PortState) : (d.setPort n f).capture = d.capture := rfl
@[simp] theorem Dev.setPort_outputs (d : Dev) (n : Nat) (f : PortState → PortState) : (d.setPort n f).outputs = d.outputs := rfl
@[simp] theorem Dev.setPort_pwm (d : Dev) (n : Nat) (f : PortState → PortState) : (d.setPort n f).pwm = d.pwm := rfl
@[simp] theorem Dev.setPort_ledger (d : Dev) (n : Nat) (f : PortState → PortState) : (d.setPort n f).ledger = d.ledger := rfl
@[simp] theorem Dev.setPort_net (d : Dev) (n : Nat) (f : PortState → PortState) : (d.setPort n f).net = { d.net with ports := d.net.ports.modify n f } := rfl
@[simp] theorem Dev.setPort_power (d : Dev) (n : Nat) (f : PortState → PortState) : (d.setPort n f).power = d.power := rfl
@[simp] theorem Dev.setPort_thermal (d : Dev) (n : Nat) (f : PortState → PortState) : (d.setPort n f).thermal = d.thermal := rfl
@[simp] theorem Dev.setPort_security (d : Dev) (n : Nat) (f : PortState → PortState) : (d.setPort n f).security = d.security := rfl
@[simp] theorem Dev.setPort_link (d : Dev) (n : Nat) (f : PortState → PortState) : (d.setPort n f).link = d.link := rfl
@[simp] theorem Dev.setPort_device (d : Dev) (n : Nat) (f : PortState → PortState) : (d.setPort n f).device = d.device := rfl
@[simp] theorem Dev.setPort_start (d : Dev) (n : Nat) (f : PortState → PortState) : (d.setPort n f).start = d.start := rfl
@[simp] theorem Dev.setPort_get (d : Dev) (n : Nat) (f : PortState → PortState) (q : Reg) : (d.setPort n f).get q = d.get q := rfl
@[simp] theorem Dev.setPort_u (d : Dev) (n : Nat) (f : PortState → PortState) (q : Reg) : (d.setPort n f).u q = d.u q := rfl

/-! ### setSession -/

@[simp] theorem Dev.setSession_live (d : Dev) (n : Nat) (f : Session → Session) : (d.setSession n f).live = d.live := rfl
@[simp] theorem Dev.setSession_shadow (d : Dev) (n : Nat) (f : Session → Session) : (d.setSession n f).shadow = d.shadow := rfl
@[simp] theorem Dev.setSession_nvm (d : Dev) (n : Nat) (f : Session → Session) : (d.setSession n f).nvm = d.nvm := rfl
@[simp] theorem Dev.setSession_course (d : Dev) (n : Nat) (f : Session → Session) : (d.setSession n f).course = d.course := rfl
@[simp] theorem Dev.setSession_convs (d : Dev) (n : Nat) (f : Session → Session) : (d.setSession n f).convs = d.convs := rfl
@[simp] theorem Dev.setSession_seats (d : Dev) (n : Nat) (f : Session → Session) : (d.setSession n f).seats = d.seats := rfl
@[simp] theorem Dev.setSession_queue (d : Dev) (n : Nat) (f : Session → Session) : (d.setSession n f).queue = d.queue := rfl
@[simp] theorem Dev.setSession_xcheck (d : Dev) (n : Nat) (f : Session → Session) : (d.setSession n f).xcheck = d.xcheck := rfl
@[simp] theorem Dev.setSession_engine (d : Dev) (n : Nat) (f : Session → Session) : (d.setSession n f).engine = d.engine := rfl
@[simp] theorem Dev.setSession_capture (d : Dev) (n : Nat) (f : Session → Session) : (d.setSession n f).capture = d.capture := rfl
@[simp] theorem Dev.setSession_outputs (d : Dev) (n : Nat) (f : Session → Session) : (d.setSession n f).outputs = d.outputs := rfl
@[simp] theorem Dev.setSession_pwm (d : Dev) (n : Nat) (f : Session → Session) : (d.setSession n f).pwm = d.pwm := rfl
@[simp] theorem Dev.setSession_ledger (d : Dev) (n : Nat) (f : Session → Session) : (d.setSession n f).ledger = d.ledger := rfl
@[simp] theorem Dev.setSession_net (d : Dev) (n : Nat) (f : Session → Session) : (d.setSession n f).net = { d.net with sessions := d.net.sessions.modify n (Option.map f) } := rfl
@[simp] theorem Dev.setSession_power (d : Dev) (n : Nat) (f : Session → Session) : (d.setSession n f).power = d.power := rfl
@[simp] theorem Dev.setSession_thermal (d : Dev) (n : Nat) (f : Session → Session) : (d.setSession n f).thermal = d.thermal := rfl
@[simp] theorem Dev.setSession_security (d : Dev) (n : Nat) (f : Session → Session) : (d.setSession n f).security = d.security := rfl
@[simp] theorem Dev.setSession_link (d : Dev) (n : Nat) (f : Session → Session) : (d.setSession n f).link = d.link := rfl
@[simp] theorem Dev.setSession_device (d : Dev) (n : Nat) (f : Session → Session) : (d.setSession n f).device = d.device := rfl
@[simp] theorem Dev.setSession_start (d : Dev) (n : Nat) (f : Session → Session) : (d.setSession n f).start = d.start := rfl
@[simp] theorem Dev.setSession_get (d : Dev) (n : Nat) (f : Session → Session) (q : Reg) : (d.setSession n f).get q = d.get q := rfl
@[simp] theorem Dev.setSession_u (d : Dev) (n : Nat) (f : Session → Session) (q : Reg) : (d.setSession n f).u q = d.u q := rfl

/-! ### setSensor -/

@[simp] theorem Dev.setSensor_live (d : Dev) (n : Nat) (f : Sensor → Sensor) : (d.setSensor n f).live = d.live := rfl
@[simp] theorem Dev.setSensor_shadow (d : Dev) (n : Nat) (f : Sensor → Sensor) : (d.setSensor n f).shadow = d.shadow := rfl
@[simp] theorem Dev.setSensor_nvm (d : Dev) (n : Nat) (f : Sensor → Sensor) : (d.setSensor n f).nvm = d.nvm := rfl
@[simp] theorem Dev.setSensor_course (d : Dev) (n : Nat) (f : Sensor → Sensor) : (d.setSensor n f).course = d.course := rfl
@[simp] theorem Dev.setSensor_convs (d : Dev) (n : Nat) (f : Sensor → Sensor) : (d.setSensor n f).convs = d.convs := rfl
@[simp] theorem Dev.setSensor_seats (d : Dev) (n : Nat) (f : Sensor → Sensor) : (d.setSensor n f).seats = d.seats := rfl
@[simp] theorem Dev.setSensor_queue (d : Dev) (n : Nat) (f : Sensor → Sensor) : (d.setSensor n f).queue = d.queue := rfl
@[simp] theorem Dev.setSensor_xcheck (d : Dev) (n : Nat) (f : Sensor → Sensor) : (d.setSensor n f).xcheck = d.xcheck := rfl
@[simp] theorem Dev.setSensor_engine (d : Dev) (n : Nat) (f : Sensor → Sensor) : (d.setSensor n f).engine = d.engine := rfl
@[simp] theorem Dev.setSensor_capture (d : Dev) (n : Nat) (f : Sensor → Sensor) : (d.setSensor n f).capture = d.capture := rfl
@[simp] theorem Dev.setSensor_outputs (d : Dev) (n : Nat) (f : Sensor → Sensor) : (d.setSensor n f).outputs = d.outputs := rfl
@[simp] theorem Dev.setSensor_pwm (d : Dev) (n : Nat) (f : Sensor → Sensor) : (d.setSensor n f).pwm = d.pwm := rfl
@[simp] theorem Dev.setSensor_ledger (d : Dev) (n : Nat) (f : Sensor → Sensor) : (d.setSensor n f).ledger = d.ledger := rfl
@[simp] theorem Dev.setSensor_net (d : Dev) (n : Nat) (f : Sensor → Sensor) : (d.setSensor n f).net = d.net := rfl
@[simp] theorem Dev.setSensor_power (d : Dev) (n : Nat) (f : Sensor → Sensor) : (d.setSensor n f).power = d.power := rfl
@[simp] theorem Dev.setSensor_thermal (d : Dev) (n : Nat) (f : Sensor → Sensor) : (d.setSensor n f).thermal = { d.thermal with sensors := d.thermal.sensors.modify n f } := rfl
@[simp] theorem Dev.setSensor_security (d : Dev) (n : Nat) (f : Sensor → Sensor) : (d.setSensor n f).security = d.security := rfl
@[simp] theorem Dev.setSensor_link (d : Dev) (n : Nat) (f : Sensor → Sensor) : (d.setSensor n f).link = d.link := rfl
@[simp] theorem Dev.setSensor_device (d : Dev) (n : Nat) (f : Sensor → Sensor) : (d.setSensor n f).device = d.device := rfl
@[simp] theorem Dev.setSensor_start (d : Dev) (n : Nat) (f : Sensor → Sensor) : (d.setSensor n f).start = d.start := rfl
@[simp] theorem Dev.setSensor_get (d : Dev) (n : Nat) (f : Sensor → Sensor) (q : Reg) : (d.setSensor n f).get q = d.get q := rfl
@[simp] theorem Dev.setSensor_u (d : Dev) (n : Nat) (f : Sensor → Sensor) (q : Reg) : (d.setSensor n f).u q = d.u q := rfl

/-! ### setMaster -/

@[simp] theorem Dev.setMaster_live (d : Dev) (p : Bool) (f : HartMaster → HartMaster) : (d.setMaster p f).live = d.live := rfl
@[simp] theorem Dev.setMaster_shadow (d : Dev) (p : Bool) (f : HartMaster → HartMaster) : (d.setMaster p f).shadow = d.shadow := rfl
@[simp] theorem Dev.setMaster_nvm (d : Dev) (p : Bool) (f : HartMaster → HartMaster) : (d.setMaster p f).nvm = d.nvm := rfl
@[simp] theorem Dev.setMaster_course (d : Dev) (p : Bool) (f : HartMaster → HartMaster) : (d.setMaster p f).course = d.course := rfl
@[simp] theorem Dev.setMaster_convs (d : Dev) (p : Bool) (f : HartMaster → HartMaster) : (d.setMaster p f).convs = d.convs := rfl
@[simp] theorem Dev.setMaster_seats (d : Dev) (p : Bool) (f : HartMaster → HartMaster) : (d.setMaster p f).seats = d.seats := rfl
@[simp] theorem Dev.setMaster_queue (d : Dev) (p : Bool) (f : HartMaster → HartMaster) : (d.setMaster p f).queue = d.queue := rfl
@[simp] theorem Dev.setMaster_xcheck (d : Dev) (p : Bool) (f : HartMaster → HartMaster) : (d.setMaster p f).xcheck = d.xcheck := rfl
@[simp] theorem Dev.setMaster_engine (d : Dev) (p : Bool) (f : HartMaster → HartMaster) : (d.setMaster p f).engine = d.engine := rfl
@[simp] theorem Dev.setMaster_capture (d : Dev) (p : Bool) (f : HartMaster → HartMaster) : (d.setMaster p f).capture = d.capture := rfl
@[simp] theorem Dev.setMaster_outputs (d : Dev) (p : Bool) (f : HartMaster → HartMaster) : (d.setMaster p f).outputs = d.outputs := rfl
@[simp] theorem Dev.setMaster_pwm (d : Dev) (p : Bool) (f : HartMaster → HartMaster) : (d.setMaster p f).pwm = d.pwm := rfl
@[simp] theorem Dev.setMaster_ledger (d : Dev) (p : Bool) (f : HartMaster → HartMaster) : (d.setMaster p f).ledger = d.ledger := rfl
@[simp] theorem Dev.setMaster_net (d : Dev) (p : Bool) (f : HartMaster → HartMaster) : (d.setMaster p f).net = d.net := rfl
@[simp] theorem Dev.setMaster_power (d : Dev) (p : Bool) (f : HartMaster → HartMaster) : (d.setMaster p f).power = d.power := rfl
@[simp] theorem Dev.setMaster_thermal (d : Dev) (p : Bool) (f : HartMaster → HartMaster) : (d.setMaster p f).thermal = d.thermal := rfl
@[simp] theorem Dev.setMaster_security (d : Dev) (p : Bool) (f : HartMaster → HartMaster) : (d.setMaster p f).security = d.security := rfl
@[simp] theorem Dev.setMaster_link (d : Dev) (p : Bool) (f : HartMaster → HartMaster) : (d.setMaster p f).link = { d.link with masters := d.link.masters.modify (flag (!p)) f } := rfl
@[simp] theorem Dev.setMaster_device (d : Dev) (p : Bool) (f : HartMaster → HartMaster) : (d.setMaster p f).device = d.device := rfl
@[simp] theorem Dev.setMaster_start (d : Dev) (p : Bool) (f : HartMaster → HartMaster) : (d.setMaster p f).start = d.start := rfl
@[simp] theorem Dev.setMaster_get (d : Dev) (p : Bool) (f : HartMaster → HartMaster) (q : Reg) : (d.setMaster p f).get q = d.get q := rfl
@[simp] theorem Dev.setMaster_u (d : Dev) (p : Bool) (f : HartMaster → HartMaster) (q : Reg) : (d.setMaster p f).u q = d.u q := rfl

/-! ### setHost -/

@[simp] theorem Dev.setHost_live (d : Dev) (p : HostPort) (f : HostState → HostState) : (d.setHost p f).live = d.live := rfl
@[simp] theorem Dev.setHost_shadow (d : Dev) (p : HostPort) (f : HostState → HostState) : (d.setHost p f).shadow = d.shadow := rfl
@[simp] theorem Dev.setHost_nvm (d : Dev) (p : HostPort) (f : HostState → HostState) : (d.setHost p f).nvm = d.nvm := rfl
@[simp] theorem Dev.setHost_course (d : Dev) (p : HostPort) (f : HostState → HostState) : (d.setHost p f).course = d.course := rfl
@[simp] theorem Dev.setHost_convs (d : Dev) (p : HostPort) (f : HostState → HostState) : (d.setHost p f).convs = d.convs := rfl
@[simp] theorem Dev.setHost_seats (d : Dev) (p : HostPort) (f : HostState → HostState) : (d.setHost p f).seats = d.seats := rfl
@[simp] theorem Dev.setHost_queue (d : Dev) (p : HostPort) (f : HostState → HostState) : (d.setHost p f).queue = d.queue := rfl
@[simp] theorem Dev.setHost_xcheck (d : Dev) (p : HostPort) (f : HostState → HostState) : (d.setHost p f).xcheck = d.xcheck := rfl
@[simp] theorem Dev.setHost_engine (d : Dev) (p : HostPort) (f : HostState → HostState) : (d.setHost p f).engine = d.engine := rfl
@[simp] theorem Dev.setHost_capture (d : Dev) (p : HostPort) (f : HostState → HostState) : (d.setHost p f).capture = d.capture := rfl
@[simp] theorem Dev.setHost_outputs (d : Dev) (p : HostPort) (f : HostState → HostState) : (d.setHost p f).outputs = d.outputs := rfl
@[simp] theorem Dev.setHost_pwm (d : Dev) (p : HostPort) (f : HostState → HostState) : (d.setHost p f).pwm = d.pwm := rfl
@[simp] theorem Dev.setHost_ledger (d : Dev) (p : HostPort) (f : HostState → HostState) : (d.setHost p f).ledger = d.ledger := rfl
@[simp] theorem Dev.setHost_net (d : Dev) (p : HostPort) (f : HostState → HostState) : (d.setHost p f).net = d.net := rfl
@[simp] theorem Dev.setHost_power (d : Dev) (p : HostPort) (f : HostState → HostState) : (d.setHost p f).power = d.power := rfl
@[simp] theorem Dev.setHost_thermal (d : Dev) (p : HostPort) (f : HostState → HostState) : (d.setHost p f).thermal = d.thermal := rfl
@[simp] theorem Dev.setHost_security (d : Dev) (p : HostPort) (f : HostState → HostState) : (d.setHost p f).security = d.security := rfl
@[simp] theorem Dev.setHost_link (d : Dev) (p : HostPort) (f : HostState → HostState) : (d.setHost p f).link = { d.link with hosts := d.link.hosts.modify (HostPort.no p) f } := rfl
@[simp] theorem Dev.setHost_device (d : Dev) (p : HostPort) (f : HostState → HostState) : (d.setHost p f).device = d.device := rfl
@[simp] theorem Dev.setHost_start (d : Dev) (p : HostPort) (f : HostState → HostState) : (d.setHost p f).start = d.start := rfl
@[simp] theorem Dev.setHost_get (d : Dev) (p : HostPort) (f : HostState → HostState) (q : Reg) : (d.setHost p f).get q = d.get q := rfl
@[simp] theorem Dev.setHost_u (d : Dev) (p : HostPort) (f : HostState → HostState) (q : Reg) : (d.setHost p f).u q = d.u q := rfl

/-! ### setImage -/

@[simp] theorem Dev.setImage_live (d : Dev) (n : Nat) (f : ImageInfo → ImageInfo) : (d.setImage n f).live = d.live := rfl
@[simp] theorem Dev.setImage_shadow (d : Dev) (n : Nat) (f : ImageInfo → ImageInfo) : (d.setImage n f).shadow = d.shadow := rfl
@[simp] theorem Dev.setImage_nvm (d : Dev) (n : Nat) (f : ImageInfo → ImageInfo) : (d.setImage n f).nvm = d.nvm := rfl
@[simp] theorem Dev.setImage_course (d : Dev) (n : Nat) (f : ImageInfo → ImageInfo) : (d.setImage n f).course = d.course := rfl
@[simp] theorem Dev.setImage_convs (d : Dev) (n : Nat) (f : ImageInfo → ImageInfo) : (d.setImage n f).convs = d.convs := rfl
@[simp] theorem Dev.setImage_seats (d : Dev) (n : Nat) (f : ImageInfo → ImageInfo) : (d.setImage n f).seats = d.seats := rfl
@[simp] theorem Dev.setImage_queue (d : Dev) (n : Nat) (f : ImageInfo → ImageInfo) : (d.setImage n f).queue = d.queue := rfl
@[simp] theorem Dev.setImage_xcheck (d : Dev) (n : Nat) (f : ImageInfo → ImageInfo) : (d.setImage n f).xcheck = d.xcheck := rfl
@[simp] theorem Dev.setImage_engine (d : Dev) (n : Nat) (f : ImageInfo → ImageInfo) : (d.setImage n f).engine = d.engine := rfl
@[simp] theorem Dev.setImage_capture (d : Dev) (n : Nat) (f : ImageInfo → ImageInfo) : (d.setImage n f).capture = d.capture := rfl
@[simp] theorem Dev.setImage_outputs (d : Dev) (n : Nat) (f : ImageInfo → ImageInfo) : (d.setImage n f).outputs = d.outputs := rfl
@[simp] theorem Dev.setImage_pwm (d : Dev) (n : Nat) (f : ImageInfo → ImageInfo) : (d.setImage n f).pwm = d.pwm := rfl
@[simp] theorem Dev.setImage_ledger (d : Dev) (n : Nat) (f : ImageInfo → ImageInfo) : (d.setImage n f).ledger = d.ledger := rfl
@[simp] theorem Dev.setImage_net (d : Dev) (n : Nat) (f : ImageInfo → ImageInfo) : (d.setImage n f).net = d.net := rfl
@[simp] theorem Dev.setImage_power (d : Dev) (n : Nat) (f : ImageInfo → ImageInfo) : (d.setImage n f).power = d.power := rfl
@[simp] theorem Dev.setImage_thermal (d : Dev) (n : Nat) (f : ImageInfo → ImageInfo) : (d.setImage n f).thermal = d.thermal := rfl
@[simp] theorem Dev.setImage_security (d : Dev) (n : Nat) (f : ImageInfo → ImageInfo) : (d.setImage n f).security = { d.security with images := d.security.images.modify n f } := rfl
@[simp] theorem Dev.setImage_link (d : Dev) (n : Nat) (f : ImageInfo → ImageInfo) : (d.setImage n f).link = d.link := rfl
@[simp] theorem Dev.setImage_device (d : Dev) (n : Nat) (f : ImageInfo → ImageInfo) : (d.setImage n f).device = d.device := rfl
@[simp] theorem Dev.setImage_start (d : Dev) (n : Nat) (f : ImageInfo → ImageInfo) : (d.setImage n f).start = d.start := rfl
@[simp] theorem Dev.setImage_get (d : Dev) (n : Nat) (f : ImageInfo → ImageInfo) (q : Reg) : (d.setImage n f).get q = d.get q := rfl
@[simp] theorem Dev.setImage_u (d : Dev) (n : Nat) (f : ImageInfo → ImageInfo) (q : Reg) : (d.setImage n f).u q = d.u q := rfl

/-! ### setBundle -/

@[simp] theorem Dev.setBundle_live (d : Dev) (n : Nat) (f : PersonalitySlot → PersonalitySlot) : (d.setBundle n f).live = d.live := rfl
@[simp] theorem Dev.setBundle_shadow (d : Dev) (n : Nat) (f : PersonalitySlot → PersonalitySlot) : (d.setBundle n f).shadow = d.shadow := rfl
@[simp] theorem Dev.setBundle_nvm (d : Dev) (n : Nat) (f : PersonalitySlot → PersonalitySlot) : (d.setBundle n f).nvm = d.nvm := rfl
@[simp] theorem Dev.setBundle_course (d : Dev) (n : Nat) (f : PersonalitySlot → PersonalitySlot) : (d.setBundle n f).course = d.course := rfl
@[simp] theorem Dev.setBundle_convs (d : Dev) (n : Nat) (f : PersonalitySlot → PersonalitySlot) : (d.setBundle n f).convs = d.convs := rfl
@[simp] theorem Dev.setBundle_seats (d : Dev) (n : Nat) (f : PersonalitySlot → PersonalitySlot) : (d.setBundle n f).seats = d.seats := rfl
@[simp] theorem Dev.setBundle_queue (d : Dev) (n : Nat) (f : PersonalitySlot → PersonalitySlot) : (d.setBundle n f).queue = d.queue := rfl
@[simp] theorem Dev.setBundle_xcheck (d : Dev) (n : Nat) (f : PersonalitySlot → PersonalitySlot) : (d.setBundle n f).xcheck = d.xcheck := rfl
@[simp] theorem Dev.setBundle_engine (d : Dev) (n : Nat) (f : PersonalitySlot → PersonalitySlot) : (d.setBundle n f).engine = d.engine := rfl
@[simp] theorem Dev.setBundle_capture (d : Dev) (n : Nat) (f : PersonalitySlot → PersonalitySlot) : (d.setBundle n f).capture = d.capture := rfl
@[simp] theorem Dev.setBundle_outputs (d : Dev) (n : Nat) (f : PersonalitySlot → PersonalitySlot) : (d.setBundle n f).outputs = d.outputs := rfl
@[simp] theorem Dev.setBundle_pwm (d : Dev) (n : Nat) (f : PersonalitySlot → PersonalitySlot) : (d.setBundle n f).pwm = d.pwm := rfl
@[simp] theorem Dev.setBundle_ledger (d : Dev) (n : Nat) (f : PersonalitySlot → PersonalitySlot) : (d.setBundle n f).ledger = d.ledger := rfl
@[simp] theorem Dev.setBundle_net (d : Dev) (n : Nat) (f : PersonalitySlot → PersonalitySlot) : (d.setBundle n f).net = d.net := rfl
@[simp] theorem Dev.setBundle_power (d : Dev) (n : Nat) (f : PersonalitySlot → PersonalitySlot) : (d.setBundle n f).power = d.power := rfl
@[simp] theorem Dev.setBundle_thermal (d : Dev) (n : Nat) (f : PersonalitySlot → PersonalitySlot) : (d.setBundle n f).thermal = d.thermal := rfl
@[simp] theorem Dev.setBundle_security (d : Dev) (n : Nat) (f : PersonalitySlot → PersonalitySlot) : (d.setBundle n f).security = { d.security with bundles := d.security.bundles.modify n f } := rfl
@[simp] theorem Dev.setBundle_link (d : Dev) (n : Nat) (f : PersonalitySlot → PersonalitySlot) : (d.setBundle n f).link = d.link := rfl
@[simp] theorem Dev.setBundle_device (d : Dev) (n : Nat) (f : PersonalitySlot → PersonalitySlot) : (d.setBundle n f).device = d.device := rfl
@[simp] theorem Dev.setBundle_start (d : Dev) (n : Nat) (f : PersonalitySlot → PersonalitySlot) : (d.setBundle n f).start = d.start := rfl
@[simp] theorem Dev.setBundle_get (d : Dev) (n : Nat) (f : PersonalitySlot → PersonalitySlot) (q : Reg) : (d.setBundle n f).get q = d.get q := rfl
@[simp] theorem Dev.setBundle_u (d : Dev) (n : Nat) (f : PersonalitySlot → PersonalitySlot) (q : Reg) : (d.setBundle n f).u q = d.u q := rfl

/-! ### setAttest -/

@[simp] theorem Dev.setAttest_live (d : Dev) (n : Nat) (f : AttestState → AttestState) : (d.setAttest n f).live = d.live := rfl
@[simp] theorem Dev.setAttest_shadow (d : Dev) (n : Nat) (f : AttestState → AttestState) : (d.setAttest n f).shadow = d.shadow := rfl
@[simp] theorem Dev.setAttest_nvm (d : Dev) (n : Nat) (f : AttestState → AttestState) : (d.setAttest n f).nvm = d.nvm := rfl
@[simp] theorem Dev.setAttest_course (d : Dev) (n : Nat) (f : AttestState → AttestState) : (d.setAttest n f).course = d.course := rfl
@[simp] theorem Dev.setAttest_convs (d : Dev) (n : Nat) (f : AttestState → AttestState) : (d.setAttest n f).convs = d.convs := rfl
@[simp] theorem Dev.setAttest_seats (d : Dev) (n : Nat) (f : AttestState → AttestState) : (d.setAttest n f).seats = d.seats := rfl
@[simp] theorem Dev.setAttest_queue (d : Dev) (n : Nat) (f : AttestState → AttestState) : (d.setAttest n f).queue = d.queue := rfl
@[simp] theorem Dev.setAttest_xcheck (d : Dev) (n : Nat) (f : AttestState → AttestState) : (d.setAttest n f).xcheck = d.xcheck := rfl
@[simp] theorem Dev.setAttest_engine (d : Dev) (n : Nat) (f : AttestState → AttestState) : (d.setAttest n f).engine = d.engine := rfl
@[simp] theorem Dev.setAttest_capture (d : Dev) (n : Nat) (f : AttestState → AttestState) : (d.setAttest n f).capture = d.capture := rfl
@[simp] theorem Dev.setAttest_outputs (d : Dev) (n : Nat) (f : AttestState → AttestState) : (d.setAttest n f).outputs = d.outputs := rfl
@[simp] theorem Dev.setAttest_pwm (d : Dev) (n : Nat) (f : AttestState → AttestState) : (d.setAttest n f).pwm = d.pwm := rfl
@[simp] theorem Dev.setAttest_ledger (d : Dev) (n : Nat) (f : AttestState → AttestState) : (d.setAttest n f).ledger = d.ledger := rfl
@[simp] theorem Dev.setAttest_net (d : Dev) (n : Nat) (f : AttestState → AttestState) : (d.setAttest n f).net = d.net := rfl
@[simp] theorem Dev.setAttest_power (d : Dev) (n : Nat) (f : AttestState → AttestState) : (d.setAttest n f).power = d.power := rfl
@[simp] theorem Dev.setAttest_thermal (d : Dev) (n : Nat) (f : AttestState → AttestState) : (d.setAttest n f).thermal = d.thermal := rfl
@[simp] theorem Dev.setAttest_security (d : Dev) (n : Nat) (f : AttestState → AttestState) : (d.setAttest n f).security = { d.security with streams := d.security.streams.modify n f } := rfl
@[simp] theorem Dev.setAttest_link (d : Dev) (n : Nat) (f : AttestState → AttestState) : (d.setAttest n f).link = d.link := rfl
@[simp] theorem Dev.setAttest_device (d : Dev) (n : Nat) (f : AttestState → AttestState) : (d.setAttest n f).device = d.device := rfl
@[simp] theorem Dev.setAttest_start (d : Dev) (n : Nat) (f : AttestState → AttestState) : (d.setAttest n f).start = d.start := rfl
@[simp] theorem Dev.setAttest_get (d : Dev) (n : Nat) (f : AttestState → AttestState) (q : Reg) : (d.setAttest n f).get q = d.get q := rfl
@[simp] theorem Dev.setAttest_u (d : Dev) (n : Nat) (f : AttestState → AttestState) (q : Reg) : (d.setAttest n f).u q = d.u q := rfl

/-! ### tickFresh -/

@[simp] theorem Dev.tickFresh_live (d : Dev) : (d.tickFresh).live = d.live := rfl
@[simp] theorem Dev.tickFresh_shadow (d : Dev) : (d.tickFresh).shadow = d.shadow := rfl
@[simp] theorem Dev.tickFresh_nvm (d : Dev) : (d.tickFresh).nvm = d.nvm := rfl
@[simp] theorem Dev.tickFresh_course (d : Dev) : (d.tickFresh).course = d.course := rfl
@[simp] theorem Dev.tickFresh_convs (d : Dev) : (d.tickFresh).convs = d.convs := rfl
@[simp] theorem Dev.tickFresh_seats (d : Dev) : (d.tickFresh).seats = d.seats := rfl
@[simp] theorem Dev.tickFresh_queue (d : Dev) : (d.tickFresh).queue = d.queue := rfl
@[simp] theorem Dev.tickFresh_xcheck (d : Dev) : (d.tickFresh).xcheck = d.xcheck := rfl
@[simp] theorem Dev.tickFresh_engine (d : Dev) : (d.tickFresh).engine = d.engine := rfl
@[simp] theorem Dev.tickFresh_capture (d : Dev) : (d.tickFresh).capture = d.capture := rfl
@[simp] theorem Dev.tickFresh_outputs (d : Dev) : (d.tickFresh).outputs = d.outputs := rfl
@[simp] theorem Dev.tickFresh_pwm (d : Dev) : (d.tickFresh).pwm = d.pwm := rfl
@[simp] theorem Dev.tickFresh_ledger (d : Dev) : (d.tickFresh).ledger = d.ledger := rfl
@[simp] theorem Dev.tickFresh_net (d : Dev) : (d.tickFresh).net = d.net := rfl
@[simp] theorem Dev.tickFresh_power (d : Dev) : (d.tickFresh).power = d.power := rfl
@[simp] theorem Dev.tickFresh_thermal (d : Dev) : (d.tickFresh).thermal = d.thermal := rfl
@[simp] theorem Dev.tickFresh_security (d : Dev) : (d.tickFresh).security = d.security := rfl
@[simp] theorem Dev.tickFresh_link (d : Dev) : (d.tickFresh).link = d.link := rfl
@[simp] theorem Dev.tickFresh_device (d : Dev) : (d.tickFresh).device = { d.device with fresh := d.device.fresh + 1 } := rfl
@[simp] theorem Dev.tickFresh_start (d : Dev) : (d.tickFresh).start = d.start := rfl
@[simp] theorem Dev.tickFresh_get (d : Dev) (q : Reg) : (d.tickFresh).get q = d.get q := rfl
@[simp] theorem Dev.tickFresh_u (d : Dev) (q : Reg) : (d.tickFresh).u q = d.u q := rfl

/-! ### cleared -/

@[simp] theorem Dev.cleared_live (d : Dev) : (d.cleared).live = d.live := rfl
@[simp] theorem Dev.cleared_shadow (d : Dev) : (d.cleared).shadow = d.shadow := rfl
@[simp] theorem Dev.cleared_nvm (d : Dev) : (d.cleared).nvm = d.nvm := rfl
@[simp] theorem Dev.cleared_course (d : Dev) : (d.cleared).course = d.course := rfl
@[simp] theorem Dev.cleared_convs (d : Dev) : (d.cleared).convs = d.convs := rfl
@[simp] theorem Dev.cleared_seats (d : Dev) : (d.cleared).seats = d.seats := rfl
@[simp] theorem Dev.cleared_queue (d : Dev) : (d.cleared).queue = d.queue := rfl
@[simp] theorem Dev.cleared_xcheck (d : Dev) : (d.cleared).xcheck = d.xcheck := rfl
@[simp] theorem Dev.cleared_engine (d : Dev) : (d.cleared).engine = d.engine := rfl
@[simp] theorem Dev.cleared_capture (d : Dev) : (d.cleared).capture = d.capture := rfl
@[simp] theorem Dev.cleared_outputs (d : Dev) : (d.cleared).outputs = d.outputs := rfl
@[simp] theorem Dev.cleared_pwm (d : Dev) : (d.cleared).pwm = d.pwm := rfl
@[simp] theorem Dev.cleared_ledger (d : Dev) : (d.cleared).ledger = d.ledger := rfl
@[simp] theorem Dev.cleared_net (d : Dev) : (d.cleared).net = d.net := rfl
@[simp] theorem Dev.cleared_power (d : Dev) : (d.cleared).power = d.power := rfl
@[simp] theorem Dev.cleared_thermal (d : Dev) : (d.cleared).thermal = d.thermal := rfl
@[simp] theorem Dev.cleared_security (d : Dev) : (d.cleared).security = d.security := rfl
@[simp] theorem Dev.cleared_link (d : Dev) : (d.cleared).link = d.link := rfl
@[simp] theorem Dev.cleared_device (d : Dev) : (d.cleared).device = { d.device with replies := [], responses := [] } := rfl
@[simp] theorem Dev.cleared_start (d : Dev) : (d.cleared).start = d.start := rfl
@[simp] theorem Dev.cleared_get (d : Dev) (q : Reg) : (d.cleared).get q = d.get q := rfl
@[simp] theorem Dev.cleared_u (d : Dev) (q : Reg) : (d.cleared).u q = d.u q := rfl

/-! ### buffer -/

@[simp] theorem Dev.buffer_live (d : Dev) (i : Item) : (d.buffer i).live = d.live := rfl
@[simp] theorem Dev.buffer_shadow (d : Dev) (i : Item) : (d.buffer i).shadow = d.shadow := rfl
@[simp] theorem Dev.buffer_nvm (d : Dev) (i : Item) : (d.buffer i).nvm = d.nvm := rfl
@[simp] theorem Dev.buffer_course (d : Dev) (i : Item) : (d.buffer i).course = d.course := rfl
@[simp] theorem Dev.buffer_convs (d : Dev) (i : Item) : (d.buffer i).convs = d.convs := rfl
@[simp] theorem Dev.buffer_seats (d : Dev) (i : Item) : (d.buffer i).seats = d.seats := rfl
@[simp] theorem Dev.buffer_queue (d : Dev) (i : Item) : (d.buffer i).queue = d.queue := rfl
@[simp] theorem Dev.buffer_xcheck (d : Dev) (i : Item) : (d.buffer i).xcheck = d.xcheck := rfl
@[simp] theorem Dev.buffer_engine (d : Dev) (i : Item) : (d.buffer i).engine = d.engine := rfl
@[simp] theorem Dev.buffer_capture (d : Dev) (i : Item) : (d.buffer i).capture = d.capture := rfl
@[simp] theorem Dev.buffer_outputs (d : Dev) (i : Item) : (d.buffer i).outputs = d.outputs := rfl
@[simp] theorem Dev.buffer_pwm (d : Dev) (i : Item) : (d.buffer i).pwm = d.pwm := rfl
@[simp] theorem Dev.buffer_ledger (d : Dev) (i : Item) : (d.buffer i).ledger = { d.ledger with buffer := d.ledger.buffer ++ [i] } := rfl
@[simp] theorem Dev.buffer_net (d : Dev) (i : Item) : (d.buffer i).net = d.net := rfl
@[simp] theorem Dev.buffer_power (d : Dev) (i : Item) : (d.buffer i).power = d.power := rfl
@[simp] theorem Dev.buffer_thermal (d : Dev) (i : Item) : (d.buffer i).thermal = d.thermal := rfl
@[simp] theorem Dev.buffer_security (d : Dev) (i : Item) : (d.buffer i).security = d.security := rfl
@[simp] theorem Dev.buffer_link (d : Dev) (i : Item) : (d.buffer i).link = d.link := rfl
@[simp] theorem Dev.buffer_device (d : Dev) (i : Item) : (d.buffer i).device = d.device := rfl
@[simp] theorem Dev.buffer_start (d : Dev) (i : Item) : (d.buffer i).start = d.start := rfl
@[simp] theorem Dev.buffer_get (d : Dev) (i : Item) (q : Reg) : (d.buffer i).get q = d.get q := rfl
@[simp] theorem Dev.buffer_u (d : Dev) (i : Item) (q : Reg) : (d.buffer i).u q = d.u q := rfl

/-! ### countBurst -/

@[simp] theorem Dev.countBurst_live (d : Dev) (n k : Nat) : (d.countBurst n k).live = d.live := rfl
@[simp] theorem Dev.countBurst_shadow (d : Dev) (n k : Nat) : (d.countBurst n k).shadow = d.shadow := rfl
@[simp] theorem Dev.countBurst_nvm (d : Dev) (n k : Nat) : (d.countBurst n k).nvm = d.nvm := rfl
@[simp] theorem Dev.countBurst_course (d : Dev) (n k : Nat) : (d.countBurst n k).course = d.course := rfl
@[simp] theorem Dev.countBurst_convs (d : Dev) (n k : Nat) : (d.countBurst n k).convs = d.convs := rfl
@[simp] theorem Dev.countBurst_seats (d : Dev) (n k : Nat) : (d.countBurst n k).seats = d.seats := rfl
@[simp] theorem Dev.countBurst_queue (d : Dev) (n k : Nat) : (d.countBurst n k).queue = d.queue := rfl
@[simp] theorem Dev.countBurst_xcheck (d : Dev) (n k : Nat) : (d.countBurst n k).xcheck = d.xcheck := rfl
@[simp] theorem Dev.countBurst_engine (d : Dev) (n k : Nat) : (d.countBurst n k).engine = d.engine := rfl
@[simp] theorem Dev.countBurst_capture (d : Dev) (n k : Nat) : (d.countBurst n k).capture = d.capture := rfl
@[simp] theorem Dev.countBurst_outputs (d : Dev) (n k : Nat) : (d.countBurst n k).outputs = d.outputs := rfl
@[simp] theorem Dev.countBurst_pwm (d : Dev) (n k : Nat) : (d.countBurst n k).pwm = d.pwm := rfl
@[simp] theorem Dev.countBurst_ledger (d : Dev) (n k : Nat) : (d.countBurst n k).ledger = { d.ledger with burst := d.ledger.burst.modify n (· + k) } := rfl
@[simp] theorem Dev.countBurst_net (d : Dev) (n k : Nat) : (d.countBurst n k).net = d.net := rfl
@[simp] theorem Dev.countBurst_power (d : Dev) (n k : Nat) : (d.countBurst n k).power = d.power := rfl
@[simp] theorem Dev.countBurst_thermal (d : Dev) (n k : Nat) : (d.countBurst n k).thermal = d.thermal := rfl
@[simp] theorem Dev.countBurst_security (d : Dev) (n k : Nat) : (d.countBurst n k).security = d.security := rfl
@[simp] theorem Dev.countBurst_link (d : Dev) (n k : Nat) : (d.countBurst n k).link = d.link := rfl
@[simp] theorem Dev.countBurst_device (d : Dev) (n k : Nat) : (d.countBurst n k).device = d.device := rfl
@[simp] theorem Dev.countBurst_start (d : Dev) (n k : Nat) : (d.countBurst n k).start = d.start := rfl
@[simp] theorem Dev.countBurst_get (d : Dev) (n k : Nat) (q : Reg) : (d.countBurst n k).get q = d.get q := rfl
@[simp] theorem Dev.countBurst_u (d : Dev) (n k : Nat) (q : Reg) : (d.countBurst n k).u q = d.u q := rfl

/-! ### reply -/

@[simp] theorem Dev.reply_live (d : Dev) (r : Reply) : (d.reply r).live = d.live := rfl
@[simp] theorem Dev.reply_shadow (d : Dev) (r : Reply) : (d.reply r).shadow = d.shadow := rfl
@[simp] theorem Dev.reply_nvm (d : Dev) (r : Reply) : (d.reply r).nvm = d.nvm := rfl
@[simp] theorem Dev.reply_course (d : Dev) (r : Reply) : (d.reply r).course = d.course := rfl
@[simp] theorem Dev.reply_convs (d : Dev) (r : Reply) : (d.reply r).convs = d.convs := rfl
@[simp] theorem Dev.reply_seats (d : Dev) (r : Reply) : (d.reply r).seats = d.seats := rfl
@[simp] theorem Dev.reply_queue (d : Dev) (r : Reply) : (d.reply r).queue = d.queue := rfl
@[simp] theorem Dev.reply_xcheck (d : Dev) (r : Reply) : (d.reply r).xcheck = d.xcheck := rfl
@[simp] theorem Dev.reply_engine (d : Dev) (r : Reply) : (d.reply r).engine = d.engine := rfl
@[simp] theorem Dev.reply_capture (d : Dev) (r : Reply) : (d.reply r).capture = d.capture := rfl
@[simp] theorem Dev.reply_outputs (d : Dev) (r : Reply) : (d.reply r).outputs = d.outputs := rfl
@[simp] theorem Dev.reply_pwm (d : Dev) (r : Reply) : (d.reply r).pwm = d.pwm := rfl
@[simp] theorem Dev.reply_ledger (d : Dev) (r : Reply) : (d.reply r).ledger = d.ledger := rfl
@[simp] theorem Dev.reply_net (d : Dev) (r : Reply) : (d.reply r).net = d.net := rfl
@[simp] theorem Dev.reply_power (d : Dev) (r : Reply) : (d.reply r).power = d.power := rfl
@[simp] theorem Dev.reply_thermal (d : Dev) (r : Reply) : (d.reply r).thermal = d.thermal := rfl
@[simp] theorem Dev.reply_security (d : Dev) (r : Reply) : (d.reply r).security = d.security := rfl
@[simp] theorem Dev.reply_link (d : Dev) (r : Reply) : (d.reply r).link = d.link := rfl
@[simp] theorem Dev.reply_device (d : Dev) (r : Reply) : (d.reply r).device = { d.device with replies := d.device.replies ++ [r] } := rfl
@[simp] theorem Dev.reply_start (d : Dev) (r : Reply) : (d.reply r).start = d.start := rfl
@[simp] theorem Dev.reply_get (d : Dev) (r : Reply) (q : Reg) : (d.reply r).get q = d.get q := rfl
@[simp] theorem Dev.reply_u (d : Dev) (r : Reply) (q : Reg) : (d.reply r).u q = d.u q := rfl

/-! ### set -/

@[simp] theorem Dev.set_live (d : Dev) (r : Reg) (v : Value) : (d.set r v).live = d.live.set r.key r.dflt v := rfl
@[simp] theorem Dev.set_shadow (d : Dev) (r : Reg) (v : Value) : (d.set r v).shadow = d.shadow := rfl
@[simp] theorem Dev.set_nvm (d : Dev) (r : Reg) (v : Value) : (d.set r v).nvm = d.nvm := rfl
@[simp] theorem Dev.set_course (d : Dev) (r : Reg) (v : Value) : (d.set r v).course = d.course := rfl
@[simp] theorem Dev.set_convs (d : Dev) (r : Reg) (v : Value) : (d.set r v).convs = d.convs := rfl
@[simp] theorem Dev.set_seats (d : Dev) (r : Reg) (v : Value) : (d.set r v).seats = d.seats := rfl
@[simp] theorem Dev.set_queue (d : Dev) (r : Reg) (v : Value) : (d.set r v).queue = d.queue := rfl
@[simp] theorem Dev.set_xcheck (d : Dev) (r : Reg) (v : Value) : (d.set r v).xcheck = d.xcheck := rfl
@[simp] theorem Dev.set_engine (d : Dev) (r : Reg) (v : Value) : (d.set r v).engine = d.engine := rfl
@[simp] theorem Dev.set_capture (d : Dev) (r : Reg) (v : Value) : (d.set r v).capture = d.capture := rfl
@[simp] theorem Dev.set_outputs (d : Dev) (r : Reg) (v : Value) : (d.set r v).outputs = d.outputs := rfl
@[simp] theorem Dev.set_pwm (d : Dev) (r : Reg) (v : Value) : (d.set r v).pwm = d.pwm := rfl
@[simp] theorem Dev.set_ledger (d : Dev) (r : Reg) (v : Value) : (d.set r v).ledger = d.ledger := rfl
@[simp] theorem Dev.set_net (d : Dev) (r : Reg) (v : Value) : (d.set r v).net = d.net := rfl
@[simp] theorem Dev.set_power (d : Dev) (r : Reg) (v : Value) : (d.set r v).power = d.power := rfl
@[simp] theorem Dev.set_thermal (d : Dev) (r : Reg) (v : Value) : (d.set r v).thermal = d.thermal := rfl
@[simp] theorem Dev.set_security (d : Dev) (r : Reg) (v : Value) : (d.set r v).security = d.security := rfl
@[simp] theorem Dev.set_link (d : Dev) (r : Reg) (v : Value) : (d.set r v).link = d.link := rfl
@[simp] theorem Dev.set_device (d : Dev) (r : Reg) (v : Value) : (d.set r v).device = d.device := rfl
@[simp] theorem Dev.set_start (d : Dev) (r : Reg) (v : Value) : (d.set r v).start = d.start := rfl

/-! ### put -/

@[simp] theorem Dev.put_live (d : Dev) (r : Reg) (n : Nat) : (d.put r n).live = d.live.set r.key r.dflt (.num (n % 256 ^ r.size)) := rfl
@[simp] theorem Dev.put_shadow (d : Dev) (r : Reg) (n : Nat) : (d.put r n).shadow = d.shadow := rfl
@[simp] theorem Dev.put_nvm (d : Dev) (r : Reg) (n : Nat) : (d.put r n).nvm = d.nvm := rfl
@[simp] theorem Dev.put_course (d : Dev) (r : Reg) (n : Nat) : (d.put r n).course = d.course := rfl
@[simp] theorem Dev.put_convs (d : Dev) (r : Reg) (n : Nat) : (d.put r n).convs = d.convs := rfl
@[simp] theorem Dev.put_seats (d : Dev) (r : Reg) (n : Nat) : (d.put r n).seats = d.seats := rfl
@[simp] theorem Dev.put_queue (d : Dev) (r : Reg) (n : Nat) : (d.put r n).queue = d.queue := rfl
@[simp] theorem Dev.put_xcheck (d : Dev) (r : Reg) (n : Nat) : (d.put r n).xcheck = d.xcheck := rfl
@[simp] theorem Dev.put_engine (d : Dev) (r : Reg) (n : Nat) : (d.put r n).engine = d.engine := rfl
@[simp] theorem Dev.put_capture (d : Dev) (r : Reg) (n : Nat) : (d.put r n).capture = d.capture := rfl
@[simp] theorem Dev.put_outputs (d : Dev) (r : Reg) (n : Nat) : (d.put r n).outputs = d.outputs := rfl
@[simp] theorem Dev.put_pwm (d : Dev) (r : Reg) (n : Nat) : (d.put r n).pwm = d.pwm := rfl
@[simp] theorem Dev.put_ledger (d : Dev) (r : Reg) (n : Nat) : (d.put r n).ledger = d.ledger := rfl
@[simp] theorem Dev.put_net (d : Dev) (r : Reg) (n : Nat) : (d.put r n).net = d.net := rfl
@[simp] theorem Dev.put_power (d : Dev) (r : Reg) (n : Nat) : (d.put r n).power = d.power := rfl
@[simp] theorem Dev.put_thermal (d : Dev) (r : Reg) (n : Nat) : (d.put r n).thermal = d.thermal := rfl
@[simp] theorem Dev.put_security (d : Dev) (r : Reg) (n : Nat) : (d.put r n).security = d.security := rfl
@[simp] theorem Dev.put_link (d : Dev) (r : Reg) (n : Nat) : (d.put r n).link = d.link := rfl
@[simp] theorem Dev.put_device (d : Dev) (r : Reg) (n : Nat) : (d.put r n).device = d.device := rfl
@[simp] theorem Dev.put_start (d : Dev) (r : Reg) (n : Nat) : (d.put r n).start = d.start := rfl

/-! ### putI -/

@[simp] theorem Dev.putI_live (d : Dev) (r : Reg) (n : Int) : (d.putI r n).live = d.live.set r.key r.dflt (.num (unsigned (8 * r.size) n)) := rfl
@[simp] theorem Dev.putI_shadow (d : Dev) (r : Reg) (n : Int) : (d.putI r n).shadow = d.shadow := rfl
@[simp] theorem Dev.putI_nvm (d : Dev) (r : Reg) (n : Int) : (d.putI r n).nvm = d.nvm := rfl
@[simp] theorem Dev.putI_course (d : Dev) (r : Reg) (n : Int) : (d.putI r n).course = d.course := rfl
@[simp] theorem Dev.putI_convs (d : Dev) (r : Reg) (n : Int) : (d.putI r n).convs = d.convs := rfl
@[simp] theorem Dev.putI_seats (d : Dev) (r : Reg) (n : Int) : (d.putI r n).seats = d.seats := rfl
@[simp] theorem Dev.putI_queue (d : Dev) (r : Reg) (n : Int) : (d.putI r n).queue = d.queue := rfl
@[simp] theorem Dev.putI_xcheck (d : Dev) (r : Reg) (n : Int) : (d.putI r n).xcheck = d.xcheck := rfl
@[simp] theorem Dev.putI_engine (d : Dev) (r : Reg) (n : Int) : (d.putI r n).engine = d.engine := rfl
@[simp] theorem Dev.putI_capture (d : Dev) (r : Reg) (n : Int) : (d.putI r n).capture = d.capture := rfl
@[simp] theorem Dev.putI_outputs (d : Dev) (r : Reg) (n : Int) : (d.putI r n).outputs = d.outputs := rfl
@[simp] theorem Dev.putI_pwm (d : Dev) (r : Reg) (n : Int) : (d.putI r n).pwm = d.pwm := rfl
@[simp] theorem Dev.putI_ledger (d : Dev) (r : Reg) (n : Int) : (d.putI r n).ledger = d.ledger := rfl
@[simp] theorem Dev.putI_net (d : Dev) (r : Reg) (n : Int) : (d.putI r n).net = d.net := rfl
@[simp] theorem Dev.putI_power (d : Dev) (r : Reg) (n : Int) : (d.putI r n).power = d.power := rfl
@[simp] theorem Dev.putI_thermal (d : Dev) (r : Reg) (n : Int) : (d.putI r n).thermal = d.thermal := rfl
@[simp] theorem Dev.putI_security (d : Dev) (r : Reg) (n : Int) : (d.putI r n).security = d.security := rfl
@[simp] theorem Dev.putI_link (d : Dev) (r : Reg) (n : Int) : (d.putI r n).link = d.link := rfl
@[simp] theorem Dev.putI_device (d : Dev) (r : Reg) (n : Int) : (d.putI r n).device = d.device := rfl
@[simp] theorem Dev.putI_start (d : Dev) (r : Reg) (n : Int) : (d.putI r n).start = d.start := rfl

/-! ### putF -/

@[simp] theorem Dev.putF_live (d : Dev) (r : Reg) (x : F32) : (d.putF r x).live = d.live.set r.key r.dflt (.num x.toNat) := rfl
@[simp] theorem Dev.putF_shadow (d : Dev) (r : Reg) (x : F32) : (d.putF r x).shadow = d.shadow := rfl
@[simp] theorem Dev.putF_nvm (d : Dev) (r : Reg) (x : F32) : (d.putF r x).nvm = d.nvm := rfl
@[simp] theorem Dev.putF_course (d : Dev) (r : Reg) (x : F32) : (d.putF r x).course = d.course := rfl
@[simp] theorem Dev.putF_convs (d : Dev) (r : Reg) (x : F32) : (d.putF r x).convs = d.convs := rfl
@[simp] theorem Dev.putF_seats (d : Dev) (r : Reg) (x : F32) : (d.putF r x).seats = d.seats := rfl
@[simp] theorem Dev.putF_queue (d : Dev) (r : Reg) (x : F32) : (d.putF r x).queue = d.queue := rfl
@[simp] theorem Dev.putF_xcheck (d : Dev) (r : Reg) (x : F32) : (d.putF r x).xcheck = d.xcheck := rfl
@[simp] theorem Dev.putF_engine (d : Dev) (r : Reg) (x : F32) : (d.putF r x).engine = d.engine := rfl
@[simp] theorem Dev.putF_capture (d : Dev) (r : Reg) (x : F32) : (d.putF r x).capture = d.capture := rfl
@[simp] theorem Dev.putF_outputs (d : Dev) (r : Reg) (x : F32) : (d.putF r x).outputs = d.outputs := rfl
@[simp] theorem Dev.putF_pwm (d : Dev) (r : Reg) (x : F32) : (d.putF r x).pwm = d.pwm := rfl
@[simp] theorem Dev.putF_ledger (d : Dev) (r : Reg) (x : F32) : (d.putF r x).ledger = d.ledger := rfl
@[simp] theorem Dev.putF_net (d : Dev) (r : Reg) (x : F32) : (d.putF r x).net = d.net := rfl
@[simp] theorem Dev.putF_power (d : Dev) (r : Reg) (x : F32) : (d.putF r x).power = d.power := rfl
@[simp] theorem Dev.putF_thermal (d : Dev) (r : Reg) (x : F32) : (d.putF r x).thermal = d.thermal := rfl
@[simp] theorem Dev.putF_security (d : Dev) (r : Reg) (x : F32) : (d.putF r x).security = d.security := rfl
@[simp] theorem Dev.putF_link (d : Dev) (r : Reg) (x : F32) : (d.putF r x).link = d.link := rfl
@[simp] theorem Dev.putF_device (d : Dev) (r : Reg) (x : F32) : (d.putF r x).device = d.device := rfl
@[simp] theorem Dev.putF_start (d : Dev) (r : Reg) (x : F32) : (d.putF r x).start = d.start := rfl

/-! ### putF64 -/

@[simp] theorem Dev.putF64_live (d : Dev) (r : Reg) (x : F64) : (d.putF64 r x).live = d.live.set r.key r.dflt (.num x.toNat) := rfl
@[simp] theorem Dev.putF64_shadow (d : Dev) (r : Reg) (x : F64) : (d.putF64 r x).shadow = d.shadow := rfl
@[simp] theorem Dev.putF64_nvm (d : Dev) (r : Reg) (x : F64) : (d.putF64 r x).nvm = d.nvm := rfl
@[simp] theorem Dev.putF64_course (d : Dev) (r : Reg) (x : F64) : (d.putF64 r x).course = d.course := rfl
@[simp] theorem Dev.putF64_convs (d : Dev) (r : Reg) (x : F64) : (d.putF64 r x).convs = d.convs := rfl
@[simp] theorem Dev.putF64_seats (d : Dev) (r : Reg) (x : F64) : (d.putF64 r x).seats = d.seats := rfl
@[simp] theorem Dev.putF64_queue (d : Dev) (r : Reg) (x : F64) : (d.putF64 r x).queue = d.queue := rfl
@[simp] theorem Dev.putF64_xcheck (d : Dev) (r : Reg) (x : F64) : (d.putF64 r x).xcheck = d.xcheck := rfl
@[simp] theorem Dev.putF64_engine (d : Dev) (r : Reg) (x : F64) : (d.putF64 r x).engine = d.engine := rfl
@[simp] theorem Dev.putF64_capture (d : Dev) (r : Reg) (x : F64) : (d.putF64 r x).capture = d.capture := rfl
@[simp] theorem Dev.putF64_outputs (d : Dev) (r : Reg) (x : F64) : (d.putF64 r x).outputs = d.outputs := rfl
@[simp] theorem Dev.putF64_pwm (d : Dev) (r : Reg) (x : F64) : (d.putF64 r x).pwm = d.pwm := rfl
@[simp] theorem Dev.putF64_ledger (d : Dev) (r : Reg) (x : F64) : (d.putF64 r x).ledger = d.ledger := rfl
@[simp] theorem Dev.putF64_net (d : Dev) (r : Reg) (x : F64) : (d.putF64 r x).net = d.net := rfl
@[simp] theorem Dev.putF64_power (d : Dev) (r : Reg) (x : F64) : (d.putF64 r x).power = d.power := rfl
@[simp] theorem Dev.putF64_thermal (d : Dev) (r : Reg) (x : F64) : (d.putF64 r x).thermal = d.thermal := rfl
@[simp] theorem Dev.putF64_security (d : Dev) (r : Reg) (x : F64) : (d.putF64 r x).security = d.security := rfl
@[simp] theorem Dev.putF64_link (d : Dev) (r : Reg) (x : F64) : (d.putF64 r x).link = d.link := rfl
@[simp] theorem Dev.putF64_device (d : Dev) (r : Reg) (x : F64) : (d.putF64 r x).device = d.device := rfl
@[simp] theorem Dev.putF64_start (d : Dev) (r : Reg) (x : F64) : (d.putF64 r x).start = d.start := rfl

/-! ### putOn -/

@[simp] theorem Dev.putOn_live (d : Dev) (r : Reg) (b : Bool) : (d.putOn r b).live = d.live.set r.key r.dflt (.num (flag b)) := rfl
@[simp] theorem Dev.putOn_shadow (d : Dev) (r : Reg) (b : Bool) : (d.putOn r b).shadow = d.shadow := rfl
@[simp] theorem Dev.putOn_nvm (d : Dev) (r : Reg) (b : Bool) : (d.putOn r b).nvm = d.nvm := rfl
@[simp] theorem Dev.putOn_course (d : Dev) (r : Reg) (b : Bool) : (d.putOn r b).course = d.course := rfl
@[simp] theorem Dev.putOn_convs (d : Dev) (r : Reg) (b : Bool) : (d.putOn r b).convs = d.convs := rfl
@[simp] theorem Dev.putOn_seats (d : Dev) (r : Reg) (b : Bool) : (d.putOn r b).seats = d.seats := rfl
@[simp] theorem Dev.putOn_queue (d : Dev) (r : Reg) (b : Bool) : (d.putOn r b).queue = d.queue := rfl
@[simp] theorem Dev.putOn_xcheck (d : Dev) (r : Reg) (b : Bool) : (d.putOn r b).xcheck = d.xcheck := rfl
@[simp] theorem Dev.putOn_engine (d : Dev) (r : Reg) (b : Bool) : (d.putOn r b).engine = d.engine := rfl
@[simp] theorem Dev.putOn_capture (d : Dev) (r : Reg) (b : Bool) : (d.putOn r b).capture = d.capture := rfl
@[simp] theorem Dev.putOn_outputs (d : Dev) (r : Reg) (b : Bool) : (d.putOn r b).outputs = d.outputs := rfl
@[simp] theorem Dev.putOn_pwm (d : Dev) (r : Reg) (b : Bool) : (d.putOn r b).pwm = d.pwm := rfl
@[simp] theorem Dev.putOn_ledger (d : Dev) (r : Reg) (b : Bool) : (d.putOn r b).ledger = d.ledger := rfl
@[simp] theorem Dev.putOn_net (d : Dev) (r : Reg) (b : Bool) : (d.putOn r b).net = d.net := rfl
@[simp] theorem Dev.putOn_power (d : Dev) (r : Reg) (b : Bool) : (d.putOn r b).power = d.power := rfl
@[simp] theorem Dev.putOn_thermal (d : Dev) (r : Reg) (b : Bool) : (d.putOn r b).thermal = d.thermal := rfl
@[simp] theorem Dev.putOn_security (d : Dev) (r : Reg) (b : Bool) : (d.putOn r b).security = d.security := rfl
@[simp] theorem Dev.putOn_link (d : Dev) (r : Reg) (b : Bool) : (d.putOn r b).link = d.link := rfl
@[simp] theorem Dev.putOn_device (d : Dev) (r : Reg) (b : Bool) : (d.putOn r b).device = d.device := rfl
@[simp] theorem Dev.putOn_start (d : Dev) (r : Reg) (b : Bool) : (d.putOn r b).start = d.start := rfl

/-! ### putB -/

@[simp] theorem Dev.putB_live (d : Dev) (r : Reg) (b : List Byte) : (d.putB r b).live = d.live.set r.key r.dflt (.bytes b) := rfl
@[simp] theorem Dev.putB_shadow (d : Dev) (r : Reg) (b : List Byte) : (d.putB r b).shadow = d.shadow := rfl
@[simp] theorem Dev.putB_nvm (d : Dev) (r : Reg) (b : List Byte) : (d.putB r b).nvm = d.nvm := rfl
@[simp] theorem Dev.putB_course (d : Dev) (r : Reg) (b : List Byte) : (d.putB r b).course = d.course := rfl
@[simp] theorem Dev.putB_convs (d : Dev) (r : Reg) (b : List Byte) : (d.putB r b).convs = d.convs := rfl
@[simp] theorem Dev.putB_seats (d : Dev) (r : Reg) (b : List Byte) : (d.putB r b).seats = d.seats := rfl
@[simp] theorem Dev.putB_queue (d : Dev) (r : Reg) (b : List Byte) : (d.putB r b).queue = d.queue := rfl
@[simp] theorem Dev.putB_xcheck (d : Dev) (r : Reg) (b : List Byte) : (d.putB r b).xcheck = d.xcheck := rfl
@[simp] theorem Dev.putB_engine (d : Dev) (r : Reg) (b : List Byte) : (d.putB r b).engine = d.engine := rfl
@[simp] theorem Dev.putB_capture (d : Dev) (r : Reg) (b : List Byte) : (d.putB r b).capture = d.capture := rfl
@[simp] theorem Dev.putB_outputs (d : Dev) (r : Reg) (b : List Byte) : (d.putB r b).outputs = d.outputs := rfl
@[simp] theorem Dev.putB_pwm (d : Dev) (r : Reg) (b : List Byte) : (d.putB r b).pwm = d.pwm := rfl
@[simp] theorem Dev.putB_ledger (d : Dev) (r : Reg) (b : List Byte) : (d.putB r b).ledger = d.ledger := rfl
@[simp] theorem Dev.putB_net (d : Dev) (r : Reg) (b : List Byte) : (d.putB r b).net = d.net := rfl
@[simp] theorem Dev.putB_power (d : Dev) (r : Reg) (b : List Byte) : (d.putB r b).power = d.power := rfl
@[simp] theorem Dev.putB_thermal (d : Dev) (r : Reg) (b : List Byte) : (d.putB r b).thermal = d.thermal := rfl
@[simp] theorem Dev.putB_security (d : Dev) (r : Reg) (b : List Byte) : (d.putB r b).security = d.security := rfl
@[simp] theorem Dev.putB_link (d : Dev) (r : Reg) (b : List Byte) : (d.putB r b).link = d.link := rfl
@[simp] theorem Dev.putB_device (d : Dev) (r : Reg) (b : List Byte) : (d.putB r b).device = d.device := rfl
@[simp] theorem Dev.putB_start (d : Dev) (r : Reg) (b : List Byte) : (d.putB r b).start = d.start := rfl

/-! ### add -/

@[simp] theorem Dev.add_live (d : Dev) (r : Reg) (n : Nat) : (d.add r n).live = d.live.set r.key r.dflt (.num ((d.u r + n) % 256 ^ r.size)) := rfl
@[simp] theorem Dev.add_shadow (d : Dev) (r : Reg) (n : Nat) : (d.add r n).shadow = d.shadow := rfl
@[simp] theorem Dev.add_nvm (d : Dev) (r : Reg) (n : Nat) : (d.add r n).nvm = d.nvm := rfl
@[simp] theorem Dev.add_course (d : Dev) (r : Reg) (n : Nat) : (d.add r n).course = d.course := rfl
@[simp] theorem Dev.add_convs (d : Dev) (r : Reg) (n : Nat) : (d.add r n).convs = d.convs := rfl
@[simp] theorem Dev.add_seats (d : Dev) (r : Reg) (n : Nat) : (d.add r n).seats = d.seats := rfl
@[simp] theorem Dev.add_queue (d : Dev) (r : Reg) (n : Nat) : (d.add r n).queue = d.queue := rfl
@[simp] theorem Dev.add_xcheck (d : Dev) (r : Reg) (n : Nat) : (d.add r n).xcheck = d.xcheck := rfl
@[simp] theorem Dev.add_engine (d : Dev) (r : Reg) (n : Nat) : (d.add r n).engine = d.engine := rfl
@[simp] theorem Dev.add_capture (d : Dev) (r : Reg) (n : Nat) : (d.add r n).capture = d.capture := rfl
@[simp] theorem Dev.add_outputs (d : Dev) (r : Reg) (n : Nat) : (d.add r n).outputs = d.outputs := rfl
@[simp] theorem Dev.add_pwm (d : Dev) (r : Reg) (n : Nat) : (d.add r n).pwm = d.pwm := rfl
@[simp] theorem Dev.add_ledger (d : Dev) (r : Reg) (n : Nat) : (d.add r n).ledger = d.ledger := rfl
@[simp] theorem Dev.add_net (d : Dev) (r : Reg) (n : Nat) : (d.add r n).net = d.net := rfl
@[simp] theorem Dev.add_power (d : Dev) (r : Reg) (n : Nat) : (d.add r n).power = d.power := rfl
@[simp] theorem Dev.add_thermal (d : Dev) (r : Reg) (n : Nat) : (d.add r n).thermal = d.thermal := rfl
@[simp] theorem Dev.add_security (d : Dev) (r : Reg) (n : Nat) : (d.add r n).security = d.security := rfl
@[simp] theorem Dev.add_link (d : Dev) (r : Reg) (n : Nat) : (d.add r n).link = d.link := rfl
@[simp] theorem Dev.add_device (d : Dev) (r : Reg) (n : Nat) : (d.add r n).device = d.device := rfl
@[simp] theorem Dev.add_start (d : Dev) (r : Reg) (n : Nat) : (d.add r n).start = d.start := rfl

/-! ### bump -/

@[simp] theorem Dev.bump_live (d : Dev) (r : Reg) : (d.bump r).live = d.live.set r.key r.dflt (.num ((d.u r + 1) % 256 ^ r.size)) := rfl
@[simp] theorem Dev.bump_shadow (d : Dev) (r : Reg) : (d.bump r).shadow = d.shadow := rfl
@[simp] theorem Dev.bump_nvm (d : Dev) (r : Reg) : (d.bump r).nvm = d.nvm := rfl
@[simp] theorem Dev.bump_course (d : Dev) (r : Reg) : (d.bump r).course = d.course := rfl
@[simp] theorem Dev.bump_convs (d : Dev) (r : Reg) : (d.bump r).convs = d.convs := rfl
@[simp] theorem Dev.bump_seats (d : Dev) (r : Reg) : (d.bump r).seats = d.seats := rfl
@[simp] theorem Dev.bump_queue (d : Dev) (r : Reg) : (d.bump r).queue = d.queue := rfl
@[simp] theorem Dev.bump_xcheck (d : Dev) (r : Reg) : (d.bump r).xcheck = d.xcheck := rfl
@[simp] theorem Dev.bump_engine (d : Dev) (r : Reg) : (d.bump r).engine = d.engine := rfl
@[simp] theorem Dev.bump_capture (d : Dev) (r : Reg) : (d.bump r).capture = d.capture := rfl
@[simp] theorem Dev.bump_outputs (d : Dev) (r : Reg) : (d.bump r).outputs = d.outputs := rfl
@[simp] theorem Dev.bump_pwm (d : Dev) (r : Reg) : (d.bump r).pwm = d.pwm := rfl
@[simp] theorem Dev.bump_ledger (d : Dev) (r : Reg) : (d.bump r).ledger = d.ledger := rfl
@[simp] theorem Dev.bump_net (d : Dev) (r : Reg) : (d.bump r).net = d.net := rfl
@[simp] theorem Dev.bump_power (d : Dev) (r : Reg) : (d.bump r).power = d.power := rfl
@[simp] theorem Dev.bump_thermal (d : Dev) (r : Reg) : (d.bump r).thermal = d.thermal := rfl
@[simp] theorem Dev.bump_security (d : Dev) (r : Reg) : (d.bump r).security = d.security := rfl
@[simp] theorem Dev.bump_link (d : Dev) (r : Reg) : (d.bump r).link = d.link := rfl
@[simp] theorem Dev.bump_device (d : Dev) (r : Reg) : (d.bump r).device = d.device := rfl
@[simp] theorem Dev.bump_start (d : Dev) (r : Reg) : (d.bump r).start = d.start := rfl

/-! ### setKey -/

@[simp] theorem Dev.setKey_live (d : Dev) (w : Write) : (d.setKey w).live = d.live.set w.key (dfltOf w.key) w.value := rfl
@[simp] theorem Dev.setKey_shadow (d : Dev) (w : Write) : (d.setKey w).shadow = d.shadow := rfl
@[simp] theorem Dev.setKey_nvm (d : Dev) (w : Write) : (d.setKey w).nvm = d.nvm := rfl
@[simp] theorem Dev.setKey_course (d : Dev) (w : Write) : (d.setKey w).course = d.course := rfl
@[simp] theorem Dev.setKey_convs (d : Dev) (w : Write) : (d.setKey w).convs = d.convs := rfl
@[simp] theorem Dev.setKey_seats (d : Dev) (w : Write) : (d.setKey w).seats = d.seats := rfl
@[simp] theorem Dev.setKey_queue (d : Dev) (w : Write) : (d.setKey w).queue = d.queue := rfl
@[simp] theorem Dev.setKey_xcheck (d : Dev) (w : Write) : (d.setKey w).xcheck = d.xcheck := rfl
@[simp] theorem Dev.setKey_engine (d : Dev) (w : Write) : (d.setKey w).engine = d.engine := rfl
@[simp] theorem Dev.setKey_capture (d : Dev) (w : Write) : (d.setKey w).capture = d.capture := rfl
@[simp] theorem Dev.setKey_outputs (d : Dev) (w : Write) : (d.setKey w).outputs = d.outputs := rfl
@[simp] theorem Dev.setKey_pwm (d : Dev) (w : Write) : (d.setKey w).pwm = d.pwm := rfl
@[simp] theorem Dev.setKey_ledger (d : Dev) (w : Write) : (d.setKey w).ledger = d.ledger := rfl
@[simp] theorem Dev.setKey_net (d : Dev) (w : Write) : (d.setKey w).net = d.net := rfl
@[simp] theorem Dev.setKey_power (d : Dev) (w : Write) : (d.setKey w).power = d.power := rfl
@[simp] theorem Dev.setKey_thermal (d : Dev) (w : Write) : (d.setKey w).thermal = d.thermal := rfl
@[simp] theorem Dev.setKey_security (d : Dev) (w : Write) : (d.setKey w).security = d.security := rfl
@[simp] theorem Dev.setKey_link (d : Dev) (w : Write) : (d.setKey w).link = d.link := rfl
@[simp] theorem Dev.setKey_device (d : Dev) (w : Write) : (d.setKey w).device = d.device := rfl
@[simp] theorem Dev.setKey_start (d : Dev) (w : Write) : (d.setKey w).start = d.start := rfl

end Sys2Proof.Machine
end

