-- ==== Sys2Proof/Laws/Store.lean ====
section
/-! SUPPORT. The register file as a list of cells: what a read gives after a write, and that every write keeps the addresses
rising. -/

namespace Sys2Proof.Machine

/-! ### A read after a write -/

theorem Store.find_insert_self (s : Store) (k : Nat) (v : Value) (h : ∀ c ∈ s, c.1 ≠ k) :
    (Store.insert k v s).find? (fun c => c.1 == k) = some (k, v) := by
  induction s with
  | nil => simp [Store.insert]
  | cons c rest ih =>
    unfold Store.insert
    split
    · simp
    · have hc : c.1 ≠ k := h c (by simp)
      simp [hc]
      exact ih fun x hx => h x (by simp [hx])

theorem Store.find_insert_ne (s : Store) (k j : Nat) (v : Value) (h : j ≠ k) :
    (Store.insert k v s).find? (fun c => c.1 == j) = s.find? (fun c => c.1 == j) := by
  induction s with
  | nil => simp [Store.insert, Ne.symm h]
  | cons c rest ih =>
    unfold Store.insert
    split
    · simp [Ne.symm h]
    · simp only [List.find?_cons]
      rw [ih]

theorem Store.find_erase_self (s : Store) (k : Nat) : (s.erase k).find? (fun c => c.1 == k) = none := by
  simp [Store.erase]

theorem Store.find_erase_ne (s : Store) (k j : Nat) (h : j ≠ k) :
    (s.erase k).find? (fun c => c.1 == j) = s.find? (fun c => c.1 == j) := by
  unfold Store.erase
  induction s with
  | nil => rfl
  | cons c rest ih =>
    rw [List.filter_cons]
    by_cases hc : c.1 = k
    · have hj : c.1 ≠ j := fun e => h (e.symm.trans hc)
      have h1 : (c.1 != k) = false := by simp [hc]
      have h2 : (c.1 == j) = false := by simp [hj]
      simp only [h1, Bool.false_eq_true, if_false, List.find?_cons, h2]
      exact ih
    · have h1 : (c.1 != k) = true := by simp [hc]
      simp only [h1, if_true, List.find?_cons]
      rw [ih]

/-- A read of a key just written gives the value written, whatever the list. -/
@[simp] theorem Store.get_set_self (s : Store) (k : Nat) (x v : Value) : (s.set k x v).get k x = v := by
  unfold Store.set
  split
  · next h => simp [Store.get, Store.find_erase_self, h]
  · have : ∀ c ∈ s.erase k, c.1 ≠ k := by
      intro c hc
      simpa [Store.erase] using (List.mem_filter.mp hc).2
    simp [Store.get, Store.find_insert_self _ _ _ this]

/-- A write leaves every other key. -/
theorem Store.get_set_ne (s : Store) (k j : Nat) (x y v : Value) (h : j ≠ k) : (s.set k x v).get j y = s.get j y := by
  unfold Store.set
  split
  · simp [Store.get, Store.find_erase_ne _ _ _ h]
  · simp [Store.get, Store.find_insert_ne _ _ _ _ h, Store.find_erase_ne _ _ _ h]

/-! ### The canonical form -/

theorem Store.wf_iff (s : Store) : s.wf = true ↔ s.Pairwise fun a b => a.1 < b.1 := by
  simp [Store.wf]

theorem Store.wf_erase (s : Store) (k : Nat) (h : s.wf = true) : (s.erase k).wf = true := by
  rw [Store.wf_iff] at *
  exact h.filter _

theorem Store.mem_insert (s : Store) (k : Nat) (v : Value) (c : Nat × Value) (h : c ∈ Store.insert k v s) :
    c = (k, v) ∨ c ∈ s := by
  induction s with
  | nil => simpa [Store.insert] using h
  | cons a rest ih =>
    unfold Store.insert at h
    split at h
    · simpa using h
    · rcases List.mem_cons.mp h with rfl | h
      · simp
      · rcases ih h with rfl | h
        · simp
        · simp [h]

theorem Store.wf_insert (s : Store) (k : Nat) (v : Value) (h : s.wf = true) (hk : ∀ c ∈ s, c.1 ≠ k) :
    (Store.insert k v s).wf = true := by
  induction s with
  | nil => simp [Store.insert, Store.wf]
  | cons a rest ih =>
    rw [Store.wf_iff] at h ⊢
    rw [List.pairwise_cons] at h
    unfold Store.insert
    split
    · next hlt =>
      refine List.pairwise_cons.mpr ⟨?_, List.pairwise_cons.mpr h⟩
      intro c hc
      rcases List.mem_cons.mp hc with rfl | hc
      · exact hlt
      · exact Nat.lt_trans hlt (h.1 c hc)
    · next hlt =>
      have ha : a.1 ≠ k := hk a (by simp)
      have hrest := ih ((Store.wf_iff _).mpr h.2) fun c hc => hk c (by simp [hc])
      refine List.pairwise_cons.mpr ⟨?_, (Store.wf_iff _).mp hrest⟩
      intro c hc
      rcases Store.mem_insert _ _ _ _ hc with rfl | hc
      · exact Nat.lt_of_le_of_ne (Nat.le_of_not_lt hlt) ha
      · exact h.1 c hc

/-- Every write of the register file keeps its form. -/
theorem Store.wf_set (s : Store) (k : Nat) (x v : Value) (h : s.wf = true) : (s.set k x v).wf = true := by
  unfold Store.set
  split
  · exact Store.wf_erase s k h
  · refine Store.wf_insert _ k v (Store.wf_erase s k h) ?_
    intro c hc
    simpa [Store.erase] using (List.mem_filter.mp hc).2

end Sys2Proof.Machine
end

