-- ==== Sys2Proof/Laws/Ops.lean ====
section
/-! SUPPORT. What the shared operations do: the value a register has after a write, what an event and a flag may change, how a
command acts on the state, and how time passes. -/

namespace Sys2Proof.Machine

/-! ### Registers -/

@[simp] theorem Dev.set_get_self (d : Dev) (r : Reg) (v : Value) : (d.set r v).get r = v := by
  simp [Dev.get]

theorem Dev.set_get_ne (d : Dev) (r q : Reg) (v : Value) (h : q.key ≠ r.key) : (d.set r v).get q = d.get q := by
  simp [Dev.get, Store.get_set_ne _ _ _ _ _ _ h]

@[simp] theorem Dev.put_u_self (d : Dev) (r : Reg) (n : Nat) : (d.put r n).u r = n % 256 ^ r.size := by
  simp [Dev.put, Dev.u, Value.toNat]

theorem Dev.put_u_ne (d : Dev) (r q : Reg) (n : Nat) (h : q.key ≠ r.key) : (d.put r n).u q = d.u q := by
  simp [Dev.put, Dev.u, Dev.set_get_ne _ _ _ _ h]

@[simp] theorem Dev.putI_u_self (d : Dev) (r : Reg) (i : Int) : (d.putI r i).u r = unsigned (8 * r.size) i := by
  simp [Dev.putI, Dev.u, Value.toNat]

@[simp] theorem Dev.putF_f_self (d : Dev) (r : Reg) (x : F32) : (d.putF r x).f r = x := by
  simp [Dev.putF, Dev.f, Dev.u, Value.toNat]

@[simp] theorem Dev.putOn_u_self (d : Dev) (r : Reg) (b : Bool) : (d.putOn r b).u r = flag b := by
  simp [Dev.putOn, Dev.u, Value.toNat]

@[simp] theorem Dev.putB_get_self (d : Dev) (r : Reg) (b : List Byte) : (d.putB r b).get r = .bytes b := by
  simp [Dev.putB]

@[simp] theorem Dev.bump_u_self (d : Dev) (r : Reg) : (d.bump r).u r = (d.u r + 1) % 256 ^ r.size := by
  simp [Dev.bump, Dev.add]

theorem Dev.bump_u_ne (d : Dev) (r q : Reg) (h : q.key ≠ r.key) : (d.bump r).u q = d.u q := by
  simp [Dev.bump, Dev.add, Dev.put_u_ne _ _ _ _ h]

/-! ### How a command acts -/

theorem Dev.routed_of_no_replies (d : Dev) (h : d.device.replies = []) : d.routed = d := by
  simp [Dev.routed, h]

theorem act_next (f : Dev → Dev) (s : State) : act f s = .next { s with dev := (f s.dev.cleared).routed } := rfl

/-- Where a command ends, from the effect of its meaning on the device with nothing given out yet. -/
theorem becomes_of_act {s : State} {c : Instr} {e : Dev} (f : Dev → Dev) (hc : exec c s = act f s)
    (h : f s.dev.cleared = e) : s.becomes c e := by
  rw [State.becomes, hc, act_next, h]

/-- Where a command that gives out no reply ends. -/
theorem after_of_act {s : State} {c : Instr} {P : Dev → Prop} (f : Dev → Dev) (hc : exec c s = act f s)
    (hr : (f s.dev.cleared).device.replies = []) (h : P (f s.dev.cleared)) : s.after c P :=
  ⟨f s.dev.cleared, by rw [hc, act_next, Dev.routed_of_no_replies _ hr], h⟩

/-- Every command ends in a next state and leaves the queue. -/
theorem exec_next (c : Instr) (s : State) : ∃ d, exec c s = .next { s with dev := d } := by
  cases c <;> exact ⟨_, rfl⟩

/-- The next device of a command has nothing to do with the queue. -/
theorem exec_ignores_queue (c : Instr) (d : Dev) (p q : List Instr) :
    ∃ e, exec c { pending := p, dev := d } = .next { pending := p, dev := e } ∧
      exec c { pending := q, dev := d } = .next { pending := q, dev := e } := by
  cases c <;> exact ⟨_, rfl, rfl⟩

theorem step_front (c : Instr) (s : State) (rest : List Instr) (h : s.pending = c :: rest) :
    step s = exec c { s with pending := rest } := by
  simp [step, h]

theorem step_empty (s : State) (h : s.pending = []) : step s = .next { s with dev := s.dev.advance 1 } := by
  simp [step, h, idle]

/-! ### Time -/

theorem Dev.advance_elapsed (d : Dev) (n : Nat) : (d.advance n).course.elapsed = d.course.elapsed + n := by
  unfold Dev.advance
  split <;> simp_all

/-- The clocks, the discipline and the flags of the tick are all that passing time moves. -/
theorem Dev.advance_eq (d : Dev) (n : Nat) :
    d.advance n = { d with course := (d.advance n).course, device := (d.advance n).device } := by
  unfold Dev.advance
  split <;> rfl

@[simp] theorem Dev.advance_live (d : Dev) (n : Nat) : (d.advance n).live = d.live := by rw [Dev.advance_eq]
@[simp] theorem Dev.advanceTo_live (d : Dev) (n : Nat) : (d.advanceTo n).live = d.live := by rw [Dev.advanceTo, Dev.advance_live]
@[simp] theorem Dev.advance_shadow (d : Dev) (n : Nat) : (d.advance n).shadow = d.shadow := by rw [Dev.advance_eq]
@[simp] theorem Dev.advanceTo_shadow (d : Dev) (n : Nat) : (d.advanceTo n).shadow = d.shadow := by rw [Dev.advanceTo, Dev.advance_shadow]
@[simp] theorem Dev.advance_nvm (d : Dev) (n : Nat) : (d.advance n).nvm = d.nvm := by rw [Dev.advance_eq]
@[simp] theorem Dev.advanceTo_nvm (d : Dev) (n : Nat) : (d.advanceTo n).nvm = d.nvm := by rw [Dev.advanceTo, Dev.advance_nvm]
@[simp] theorem Dev.advance_convs (d : Dev) (n : Nat) : (d.advance n).convs = d.convs := by rw [Dev.advance_eq]
@[simp] theorem Dev.advanceTo_convs (d : Dev) (n : Nat) : (d.advanceTo n).convs = d.convs := by rw [Dev.advanceTo, Dev.advance_convs]
@[simp] theorem Dev.advance_seats (d : Dev) (n : Nat) : (d.advance n).seats = d.seats := by rw [Dev.advance_eq]
@[simp] theorem Dev.advanceTo_seats (d : Dev) (n : Nat) : (d.advanceTo n).seats = d.seats := by rw [Dev.advanceTo, Dev.advance_seats]
@[simp] theorem Dev.advance_queue (d : Dev) (n : Nat) : (d.advance n).queue = d.queue := by rw [Dev.advance_eq]
@[simp] theorem Dev.advanceTo_queue (d : Dev) (n : Nat) : (d.advanceTo n).queue = d.queue := by rw [Dev.advanceTo, Dev.advance_queue]
@[simp] theorem Dev.advance_xcheck (d : Dev) (n : Nat) : (d.advance n).xcheck = d.xcheck := by rw [Dev.advance_eq]
@[simp] theorem Dev.advanceTo_xcheck (d : Dev) (n : Nat) : (d.advanceTo n).xcheck = d.xcheck := by rw [Dev.advanceTo, Dev.advance_xcheck]
@[simp] theorem Dev.advance_engine (d : Dev) (n : Nat) : (d.advance n).engine = d.engine := by rw [Dev.advance_eq]
@[simp] theorem Dev.advanceTo_engine (d : Dev) (n : Nat) : (d.advanceTo n).engine = d.engine := by rw [Dev.advanceTo, Dev.advance_engine]
@[simp] theorem Dev.advance_capture (d : Dev) (n : Nat) : (d.advance n).capture = d.capture := by rw [Dev.advance_eq]
@[simp] theorem Dev.advanceTo_capture (d : Dev) (n : Nat) : (d.advanceTo n).capture = d.capture := by rw [Dev.advanceTo, Dev.advance_capture]
@[simp] theorem Dev.advance_outputs (d : Dev) (n : Nat) : (d.advance n).outputs = d.outputs := by rw [Dev.advance_eq]
@[simp] theorem Dev.advanceTo_outputs (d : Dev) (n : Nat) : (d.advanceTo n).outputs = d.outputs := by rw [Dev.advanceTo, Dev.advance_outputs]
@[simp] theorem Dev.advance_pwm (d : Dev) (n : Nat) : (d.advance n).pwm = d.pwm := by rw [Dev.advance_eq]
@[simp] theorem Dev.advanceTo_pwm (d : Dev) (n : Nat) : (d.advanceTo n).pwm = d.pwm := by rw [Dev.advanceTo, Dev.advance_pwm]
@[simp] theorem Dev.advance_ledger (d : Dev) (n : Nat) : (d.advance n).ledger = d.ledger := by rw [Dev.advance_eq]
@[simp] theorem Dev.advanceTo_ledger (d : Dev) (n : Nat) : (d.advanceTo n).ledger = d.ledger := by rw [Dev.advanceTo, Dev.advance_ledger]
@[simp] theorem Dev.advance_net (d : Dev) (n : Nat) : (d.advance n).net = d.net := by rw [Dev.advance_eq]
@[simp] theorem Dev.advanceTo_net (d : Dev) (n : Nat) : (d.advanceTo n).net = d.net := by rw [Dev.advanceTo, Dev.advance_net]
@[simp] theorem Dev.advance_power (d : Dev) (n : Nat) : (d.advance n).power = d.power := by rw [Dev.advance_eq]
@[simp] theorem Dev.advanceTo_power (d : Dev) (n : Nat) : (d.advanceTo n).power = d.power := by rw [Dev.advanceTo, Dev.advance_power]
@[simp] theorem Dev.advance_thermal (d : Dev) (n : Nat) : (d.advance n).thermal = d.thermal := by rw [Dev.advance_eq]
@[simp] theorem Dev.advanceTo_thermal (d : Dev) (n : Nat) : (d.advanceTo n).thermal = d.thermal := by rw [Dev.advanceTo, Dev.advance_thermal]
@[simp] theorem Dev.advance_security (d : Dev) (n : Nat) : (d.advance n).security = d.security := by rw [Dev.advance_eq]
@[simp] theorem Dev.advanceTo_security (d : Dev) (n : Nat) : (d.advanceTo n).security = d.security := by rw [Dev.advanceTo, Dev.advance_security]
@[simp] theorem Dev.advance_link (d : Dev) (n : Nat) : (d.advance n).link = d.link := by rw [Dev.advance_eq]
@[simp] theorem Dev.advanceTo_link (d : Dev) (n : Nat) : (d.advanceTo n).link = d.link := by rw [Dev.advanceTo, Dev.advance_link]
@[simp] theorem Dev.advance_start (d : Dev) (n : Nat) : (d.advance n).start = d.start := by rw [Dev.advance_eq]
@[simp] theorem Dev.advanceTo_start (d : Dev) (n : Nat) : (d.advanceTo n).start = d.start := by rw [Dev.advanceTo, Dev.advance_start]

@[simp] theorem Dev.advance_course_running (d : Dev) (n : Nat) : (d.advance n).course.running = d.course.running := by
  unfold Dev.advance; split <;> rfl
@[simp] theorem Dev.advanceTo_course_running (d : Dev) (n : Nat) : (d.advanceTo n).course.running = d.course.running := by rw [Dev.advanceTo, Dev.advance_course_running]
@[simp] theorem Dev.advance_course_awaiting (d : Dev) (n : Nat) : (d.advance n).course.awaiting = d.course.awaiting := by
  unfold Dev.advance; split <;> rfl
@[simp] theorem Dev.advanceTo_course_awaiting (d : Dev) (n : Nat) : (d.advanceTo n).course.awaiting = d.course.awaiting := by rw [Dev.advanceTo, Dev.advance_course_awaiting]
@[simp] theorem Dev.advance_course_settling (d : Dev) (n : Nat) : (d.advance n).course.settling = d.course.settling := by
  unfold Dev.advance; split <;> rfl
@[simp] theorem Dev.advanceTo_course_settling (d : Dev) (n : Nat) : (d.advanceTo n).course.settling = d.course.settling := by rw [Dev.advanceTo, Dev.advance_course_settling]
@[simp] theorem Dev.advance_course_slewOffset (d : Dev) (n : Nat) : (d.advance n).course.slewOffset = d.course.slewOffset := by
  unfold Dev.advance; split <;> rfl
@[simp] theorem Dev.advanceTo_course_slewOffset (d : Dev) (n : Nat) : (d.advanceTo n).course.slewOffset = d.course.slewOffset := by rw [Dev.advanceTo, Dev.advance_course_slewOffset]
@[simp] theorem Dev.advance_course_slewRate (d : Dev) (n : Nat) : (d.advance n).course.slewRate = d.course.slewRate := by
  unfold Dev.advance; split <;> rfl
@[simp] theorem Dev.advanceTo_course_slewRate (d : Dev) (n : Nat) : (d.advanceTo n).course.slewRate = d.course.slewRate := by rw [Dev.advanceTo, Dev.advance_course_slewRate]
@[simp] theorem Dev.advance_course_series (d : Dev) (n : Nat) : (d.advance n).course.series = d.course.series := by
  unfold Dev.advance; split <;> rfl
@[simp] theorem Dev.advanceTo_course_series (d : Dev) (n : Nat) : (d.advanceTo n).course.series = d.course.series := by rw [Dev.advanceTo, Dev.advance_course_series]
@[simp] theorem Dev.advance_course_strokeStart (d : Dev) (n : Nat) : (d.advance n).course.strokeStart = d.course.strokeStart := by
  unfold Dev.advance; split <;> rfl
@[simp] theorem Dev.advanceTo_course_strokeStart (d : Dev) (n : Nat) : (d.advanceTo n).course.strokeStart = d.course.strokeStart := by rw [Dev.advanceTo, Dev.advance_course_strokeStart]
@[simp] theorem Dev.advance_course_strokeLen (d : Dev) (n : Nat) : (d.advance n).course.strokeLen = d.course.strokeLen := by
  unfold Dev.advance; split <;> rfl
@[simp] theorem Dev.advanceTo_course_strokeLen (d : Dev) (n : Nat) : (d.advanceTo n).course.strokeLen = d.course.strokeLen := by rw [Dev.advanceTo, Dev.advance_course_strokeLen]
@[simp] theorem Dev.advance_course_stretched (d : Dev) (n : Nat) : (d.advance n).course.stretched = d.course.stretched := by
  unfold Dev.advance; split <;> rfl
@[simp] theorem Dev.advanceTo_course_stretched (d : Dev) (n : Nat) : (d.advanceTo n).course.stretched = d.course.stretched := by rw [Dev.advanceTo, Dev.advance_course_stretched]
@[simp] theorem Dev.advance_course_period (d : Dev) (n : Nat) : (d.advance n).course.period = d.course.period := by
  unfold Dev.advance; split <;> rfl
@[simp] theorem Dev.advanceTo_course_period (d : Dev) (n : Nat) : (d.advanceTo n).course.period = d.course.period := by rw [Dev.advanceTo, Dev.advance_course_period]
@[simp] theorem Dev.advance_course_step (d : Dev) (n : Nat) : (d.advance n).course.step = d.course.step := by
  unfold Dev.advance; split <;> rfl
@[simp] theorem Dev.advanceTo_course_step (d : Dev) (n : Nat) : (d.advanceTo n).course.step = d.course.step := by rw [Dev.advanceTo, Dev.advance_course_step]
@[simp] theorem Dev.advance_course_marks (d : Dev) (n : Nat) : (d.advance n).course.marks = d.course.marks := by
  unfold Dev.advance; split <;> rfl
@[simp] theorem Dev.advanceTo_course_marks (d : Dev) (n : Nat) : (d.advanceTo n).course.marks = d.course.marks := by rw [Dev.advanceTo, Dev.advance_course_marks]
@[simp] theorem Dev.advance_course_sync (d : Dev) (n : Nat) : (d.advance n).course.sync = d.course.sync := by
  unfold Dev.advance; split <;> rfl
@[simp] theorem Dev.advanceTo_course_sync (d : Dev) (n : Nat) : (d.advanceTo n).course.sync = d.course.sync := by rw [Dev.advanceTo, Dev.advance_course_sync]
@[simp] theorem Dev.advance_course_active (d : Dev) (n : Nat) : (d.advance n).course.active = d.course.active := by
  unfold Dev.advance; split <;> rfl
@[simp] theorem Dev.advanceTo_course_active (d : Dev) (n : Nat) : (d.advanceTo n).course.active = d.course.active := by rw [Dev.advanceTo, Dev.advance_course_active]
@[simp] theorem Dev.advance_course_ringPort (d : Dev) (n : Nat) : (d.advance n).course.ringPort = d.course.ringPort := by
  unfold Dev.advance; split <;> rfl
@[simp] theorem Dev.advanceTo_course_ringPort (d : Dev) (n : Nat) : (d.advanceTo n).course.ringPort = d.course.ringPort := by rw [Dev.advanceTo, Dev.advance_course_ringPort]
@[simp] theorem Dev.advance_course_lastCode (d : Dev) (n : Nat) : (d.advance n).course.lastCode = d.course.lastCode := by
  unfold Dev.advance; split <;> rfl
@[simp] theorem Dev.advanceTo_course_lastCode (d : Dev) (n : Nat) : (d.advanceTo n).course.lastCode = d.course.lastCode := by rw [Dev.advanceTo, Dev.advance_course_lastCode]
@[simp] theorem Dev.advance_course_arb (d : Dev) (n : Nat) : (d.advance n).course.arb = d.course.arb := by
  unfold Dev.advance; split <;> rfl
@[simp] theorem Dev.advanceTo_course_arb (d : Dev) (n : Nat) : (d.advanceTo n).course.arb = d.course.arb := by rw [Dev.advanceTo, Dev.advance_course_arb]
@[simp] theorem Dev.advance_course_arbRing (d : Dev) (n : Nat) : (d.advance n).course.arbRing = d.course.arbRing := by
  unfold Dev.advance; split <;> rfl
@[simp] theorem Dev.advanceTo_course_arbRing (d : Dev) (n : Nat) : (d.advanceTo n).course.arbRing = d.course.arbRing := by rw [Dev.advanceTo, Dev.advance_course_arbRing]
@[simp] theorem Dev.advance_course_arbS (d : Dev) (n : Nat) : (d.advance n).course.arbS = d.course.arbS := by
  unfold Dev.advance; split <;> rfl
@[simp] theorem Dev.advanceTo_course_arbS (d : Dev) (n : Nat) : (d.advanceTo n).course.arbS = d.course.arbS := by rw [Dev.advanceTo, Dev.advance_course_arbS]
@[simp] theorem Dev.advance_course_traced (d : Dev) (n : Nat) : (d.advance n).course.traced = d.course.traced := by
  unfold Dev.advance; split <;> rfl
@[simp] theorem Dev.advanceTo_course_traced (d : Dev) (n : Nat) : (d.advanceTo n).course.traced = d.course.traced := by rw [Dev.advanceTo, Dev.advance_course_traced]
@[simp] theorem Dev.advance_course_everSet (d : Dev) (n : Nat) : (d.advance n).course.everSet = d.course.everSet := by
  unfold Dev.advance; split <;> rfl
@[simp] theorem Dev.advanceTo_course_everSet (d : Dev) (n : Nat) : (d.advanceTo n).course.everSet = d.course.everSet := by rw [Dev.advanceTo, Dev.advance_course_everSet]
@[simp] theorem Dev.advance_course_filtered (d : Dev) (n : Nat) : (d.advance n).course.filtered = d.course.filtered := by
  unfold Dev.advance; split <;> rfl
@[simp] theorem Dev.advanceTo_course_filtered (d : Dev) (n : Nat) : (d.advanceTo n).course.filtered = d.course.filtered := by rw [Dev.advanceTo, Dev.advance_course_filtered]
@[simp] theorem Dev.advance_course_good (d : Dev) (n : Nat) : (d.advance n).course.good = d.course.good := by
  unfold Dev.advance; split <;> rfl
@[simp] theorem Dev.advanceTo_course_good (d : Dev) (n : Nat) : (d.advanceTo n).course.good = d.course.good := by rw [Dev.advanceTo, Dev.advance_course_good]
@[simp] theorem Dev.advance_course_bad (d : Dev) (n : Nat) : (d.advance n).course.bad = d.course.bad := by
  unfold Dev.advance; split <;> rfl
@[simp] theorem Dev.advanceTo_course_bad (d : Dev) (n : Nat) : (d.advanceTo n).course.bad = d.course.bad := by rw [Dev.advanceTo, Dev.advance_course_bad]
@[simp] theorem Dev.advance_course_boundEntry (d : Dev) (n : Nat) : (d.advance n).course.boundEntry = d.course.boundEntry := by
  unfold Dev.advance; split <;> rfl
@[simp] theorem Dev.advanceTo_course_boundEntry (d : Dev) (n : Nat) : (d.advanceTo n).course.boundEntry = d.course.boundEntry := by rw [Dev.advanceTo, Dev.advance_course_boundEntry]
@[simp] theorem Dev.advance_course_since (d : Dev) (n : Nat) : (d.advance n).course.since = d.course.since := by
  unfold Dev.advance; split <;> rfl
@[simp] theorem Dev.advanceTo_course_since (d : Dev) (n : Nat) : (d.advanceTo n).course.since = d.course.since := by rw [Dev.advanceTo, Dev.advance_course_since]
@[simp] theorem Dev.advance_course_discAtEntry (d : Dev) (n : Nat) : (d.advance n).course.discAtEntry = d.course.discAtEntry := by
  unfold Dev.advance; split <;> rfl
@[simp] theorem Dev.advanceTo_course_discAtEntry (d : Dev) (n : Nat) : (d.advanceTo n).course.discAtEntry = d.course.discAtEntry := by rw [Dev.advanceTo, Dev.advance_course_discAtEntry]
@[simp] theorem Dev.advance_course_lockedExtra (d : Dev) (n : Nat) : (d.advance n).course.lockedExtra = d.course.lockedExtra := by
  unfold Dev.advance; split <;> rfl
@[simp] theorem Dev.advanceTo_course_lockedExtra (d : Dev) (n : Nat) : (d.advanceTo n).course.lockedExtra = d.course.lockedExtra := by rw [Dev.advanceTo, Dev.advance_course_lockedExtra]
@[simp] theorem Dev.advance_course_fromUnsynced (d : Dev) (n : Nat) : (d.advance n).course.fromUnsynced = d.course.fromUnsynced := by
  unfold Dev.advance; split <;> rfl
@[simp] theorem Dev.advanceTo_course_fromUnsynced (d : Dev) (n : Nat) : (d.advanceTo n).course.fromUnsynced = d.course.fromUnsynced := by rw [Dev.advanceTo, Dev.advance_course_fromUnsynced]
@[simp] theorem Dev.advance_course_sleepGrowth (d : Dev) (n : Nat) : (d.advance n).course.sleepGrowth = d.course.sleepGrowth := by
  unfold Dev.advance; split <;> rfl
@[simp] theorem Dev.advanceTo_course_sleepGrowth (d : Dev) (n : Nat) : (d.advanceTo n).course.sleepGrowth = d.course.sleepGrowth := by rw [Dev.advanceTo, Dev.advance_course_sleepGrowth]
@[simp] theorem Dev.advance_course_sources (d : Dev) (n : Nat) : (d.advance n).course.sources = d.course.sources := by
  unfold Dev.advance; split <;> rfl
@[simp] theorem Dev.advanceTo_course_sources (d : Dev) (n : Nat) : (d.advanceTo n).course.sources = d.course.sources := by rw [Dev.advanceTo, Dev.advance_course_sources]
@[simp] theorem Dev.advance_course_ppsEdge (d : Dev) (n : Nat) : (d.advance n).course.ppsEdge = d.course.ppsEdge := by
  unfold Dev.advance; split <;> rfl
@[simp] theorem Dev.advanceTo_course_ppsEdge (d : Dev) (n : Nat) : (d.advanceTo n).course.ppsEdge = d.course.ppsEdge := by rw [Dev.advanceTo, Dev.advance_course_ppsEdge]
@[simp] theorem Dev.advance_course_marker (d : Dev) (n : Nat) : (d.advance n).course.marker = d.course.marker := by
  unfold Dev.advance; split <;> rfl
@[simp] theorem Dev.advanceTo_course_marker (d : Dev) (n : Nat) : (d.advanceTo n).course.marker = d.course.marker := by rw [Dev.advanceTo, Dev.advance_course_marker]
@[simp] theorem Dev.advance_course_offsetsA (d : Dev) (n : Nat) : (d.advance n).course.offsetsA = d.course.offsetsA := by
  unfold Dev.advance; split <;> rfl
@[simp] theorem Dev.advanceTo_course_offsetsA (d : Dev) (n : Nat) : (d.advanceTo n).course.offsetsA = d.course.offsetsA := by rw [Dev.advanceTo, Dev.advance_course_offsetsA]
@[simp] theorem Dev.advance_course_offsetsB (d : Dev) (n : Nat) : (d.advance n).course.offsetsB = d.course.offsetsB := by
  unfold Dev.advance; split <;> rfl
@[simp] theorem Dev.advanceTo_course_offsetsB (d : Dev) (n : Nat) : (d.advanceTo n).course.offsetsB = d.course.offsetsB := by rw [Dev.advanceTo, Dev.advance_course_offsetsB]
@[simp] theorem Dev.advance_course_encBoundary (d : Dev) (n : Nat) : (d.advance n).course.encBoundary = d.course.encBoundary := by
  unfold Dev.advance; split <;> rfl
@[simp] theorem Dev.advanceTo_course_encBoundary (d : Dev) (n : Nat) : (d.advanceTo n).course.encBoundary = d.course.encBoundary := by rw [Dev.advanceTo, Dev.advance_course_encBoundary]
@[simp] theorem Dev.advance_course_fallback (d : Dev) (n : Nat) : (d.advance n).course.fallback = d.course.fallback := by
  unfold Dev.advance; split <;> rfl
@[simp] theorem Dev.advanceTo_course_fallback (d : Dev) (n : Nat) : (d.advanceTo n).course.fallback = d.course.fallback := by rw [Dev.advanceTo, Dev.advance_course_fallback]
@[simp] theorem Dev.advance_course_armed (d : Dev) (n : Nat) : (d.advance n).course.armed = d.course.armed := by
  unfold Dev.advance; split <;> rfl
@[simp] theorem Dev.advanceTo_course_armed (d : Dev) (n : Nat) : (d.advanceTo n).course.armed = d.course.armed := by rw [Dev.advanceTo, Dev.advance_course_armed]
@[simp] theorem Dev.advance_course_segments (d : Dev) (n : Nat) : (d.advance n).course.segments = d.course.segments := by
  unfold Dev.advance; split <;> rfl
@[simp] theorem Dev.advanceTo_course_segments (d : Dev) (n : Nat) : (d.advanceTo n).course.segments = d.course.segments := by rw [Dev.advanceTo, Dev.advance_course_segments]
@[simp] theorem Dev.advance_course_qualities (d : Dev) (n : Nat) : (d.advance n).course.qualities = d.course.qualities := by
  unfold Dev.advance; split <;> rfl
@[simp] theorem Dev.advanceTo_course_qualities (d : Dev) (n : Nat) : (d.advanceTo n).course.qualities = d.course.qualities := by rw [Dev.advanceTo, Dev.advance_course_qualities]
@[simp] theorem Dev.advance_course_bounds (d : Dev) (n : Nat) : (d.advance n).course.bounds = d.course.bounds := by
  unfold Dev.advance; split <;> rfl
@[simp] theorem Dev.advanceTo_course_bounds (d : Dev) (n : Nat) : (d.advanceTo n).course.bounds = d.course.bounds := by rw [Dev.advanceTo, Dev.advance_course_bounds]

@[simp] theorem Dev.advance_device_state (d : Dev) (n : Nat) : (d.advance n).device.state = d.device.state := by
  unfold Dev.advance; split <;> rfl
@[simp] theorem Dev.advanceTo_device_state (d : Dev) (n : Nat) : (d.advanceTo n).device.state = d.device.state := by rw [Dev.advanceTo, Dev.advance_device_state]
@[simp] theorem Dev.advance_device_pending (d : Dev) (n : Nat) : (d.advance n).device.pending = d.device.pending := by
  unfold Dev.advance; split <;> rfl
@[simp] theorem Dev.advanceTo_device_pending (d : Dev) (n : Nat) : (d.advanceTo n).device.pending = d.device.pending := by rw [Dev.advanceTo, Dev.advance_device_pending]
@[simp] theorem Dev.advance_device_heldEvents (d : Dev) (n : Nat) : (d.advance n).device.heldEvents = d.device.heldEvents := by
  unfold Dev.advance; split <;> rfl
@[simp] theorem Dev.advanceTo_device_heldEvents (d : Dev) (n : Nat) : (d.advanceTo n).device.heldEvents = d.device.heldEvents := by rw [Dev.advanceTo, Dev.advance_device_heldEvents]
@[simp] theorem Dev.advance_device_latch (d : Dev) (n : Nat) : (d.advance n).device.latch = d.device.latch := by
  unfold Dev.advance; split <;> rfl
@[simp] theorem Dev.advanceTo_device_latch (d : Dev) (n : Nat) : (d.advanceTo n).device.latch = d.device.latch := by rw [Dev.advanceTo, Dev.advance_device_latch]
@[simp] theorem Dev.advance_device_latchRead (d : Dev) (n : Nat) : (d.advance n).device.latchRead = d.device.latchRead := by
  unfold Dev.advance; split <;> rfl
@[simp] theorem Dev.advanceTo_device_latchRead (d : Dev) (n : Nat) : (d.advanceTo n).device.latchRead = d.device.latchRead := by rw [Dev.advanceTo, Dev.advance_device_latchRead]
@[simp] theorem Dev.advance_device_unretired (d : Dev) (n : Nat) : (d.advance n).device.unretired = d.device.unretired := by
  unfold Dev.advance; split <;> rfl
@[simp] theorem Dev.advanceTo_device_unretired (d : Dev) (n : Nat) : (d.advanceTo n).device.unretired = d.device.unretired := by rw [Dev.advanceTo, Dev.advance_device_unretired]
@[simp] theorem Dev.advance_device_wpLow (d : Dev) (n : Nat) : (d.advance n).device.wpLow = d.device.wpLow := by
  unfold Dev.advance; split <;> rfl
@[simp] theorem Dev.advanceTo_device_wpLow (d : Dev) (n : Nat) : (d.advanceTo n).device.wpLow = d.device.wpLow := by rw [Dev.advanceTo, Dev.advance_device_wpLow]
@[simp] theorem Dev.advance_device_appRunning (d : Dev) (n : Nat) : (d.advance n).device.appRunning = d.device.appRunning := by
  unfold Dev.advance; split <;> rfl
@[simp] theorem Dev.advanceTo_device_appRunning (d : Dev) (n : Nat) : (d.advanceTo n).device.appRunning = d.device.appRunning := by rw [Dev.advanceTo, Dev.advance_device_appRunning]
@[simp] theorem Dev.advance_device_replies (d : Dev) (n : Nat) : (d.advance n).device.replies = d.device.replies := by
  unfold Dev.advance; split <;> rfl
@[simp] theorem Dev.advanceTo_device_replies (d : Dev) (n : Nat) : (d.advanceTo n).device.replies = d.device.replies := by rw [Dev.advanceTo, Dev.advance_device_replies]
@[simp] theorem Dev.advance_device_responses (d : Dev) (n : Nat) : (d.advance n).device.responses = d.device.responses := by
  unfold Dev.advance; split <;> rfl
@[simp] theorem Dev.advanceTo_device_responses (d : Dev) (n : Nat) : (d.advanceTo n).device.responses = d.device.responses := by rw [Dev.advanceTo, Dev.advance_device_responses]
@[simp] theorem Dev.advance_device_fresh (d : Dev) (n : Nat) : (d.advance n).device.fresh = d.device.fresh := by
  unfold Dev.advance; split <;> rfl
@[simp] theorem Dev.advanceTo_device_fresh (d : Dev) (n : Nat) : (d.advanceTo n).device.fresh = d.device.fresh := by rw [Dev.advanceTo, Dev.advance_device_fresh]

@[simp] theorem Dev.advance_get (d : Dev) (n : Nat) (q : Reg) : (d.advance n).get q = d.get q := by simp [Dev.get]
@[simp] theorem Dev.advance_u (d : Dev) (n : Nat) (q : Reg) : (d.advance n).u q = d.u q := by simp [Dev.u]
@[simp] theorem Dev.advanceTo_get (d : Dev) (n : Nat) (q : Reg) : (d.advanceTo n).get q = d.get q := by simp [Dev.get]
@[simp] theorem Dev.advanceTo_u (d : Dev) (n : Nat) (q : Reg) : (d.advanceTo n).u q = d.u q := by simp [Dev.u]

end Sys2Proof.Machine
end

