-- ==== Sys2Proof/Laws/Effects.lean ====
section
/-! SUPPORT. What an applied write does, by the card of its object: the six cases of `Dev.effect`, so that no proof unfolds it. -/

namespace Sys2Proof.Machine

theorem Dev.effect_of_no_card (d : Dev) (rq : Request) (w : Write) (h : d.cardAt (w.key / 256) (w.key % 256) = none) :
    d.effect rq w = d := by
  simp only [Dev.effect, h]

theorem Dev.effect_of_flags (d : Dev) (rq : Request) (w : Write) (c : Card)
    (h : d.cardAt (w.key / 256) (w.key % 256) = some c) (hc : c.access = .RC) :
    d.effect rq w = d.clearWrite c (w.key / 256) (w.key % 256) w.value.toNat := by
  simp only [Dev.effect, h, hc, if_true]

theorem Dev.effect_of_apply (d : Dev) (rq : Request) (w : Write) (c : Card)
    (h : d.cardAt (w.key / 256) (w.key % 256) = some c) (hc : c.access ≠ .RC)
    (ha : actsElsewhere (w.key / 256) (w.key % 256) = true) : d.effect rq w = d := by
  simp only [Dev.effect, h, hc, ha, if_true, if_false]

theorem Dev.effect_of_shadowed (d : Dev) (rq : Request) (w : Write) (c : Card)
    (h : d.cardAt (w.key / 256) (w.key % 256) = some c) (hc : c.access ≠ .RC)
    (ha : actsElsewhere (w.key / 256) (w.key % 256) = false) (hs : inFamily 0x5100 16 (w.key / 256) = false)
    (hp : c.persist = .PC) : d.effect rq w = d.setShadow w := by
  simp [Dev.effect, h, hc, ha, hs, hp]

theorem Dev.effect_of_running (d : Dev) (rq : Request) (w : Write) (c : Card)
    (h : d.cardAt (w.key / 256) (w.key % 256) = some c) (hc : c.access ≠ .RC)
    (ha : actsElsewhere (w.key / 256) (w.key % 256) = false) (hs : inFamily 0x5100 16 (w.key / 256) = false)
    (hp : c.persist ≠ .PC) : d.effect rq w = d.chapterEffect rq w := by
  simp [Dev.effect, h, hc, ha, hs, hp]

theorem Dev.effect_of_subscription (d : Dev) (rq : Request) (w : Write) (c : Card)
    (h : d.cardAt (w.key / 256) (w.key % 256) = some c) (hc : c.access ≠ .RC)
    (ha : actsElsewhere (w.key / 256) (w.key % 256) = false) (hs : inFamily 0x5100 16 (w.key / 256) = true) :
    d.effect rq w = if w.key % 256 = 1 then d.entryEffect (w.key / 256) (w.key % 256) w.value else d.setShadow w := by
  simp [Dev.effect, h, hc, ha, hs]

end Sys2Proof.Machine
end

