-- ==== Sys2Proof/Laws/Events.lean ====
section
/-! SUPPORT. What flags and events leave alone (R273, R335, R336, R338): every part but the register file, the ledger and the
device chapter's own state; and in the register file every object but the counters of events and refusals. -/

namespace Sys2Proof.Machine

/-- The objects that raising an event never writes: all but EVENT_COUNT, EVENT_LAST, ENTRY_FLAGS and STREAM_REFUSED. -/
def Reg.quiet (q : Reg) : Prop :=
  q.key ≠ Obj.EVENT_COUNT.key ∧ q.key ≠ Obj.EVENT_LAST.key ∧ q.key ≠ Obj.ENTRY_FLAGS.key ∧
    ∀ n, q.key ≠ (Obj.STREAM_REFUSED n).key

/-! ### setFlag -/

@[simp] theorem Dev.setFlag_shadow (d : Dev) (r : Reg) (k : Nat) : (d.setFlag r k).shadow = d.shadow := rfl
@[simp] theorem Dev.setFlag_nvm (d : Dev) (r : Reg) (k : Nat) : (d.setFlag r k).nvm = d.nvm := rfl
@[simp] theorem Dev.setFlag_course (d : Dev) (r : Reg) (k : Nat) : (d.setFlag r k).course = d.course := rfl
@[simp] theorem Dev.setFlag_convs (d : Dev) (r : Reg) (k : Nat) : (d.setFlag r k).convs = d.convs := rfl
@[simp] theorem Dev.setFlag_seats (d : Dev) (r : Reg) (k : Nat) : (d.setFlag r k).seats = d.seats := rfl
@[simp] theorem Dev.setFlag_queue (d : Dev) (r : Reg) (k : Nat) : (d.setFlag r k).queue = d.queue := rfl
@[simp] theorem Dev.setFlag_xcheck (d : Dev) (r : Reg) (k : Nat) : (d.setFlag r k).xcheck = d.xcheck := rfl
@[simp] theorem Dev.setFlag_engine (d : Dev) (r : Reg) (k : Nat) : (d.setFlag r k).engine = d.engine := rfl
@[simp] theorem Dev.setFlag_capture (d : Dev) (r : Reg) (k : Nat) : (d.setFlag r k).capture = d.capture := rfl
@[simp] theorem Dev.setFlag_outputs (d : Dev) (r : Reg) (k : Nat) : (d.setFlag r k).outputs = d.outputs := rfl
@[simp] theorem Dev.setFlag_pwm (d : Dev) (r : Reg) (k : Nat) : (d.setFlag r k).pwm = d.pwm := rfl
@[simp] theorem Dev.setFlag_net (d : Dev) (r : Reg) (k : Nat) : (d.setFlag r k).net = d.net := rfl
@[simp] theorem Dev.setFlag_power (d : Dev) (r : Reg) (k : Nat) : (d.setFlag r k).power = d.power := rfl
@[simp] theorem Dev.setFlag_thermal (d : Dev) (r : Reg) (k : Nat) : (d.setFlag r k).thermal = d.thermal := rfl
@[simp] theorem Dev.setFlag_security (d : Dev) (r : Reg) (k : Nat) : (d.setFlag r k).security = d.security := rfl
@[simp] theorem Dev.setFlag_link (d : Dev) (r : Reg) (k : Nat) : (d.setFlag r k).link = d.link := rfl
@[simp] theorem Dev.setFlag_start (d : Dev) (r : Reg) (k : Nat) : (d.setFlag r k).start = d.start := rfl

/-! ### clearFlags -/

@[simp] theorem Dev.clearFlags_shadow (d : Dev) (r : Reg) (m : Nat) : (d.clearFlags r m).shadow = d.shadow := rfl
@[simp] theorem Dev.clearFlags_nvm (d : Dev) (r : Reg) (m : Nat) : (d.clearFlags r m).nvm = d.nvm := rfl
@[simp] theorem Dev.clearFlags_course (d : Dev) (r : Reg) (m : Nat) : (d.clearFlags r m).course = d.course := rfl
@[simp] theorem Dev.clearFlags_convs (d : Dev) (r : Reg) (m : Nat) : (d.clearFlags r m).convs = d.convs := rfl
@[simp] theorem Dev.clearFlags_seats (d : Dev) (r : Reg) (m : Nat) : (d.clearFlags r m).seats = d.seats := rfl
@[simp] theorem Dev.clearFlags_queue (d : Dev) (r : Reg) (m : Nat) : (d.clearFlags r m).queue = d.queue := rfl
@[simp] theorem Dev.clearFlags_xcheck (d : Dev) (r : Reg) (m : Nat) : (d.clearFlags r m).xcheck = d.xcheck := rfl
@[simp] theorem Dev.clearFlags_engine (d : Dev) (r : Reg) (m : Nat) : (d.clearFlags r m).engine = d.engine := rfl
@[simp] theorem Dev.clearFlags_capture (d : Dev) (r : Reg) (m : Nat) : (d.clearFlags r m).capture = d.capture := rfl
@[simp] theorem Dev.clearFlags_outputs (d : Dev) (r : Reg) (m : Nat) : (d.clearFlags r m).outputs = d.outputs := rfl
@[simp] theorem Dev.clearFlags_pwm (d : Dev) (r : Reg) (m : Nat) : (d.clearFlags r m).pwm = d.pwm := rfl
@[simp] theorem Dev.clearFlags_net (d : Dev) (r : Reg) (m : Nat) : (d.clearFlags r m).net = d.net := rfl
@[simp] theorem Dev.clearFlags_power (d : Dev) (r : Reg) (m : Nat) : (d.clearFlags r m).power = d.power := rfl
@[simp] theorem Dev.clearFlags_thermal (d : Dev) (r : Reg) (m : Nat) : (d.clearFlags r m).thermal = d.thermal := rfl
@[simp] theorem Dev.clearFlags_security (d : Dev) (r : Reg) (m : Nat) : (d.clearFlags r m).security = d.security := rfl
@[simp] theorem Dev.clearFlags_link (d : Dev) (r : Reg) (m : Nat) : (d.clearFlags r m).link = d.link := rfl
@[simp] theorem Dev.clearFlags_start (d : Dev) (r : Reg) (m : Nat) : (d.clearFlags r m).start = d.start := rfl

/-! ### countEvent -/

@[simp] theorem Dev.countEvent_shadow (d : Dev) (code : Nat) (data : List Byte) : (d.countEvent code data).shadow = d.shadow := rfl
@[simp] theorem Dev.countEvent_nvm (d : Dev) (code : Nat) (data : List Byte) : (d.countEvent code data).nvm = d.nvm := rfl
@[simp] theorem Dev.countEvent_course (d : Dev) (code : Nat) (data : List Byte) : (d.countEvent code data).course = d.course := rfl
@[simp] theorem Dev.countEvent_convs (d : Dev) (code : Nat) (data : List Byte) : (d.countEvent code data).convs = d.convs := rfl
@[simp] theorem Dev.countEvent_seats (d : Dev) (code : Nat) (data : List Byte) : (d.countEvent code data).seats = d.seats := rfl
@[simp] theorem Dev.countEvent_queue (d : Dev) (code : Nat) (data : List Byte) : (d.countEvent code data).queue = d.queue := rfl
@[simp] theorem Dev.countEvent_xcheck (d : Dev) (code : Nat) (data : List Byte) : (d.countEvent code data).xcheck = d.xcheck := rfl
@[simp] theorem Dev.countEvent_engine (d : Dev) (code : Nat) (data : List Byte) : (d.countEvent code data).engine = d.engine := rfl
@[simp] theorem Dev.countEvent_capture (d : Dev) (code : Nat) (data : List Byte) : (d.countEvent code data).capture = d.capture := rfl
@[simp] theorem Dev.countEvent_outputs (d : Dev) (code : Nat) (data : List Byte) : (d.countEvent code data).outputs = d.outputs := rfl
@[simp] theorem Dev.countEvent_pwm (d : Dev) (code : Nat) (data : List Byte) : (d.countEvent code data).pwm = d.pwm := rfl
@[simp] theorem Dev.countEvent_net (d : Dev) (code : Nat) (data : List Byte) : (d.countEvent code data).net = d.net := rfl
@[simp] theorem Dev.countEvent_power (d : Dev) (code : Nat) (data : List Byte) : (d.countEvent code data).power = d.power := rfl
@[simp] theorem Dev.countEvent_thermal (d : Dev) (code : Nat) (data : List Byte) : (d.countEvent code data).thermal = d.thermal := rfl
@[simp] theorem Dev.countEvent_security (d : Dev) (code : Nat) (data : List Byte) : (d.countEvent code data).security = d.security := rfl
@[simp] theorem Dev.countEvent_link (d : Dev) (code : Nat) (data : List Byte) : (d.countEvent code data).link = d.link := rfl
@[simp] theorem Dev.countEvent_start (d : Dev) (code : Nat) (data : List Byte) : (d.countEvent code data).start = d.start := rfl

/-! ### recordEvent -/

@[simp] theorem Dev.recordEvent_shadow (d : Dev) (code : Nat) (data : List Byte) : (d.recordEvent code data).1.shadow = d.shadow := by
  unfold Dev.recordEvent; split; · rfl
  simp only []; split <;> rfl
@[simp] theorem Dev.recordEvent_nvm (d : Dev) (code : Nat) (data : List Byte) : (d.recordEvent code data).1.nvm = d.nvm := by
  unfold Dev.recordEvent; split; · rfl
  simp only []; split <;> rfl
@[simp] theorem Dev.recordEvent_course (d : Dev) (code : Nat) (data : List Byte) : (d.recordEvent code data).1.course = d.course := by
  unfold Dev.recordEvent; split; · rfl
  simp only []; split <;> rfl
@[simp] theorem Dev.recordEvent_convs (d : Dev) (code : Nat) (data : List Byte) : (d.recordEvent code data).1.convs = d.convs := by
  unfold Dev.recordEvent; split; · rfl
  simp only []; split <;> rfl
@[simp] theorem Dev.recordEvent_seats (d : Dev) (code : Nat) (data : List Byte) : (d.recordEvent code data).1.seats = d.seats := by
  unfold Dev.recordEvent; split; · rfl
  simp only []; split <;> rfl
@[simp] theorem Dev.recordEvent_queue (d : Dev) (code : Nat) (data : List Byte) : (d.recordEvent code data).1.queue = d.queue := by
  unfold Dev.recordEvent; split; · rfl
  simp only []; split <;> rfl
@[simp] theorem Dev.recordEvent_xcheck (d : Dev) (code : Nat) (data : List Byte) : (d.recordEvent code data).1.xcheck = d.xcheck := by
  unfold Dev.recordEvent; split; · rfl
  simp only []; split <;> rfl
@[simp] theorem Dev.recordEvent_engine (d : Dev) (code : Nat) (data : List Byte) : (d.recordEvent code data).1.engine = d.engine := by
  unfold Dev.recordEvent; split; · rfl
  simp only []; split <;> rfl
@[simp] theorem Dev.recordEvent_capture (d : Dev) (code : Nat) (data : List Byte) : (d.recordEvent code data).1.capture = d.capture := by
  unfold Dev.recordEvent; split; · rfl
  simp only []; split <;> rfl
@[simp] theorem Dev.recordEvent_outputs (d : Dev) (code : Nat) (data : List Byte) : (d.recordEvent code data).1.outputs = d.outputs := by
  unfold Dev.recordEvent; split; · rfl
  simp only []; split <;> rfl
@[simp] theorem Dev.recordEvent_pwm (d : Dev) (code : Nat) (data : List Byte) : (d.recordEvent code data).1.pwm = d.pwm := by
  unfold Dev.recordEvent; split; · rfl
  simp only []; split <;> rfl
@[simp] theorem Dev.recordEvent_net (d : Dev) (code : Nat) (data : List Byte) : (d.recordEvent code data).1.net = d.net := by
  unfold Dev.recordEvent; split; · rfl
  simp only []; split <;> rfl
@[simp] theorem Dev.recordEvent_power (d : Dev) (code : Nat) (data : List Byte) : (d.recordEvent code data).1.power = d.power := by
  unfold Dev.recordEvent; split; · rfl
  simp only []; split <;> rfl
@[simp] theorem Dev.recordEvent_thermal (d : Dev) (code : Nat) (data : List Byte) : (d.recordEvent code data).1.thermal = d.thermal := by
  unfold Dev.recordEvent; split; · rfl
  simp only []; split <;> rfl
@[simp] theorem Dev.recordEvent_security (d : Dev) (code : Nat) (data : List Byte) : (d.recordEvent code data).1.security = d.security := by
  unfold Dev.recordEvent; split; · rfl
  simp only []; split <;> rfl
@[simp] theorem Dev.recordEvent_link (d : Dev) (code : Nat) (data : List Byte) : (d.recordEvent code data).1.link = d.link := by
  unfold Dev.recordEvent; split; · rfl
  simp only []; split <;> rfl
@[simp] theorem Dev.recordEvent_start (d : Dev) (code : Nat) (data : List Byte) : (d.recordEvent code data).1.start = d.start := by
  unfold Dev.recordEvent; split; · rfl
  simp only []; split <;> rfl

/-! ### raiseOnce -/

@[simp] theorem Dev.raiseOnce_shadow (d : Dev) (code : Nat) (data : List Byte) : (d.raiseOnce code data).1.shadow = d.shadow := by
  simp [Dev.raiseOnce]
@[simp] theorem Dev.raiseOnce_nvm (d : Dev) (code : Nat) (data : List Byte) : (d.raiseOnce code data).1.nvm = d.nvm := by
  simp [Dev.raiseOnce]
@[simp] theorem Dev.raiseOnce_course (d : Dev) (code : Nat) (data : List Byte) : (d.raiseOnce code data).1.course = d.course := by
  simp [Dev.raiseOnce]
@[simp] theorem Dev.raiseOnce_convs (d : Dev) (code : Nat) (data : List Byte) : (d.raiseOnce code data).1.convs = d.convs := by
  simp [Dev.raiseOnce]
@[simp] theorem Dev.raiseOnce_seats (d : Dev) (code : Nat) (data : List Byte) : (d.raiseOnce code data).1.seats = d.seats := by
  simp [Dev.raiseOnce]
@[simp] theorem Dev.raiseOnce_queue (d : Dev) (code : Nat) (data : List Byte) : (d.raiseOnce code data).1.queue = d.queue := by
  simp [Dev.raiseOnce]
@[simp] theorem Dev.raiseOnce_xcheck (d : Dev) (code : Nat) (data : List Byte) : (d.raiseOnce code data).1.xcheck = d.xcheck := by
  simp [Dev.raiseOnce]
@[simp] theorem Dev.raiseOnce_engine (d : Dev) (code : Nat) (data : List Byte) : (d.raiseOnce code data).1.engine = d.engine := by
  simp [Dev.raiseOnce]
@[simp] theorem Dev.raiseOnce_capture (d : Dev) (code : Nat) (data : List Byte) : (d.raiseOnce code data).1.capture = d.capture := by
  simp [Dev.raiseOnce]
@[simp] theorem Dev.raiseOnce_outputs (d : Dev) (code : Nat) (data : List Byte) : (d.raiseOnce code data).1.outputs = d.outputs := by
  simp [Dev.raiseOnce]
@[simp] theorem Dev.raiseOnce_pwm (d : Dev) (code : Nat) (data : List Byte) : (d.raiseOnce code data).1.pwm = d.pwm := by
  simp [Dev.raiseOnce]
@[simp] theorem Dev.raiseOnce_net (d : Dev) (code : Nat) (data : List Byte) : (d.raiseOnce code data).1.net = d.net := by
  simp [Dev.raiseOnce]
@[simp] theorem Dev.raiseOnce_power (d : Dev) (code : Nat) (data : List Byte) : (d.raiseOnce code data).1.power = d.power := by
  simp [Dev.raiseOnce]
@[simp] theorem Dev.raiseOnce_thermal (d : Dev) (code : Nat) (data : List Byte) : (d.raiseOnce code data).1.thermal = d.thermal := by
  simp [Dev.raiseOnce]
@[simp] theorem Dev.raiseOnce_security (d : Dev) (code : Nat) (data : List Byte) : (d.raiseOnce code data).1.security = d.security := by
  simp [Dev.raiseOnce]
@[simp] theorem Dev.raiseOnce_link (d : Dev) (code : Nat) (data : List Byte) : (d.raiseOnce code data).1.link = d.link := by
  simp [Dev.raiseOnce]
@[simp] theorem Dev.raiseOnce_start (d : Dev) (code : Nat) (data : List Byte) : (d.raiseOnce code data).1.start = d.start := by
  simp [Dev.raiseOnce]

/-! ### reportRefused -/

@[simp] theorem Dev.reportRefused_shadow (d : Dev) (n k : Nat) : (d.reportRefused n k).shadow = d.shadow := by
  unfold Dev.reportRefused; split <;> simp
@[simp] theorem Dev.reportRefused_nvm (d : Dev) (n k : Nat) : (d.reportRefused n k).nvm = d.nvm := by
  unfold Dev.reportRefused; split <;> simp
@[simp] theorem Dev.reportRefused_course (d : Dev) (n k : Nat) : (d.reportRefused n k).course = d.course := by
  unfold Dev.reportRefused; split <;> simp
@[simp] theorem Dev.reportRefused_convs (d : Dev) (n k : Nat) : (d.reportRefused n k).convs = d.convs := by
  unfold Dev.reportRefused; split <;> simp
@[simp] theorem Dev.reportRefused_seats (d : Dev) (n k : Nat) : (d.reportRefused n k).seats = d.seats := by
  unfold Dev.reportRefused; split <;> simp
@[simp] theorem Dev.reportRefused_queue (d : Dev) (n k : Nat) : (d.reportRefused n k).queue = d.queue := by
  unfold Dev.reportRefused; split <;> simp
@[simp] theorem Dev.reportRefused_xcheck (d : Dev) (n k : Nat) : (d.reportRefused n k).xcheck = d.xcheck := by
  unfold Dev.reportRefused; split <;> simp
@[simp] theorem Dev.reportRefused_engine (d : Dev) (n k : Nat) : (d.reportRefused n k).engine = d.engine := by
  unfold Dev.reportRefused; split <;> simp
@[simp] theorem Dev.reportRefused_capture (d : Dev) (n k : Nat) : (d.reportRefused n k).capture = d.capture := by
  unfold Dev.reportRefused; split <;> simp
@[simp] theorem Dev.reportRefused_outputs (d : Dev) (n k : Nat) : (d.reportRefused n k).outputs = d.outputs := by
  unfold Dev.reportRefused; split <;> simp
@[simp] theorem Dev.reportRefused_pwm (d : Dev) (n k : Nat) : (d.reportRefused n k).pwm = d.pwm := by
  unfold Dev.reportRefused; split <;> simp
@[simp] theorem Dev.reportRefused_net (d : Dev) (n k : Nat) : (d.reportRefused n k).net = d.net := by
  unfold Dev.reportRefused; split <;> simp
@[simp] theorem Dev.reportRefused_power (d : Dev) (n k : Nat) : (d.reportRefused n k).power = d.power := by
  unfold Dev.reportRefused; split <;> simp
@[simp] theorem Dev.reportRefused_thermal (d : Dev) (n k : Nat) : (d.reportRefused n k).thermal = d.thermal := by
  unfold Dev.reportRefused; split <;> simp
@[simp] theorem Dev.reportRefused_security (d : Dev) (n k : Nat) : (d.reportRefused n k).security = d.security := by
  unfold Dev.reportRefused; split <;> simp
@[simp] theorem Dev.reportRefused_link (d : Dev) (n k : Nat) : (d.reportRefused n k).link = d.link := by
  unfold Dev.reportRefused; split <;> simp
@[simp] theorem Dev.reportRefused_start (d : Dev) (n k : Nat) : (d.reportRefused n k).start = d.start := by
  unfold Dev.reportRefused; split <;> simp

/-! ### raiseNow -/

@[simp] theorem Dev.raiseNow_shadow (d : Dev) (code : Nat) (data : List Byte) : (d.raiseNow code data).shadow = d.shadow := by
  unfold Dev.raiseNow; simp only []; split <;> simp
@[simp] theorem Dev.raiseNow_nvm (d : Dev) (code : Nat) (data : List Byte) : (d.raiseNow code data).nvm = d.nvm := by
  unfold Dev.raiseNow; simp only []; split <;> simp
@[simp] theorem Dev.raiseNow_course (d : Dev) (code : Nat) (data : List Byte) : (d.raiseNow code data).course = d.course := by
  unfold Dev.raiseNow; simp only []; split <;> simp
@[simp] theorem Dev.raiseNow_convs (d : Dev) (code : Nat) (data : List Byte) : (d.raiseNow code data).convs = d.convs := by
  unfold Dev.raiseNow; simp only []; split <;> simp
@[simp] theorem Dev.raiseNow_seats (d : Dev) (code : Nat) (data : List Byte) : (d.raiseNow code data).seats = d.seats := by
  unfold Dev.raiseNow; simp only []; split <;> simp
@[simp] theorem Dev.raiseNow_queue (d : Dev) (code : Nat) (data : List Byte) : (d.raiseNow code data).queue = d.queue := by
  unfold Dev.raiseNow; simp only []; split <;> simp
@[simp] theorem Dev.raiseNow_xcheck (d : Dev) (code : Nat) (data : List Byte) : (d.raiseNow code data).xcheck = d.xcheck := by
  unfold Dev.raiseNow; simp only []; split <;> simp
@[simp] theorem Dev.raiseNow_engine (d : Dev) (code : Nat) (data : List Byte) : (d.raiseNow code data).engine = d.engine := by
  unfold Dev.raiseNow; simp only []; split <;> simp
@[simp] theorem Dev.raiseNow_capture (d : Dev) (code : Nat) (data : List Byte) : (d.raiseNow code data).capture = d.capture := by
  unfold Dev.raiseNow; simp only []; split <;> simp
@[simp] theorem Dev.raiseNow_outputs (d : Dev) (code : Nat) (data : List Byte) : (d.raiseNow code data).outputs = d.outputs := by
  unfold Dev.raiseNow; simp only []; split <;> simp
@[simp] theorem Dev.raiseNow_pwm (d : Dev) (code : Nat) (data : List Byte) : (d.raiseNow code data).pwm = d.pwm := by
  unfold Dev.raiseNow; simp only []; split <;> simp
@[simp] theorem Dev.raiseNow_net (d : Dev) (code : Nat) (data : List Byte) : (d.raiseNow code data).net = d.net := by
  unfold Dev.raiseNow; simp only []; split <;> simp
@[simp] theorem Dev.raiseNow_power (d : Dev) (code : Nat) (data : List Byte) : (d.raiseNow code data).power = d.power := by
  unfold Dev.raiseNow; simp only []; split <;> simp
@[simp] theorem Dev.raiseNow_thermal (d : Dev) (code : Nat) (data : List Byte) : (d.raiseNow code data).thermal = d.thermal := by
  unfold Dev.raiseNow; simp only []; split <;> simp
@[simp] theorem Dev.raiseNow_security (d : Dev) (code : Nat) (data : List Byte) : (d.raiseNow code data).security = d.security := by
  unfold Dev.raiseNow; simp only []; split <;> simp
@[simp] theorem Dev.raiseNow_link (d : Dev) (code : Nat) (data : List Byte) : (d.raiseNow code data).link = d.link := by
  unfold Dev.raiseNow; simp only []; split <;> simp
@[simp] theorem Dev.raiseNow_start (d : Dev) (code : Nat) (data : List Byte) : (d.raiseNow code data).start = d.start := by
  unfold Dev.raiseNow; simp only []; split <;> simp

/-! ### raise -/

@[simp] theorem Dev.raise_shadow (d : Dev) (code : Nat) (data : List Byte) : (d.raise code data).shadow = d.shadow := by
  unfold Dev.raise; split <;> simp
@[simp] theorem Dev.raise_nvm (d : Dev) (code : Nat) (data : List Byte) : (d.raise code data).nvm = d.nvm := by
  unfold Dev.raise; split <;> simp
@[simp] theorem Dev.raise_course (d : Dev) (code : Nat) (data : List Byte) : (d.raise code data).course = d.course := by
  unfold Dev.raise; split <;> simp
@[simp] theorem Dev.raise_convs (d : Dev) (code : Nat) (data : List Byte) : (d.raise code data).convs = d.convs := by
  unfold Dev.raise; split <;> simp
@[simp] theorem Dev.raise_seats (d : Dev) (code : Nat) (data : List Byte) : (d.raise code data).seats = d.seats := by
  unfold Dev.raise; split <;> simp
@[simp] theorem Dev.raise_queue (d : Dev) (code : Nat) (data : List Byte) : (d.raise code data).queue = d.queue := by
  unfold Dev.raise; split <;> simp
@[simp] theorem Dev.raise_xcheck (d : Dev) (code : Nat) (data : List Byte) : (d.raise code data).xcheck = d.xcheck := by
  unfold Dev.raise; split <;> simp
@[simp] theorem Dev.raise_engine (d : Dev) (code : Nat) (data : List Byte) : (d.raise code data).engine = d.engine := by
  unfold Dev.raise; split <;> simp
@[simp] theorem Dev.raise_capture (d : Dev) (code : Nat) (data : List Byte) : (d.raise code data).capture = d.capture := by
  unfold Dev.raise; split <;> simp
@[simp] theorem Dev.raise_outputs (d : Dev) (code : Nat) (data : List Byte) : (d.raise code data).outputs = d.outputs := by
  unfold Dev.raise; split <;> simp
@[simp] theorem Dev.raise_pwm (d : Dev) (code : Nat) (data : List Byte) : (d.raise code data).pwm = d.pwm := by
  unfold Dev.raise; split <;> simp
@[simp] theorem Dev.raise_net (d : Dev) (code : Nat) (data : List Byte) : (d.raise code data).net = d.net := by
  unfold Dev.raise; split <;> simp
@[simp] theorem Dev.raise_power (d : Dev) (code : Nat) (data : List Byte) : (d.raise code data).power = d.power := by
  unfold Dev.raise; split <;> simp
@[simp] theorem Dev.raise_thermal (d : Dev) (code : Nat) (data : List Byte) : (d.raise code data).thermal = d.thermal := by
  unfold Dev.raise; split <;> simp
@[simp] theorem Dev.raise_security (d : Dev) (code : Nat) (data : List Byte) : (d.raise code data).security = d.security := by
  unfold Dev.raise; split <;> simp
@[simp] theorem Dev.raise_link (d : Dev) (code : Nat) (data : List Byte) : (d.raise code data).link = d.link := by
  unfold Dev.raise; split <;> simp
@[simp] theorem Dev.raise_start (d : Dev) (code : Nat) (data : List Byte) : (d.raise code data).start = d.start := by
  unfold Dev.raise; split <;> simp

/-! ### flagRaise -/

@[simp] theorem Dev.flagRaise_shadow (d : Dev) (r : Reg) (k code : Nat) (data : List Byte) : (d.flagRaise r k code data).shadow = d.shadow := by
  simp [Dev.flagRaise]
@[simp] theorem Dev.flagRaise_nvm (d : Dev) (r : Reg) (k code : Nat) (data : List Byte) : (d.flagRaise r k code data).nvm = d.nvm := by
  simp [Dev.flagRaise]
@[simp] theorem Dev.flagRaise_course (d : Dev) (r : Reg) (k code : Nat) (data : List Byte) : (d.flagRaise r k code data).course = d.course := by
  simp [Dev.flagRaise]
@[simp] theorem Dev.flagRaise_convs (d : Dev) (r : Reg) (k code : Nat) (data : List Byte) : (d.flagRaise r k code data).convs = d.convs := by
  simp [Dev.flagRaise]
@[simp] theorem Dev.flagRaise_seats (d : Dev) (r : Reg) (k code : Nat) (data : List Byte) : (d.flagRaise r k code data).seats = d.seats := by
  simp [Dev.flagRaise]
@[simp] theorem Dev.flagRaise_queue (d : Dev) (r : Reg) (k code : Nat) (data : List Byte) : (d.flagRaise r k code data).queue = d.queue := by
  simp [Dev.flagRaise]
@[simp] theorem Dev.flagRaise_xcheck (d : Dev) (r : Reg) (k code : Nat) (data : List Byte) : (d.flagRaise r k code data).xcheck = d.xcheck := by
  simp [Dev.flagRaise]
@[simp] theorem Dev.flagRaise_engine (d : Dev) (r : Reg) (k code : Nat) (data : List Byte) : (d.flagRaise r k code data).engine = d.engine := by
  simp [Dev.flagRaise]
@[simp] theorem Dev.flagRaise_capture (d : Dev) (r : Reg) (k code : Nat) (data : List Byte) : (d.flagRaise r k code data).capture = d.capture := by
  simp [Dev.flagRaise]
@[simp] theorem Dev.flagRaise_outputs (d : Dev) (r : Reg) (k code : Nat) (data : List Byte) : (d.flagRaise r k code data).outputs = d.outputs := by
  simp [Dev.flagRaise]
@[simp] theorem Dev.flagRaise_pwm (d : Dev) (r : Reg) (k code : Nat) (data : List Byte) : (d.flagRaise r k code data).pwm = d.pwm := by
  simp [Dev.flagRaise]
@[simp] theorem Dev.flagRaise_net (d : Dev) (r : Reg) (k code : Nat) (data : List Byte) : (d.flagRaise r k code data).net = d.net := by
  simp [Dev.flagRaise]
@[simp] theorem Dev.flagRaise_power (d : Dev) (r : Reg) (k code : Nat) (data : List Byte) : (d.flagRaise r k code data).power = d.power := by
  simp [Dev.flagRaise]
@[simp] theorem Dev.flagRaise_thermal (d : Dev) (r : Reg) (k code : Nat) (data : List Byte) : (d.flagRaise r k code data).thermal = d.thermal := by
  simp [Dev.flagRaise]
@[simp] theorem Dev.flagRaise_security (d : Dev) (r : Reg) (k code : Nat) (data : List Byte) : (d.flagRaise r k code data).security = d.security := by
  simp [Dev.flagRaise]
@[simp] theorem Dev.flagRaise_link (d : Dev) (r : Reg) (k code : Nat) (data : List Byte) : (d.flagRaise r k code data).link = d.link := by
  simp [Dev.flagRaise]
@[simp] theorem Dev.flagRaise_start (d : Dev) (r : Reg) (k code : Nat) (data : List Byte) : (d.flagRaise r k code data).start = d.start := by
  simp [Dev.flagRaise]

/-! ### flagFirst -/

@[simp] theorem Dev.flagFirst_shadow (d : Dev) (r : Reg) (k code : Nat) (data : List Byte) : (d.flagFirst r k code data).shadow = d.shadow := by
  unfold Dev.flagFirst; split <;> simp
@[simp] theorem Dev.flagFirst_nvm (d : Dev) (r : Reg) (k code : Nat) (data : List Byte) : (d.flagFirst r k code data).nvm = d.nvm := by
  unfold Dev.flagFirst; split <;> simp
@[simp] theorem Dev.flagFirst_course (d : Dev) (r : Reg) (k code : Nat) (data : List Byte) : (d.flagFirst r k code data).course = d.course := by
  unfold Dev.flagFirst; split <;> simp
@[simp] theorem Dev.flagFirst_convs (d : Dev) (r : Reg) (k code : Nat) (data : List Byte) : (d.flagFirst r k code data).convs = d.convs := by
  unfold Dev.flagFirst; split <;> simp
@[simp] theorem Dev.flagFirst_seats (d : Dev) (r : Reg) (k code : Nat) (data : List Byte) : (d.flagFirst r k code data).seats = d.seats := by
  unfold Dev.flagFirst; split <;> simp
@[simp] theorem Dev.flagFirst_queue (d : Dev) (r : Reg) (k code : Nat) (data : List Byte) : (d.flagFirst r k code data).queue = d.queue := by
  unfold Dev.flagFirst; split <;> simp
@[simp] theorem Dev.flagFirst_xcheck (d : Dev) (r : Reg) (k code : Nat) (data : List Byte) : (d.flagFirst r k code data).xcheck = d.xcheck := by
  unfold Dev.flagFirst; split <;> simp
@[simp] theorem Dev.flagFirst_engine (d : Dev) (r : Reg) (k code : Nat) (data : List Byte) : (d.flagFirst r k code data).engine = d.engine := by
  unfold Dev.flagFirst; split <;> simp
@[simp] theorem Dev.flagFirst_capture (d : Dev) (r : Reg) (k code : Nat) (data : List Byte) : (d.flagFirst r k code data).capture = d.capture := by
  unfold Dev.flagFirst; split <;> simp
@[simp] theorem Dev.flagFirst_outputs (d : Dev) (r : Reg) (k code : Nat) (data : List Byte) : (d.flagFirst r k code data).outputs = d.outputs := by
  unfold Dev.flagFirst; split <;> simp
@[simp] theorem Dev.flagFirst_pwm (d : Dev) (r : Reg) (k code : Nat) (data : List Byte) : (d.flagFirst r k code data).pwm = d.pwm := by
  unfold Dev.flagFirst; split <;> simp
@[simp] theorem Dev.flagFirst_net (d : Dev) (r : Reg) (k code : Nat) (data : List Byte) : (d.flagFirst r k code data).net = d.net := by
  unfold Dev.flagFirst; split <;> simp
@[simp] theorem Dev.flagFirst_power (d : Dev) (r : Reg) (k code : Nat) (data : List Byte) : (d.flagFirst r k code data).power = d.power := by
  unfold Dev.flagFirst; split <;> simp
@[simp] theorem Dev.flagFirst_thermal (d : Dev) (r : Reg) (k code : Nat) (data : List Byte) : (d.flagFirst r k code data).thermal = d.thermal := by
  unfold Dev.flagFirst; split <;> simp
@[simp] theorem Dev.flagFirst_security (d : Dev) (r : Reg) (k code : Nat) (data : List Byte) : (d.flagFirst r k code data).security = d.security := by
  unfold Dev.flagFirst; split <;> simp
@[simp] theorem Dev.flagFirst_link (d : Dev) (r : Reg) (k code : Nat) (data : List Byte) : (d.flagFirst r k code data).link = d.link := by
  unfold Dev.flagFirst; split <;> simp
@[simp] theorem Dev.flagFirst_start (d : Dev) (r : Reg) (k code : Nat) (data : List Byte) : (d.flagFirst r k code data).start = d.start := by
  unfold Dev.flagFirst; split <;> simp

/-! ### The device chapter -/

@[simp] theorem Dev.setFlag_device_state (d : Dev) (r : Reg) (k : Nat) : (d.setFlag r k).device.state = d.device.state := rfl
@[simp] theorem Dev.setFlag_device_pending (d : Dev) (r : Reg) (k : Nat) : (d.setFlag r k).device.pending = d.device.pending := rfl
@[simp] theorem Dev.setFlag_device_latch (d : Dev) (r : Reg) (k : Nat) : (d.setFlag r k).device.latch = d.device.latch := rfl
@[simp] theorem Dev.setFlag_device_latchRead (d : Dev) (r : Reg) (k : Nat) : (d.setFlag r k).device.latchRead = d.device.latchRead := rfl
@[simp] theorem Dev.setFlag_device_unretired (d : Dev) (r : Reg) (k : Nat) : (d.setFlag r k).device.unretired = d.device.unretired := rfl
@[simp] theorem Dev.setFlag_device_wpLow (d : Dev) (r : Reg) (k : Nat) : (d.setFlag r k).device.wpLow = d.device.wpLow := rfl
@[simp] theorem Dev.setFlag_device_appRunning (d : Dev) (r : Reg) (k : Nat) : (d.setFlag r k).device.appRunning = d.device.appRunning := rfl
@[simp] theorem Dev.setFlag_device_replies (d : Dev) (r : Reg) (k : Nat) : (d.setFlag r k).device.replies = d.device.replies := rfl
@[simp] theorem Dev.setFlag_device_responses (d : Dev) (r : Reg) (k : Nat) : (d.setFlag r k).device.responses = d.device.responses := rfl
@[simp] theorem Dev.setFlag_device_fresh (d : Dev) (r : Reg) (k : Nat) : (d.setFlag r k).device.fresh = d.device.fresh := rfl
@[simp] theorem Dev.setFlag_device_heldEvents (d : Dev) (r : Reg) (k : Nat) : (d.setFlag r k).device.heldEvents = d.device.heldEvents := rfl
@[simp] theorem Dev.clearFlags_device_state (d : Dev) (r : Reg) (m : Nat) : (d.clearFlags r m).device.state = d.device.state := rfl
@[simp] theorem Dev.clearFlags_device_pending (d : Dev) (r : Reg) (m : Nat) : (d.clearFlags r m).device.pending = d.device.pending := rfl
@[simp] theorem Dev.clearFlags_device_latch (d : Dev) (r : Reg) (m : Nat) : (d.clearFlags r m).device.latch = d.device.latch := rfl
@[simp] theorem Dev.clearFlags_device_latchRead (d : Dev) (r : Reg) (m : Nat) : (d.clearFlags r m).device.latchRead = d.device.latchRead := rfl
@[simp] theorem Dev.clearFlags_device_unretired (d : Dev) (r : Reg) (m : Nat) : (d.clearFlags r m).device.unretired = d.device.unretired := rfl
@[simp] theorem Dev.clearFlags_device_wpLow (d : Dev) (r : Reg) (m : Nat) : (d.clearFlags r m).device.wpLow = d.device.wpLow := rfl
@[simp] theorem Dev.clearFlags_device_appRunning (d : Dev) (r : Reg) (m : Nat) : (d.clearFlags r m).device.appRunning = d.device.appRunning := rfl
@[simp] theorem Dev.clearFlags_device_replies (d : Dev) (r : Reg) (m : Nat) : (d.clearFlags r m).device.replies = d.device.replies := rfl
@[simp] theorem Dev.clearFlags_device_responses (d : Dev) (r : Reg) (m : Nat) : (d.clearFlags r m).device.responses = d.device.responses := rfl
@[simp] theorem Dev.clearFlags_device_fresh (d : Dev) (r : Reg) (m : Nat) : (d.clearFlags r m).device.fresh = d.device.fresh := rfl
@[simp] theorem Dev.clearFlags_device_heldEvents (d : Dev) (r : Reg) (m : Nat) : (d.clearFlags r m).device.heldEvents = d.device.heldEvents := rfl
@[simp] theorem Dev.countEvent_device_state (d : Dev) (code : Nat) (data : List Byte) : (d.countEvent code data).device.state = d.device.state := rfl
@[simp] theorem Dev.countEvent_device_pending (d : Dev) (code : Nat) (data : List Byte) : (d.countEvent code data).device.pending = d.device.pending := rfl
@[simp] theorem Dev.countEvent_device_latch (d : Dev) (code : Nat) (data : List Byte) : (d.countEvent code data).device.latch = d.device.latch := rfl
@[simp] theorem Dev.countEvent_device_latchRead (d : Dev) (code : Nat) (data : List Byte) : (d.countEvent code data).device.latchRead = d.device.latchRead := rfl
@[simp] theorem Dev.countEvent_device_unretired (d : Dev) (code : Nat) (data : List Byte) : (d.countEvent code data).device.unretired = d.device.unretired := rfl
@[simp] theorem Dev.countEvent_device_wpLow (d : Dev) (code : Nat) (data : List Byte) : (d.countEvent code data).device.wpLow = d.device.wpLow := rfl
@[simp] theorem Dev.countEvent_device_appRunning (d : Dev) (code : Nat) (data : List Byte) : (d.countEvent code data).device.appRunning = d.device.appRunning := rfl
@[simp] theorem Dev.countEvent_device_replies (d : Dev) (code : Nat) (data : List Byte) : (d.countEvent code data).device.replies = d.device.replies := rfl
@[simp] theorem Dev.countEvent_device_responses (d : Dev) (code : Nat) (data : List Byte) : (d.countEvent code data).device.responses = d.device.responses := rfl
@[simp] theorem Dev.countEvent_device_fresh (d : Dev) (code : Nat) (data : List Byte) : (d.countEvent code data).device.fresh = d.device.fresh := rfl
@[simp] theorem Dev.countEvent_device_heldEvents (d : Dev) (code : Nat) (data : List Byte) : (d.countEvent code data).device.heldEvents = d.device.heldEvents := rfl
@[simp] theorem Dev.recordEvent_device_state (d : Dev) (code : Nat) (data : List Byte) : (d.recordEvent code data).1.device.state = d.device.state := by
  unfold Dev.recordEvent; split; · rfl
  simp only []; split <;> rfl
@[simp] theorem Dev.recordEvent_device_pending (d : Dev) (code : Nat) (data : List Byte) : (d.recordEvent code data).1.device.pending = d.device.pending := by
  unfold Dev.recordEvent; split; · rfl
  simp only []; split <;> rfl
@[simp] theorem Dev.recordEvent_device_latch (d : Dev) (code : Nat) (data : List Byte) : (d.recordEvent code data).1.device.latch = d.device.latch := by
  unfold Dev.recordEvent; split; · rfl
  simp only []; split <;> rfl
@[simp] theorem Dev.recordEvent_device_latchRead (d : Dev) (code : Nat) (data : List Byte) : (d.recordEvent code data).1.device.latchRead = d.device.latchRead := by
  unfold Dev.recordEvent; split; · rfl
  simp only []; split <;> rfl
@[simp] theorem Dev.recordEvent_device_unretired (d : Dev) (code : Nat) (data : List Byte) : (d.recordEvent code data).1.device.unretired = d.device.unretired := by
  unfold Dev.recordEvent; split; · rfl
  simp only []; split <;> rfl
@[simp] theorem Dev.recordEvent_device_wpLow (d : Dev) (code : Nat) (data : List Byte) : (d.recordEvent code data).1.device.wpLow = d.device.wpLow := by
  unfold Dev.recordEvent; split; · rfl
  simp only []; split <;> rfl
@[simp] theorem Dev.recordEvent_device_appRunning (d : Dev) (code : Nat) (data : List Byte) : (d.recordEvent code data).1.device.appRunning = d.device.appRunning := by
  unfold Dev.recordEvent; split; · rfl
  simp only []; split <;> rfl
@[simp] theorem Dev.recordEvent_device_replies (d : Dev) (code : Nat) (data : List Byte) : (d.recordEvent code data).1.device.replies = d.device.replies := by
  unfold Dev.recordEvent; split; · rfl
  simp only []; split <;> rfl
@[simp] theorem Dev.recordEvent_device_responses (d : Dev) (code : Nat) (data : List Byte) : (d.recordEvent code data).1.device.responses = d.device.responses := by
  unfold Dev.recordEvent; split; · rfl
  simp only []; split <;> rfl
@[simp] theorem Dev.recordEvent_device_fresh (d : Dev) (code : Nat) (data : List Byte) : (d.recordEvent code data).1.device.fresh = d.device.fresh := by
  unfold Dev.recordEvent; split; · rfl
  simp only []; split <;> rfl
@[simp] theorem Dev.recordEvent_device_heldEvents (d : Dev) (code : Nat) (data : List Byte) : (d.recordEvent code data).1.device.heldEvents = d.device.heldEvents := by
  unfold Dev.recordEvent; split; · rfl
  simp only []; split <;> rfl
@[simp] theorem Dev.raiseOnce_device_state (d : Dev) (code : Nat) (data : List Byte) : (d.raiseOnce code data).1.device.state = d.device.state := by
  simp [Dev.raiseOnce]
@[simp] theorem Dev.raiseOnce_device_pending (d : Dev) (code : Nat) (data : List Byte) : (d.raiseOnce code data).1.device.pending = d.device.pending := by
  simp [Dev.raiseOnce]
@[simp] theorem Dev.raiseOnce_device_latch (d : Dev) (code : Nat) (data : List Byte) : (d.raiseOnce code data).1.device.latch = d.device.latch := by
  simp [Dev.raiseOnce]
@[simp] theorem Dev.raiseOnce_device_latchRead (d : Dev) (code : Nat) (data : List Byte) : (d.raiseOnce code data).1.device.latchRead = d.device.latchRead := by
  simp [Dev.raiseOnce]
@[simp] theorem Dev.raiseOnce_device_unretired (d : Dev) (code : Nat) (data : List Byte) : (d.raiseOnce code data).1.device.unretired = d.device.unretired := by
  simp [Dev.raiseOnce]
@[simp] theorem Dev.raiseOnce_device_wpLow (d : Dev) (code : Nat) (data : List Byte) : (d.raiseOnce code data).1.device.wpLow = d.device.wpLow := by
  simp [Dev.raiseOnce]
@[simp] theorem Dev.raiseOnce_device_appRunning (d : Dev) (code : Nat) (data : List Byte) : (d.raiseOnce code data).1.device.appRunning = d.device.appRunning := by
  simp [Dev.raiseOnce]
@[simp] theorem Dev.raiseOnce_device_replies (d : Dev) (code : Nat) (data : List Byte) : (d.raiseOnce code data).1.device.replies = d.device.replies := by
  simp [Dev.raiseOnce]
@[simp] theorem Dev.raiseOnce_device_responses (d : Dev) (code : Nat) (data : List Byte) : (d.raiseOnce code data).1.device.responses = d.device.responses := by
  simp [Dev.raiseOnce]
@[simp] theorem Dev.raiseOnce_device_fresh (d : Dev) (code : Nat) (data : List Byte) : (d.raiseOnce code data).1.device.fresh = d.device.fresh := by
  simp [Dev.raiseOnce]
@[simp] theorem Dev.raiseOnce_device_heldEvents (d : Dev) (code : Nat) (data : List Byte) : (d.raiseOnce code data).1.device.heldEvents = d.device.heldEvents := by
  simp [Dev.raiseOnce]
@[simp] theorem Dev.reportRefused_device_state (d : Dev) (n k : Nat) : (d.reportRefused n k).device.state = d.device.state := by
  unfold Dev.reportRefused; split <;> simp
@[simp] theorem Dev.reportRefused_device_pending (d : Dev) (n k : Nat) : (d.reportRefused n k).device.pending = d.device.pending := by
  unfold Dev.reportRefused; split <;> simp
@[simp] theorem Dev.reportRefused_device_latch (d : Dev) (n k : Nat) : (d.reportRefused n k).device.latch = d.device.latch := by
  unfold Dev.reportRefused; split <;> simp
@[simp] theorem Dev.reportRefused_device_latchRead (d : Dev) (n k : Nat) : (d.reportRefused n k).device.latchRead = d.device.latchRead := by
  unfold Dev.reportRefused; split <;> simp
@[simp] theorem Dev.reportRefused_device_unretired (d : Dev) (n k : Nat) : (d.reportRefused n k).device.unretired = d.device.unretired := by
  unfold Dev.reportRefused; split <;> simp
@[simp] theorem Dev.reportRefused_device_wpLow (d : Dev) (n k : Nat) : (d.reportRefused n k).device.wpLow = d.device.wpLow := by
  unfold Dev.reportRefused; split <;> simp
@[simp] theorem Dev.reportRefused_device_appRunning (d : Dev) (n k : Nat) : (d.reportRefused n k).device.appRunning = d.device.appRunning := by
  unfold Dev.reportRefused; split <;> simp
@[simp] theorem Dev.reportRefused_device_replies (d : Dev) (n k : Nat) : (d.reportRefused n k).device.replies = d.device.replies := by
  unfold Dev.reportRefused; split <;> simp
@[simp] theorem Dev.reportRefused_device_responses (d : Dev) (n k : Nat) : (d.reportRefused n k).device.responses = d.device.responses := by
  unfold Dev.reportRefused; split <;> simp
@[simp] theorem Dev.reportRefused_device_fresh (d : Dev) (n k : Nat) : (d.reportRefused n k).device.fresh = d.device.fresh := by
  unfold Dev.reportRefused; split <;> simp
@[simp] theorem Dev.reportRefused_device_heldEvents (d : Dev) (n k : Nat) : (d.reportRefused n k).device.heldEvents = d.device.heldEvents := by
  unfold Dev.reportRefused; split <;> simp
@[simp] theorem Dev.raiseNow_device_state (d : Dev) (code : Nat) (data : List Byte) : (d.raiseNow code data).device.state = d.device.state := by
  unfold Dev.raiseNow; simp only []; split <;> simp
@[simp] theorem Dev.raiseNow_device_pending (d : Dev) (code : Nat) (data : List Byte) : (d.raiseNow code data).device.pending = d.device.pending := by
  unfold Dev.raiseNow; simp only []; split <;> simp
@[simp] theorem Dev.raiseNow_device_latch (d : Dev) (code : Nat) (data : List Byte) : (d.raiseNow code data).device.latch = d.device.latch := by
  unfold Dev.raiseNow; simp only []; split <;> simp
@[simp] theorem Dev.raiseNow_device_latchRead (d : Dev) (code : Nat) (data : List Byte) : (d.raiseNow code data).device.latchRead = d.device.latchRead := by
  unfold Dev.raiseNow; simp only []; split <;> simp
@[simp] theorem Dev.raiseNow_device_unretired (d : Dev) (code : Nat) (data : List Byte) : (d.raiseNow code data).device.unretired = d.device.unretired := by
  unfold Dev.raiseNow; simp only []; split <;> simp
@[simp] theorem Dev.raiseNow_device_wpLow (d : Dev) (code : Nat) (data : List Byte) : (d.raiseNow code data).device.wpLow = d.device.wpLow := by
  unfold Dev.raiseNow; simp only []; split <;> simp
@[simp] theorem Dev.raiseNow_device_appRunning (d : Dev) (code : Nat) (data : List Byte) : (d.raiseNow code data).device.appRunning = d.device.appRunning := by
  unfold Dev.raiseNow; simp only []; split <;> simp
@[simp] theorem Dev.raiseNow_device_replies (d : Dev) (code : Nat) (data : List Byte) : (d.raiseNow code data).device.replies = d.device.replies := by
  unfold Dev.raiseNow; simp only []; split <;> simp
@[simp] theorem Dev.raiseNow_device_responses (d : Dev) (code : Nat) (data : List Byte) : (d.raiseNow code data).device.responses = d.device.responses := by
  unfold Dev.raiseNow; simp only []; split <;> simp
@[simp] theorem Dev.raiseNow_device_fresh (d : Dev) (code : Nat) (data : List Byte) : (d.raiseNow code data).device.fresh = d.device.fresh := by
  unfold Dev.raiseNow; simp only []; split <;> simp
@[simp] theorem Dev.raiseNow_device_heldEvents (d : Dev) (code : Nat) (data : List Byte) : (d.raiseNow code data).device.heldEvents = d.device.heldEvents := by
  unfold Dev.raiseNow; simp only []; split <;> simp
@[simp] theorem Dev.raise_device_state (d : Dev) (code : Nat) (data : List Byte) : (d.raise code data).device.state = d.device.state := by
  unfold Dev.raise; split <;> simp
@[simp] theorem Dev.raise_device_pending (d : Dev) (code : Nat) (data : List Byte) : (d.raise code data).device.pending = d.device.pending := by
  unfold Dev.raise; split <;> simp
@[simp] theorem Dev.raise_device_latch (d : Dev) (code : Nat) (data : List Byte) : (d.raise code data).device.latch = d.device.latch := by
  unfold Dev.raise; split <;> simp
@[simp] theorem Dev.raise_device_latchRead (d : Dev) (code : Nat) (data : List Byte) : (d.raise code data).device.latchRead = d.device.latchRead := by
  unfold Dev.raise; split <;> simp
@[simp] theorem Dev.raise_device_unretired (d : Dev) (code : Nat) (data : List Byte) : (d.raise code data).device.unretired = d.device.unretired := by
  unfold Dev.raise; split <;> simp
@[simp] theorem Dev.raise_device_wpLow (d : Dev) (code : Nat) (data : List Byte) : (d.raise code data).device.wpLow = d.device.wpLow := by
  unfold Dev.raise; split <;> simp
@[simp] theorem Dev.raise_device_appRunning (d : Dev) (code : Nat) (data : List Byte) : (d.raise code data).device.appRunning = d.device.appRunning := by
  unfold Dev.raise; split <;> simp
@[simp] theorem Dev.raise_device_replies (d : Dev) (code : Nat) (data : List Byte) : (d.raise code data).device.replies = d.device.replies := by
  unfold Dev.raise; split <;> simp
@[simp] theorem Dev.raise_device_responses (d : Dev) (code : Nat) (data : List Byte) : (d.raise code data).device.responses = d.device.responses := by
  unfold Dev.raise; split <;> simp
@[simp] theorem Dev.raise_device_fresh (d : Dev) (code : Nat) (data : List Byte) : (d.raise code data).device.fresh = d.device.fresh := by
  unfold Dev.raise; split <;> simp
@[simp] theorem Dev.flagRaise_device_state (d : Dev) (r : Reg) (k code : Nat) (data : List Byte) : (d.flagRaise r k code data).device.state = d.device.state := by
  simp [Dev.flagRaise]
@[simp] theorem Dev.flagRaise_device_pending (d : Dev) (r : Reg) (k code : Nat) (data : List Byte) : (d.flagRaise r k code data).device.pending = d.device.pending := by
  simp [Dev.flagRaise]
@[simp] theorem Dev.flagRaise_device_latch (d : Dev) (r : Reg) (k code : Nat) (data : List Byte) : (d.flagRaise r k code data).device.latch = d.device.latch := by
  simp [Dev.flagRaise]
@[simp] theorem Dev.flagRaise_device_latchRead (d : Dev) (r : Reg) (k code : Nat) (data : List Byte) : (d.flagRaise r k code data).device.latchRead = d.device.latchRead := by
  simp [Dev.flagRaise]
@[simp] theorem Dev.flagRaise_device_unretired (d : Dev) (r : Reg) (k code : Nat) (data : List Byte) : (d.flagRaise r k code data).device.unretired = d.device.unretired := by
  simp [Dev.flagRaise]
@[simp] theorem Dev.flagRaise_device_wpLow (d : Dev) (r : Reg) (k code : Nat) (data : List Byte) : (d.flagRaise r k code data).device.wpLow = d.device.wpLow := by
  simp [Dev.flagRaise]
@[simp] theorem Dev.flagRaise_device_appRunning (d : Dev) (r : Reg) (k code : Nat) (data : List Byte) : (d.flagRaise r k code data).device.appRunning = d.device.appRunning := by
  simp [Dev.flagRaise]
@[simp] theorem Dev.flagRaise_device_replies (d : Dev) (r : Reg) (k code : Nat) (data : List Byte) : (d.flagRaise r k code data).device.replies = d.device.replies := by
  simp [Dev.flagRaise]
@[simp] theorem Dev.flagRaise_device_responses (d : Dev) (r : Reg) (k code : Nat) (data : List Byte) : (d.flagRaise r k code data).device.responses = d.device.responses := by
  simp [Dev.flagRaise]
@[simp] theorem Dev.flagRaise_device_fresh (d : Dev) (r : Reg) (k code : Nat) (data : List Byte) : (d.flagRaise r k code data).device.fresh = d.device.fresh := by
  simp [Dev.flagRaise]
@[simp] theorem Dev.flagFirst_device_state (d : Dev) (r : Reg) (k code : Nat) (data : List Byte) : (d.flagFirst r k code data).device.state = d.device.state := by
  unfold Dev.flagFirst; split <;> simp
@[simp] theorem Dev.flagFirst_device_pending (d : Dev) (r : Reg) (k code : Nat) (data : List Byte) : (d.flagFirst r k code data).device.pending = d.device.pending := by
  unfold Dev.flagFirst; split <;> simp
@[simp] theorem Dev.flagFirst_device_latch (d : Dev) (r : Reg) (k code : Nat) (data : List Byte) : (d.flagFirst r k code data).device.latch = d.device.latch := by
  unfold Dev.flagFirst; split <;> simp
@[simp] theorem Dev.flagFirst_device_latchRead (d : Dev) (r : Reg) (k code : Nat) (data : List Byte) : (d.flagFirst r k code data).device.latchRead = d.device.latchRead := by
  unfold Dev.flagFirst; split <;> simp
@[simp] theorem Dev.flagFirst_device_unretired (d : Dev) (r : Reg) (k code : Nat) (data : List Byte) : (d.flagFirst r k code data).device.unretired = d.device.unretired := by
  unfold Dev.flagFirst; split <;> simp
@[simp] theorem Dev.flagFirst_device_wpLow (d : Dev) (r : Reg) (k code : Nat) (data : List Byte) : (d.flagFirst r k code data).device.wpLow = d.device.wpLow := by
  unfold Dev.flagFirst; split <;> simp
@[simp] theorem Dev.flagFirst_device_appRunning (d : Dev) (r : Reg) (k code : Nat) (data : List Byte) : (d.flagFirst r k code data).device.appRunning = d.device.appRunning := by
  unfold Dev.flagFirst; split <;> simp
@[simp] theorem Dev.flagFirst_device_replies (d : Dev) (r : Reg) (k code : Nat) (data : List Byte) : (d.flagFirst r k code data).device.replies = d.device.replies := by
  unfold Dev.flagFirst; split <;> simp
@[simp] theorem Dev.flagFirst_device_responses (d : Dev) (r : Reg) (k code : Nat) (data : List Byte) : (d.flagFirst r k code data).device.responses = d.device.responses := by
  unfold Dev.flagFirst; split <;> simp
@[simp] theorem Dev.flagFirst_device_fresh (d : Dev) (r : Reg) (k code : Nat) (data : List Byte) : (d.flagFirst r k code data).device.fresh = d.device.fresh := by
  unfold Dev.flagFirst; split <;> simp

/-! ### Registers -/

theorem Dev.setFlag_get (d : Dev) (r q : Reg) (k : Nat) (h : q.key ≠ r.key) : (d.setFlag r k).get q = d.get q := by
  simp [Dev.setFlag, Dev.get, Store.get_set_ne _ _ _ _ _ _ h]

@[simp] theorem Dev.setFlag_u_self (d : Dev) (r : Reg) (k : Nat) :
    (d.setFlag r k).u r = setBit (d.u r) k % 256 ^ r.size := by
  simp [Dev.setFlag, Dev.u, Dev.get, Value.toNat]

theorem Dev.countEvent_get (d : Dev) (code : Nat) (data : List Byte) (q : Reg) (h : q.quiet) :
    (d.countEvent code data).get q = d.get q := by
  simp [Dev.countEvent, Dev.get, Store.get_set_ne _ _ _ _ _ _ h.1, Store.get_set_ne _ _ _ _ _ _ h.2.1]

theorem Dev.recordEvent_get (d : Dev) (code : Nat) (data : List Byte) (q : Reg) (h : q.quiet) :
    (d.recordEvent code data).1.get q = d.get q := by
  unfold Dev.recordEvent
  split
  · rfl
  · simp only []
    split
    · simp [Dev.get, Store.get_set_ne _ _ _ _ _ _ (h.2.2.2 _)]
    · simp [Dev.bufferEntry, Dev.get]

theorem Dev.raiseOnce_get (d : Dev) (code : Nat) (data : List Byte) (q : Reg) (h : q.quiet) :
    (d.raiseOnce code data).1.get q = d.get q := by
  simp [Dev.raiseOnce, Dev.recordEvent_get _ _ _ _ h, Dev.countEvent_get _ _ _ _ h]

theorem Dev.reportRefused_get (d : Dev) (n k : Nat) (q : Reg) (h : q.quiet) : (d.reportRefused n k).get q = d.get q := by
  unfold Dev.reportRefused
  split
  · exact Dev.setFlag_get _ _ _ _ h.2.2.1
  · rw [Dev.raiseOnce_get _ _ _ _ h, Dev.setFlag_get _ _ _ _ h.2.2.1]

theorem Dev.raiseNow_get (d : Dev) (code : Nat) (data : List Byte) (q : Reg) (h : q.quiet) :
    (d.raiseNow code data).get q = d.get q := by
  unfold Dev.raiseNow
  simp only []
  split
  · exact Dev.raiseOnce_get _ _ _ _ h
  · rw [Dev.reportRefused_get _ _ _ _ h, Dev.raiseOnce_get _ _ _ _ h]

/-- An event leaves every object but the counters of events and refusals. -/
theorem Dev.raise_get (d : Dev) (code : Nat) (data : List Byte) (q : Reg) (h : q.quiet) :
    (d.raise code data).get q = d.get q := by
  unfold Dev.raise
  split
  · exact Dev.raiseNow_get _ _ _ _ h
  · rfl

theorem Dev.raise_u (d : Dev) (code : Nat) (data : List Byte) (q : Reg) (h : q.quiet) : (d.raise code data).u q = d.u q := by
  simp [Dev.u, Dev.raise_get _ _ _ _ h]

theorem Dev.flagRaise_get (d : Dev) (r q : Reg) (k code : Nat) (data : List Byte) (h : q.quiet) (hr : q.key ≠ r.key) :
    (d.flagRaise r k code data).get q = d.get q := by
  rw [Dev.flagRaise, Dev.raise_get _ _ _ _ h, Dev.setFlag_get _ _ _ _ hr]

theorem Dev.flagFirst_get (d : Dev) (r q : Reg) (k code : Nat) (data : List Byte) (h : q.quiet) (hr : q.key ≠ r.key) :
    (d.flagFirst r k code data).get q = d.get q := by
  unfold Dev.flagFirst
  split
  · exact Dev.setFlag_get _ _ _ _ hr
  · rw [Dev.raise_get _ _ _ _ h, Dev.setFlag_get _ _ _ _ hr]

end Sys2Proof.Machine
end

