-- ==== Sys2Proof/Machine/Limits.lean ====
section
/-! DEFINITION. The tables of limits that the chapters give (R88, R242, R434, R456, R505, R506, R508–R515): figures of the part and of what
stands around it. No state depends on them; a table says what the manual promises or demands. -/

namespace Sys2Proof.Machine.Limits

/-- A bound: a decimal number, as its digits and how many of them stand behind the point, or an expression as the manual prints it. -/
inductive Bound where
  | value (digits : Int) (decimals : Nat)
  | text (s : String)
deriving DecidableEq, Repr

/-- A row of a table of limits. -/
structure Limit where
  parameter : String
  conditions : String
  min : Option Bound
  typ : Option Bound
  max : Option Bound
  unit : String
deriving DecidableEq, Repr

/-- Whether a decimal number is at most another. -/
def decimalLe (a : Int) (m : Nat) (b : Int) (n : Nat) : Bool := decide (a * 10 ^ n ≤ b * 10 ^ m)

/-- Whether a measured decimal number lies within a row's numeric bounds. -/
def Limit.admits (l : Limit) (x : Int) (decimals : Nat) : Bool :=
  (match l.min with | some (.value b n) => decimalLe b n x decimals | _ => true) &&
    (match l.max with | some (.value b n) => decimalLe x decimals b n | _ => true)

/-- The front end (R88). -/
def frontEnd : List Limit :=
  [⟨"AVDD, internal analogue supply", "", some (.value 320 2), some (.value 330 2), some (.value 340 2), "V"⟩,
   ⟨"Absolute input voltage", "G = 1, INBUF ON", some (.text "AVSS + 0.10"), none, some (.text "AVDD − 0.10"), "V"⟩,
   ⟨"Absolute input voltage", "G ≥ 2", some (.text "AVSS + 0.30"), none, some (.text "AVDD − 0.30"), "V"⟩,
   ⟨"Absolute input voltage", "INBUF OFF or paddle mode", some (.text "AVSS − 0.05"), none, some (.text "AVDD + 0.05"), "V"⟩,
   ⟨"Input current", "INBUF ON or G ≥ 2", some (.value (-20) 0), some (.text "±0.5"), some (.value 20 0), "nA"⟩,
   ⟨"Input current", "INBUF OFF, normal mode", none, some (.value 10 1), none, "µA/V"⟩,
   ⟨"Input current", "paddle mode", none, some (.value 6 2), none, "µA/V"⟩,
   ⟨"Internal reference", "TJ = 25 °C", some (.value 24988 4), some (.value 25000 4), some (.value 25012 4), "V"⟩,
   ⟨"Internal reference drift", "", none, some (.value 2 0), some (.value 5 0), "ppm/°C"⟩,
   ⟨"External reference REFP − REFN", "", some (.value 10 1), none, some (.text "AVDD"), "V"⟩,
   ⟨"REFP, REFN absolute", "", some (.text "AVSS − 0.05"), none, some (.text "AVDD + 0.05"), "V"⟩,
   ⟨"Reference fault threshold", "falling", some (.value 65 2), some (.value 70 2), some (.value 75 2), "V"⟩,
   ⟨"Offset after self-calibration", "10 S/s, input-referred", some (.value (-2) 0), none, some (.value 2 0), "µV"⟩,
   ⟨"Offset drift", "", none, some (.value 10 0), none, "nV/°C"⟩,
   ⟨"Gain error after self-calibration", "excluding reference", some (.value (-10) 0), none, some (.value 10 0), "ppm"⟩,
   ⟨"Gain drift", "excluding reference", none, some (.value 1 0), some (.value 3 0), "ppm/°C"⟩,
   ⟨"Integral nonlinearity", "G = 1", some (.value (-6) 0), some (.text "±2"), some (.value 6 0), "ppm FSR"⟩,
   ⟨"Common-mode rejection", "50 Hz and 60 Hz", some (.value 110 0), some (.value 130 0), none, "dB"⟩,
   ⟨"Crosstalk between converters", "", none, some (.value (-130) 0), some (.value (-120) 0), "dB"⟩,
   ⟨"Sample-instant skew between converters", "same mode, filter, rate and alignment", some (.value (-2) 0), none, some (.value 2 0), "ns"⟩,
   ⟨"IEXC accuracy", "", some (.value (-1) 0), none, some (.value 1 0), "%"⟩,
   ⟨"IEXC matching between sources", "same level", some (.value (-01) 1), none, some (.value 1 1), "%"⟩,
   ⟨"IEXC drift", "", none, some (.value 50 0), none, "ppm/°C"⟩,
   ⟨"Burnout current", "", some (.value (-20) 0), none, some (.value 20 0), "% of setting"⟩,
   ⟨"Test-switch series resistance", "", some (.value 80 0), some (.value 100 0), some (.value 120 0), "kΩ"⟩,
   ⟨"Supply current per converter", "normal mode, 8.192 MHz", none, some (.value 11 1), some (.value 14 1), "mA"⟩,
   ⟨"Supply current per converter", "paddle mode", none, some (.value 40 0), some (.value 55 0), "µA"⟩]

/-- Loop, ADAC, XDAC, HV thermal limits, buttons (R242). -/
def loopOutput : List Limit :=
  [⟨"Loop current, untrimmed error", "4–20 mA", some (.value (-16) 0), none, some (.value 16 0), "µA"⟩,
   ⟨"Loop current, error after user trim", "4–20 mA, at trim temperature", some (.value (-2) 0), none, some (.value 2 0), "µA"⟩,
   ⟨"Loop current drift", "", none, some (.value 5 0), some (.value 15 0), "ppm of 16 mA/°C"⟩,
   ⟨"Loop differential nonlinearity", "", some (.value (-1) 0), none, some (.value 1 0), "LSB of 25 nA"⟩,
   ⟨"Loop settling, 4 to 20 mA step, to 0.1 %", "LOOP_SLEW 0.0", none, some (.value 18 1), some (.value 30 1), "ms"⟩,
   ⟨"Limiter current", "start, watchdog, thermal", some (.value 350 2), some (.value 355 2), some (.value 360 2), "mA"⟩,
   ⟨"Terminal voltage, sink", "", some (.text "9.5 V + 50 Ω × I_loop"), none, some (.value 45 0), "V"⟩,
   ⟨"Source headroom", "LOOP_HEADROOM_SET 2.0 V", some (.value 18 1), some (.value 20 1), some (.value 23 1), "V"⟩,
   ⟨"VBB cap", "", some (.value 235 1), some (.value 240 1), some (.value 245 1), "V"⟩,
   ⟨"LOOP_MEASURED error", "", some (.value (-20) 0), none, some (.value 20 0), "µA"⟩,
   ⟨"ADAC error", "every range", some (.value (-010) 2), none, some (.value 10 2), "% of full scale"⟩,
   ⟨"ADAC output current limit", "V5, V10", some (.value 20 0), some (.value 25 0), some (.value 32 0), "mA"⟩,
   ⟨"ADAC settling, full-scale step, to 0.1 %", "", none, some (.value 8 1), some (.value 15 1), "ms"⟩,
   ⟨"XDAC error", "DC", some (.value (-005) 2), none, some (.value 5 2), "% of full scale"⟩,
   ⟨"XDAC drift", "", none, some (.value 2 0), some (.value 5 0), "ppm/°C"⟩,
   ⟨"XDAC total harmonic distortion", "AC, 1 kHz, full level", none, some (.value (-94) 0), some (.value (-90) 0), "dB"⟩,
   ⟨"XDAC reconstruction delay", "", some (.value 59 1), some (.value 61 1), some (.value 63 1), "µs"⟩,
   ⟨"XDAC pin current limit", "", some (.value 20 0), some (.value 25 0), some (.value 32 0), "mA"⟩,
   ⟨"HV thermal limit, TS6 and TS7", "rising", some (.value 122 0), some (.value 125 0), some (.value 128 0), "°C"⟩,
   ⟨"HV thermal limit release", "falling", some (.value 112 0), some (.value 115 0), some (.value 118 0), "°C"⟩,
   ⟨"Button press time", "", some (.value 19 1), some (.value 20 1), some (.value 21 1), "s"⟩]

/-- Sources, store, sleep currents, energy meter (R434). -/
def power : List Limit :=
  [⟨"VLOC present threshold", "rising", some (.value 585 2), some (.value 600 2), some (.value 615 2), "V"⟩,
   ⟨"VLOC lost threshold", "falling", some (.value 535 2), some (.value 550 2), some (.value 565 2), "V"⟩,
   ⟨"SPoE present threshold", "rising", some (.value 780 2), some (.value 800 2), some (.value 820 2), "V"⟩,
   ⟨"SPoE lost threshold", "falling", some (.value 680 2), some (.value 700 2), some (.value 720 2), "V"⟩,
   ⟨"Loop present threshold", "V_T rising", some (.value 102 1), some (.value 105 1), some (.value 108 1), "V"⟩,
   ⟨"Loop lost threshold", "V_T falling (R225)", some (.value 78 1), some (.value 80 1), some (.value 82 1), "V"⟩,
   ⟨"Source loss detection", "", none, some (.value 5 0), some (.value 20 0), "µs"⟩,
   ⟨"Switchover to the next source or to the store", "", none, some (.value 3 0), some (.value 10 0), "µs"⟩,
   ⟨"Shedding on loss of the last source", "", none, some (.value 40 0), some (.value 100 0), "µs"⟩,
   ⟨"Store charge current, VLOC or SPoE", "STORE_CHARGE_MAX 50 mA", some (.value 45 0), some (.value 50 0), some (.value 55 0), "mA"⟩,
   ⟨"Store charge voltage", "", some (.value 490 2), some (.value 500 2), some (.value 510 2), "V"⟩,
   ⟨"Holdup end", "store falling", some (.value 295 2), some (.value 300 2), some (.value 305 2), "V"⟩,
   ⟨"DOZE current", "from VLOC, 6–30 V", none, some (.value 220 0), some (.value 400 0), "µA"⟩,
   ⟨"STOW current", "from VLOC, BOATHOUSE_MASK 0x000C, 25 °C", none, some (.value 25 0), some (.value 40 0), "µA"⟩,
   ⟨"STOW current", "as above, 85 °C", none, none, some (.value 60 0), "µA"⟩,
   ⟨"STOW current per further boathouse bank", "", none, some (.value 15 1), some (.value 4 0), "µA"⟩,
   ⟨"Holdup current", "from the store", none, some (.value 35 0), some (.value 80 0), "µA"⟩,
   ⟨"OFF current", "per source", none, some (.value 1 0), some (.value 5 0), "µA"⟩,
   ⟨"Heartbeat watchdog", "", some (.value 95 2), some (.value 100 2), some (.value 105 2), "s"⟩,
   ⟨"Energy meter error", "above 10 mW", some (.value (-2) 0), none, some (.value 2 0), "%"⟩,
   ⟨"Energy meter error", "at or below 10 mW", some (.value (-02) 1), none, some (.value 2 1), "mW"⟩]

/-- Thermal sensors and the store test (R456). -/
def thermal : List Limit :=
  [⟨"Sensor accuracy, TS0–TS7", "−40 to 150 °C", some (.value (-20) 1), some (.text "±0.5"), some (.value 20 1), "°C"⟩,
   ⟨"Self-test duration", "", none, some (.value 12 0), some (.value 20 0), "ms"⟩,
   ⟨"Shutdown, sample to blocks stopped", "", none, some (.value 3 1), some (.value 10 1), "ms"⟩,
   ⟨"Store test current", "STORE_TEST_CURRENT 20 mA", some (.value 19 0), some (.value 20 0), some (.value 21 0), "mA"⟩,
   ⟨"STORE_C error", "47–470 mF", some (.value (-5) 0), none, some (.value 5 0), "%"⟩,
   ⟨"STORE_ESR error", "", some (.text "−(10 % + 0.05 Ω)"), none, some (.text "10 % + 0.05 Ω"), "—"⟩]

/-- Absolute maximum ratings (R505). -/
def ratings : List Limit :=
  [⟨"LOOP+ to HVGND", "", some (.value (-03) 1), none, some (.value 48 0), "V"⟩,
   ⟨"LOOP− to HVGND", "", some (.value (-10) 1), none, some (.value 10 1), "V"⟩,
   ⟨"VLOC, PDA_IN, PDB_IN, LSRC to HVGND", "", some (.value (-03) 1), none, some (.value 36 0), "V"⟩,
   ⟨"VBB, ACT to HVGND", "", some (.value (-03) 1), none, some (.value 28 0), "V"⟩,
   ⟨"LX1, LX2 to HVGND", "", some (.value (-10) 1), none, some (.value 30 0), "V"⟩,
   ⟨"CSTORE to HVGND", "", some (.value (-03) 1), none, some (.value 60 1), "V"⟩,
   ⟨"HRX to HVGND", "", some (.value (-03) 1), none, some (.value 60 1), "V"⟩,
   ⟨"AIN0–AIN15, REFP, REFN to AVSS", "", some (.value (-03) 1), none, some (.text "AVDD + 0.3"), "V"⟩,
   ⟨"Input current, AIN, REFP, REFN", "per pad", some (.value (-10) 0), none, some (.value 10 0), "mA"⟩,
   ⟨"EXC+, EXC− to AVSS", "", some (.value (-15) 1), none, some (.value 50 1), "V"⟩,
   ⟨"Digital pads and TCXO_IN to GND", "powered or not", some (.value (-03) 1), none, some (.value 55 1), "V"⟩,
   ⟨"A_P, A_N, B_P, B_N, S_P, S_N to GND", "", some (.value (-05) 1), none, some (.value 40 1), "V"⟩,
   ⟨"AVSS or HVGND to GND", "", some (.value (-03) 1), none, some (.value 3 1), "V"⟩,
   ⟨"Junction temperature", "", some (.value (-55) 0), none, some (.value 150 0), "°C"⟩,
   ⟨"Storage temperature", "", some (.value (-55) 0), none, some (.value 150 0), "°C"⟩,
   ⟨"ESD, human body model", "LOOP±, VLOC, PDA_IN, PDB_IN, port pads", some (.value (-4) 0), none, some (.value 4 0), "kV"⟩,
   ⟨"ESD, human body model", "all other pads", some (.value (-2) 0), none, some (.value 2 0), "kV"⟩,
   ⟨"ESD, charged device model", "all pads", some (.value (-500) 0), none, some (.value 500 0), "V"⟩]

/-- Operating conditions (R506). -/
def conditions : List Limit :=
  [⟨"Ambient temperature", "GSF7840-LB", some (.value (-40) 0), none, some (.value 85 0), "°C"⟩,
   ⟨"Ambient temperature", "GSF7840-LX", some (.value (-40) 0), none, some (.value 105 0), "°C"⟩,
   ⟨"Junction temperature", "", some (.value (-40) 0), none, some (.value 130 0), "°C"⟩,
   ⟨"VLOC", "", some (.value 62 1), none, some (.value 30 0), "V"⟩,
   ⟨"VLOC ripple", "up to 1 MHz", none, none, some (.value 200 0), "mV p-p"⟩,
   ⟨"PDA_IN, PDB_IN", "", some (.value 82 1), none, some (.value 30 0), "V"⟩,
   ⟨"Loop terminal voltage V_T", "sink mode, running", some (.text "9.5 V + 50 Ω × I_loop"), none, some (.value 45 0), "V"⟩,
   ⟨"Loop terminal voltage V_T", "sink mode, first start", some (.value 108 1), none, some (.value 45 0), "V"⟩]

/-- Digital pads (R508). -/
def digitalPads : List Limit :=
  [⟨"VIO", "", some (.value 315 2), some (.value 330 2), some (.value 345 2), "V"⟩,
   ⟨"Input high voltage", "all digital inputs", some (.value 20 1), none, none, "V"⟩,
   ⟨"Input low voltage", "all digital inputs", none, none, some (.value 8 1), "V"⟩,
   ⟨"Input hysteresis", "", some (.value 2 1), some (.value 3 1), none, "V"⟩,
   ⟨"Output high voltage", "HMISO, PWM0, PWM1, DBG_IO; −4 mA", some (.text "VIO − 0.4"), none, none, "V"⟩,
   ⟨"Output low voltage", "as above; 4 mA", none, none, some (.value 4 1), "V"⟩,
   ⟨"PWM drive current", "", some (.value (-8) 0), none, some (.value 8 0), "mA"⟩,
   ⟨"Open-drain low voltage", "HATTN_N at 4 mA; SDA, SCL at 20 mA", none, none, some (.value 4 1), "V"⟩,
   ⟨"Pull-up resistance", "ZERO_N, SPAN_N, WP_N, HCS_N, RST_N", some (.value 35 0), some (.value 50 0), some (.value 70 0), "kΩ"⟩,
   ⟨"Input leakage", "powered, no pull", some (.value (-1) 0), none, some (.value 1 0), "µA"⟩,
   ⟨"Input leakage", "unpowered or OFF, 0–5.5 V", some (.value (-2) 0), none, some (.value 2 0), "µA"⟩,
   ⟨"Pad capacitance", "", none, some (.value 4 0), some (.value 6 0), "pF"⟩,
   ⟨"RST_N low pulse recognised", "", some (.value 10 0), none, none, "µs"⟩,
   ⟨"PPS_IN, ENC_A, ENC_B, ENC_Z pulse width", "", some (.value 50 0), none, none, "ns"⟩]

/-- Clocks (R509). -/
def clocks : List Limit :=
  [⟨"TCXO frequency", "", none, some (.value 192 1), none, "MHz"⟩,
   ⟨"TCXO stability", "over temperature, supply and 1 year of ageing", some (.value (-05) 1), none, some (.value 5 1), "ppm"⟩,
   ⟨"TCXO_IN amplitude", "clipped sine", some (.value 6 1), none, some (.value 14 1), "V p-p"⟩,
   ⟨"TCXO_VDD", "load ≤ 5 mA", some (.value 171 2), some (.value 180 2), some (.value 189 2), "V"⟩,
   ⟨"TCXO ready detection", "amplitude valid for", none, some (.value 10 1), none, "ms"⟩,
   ⟨"TCXO loss detection", "awake; amplitude lost to course clock on RC (R426)", none, none, some (.value 200 0), "µs"⟩,
   ⟨"PLL lock after TCXO ready", "", none, some (.value 5 1), some (.value 10 1), "ms"⟩,
   ⟨"Course clock period jitter", "", none, some (.value 8 0), some (.value 15 0), "ps rms"⟩,
   ⟨"Internal RC oscillator", "", some (.value 1568 2), some (.value 1600 2), some (.value 1632 2), "MHz"⟩,
   ⟨"32.768 kHz oscillator", "uncalibrated", some (.value (-5) 0), none, some (.value 5 0), "%"⟩]

/-- NVM (R510). -/
def nvmCells : List Limit :=
  [⟨"Page program, including verify", "", none, some (.value 20 1), some (.value 30 1), "ms"⟩,
   ⟨"Energy of one round", "both banks", none, some (.value 14 2), some (.value 20 2), "mJ"⟩,
   ⟨"Endurance per byte", "TJ 25 °C", some (.value 200000 0), none, none, "cycles"⟩,
   ⟨"Endurance per byte", "TJ 55 °C", some (.value 150000 0), none, none, "cycles"⟩,
   ⟨"Endurance per byte", "TJ 85 °C", some (.value 100000 0), none, none, "cycles"⟩,
   ⟨"Retention", "TJ 85 °C, after 10,000 cycles", some (.value 20 0), none, none, "years"⟩,
   ⟨"Retention", "TJ 105 °C, after 10,000 cycles", some (.value 10 0), none, none, "years"⟩,
   ⟨"Page read", "one bank", none, some (.value 12 1), some (.value 20 1), "µs"⟩]

/-- Ethernet ports (R511). -/
def ports : List Limit :=
  [⟨"T1L transmit amplitude", "2.4 V mode, 100 Ω", some (.value 228 2), some (.value 240 2), some (.value 252 2), "V p-p"⟩,
   ⟨"T1L transmit amplitude", "1.0 V mode, 100 Ω", some (.value 95 2), some (.value 100 2), some (.value 105 2), "V p-p"⟩,
   ⟨"100BASE-T1 transmit amplitude", "100 Ω", none, some (.value 22 1), none, "V p-p"⟩,
   ⟨"Link hold threshold", "A, B", none, some (.value 160 1), none, "dB"⟩,
   ⟨"Link hold threshold", "S", none, some (.value 140 1), none, "dB"⟩,
   ⟨"PHY_SNR accuracy", "10–40 dB", some (.value (-10) 1), none, some (.value 10 1), "dB"⟩,
   ⟨"PDA_IN, PDB_IN input current limit", "each", some (.value 180 0), some (.value 220 0), some (.value 260 0), "mA"⟩,
   ⟨"PDA_IN, PDB_IN inrush", "", none, none, some (.value 100 0), "mA"⟩]

/-- SPI host-port timing (R512). -/
def spiTiming : List Limit :=
  [⟨"HSCK frequency", "", none, none, some (.value 40 0), "MHz"⟩,
   ⟨"HSCK high or low time", "", some (.value 11 0), none, none, "ns"⟩,
   ⟨"HCS_N low to first HSCK rising edge", "", some (.value 20 0), none, none, "ns"⟩,
   ⟨"Last HSCK falling edge to HCS_N high", "", some (.value 20 0), none, none, "ns"⟩,
   ⟨"HCS_N high between transactions", "", some (.value 200 0), none, none, "ns"⟩,
   ⟨"HMOSI setup to HSCK rising", "", some (.value 3 0), none, none, "ns"⟩,
   ⟨"HMOSI hold after HSCK rising", "", some (.value 3 0), none, none, "ns"⟩,
   ⟨"HMISO valid after HSCK falling", "", none, none, some (.value 9 0), "ns"⟩,
   ⟨"HMISO driven after HCS_N low", "", none, none, some (.value 20 0), "ns"⟩,
   ⟨"HMISO high impedance after HCS_N high", "", none, none, some (.value 20 0), "ns"⟩,
   ⟨"Turnaround t_TA, HSCK idle after the request CRC word", "", some (.value 2 0), none, none, "µs"⟩]

/-- Wake-port timing (R513). -/
def wakeTiming : List Limit :=
  [⟨"SCL frequency", "", none, none, some (.value 1 0), "MHz"⟩,
   ⟨"SCL low time", "", some (.value 50 2), none, none, "µs"⟩,
   ⟨"SCL high time", "", some (.value 26 2), none, none, "µs"⟩,
   ⟨"SDA setup to SCL rising", "", some (.value 50 0), none, none, "ns"⟩,
   ⟨"SDA hold after SCL falling", "", some (.value 0 0), none, none, "ns"⟩,
   ⟨"Bus free time between stop and start", "", some (.value 50 2), none, none, "µs"⟩,
   ⟨"Spike suppression", "", none, none, some (.value 50 0), "ns"⟩,
   ⟨"SCL held low after the falling edge of the 8th address bit", "asleep, address match", none, none, some (.value 100 0), "ns"⟩,
   ⟨"SCL hold duration", "", none, none, some (.value 50 1), "ms"⟩,
   ⟨"SDA output fall time", "10–400 pF", none, none, some (.value 120 0), "ns"⟩]

/-- Thermal resistances (R514). -/
def thermalResistance : List Limit :=
  [⟨"Mixed-signal die, junction to ambient, for its own power", "θ_MS", none, some (.value 185 1), none, "°C/W"⟩,
   ⟨"HV die, junction to ambient, for its own power", "θ_HV", none, some (.value 260 1), none, "°C/W"⟩,
   ⟨"Rise of either die per watt in the other", "θ_X", none, some (.value 70 1), none, "°C/W"⟩,
   ⟨"Junction to case top, mixed-signal die", "θ_JC", none, some (.value 45 1), none, "°C/W"⟩,
   ⟨"Junction to case top, HV die", "θ_JC", none, some (.value 60 1), none, "°C/W"⟩,
   ⟨"Junction to top centre characterisation parameter", "ψ_JT", none, some (.value 6 1), none, "°C/W"⟩,
   ⟨"Junction to board characterisation parameter", "ψ_JB", none, some (.value 80 1), none, "°C/W"⟩]

/-- Package dimensions (R515). -/
def dimensions : List Limit :=
  [⟨"Body length and width", "", some (.value 1390 2), some (.value 1400 2), some (.value 1410 2), "mm"⟩,
   ⟨"Total height", "", some (.value 126 2), some (.value 132 2), some (.value 140 2), "mm"⟩,
   ⟨"Pad pitch", "", none, some (.value 80 2), none, "mm"⟩,
   ⟨"Pad size, square", "", some (.value 38 2), some (.value 40 2), some (.value 42 2), "mm"⟩,
   ⟨"Array span, centre of column 1 to column 14", "", none, some (.value 1040 2), none, "mm"⟩,
   ⟨"Body edge to centre of row A or column 1", "", none, some (.value 180 2), none, "mm"⟩,
   ⟨"Pad coplanarity", "", none, none, some (.value 8 2), "mm"⟩,
   ⟨"Pin-1 chamfer, top corner over A1", "", none, some (.value 50 2), none, "mm"⟩,
   ⟨"Mass", "", none, some (.value 55 2), none, "g"⟩]

end Sys2Proof.Machine.Limits
end

