-- ==== Sys2Proof/Machine/Pads.lean ====
section
/-! DEFINITION. The pads (chapter 19): their map and functions, the state of each group, and the temperatures of the sensor sites
(R501, R502, R504, R514). -/

namespace Sys2Proof.Machine

/-- The pads of the map, row by row from the top of the package (R501). -/
def padMap : List (String × List String) :=
  [("A", ["AIN0", "AIN1", "AIN2", "AIN3", "AIN4", "AIN5", "AIN6", "AIN7", "AIN8", "AIN9", "AIN10", "AIN11", "LOOP+", "LOOP+"]),
   ("B", ["AVSS", "AVSS", "AVSS", "AVSS", "AVSS", "AVSS", "AIN12", "AIN13", "AIN14", "AIN15", "AVSS", "AVSS", "LOOP−", "LOOP−"]),
   ("C", ["REFP", "REFN", "AVSS", "EXC+", "EXC−", "REFCAP", "AVDD", "AVDD", "AVSS", "AVSS", "AVSS", "HVGND", "HRX", "LSRC"]),
   ("D", ["PPS_IN", "TCXO_IN", "GND", "GND", "GND", "GND", "GND", "GND", "GND", "GND", "GND", "HVGND", "HVGND", "ACT"]),
   ("E", ["ENC_A", "TCXO_VDD", "GND", "GND", "GND", "GND", "GND", "GND", "GND", "GND", "GND", "HVGND", "HVGND", "HVGND"]),
   ("F", ["ENC_B", "ADDR0", "GND", "GND", "GND", "GND", "GND", "GND", "GND", "GND", "GND", "HVGND", "CSTORE", "CSTORE"]),
   ("G", ["ENC_Z", "ADDR1", "GND", "GND", "GND", "GND", "GND", "GND", "GND", "GND", "GND", "HVGND", "HVGND", "HVGND"]),
   ("H", ["ZERO_N", "SCL", "GND", "GND", "GND", "GND", "GND", "GND", "GND", "GND", "GND", "HVGND", "LX1", "LX1"]),
   ("J", ["SPAN_N", "SDA", "GND", "GND", "GND", "GND", "GND", "GND", "GND", "GND", "GND", "HVGND", "VBB", "VBB"]),
   ("K", ["WP_N", "HCS_N", "GND", "GND", "GND", "GND", "GND", "GND", "GND", "GND", "GND", "HVGND", "LX2", "LX2"]),
   ("L", ["RST_N", "HSCK", "GND", "GND", "GND", "GND", "GND", "GND", "GND", "GND", "GND", "HVGND", "VLOC", "VLOC"]),
   ("M", ["PWM0", "HMOSI", "GND", "GND", "GND", "GND", "GND", "GND", "GND", "GND", "GND", "HVGND", "PDA_IN", "PDB_IN"]),
   ("N", ["PWM1", "HMISO", "HATTN_N", "DBG_CLK", "DBG_IO", "TEST", "VIO", "VIO", "DVDD", "DVDD", "PHY_BIAS", "GND", "HVGND", "HVGND"]),
   ("P", ["DVDD", "DVDD", "VAON", "A_P", "A_N", "GND", "B_P", "B_N", "GND", "S_P", "S_N", "GND", "NC", "HVGND"])]

/-- The signal of a pad, by its row and its column from 1 (R501). -/
def padAt (row : String) (column : Nat) : Option String :=
  (padMap.find? fun r => r.1 == row).bind fun r => if column = 0 then none else r.2[column - 1]?

/-- How many pads carry a signal (R501). -/
def padCount (signal : String) : Nat := ((padMap.flatMap Prod.snd).filter (· == signal)).length

/-- The pads, their signals, types, and die and domain (R502). -/
def padFunctions : List (String × String × String × String) :=
  [("A1–A12, B7–B10", "AIN0–AIN15", "AI", "mixed-signal, switched"),
   ("C1, C2", "REFP, REFN", "AI", "mixed-signal"),
   ("C4, C5", "EXC+, EXC−", "AO", "mixed-signal"),
   ("C6", "REFCAP", "AO", "mixed-signal"),
   ("C7, C8", "AVDD", "P", "mixed-signal"),
   ("AVSS pads", "AVSS", "G", "mixed-signal"),
   ("A13, A14", "LOOP+", "HV", "HV"),
   ("B13, B14", "LOOP−", "HV", "HV"),
   ("C13", "HRX", "HV, AI", "HV"),
   ("C14", "LSRC", "HV, DI", "HV"),
   ("D14", "ACT", "HV, AO", "HV"),
   ("F13, F14", "CSTORE", "HV, P", "HV"),
   ("H13, H14, K13, K14", "LX1, LX2", "HV", "HV"),
   ("J13, J14", "VBB", "HV, P", "HV"),
   ("L13, L14", "VLOC", "HV, P", "HV"),
   ("M13, M14", "PDA_IN, PDB_IN", "HV, P", "HV"),
   ("HVGND pads", "HVGND", "G", "HV"),
   ("D1", "PPS_IN", "DI", "mixed-signal, always-on"),
   ("D2", "TCXO_IN", "AI", "mixed-signal"),
   ("E2", "TCXO_VDD", "P", "mixed-signal"),
   ("E1, F1, G1", "ENC_A, ENC_B, ENC_Z", "DI", "mixed-signal, switched"),
   ("H1, J1, K1", "ZERO_N, SPAN_N, WP_N", "DI, pull-up", "always-on"),
   ("F2, G2", "ADDR0, ADDR1", "DI", "always-on"),
   ("H2, J2", "SCL, SDA", "OD", "always-on"),
   ("K2, L2, M2, N2", "HCS_N, HSCK, HMOSI, HMISO", "DI, DI, DI, DO", "switched"),
   ("N3", "HATTN_N", "OD", "switched"),
   ("L1", "RST_N", "DI, pull-up", "always-on"),
   ("M1, N1", "PWM0, PWM1", "DO", "mixed-signal"),
   ("N4, N5", "DBG_CLK, DBG_IO", "DI, DIO", "always-on"),
   ("N6", "TEST", "DI", "—"),
   ("N7, N8", "VIO", "P", "always-on"),
   ("N9, N10, P1, P2", "DVDD", "P", "switched"),
   ("P3", "VAON", "P", "always-on"),
   ("N11", "PHY_BIAS", "AI", "mixed-signal"),
   ("P4, P5", "A_P, A_N", "AIO", "mixed-signal"),
   ("P7, P8", "B_P, B_N", "AIO", "mixed-signal"),
   ("P10, P11", "S_P, S_N", "AIO", "mixed-signal"),
   ("GND pads", "GND", "G", "mixed-signal"),
   ("P13", "NC", "—", "—")]

/-! ### The state of each pad group (R504) -/

/-- The columns of R504. -/
inductive PadPhase where
  | boot | awake | asleep | unpowered
deriving DecidableEq, Repr

/-- The state of a pad: a voltage in mV, low or high of the I/O supply, a current in µA that the loop carries, or what its chapter says. -/
inductive PadState where
  | volts (mV : Nat)
  | pulledTo0
  | low
  | high
  | highImpedance
  | clamped
  | released
  | addressMatcher
  | current (microamps : Nat)
  | atMost (microamps : Nat)
  | off
  | driven
deriving DecidableEq, Repr

/-- The groups of R504. -/
inductive PadGroup where
  | loop | act | exc | analogIn | pwm (n : Fin 2) | hmiso | hattn | wakeBus | tcxoVdd | vio
deriving DecidableEq, Repr

/-- The column of R504 in which the device stands; in holdup every pad of the HV die and of the switched domain is without power (R427), and
a wake begins from the pads of sleep (DEDUCED, log 106). -/
def Dev.padPhase (d : Dev) : PadPhase :=
  match d.power.mode with
  | .off | .holdup => .unpowered
  | .doze | .stow | .waking _ => .asleep
  | .on => if d.start.phase = .supply ∨ d.start.phase = .verify then .boot else .awake

/-- Whether the regulators supply VIO and the TCXO: from regulators ready, or once t_K has passed. -/
def Dev.regulated (d : Dev) : Bool := d.power.regulators || d.padPhase == .awake

/-- The current of the loop awake, in µA (R217, R218): 3.55 mA in rows 1 to 3, else the slewed code. -/
def Dev.loopMicroamps (d : Dev) : Nat :=
  if d.outputs.row ≤ 3 then 3550 else (F64.floor (F64.div d.slewedNow (F64.nat 40))).toNat

/-- The state of a pad group (R504). -/
def Dev.padState (d : Dev) (g : PadGroup) (selected : Bool) : PadState :=
  match g, d.padPhase with
  | .loop, .boot => .current 3550
  | .loop, .awake => .current d.loopMicroamps
  | .loop, .asleep => if d.on Obj.MULTIDROP then .current 4000 else .driven
  | .loop, .unpowered => .atMost 3600
  | .act, .boot => .pulledTo0
  | .act, .awake => if d.adacOn then .driven else .pulledTo0
  | .act, .asleep => .off
  | .act, .unpowered => .highImpedance
  | .exc, .awake => if d.outputs.xdacLoaded then .driven else .highImpedance
  | .exc, _ => .highImpedance
  | .analogIn, .boot | .analogIn, .unpowered => .clamped
  | .analogIn, .awake => .driven
  | .analogIn, .asleep => .highImpedance
  | .pwm n, .awake => if d.pwmPin n then .high else .low
  | .pwm _, .unpowered => .highImpedance
  | .pwm _, _ => .low
  | .hmiso, .awake => if selected && d.on Obj.SPI_ENABLE then .driven else .highImpedance
  | .hmiso, _ => .highImpedance
  | .hattn, .awake => if d.attnLow then .low else .highImpedance
  | .hattn, _ => .highImpedance
  | .wakeBus, .boot => .released
  | .wakeBus, .awake => .driven
  | .wakeBus, .asleep => .addressMatcher
  | .wakeBus, .unpowered => .highImpedance
  | .tcxoVdd, .unpowered => .volts 0
  | .tcxoVdd, .boot | .tcxoVdd, .awake => .volts (if d.regulated then 1800 else 0)
  | .tcxoVdd, .asleep => .volts (if d.power.mode = .stow then 0 else 1800)
  | .vio, .unpowered => .volts 0
  | .vio, .boot => .volts (if d.regulated then 3300 else 0)
  | .vio, _ => .volts 3300

/-! ### The temperature of a sensor's site (R514) -/

/-- The temperature of a sensor's site in °C from the ambient and the dissipations of the two dies, on the board of R514. -/
def siteTemperature (i : Nat) (ambient pMs pHv : F64) : F64 :=
  let own := if onHvDie i then F64.ofRat 260 10 else F64.ofRat 185 10
  let p := if onHvDie i then pHv else pMs
  let other := if onHvDie i then pMs else pHv
  F64.add (F64.add ambient (F64.mul own p)) (F64.mul (F64.nat 7) other)

end Sys2Proof.Machine
end

