-- ==== Sys2Proof/Tests/Slice0.lean ====
section
/-! SUPPORT. Tests: ill-formed commands that WellFormed refuses, values of the spec's own tables and examples, and for the statements
that have hypotheses a state and operands that meet them. -/

open Sys2Proof Sys2Proof.Machine

namespace Sys2Proof.Tests

-- The kernel evaluates these one after another: no more than one thread waits for it.
set_option Elab.async false

/-! ### WellFormed -/

theorem test_wf_self_test_results : (Instr.selfTestLevelEnd []).wf = false := by decide
theorem test_wf_calibration_outputs : (Instr.calMeasurementEnd 0 [0] false).wf = false := by decide
theorem test_wf_hsr_frame : (Instr.hsrFrameRx .A ⟨2 ^ 48, 0, 0, 0, 64, true, false, []⟩).wf = false ∧
    (Instr.hsrFrameRx .A ⟨0, 0, 2 ^ 16, 0, 64, true, false, []⟩).wf = false ∧
    (Instr.hsrFrameRx .A ⟨0, 2 ^ 48, 0, 0, 64, true, false, []⟩).wf = false ∧
    (Instr.hsrFrameRx .A ⟨0, 0, 0, 8, 64, true, false, []⟩).wf = false := by decide
theorem test_wf_shore_frame : (Instr.redboxFrameRx ⟨2 ^ 48, 0, false, false, 64, true, []⟩).wf = false ∧
    (Instr.redboxFrameRx ⟨0, 2 ^ 48, false, false, 64, true, []⟩).wf = false := by decide
theorem test_wf_ptp : (Instr.ptpSyncRx .A ⟨0, 0, 0, 0, true, 2 ^ 64, 0, 0⟩).wf = false ∧
    (Instr.ptpFollowUpRx .A ⟨0, 0, 0, 2 ^ 64, 0⟩).wf = false := by decide
theorem test_wf_addresses : (Instr.routerAdvertisementRx [0]).wf = false ∧
    (Instr.neighbourDiscoveryRx .A ⟨true, [], List.replicate 16 0, 0⟩).wf = false ∧
    (Instr.neighbourDiscoveryRx .A ⟨true, List.replicate 16 0, [], 0⟩).wf = false ∧
    (Instr.icmpEchoRx .A 6 [0, 0, 0, 0] []).wf = false ∧ (Instr.icmpEchoRx .A 4 (List.replicate 16 0) []).wf = false ∧
    (Instr.dadComplete [] true).wf = false := by decide
theorem test_wf_handshake : (Instr.openRequest .A [] 0 0 0 (List.replicate 16 0)).wf = false ∧
    (Instr.openRequest .A (List.replicate 16 0) 0 0 0 []).wf = false ∧ (Instr.challenge 0 []).wf = false ∧
    (Instr.confirm 0 0 [] (List.replicate 16 0)).wf = false ∧ (Instr.confirm 0 0 (List.replicate 16 0) []).wf = false ∧
    (Instr.accept 0 0 0 0 []).wf = false ∧ (Instr.close 0 0 []).wf = false ∧ (Instr.openLockoutEnd []).wf = false := by decide
theorem test_wf_session_macs : (Instr.request 0 .A (List.replicate 16 0) 0 [] ⟨0, 0, []⟩ false).wf = false ∧
    (Instr.request 0 .A [] 0 (List.replicate 16 0) ⟨0, 0, []⟩ false).wf = false ∧ (Instr.reply 0 0 [] ⟨0, 0, []⟩).wf = false ∧
    (Instr.subscribe 0 0 [] ⟨0, 0, []⟩ false).wf = false ∧ (Instr.delivery 0 0 [] ⟨0, 0, []⟩).wf = false ∧
    (Instr.ack 0 0 [] 0 0).wf = false := by decide
theorem test_wf_session_body :
    (Instr.reply 0 0 (List.replicate 16 0) ⟨0, 0, List.replicate 1445 0⟩).wf = false ∧
    (Instr.reply 0 0 (List.replicate 16 0) ⟨0, 0, List.replicate 1444 0⟩).wf = true := by decide +kernel
theorem test_wf_publication : (Instr.publish .A ⟨⟨0, 0, 0, 0, 64, true, false, []⟩, 0, 0, [], []⟩).wf = false ∧
    (Instr.publish .A ⟨⟨2 ^ 48, 0, 0, 0, 64, true, false, []⟩, 0, 0, [], List.replicate 16 0⟩).wf = false := by decide
theorem test_wf_hart : (Instr.readUidByShortTag .primary []).wf = false ∧ (Instr.readUidByLongTag .primary []).wf = false ∧
    (Instr.loopTimeMarker .primary ⟨0, 1, 0, 0, []⟩).wf = false := by decide
theorem test_wf_measurements : (Instr.energyIntegrate []).wf = false ∧ (Instr.thermalSample [] F32.zero F32.zero).wf = false := by
  decide

/-! ### Values of the spec -/

/-- R27: 125 µs are 8,192 ticks and 1.024 s are 2^26. -/
theorem test_stroke_ticks : ticksOfNs 125000 = 8192 ∧ ticksOfNs 1024000000 = 2 ^ 26 := by decide

/-- R270: a position before, after and unordered, over the wrap of 48 bits. -/
theorem test_serial_numbers : serialCmp (2 ^ 48 - 1) 0 48 = .before ∧ serialCmp 0 (2 ^ 48 - 1) 48 = .after ∧
    serialCmp 0 (2 ^ 47) 48 = .unordered ∧ serialCmp 5 5 48 = .equal := by decide

/-- R49: divider 4, phase 1, over the wrap of STROKE_COUNT. -/
theorem test_mark_phase : (MarkSlot.firesIn ⟨0, 2, 0, 4, 1⟩ (2 ^ 32 - 3)) = true ∧ (MarkSlot.firesIn ⟨0, 2, 0, 4, 1⟩ 1) = true ∧
    (MarkSlot.firesIn ⟨0, 2, 0, 4, 1⟩ 0) = false := by decide

/-- R385: a status of category GOOD without limits is 0xC0. -/
theorem test_variable_status : variableStatus 0 = 0xC0 := by decide

/-- R453: 20 mA over 0.47 s give 47 mF, as near as F32 has it. -/
theorem test_store_capacitance :
    let c := F32.div (F32.mul (F32.ofInt 20) (F32.ofRat 47 100)) (F32.ofRat 20 100)
    F32.lt (F32.ofRat 46999 1000) c = true ∧ F32.lt c (F32.ofRat 47001 1000) = true := by decide +kernel

/-- R227, R490: 35 mF at 4.9 V cover 32 rounds, at 3.0 V they cover none. -/
theorem test_store_energy :
    F32.lt (F32.mul (F32.mul (F32.ofRat 1 2) (F32.ofInt 35)) (F32.ofRat 1501 100)) (energyNeeded 32) = false ∧
    F32.lt F32.zero (energyNeeded 1) = true := by decide +kernel

/-- R501: the ball map has 85 GND, 18 HVGND and 12 AVSS balls. -/
theorem test_ball_map : padCount "GND" = 85 ∧ padCount "HVGND" = 18 ∧ padCount "AVSS" = 12 := by decide +kernel

/-- R504: unpowered the loop draws at most 3.6 mA and HATTN_N is high-impedance. -/
theorem test_unpowered_pads :
    let d := Dev.reset.setPower fun p => { p with mode := .off }
    d.padState .loop false = .atMost 3600 ∧ d.padState .hattn false = .highImpedance := by decide +kernel

/-- R88: AVDD of 3.20 V is within its bounds, 3.19 V is not. -/
theorem test_front_end_limits : (Limits.frontEnd.head?.map fun l => (l.admits 320 2, l.admits 319 2)) = some (true, false) := by
  decide

/-- R336: a flag set in the tick of the write that clears it stays set; one set before is cleared. -/
theorem test_flag_set_wins :
    bit (((Dev.reset.setFlag (Obj.SEQ_FLAGS 1) 0).clearFlags (Obj.SEQ_FLAGS 1) 1).u (Obj.SEQ_FLAGS 1)) 0 = true ∧
    bit ((((Dev.reset.setFlag (Obj.SEQ_FLAGS 1) 0).advance 1).clearFlags (Obj.SEQ_FLAGS 1) 1).u (Obj.SEQ_FLAGS 1)) 0 = false := by
  decide +kernel

/-- R328, R331: in STARTING a request is answered 0x06 STATE, the state 0 and no pending transition in its detail. -/
theorem test_starting_refuses :
    (match exec (.sleepDoze ⟨0x2000, 2, 0, .spi, false⟩)
        { pending := [], dev := { Dev.reset with start := { Start.reset with phase := .load } } } with
      | .next t => t.dev.u Obj.SLEEP_REQUEST
      | _ => 1) = 0 := by decide +kernel

/-- R485: RST_N makes a whole-device reset of cause 1. -/
theorem test_rst_pin : (match step { pending := [.rstPin], dev := Dev.reset } with
    | .next t => (t.dev.start.cause, t.dev.device.state, t.pending)
    | _ => (0, .run, [])) = (1, .starting, []) := by decide +kernel

/-- R404: a lost source clears SRC_PRESENT, sets SRC_CHANGED and raises 0x1002. -/
theorem test_source_lost : (match exec (.powerSourceLost 0 F32.zero)
      { pending := [], dev := Dev.reset.putOn (Obj.SRC_PRESENT 0) true } with
    | .next t => (t.dev.u (Obj.SRC_PRESENT 0), bit (t.dev.u Obj.PWR_FLAGS) 0, t.dev.device.heldEvents)
    | _ => (9, false, [])) = (0, true, [(0x1002, [0])]) := by decide +kernel

/-- Log 1: an empty queue is a tick. -/
theorem test_idle : (match step State.reset with | .next t => t.dev.course.elapsed | _ => 0) = 1 := by decide +kernel

/-! ### Operands that meet the statements' hypotheses

Each theorem below names the states and operands that meet the hypotheses of the statement it is named after, clause by clause. The
devices have nothing given out, so each is what a command finds. -/

/-- A device past its start, in RUN. -/
def ready : Dev :=
  { Dev.reset with
    device := { Device.reset with state := .run, appRunning := true }
    start := { Start.reset with phase := .done, recovered := true, configured := true } }

/-- The same with strokes running. -/
def stroking : Dev := ready.setCourse fun c => { c with running := true }

theorem ready_has_given_nothing_out : ready.cleared = ready ∧ stroking.cleared = stroking := ⟨rfl, rfl⟩

theorem witness_AppCoreResetKeepsTheRest : ready.device.appRunning = true := rfl

theorem witness_CoreKeeperAndSramCommands :
    let off := ready.setDevice fun v => { v with appRunning := false }
    let sram := ready.setStart fun x => { x with sramTesting := 0xFFFFFF }
    off.device.appRunning = false ∧ off.stopped = false ∧ off.start.configured = true ∧ off.ledger.unapplied = [] ∧
    (∀ b : Fin 16, bit sram.start.sramTesting (SramBank.system b).no = true) ∧
    (∀ b : Fin 8, bit sram.start.sramTesting (SramBank.wash b).no = true) ∧
    sram.start.sramSpare = none ∧ bit sram.start.sramRetired 15 = false := by
  decide +kernel

/-- The active source is the ring, and PPS, which stands before it, is qualified too. -/
def disciplined : Dev :=
  ((((stroking.setCourse fun c => { c with active := some .ptpRing, sync := .locked }).setSource .ptpRing
    fun x => { x with qualified := true }).setSource .pps fun x => { x with qualified := true }).put (Obj.SOURCE_PRIO 0)
      Source.pps.code).put (Obj.SOURCE_PRIO 1) Source.ptpRing.code

theorem witness_StrokeAndSourceCommands :
    (stroking.strokesGo = true ∧ stroking.angle = false ∧
      let d := (stroking.put Obj.STROKE_MODE 1).setCourse fun c => { c with fallback := true };
      d.strokesGo = true ∧ d.angle = true ∧ d.course.fallback = true) ∧
    ((stroking.setCourse fun c => { c with ticks := courseModulus - 1 }).course.ticks < courseModulus) ∧
    (stroking.qualifyDue .pps = none ∧ (stroking.source .pps).qualified = false ∧ stroking.higherSources = [] ∧
      let last := stroking.u Obj.QUAL_TIME * 65536000
      let d := stroking.setSeries 3 (some ⟨0, last, 0⟩);
      d.course.series[3]? = some (some ⟨0, last, 0⟩) ∧ 0 + d.u Obj.QUAL_TIME * 65536000 ≤ last ∧
        d.qualifyDue .pps = some last) ∧
    disciplined.higherSources = [.pps] ∧
    (stroking.setCourse fun c => { c with sync := .holdover }).course.sync = .holdover ∧
    (stroking.course.ppsEdge = none ∧ stroking.course.sync = .unset) ∧
    (let d := stroking.setCourse fun c => { c with ppsEdge := some 0 };
      d.course.ppsEdge = some 0 ∧ d.course.sync = .unset ∧
        (d.advanceTo 65529446).course.elapsed * 15625 < 999900000 * 1024 ∧
        999900000 * 1024 ≤ (d.advanceTo 65529447).course.elapsed * 15625 ∧
        (d.advanceTo 65542553).course.elapsed * 15625 ≤ 1000100000 * 1024 ∧
        1000100000 * 1024 < (d.advanceTo 65542554).course.elapsed * 15625) ∧
    (let d := (stroking.put Obj.STROKE_MODE 1).put Obj.ENC_INDEX 1;
      d.u Obj.STROKE_MODE = 1 ∧ d.course.running = true ∧ d.strokesGo = true ∧ d.u Obj.ENC_INDEX ≠ 0 ∧
        d.course.fallback = false ∧ (0 : BitVec 32).toNat % max 1 d.encStep = 0 ∧
        (BitVec.ofNat 32 (d.encStep - 1)).toNat % max 1 d.encStep ≠ 0) ∧
    (let d := ((stroking.put (Obj.COURSE_ALARM 3) 1).put Obj.WAKE_MASK 0).setCourse fun c => { c with armed := [false, false, false, true] };
      d.course.armed.getD 3 false = true ∧ d.u (Obj.COURSE_ALARM 3) ≠ 0 ∧ bit (d.u Obj.WAKE_MASK) 2 = false ∧
        d.course.armed.getD 0 false = false) := by
  refine ⟨?_, ?_, ?_, ?_, ?_, ?_, ?_, ?_, ?_⟩ <;> decide +kernel

theorem witness_LostSource :
    (let d := disciplined.setSource .pps fun x => { x with qualified := false };
      (d.source .ptpRing).qualified = true ∧ d.course.active = some .ptpRing ∧ d.course.sync = .locked ∧
        ∀ x, x ≠ .ptpRing → (d.source x).qualified = false) ∧
    ((disciplined.source .pps).qualified = true ∧ disciplined.course.active ≠ some .pps) := by
  refine ⟨⟨by decide +kernel, by decide +kernel, by decide +kernel, fun x h => ?_⟩, by decide +kernel⟩
  cases x with
  | ptpRing => exact absurd rfl h
  | ptpS => decide +kernel
  | pps => decide +kernel
  | loopMarker => decide +kernel

/-- Strokes run, and a slot fires an action at the last tick of the stroke. -/
def marking (slot action : Nat) : Dev := (stroking.put (Obj.MARK_ACTION slot) action).put (Obj.MARK_OFFSET slot) 65535

theorem witness_MarksAct :
    (∀ a : Fin 8, 0 < a.val → let d := marking 127 a; d.markDue 127 a ∧ d.markCollides 127 = false ∧ d.stopped = false) ∧
    (marking 127 1).u (Obj.TRIG_SRC ((marking 127 1).mark 127).target) = 0 ∧
    ((marking 127 1).put (Obj.TRIG_SRC 0) 1).u (Obj.TRIG_SRC ((marking 127 1).mark 127).target) ≠ 0 ∧
    ((marking 127 7).pwmOf ((marking 127 7).mark 127).target).start = none ∧
    (∀ a : Fin 8, 0 < a.val →
      let d := ((marking 127 a).put (Obj.MARK_ACTION 0) a).put (Obj.MARK_OFFSET 0) 65535
      d.markDue 127 a ∧ d.markCollides 127 = true) := by
  unfold Dev.markDue
  refine ⟨?_, ?_, ?_, ?_, ?_⟩ <;> decide +kernel

/-- A converter's offset of 0 and gain of 1 at gain code 0. -/
def unityGain (c : Nat) (d : Dev) : Dev :=
  { d with live := [((offsetReg c 0 false).key, .num 0), ((gainReg c 0 false).key, .num 0x40000000)] }

/-- Converter 0 with the one result of an entry of seat 0 to come. -/
def resulting : Dev := (unityGain 0 stroking).setConv 0 fun c => { c with flight := [⟨.entry, 0, 15, 0, false, false, 0, 1⟩] }

theorem witness_ResultsAreDelivered :
    resulting.xcheck.join = none ∧ resulting.xcheck.comparison = none ∧ (resulting.seat 0).conv = some 0 ∧
    bit (resulting.seat 0).ovr 15 = false ∧ (stroking.conv 3).flight = [] ∧
    (∀ b ∈ (resulting.conv 0).flight, b.use = .entry ∧ resulting.laterThanAnother 0 b = false ∧
      isOvr ((resulting.advanceTo b.ready).resultCode 0 b (.code 0)).1 = false ∧
      isOvr ((resulting.advanceTo b.ready).resultCode 0 b (.overload true)).1 = true) := by
  refine ⟨?_, ?_, ?_, ?_, ?_, ?_⟩ <;> decide +kernel

theorem witness_FrontEndCommands :
    (let d := stroking.put (Obj.REF_SEL 0) 1;
      d.refExternal 0 = true ∧ (d.conv 0).refActive = false) ∧
    ((stroking.setConv 3 fun c => { c with refActive := true }).conv 3).refActive = true ∧
    (stroking.put (Obj.IEXC_LEVEL 3) 1).u (Obj.IEXC_LEVEL 3) ≠ 0 ∧ stroking.u (Obj.IEXC_LEVEL 0) = 0 ∧
    (let d := stroking.setSeat 0 fun x => { x with check := some .due };
      (d.seat 0).check = some .due ∧ d.dacBusy = false ∧ d.lowerDue 0 = false ∧
      (let e := d.setSeat 1 fun x => { x with check := some (.running 0) };
        (e.seat 0).check = some .due ∧ e.dacBusy = true ∧ (e.seat 0).conv = some 0 ∧ (e.seat 1).check = some (.running 0)) ∧
      let e := d.setSeat 2 fun x => { x with check := some .due };
        (e.seat 2).check = some .due ∧ e.dacBusy = false ∧ e.lowerDue 2 = true ∧ (e.seat 2).conv = some 2) ∧
    (stroking.seat 2).conv = some 2 ∧ 2 < stroking.seats.length ∧ bit (stroking.u (Obj.OW_OPEN 2)) 15 = false ∧
    bit (stroking.seat 2).recheck 15 = false ∧
    bit ((stroking.setSeat 2 fun x => { x with recheck := 0x8000 }).seat 2).recheck 15 = true ∧
    bit ((stroking.put (Obj.OW_OPEN 2) 0x8000).u (Obj.OW_OPEN 2)) 15 = true := by
  refine ⟨?_, ?_, ?_, ?_, ?_, ?_, ?_, ?_, ?_, ?_, ?_⟩ <;> decide +kernel

/-- Seat 0 armed, its table with `f`. -/
def seated (f : Seat → Seat) : Dev := stroking.setSeat 0 fun x => f { x with armed := true }

theorem witness_SequencingCommands :
    (let d := seated fun x => { x with run := some ⟨0, 0, 0⟩ };
      (d.seat 0).run = some ⟨0, 0, 0⟩ ∧ ((d.advanceTo 0).setSeat 0 fun x => { x with run := none }).calTakes 0 = false ∧
        delayOf 0 = 0 ∧ d.condition 0 = .converting ∧ (d.put (Obj.RETRIG 0) 1).u (Obj.RETRIG 0) = 1) ∧
    delayOf 0xFFFFFFFF ≠ 0 ∧
    (let d := (seated fun x => { x with run := some ⟨0, 0, 0⟩ }).setConv 0 fun c => { c with
        cal := some ⟨1, [], false, 0, false, none, 0, 0, [], 0, false⟩ };
      (d.seat 0).run = some ⟨0, 0, 0⟩ ∧ ((d.advanceTo 0).setSeat 0 fun x => { x with run := none }).calTakes 0 = true) ∧
    (let d := seated fun x => { x with delayEnd := some 1, startAt := some 1 };
      (d.seat 0).delayEnd = some 1 ∧ (d.seat 0).startAt = some 1 ∧ (d.advanceTo 1).guarded 0 = false ∧ d.armed 0 = true) ∧
    (let d := stroking.setSeat 0 fun x => { x with startAt := some 1 };
      (d.seat 0).startAt = some 1 ∧ (d.advanceTo 1).guarded 0 = false ∧ d.armed 0 = false ∧ d.condition 0 = .stopped) ∧
    ((seated fun x => { x with inj := some 1 }).seat 0).inj = some 1 ∧
    (let d := seated id;
      0 < d.seats.length ∧ d.condition 0 = .idle ∧ d.u (Obj.TRIG_DELAY 0) = 0 ∧
        (d.put (Obj.TRIG_DELAY 0) 1).condition 0 = .idle ∧ (d.put (Obj.TRIG_DELAY 0) 1).u (Obj.TRIG_DELAY 0) ≠ 0) := by
  refine ⟨?_, ?_, ?_, ?_, ?_, ?_, ?_⟩ <;> decide +kernel

/-- An offset calibration of one gain, or of two. -/
def calibration (running : Bool) (more : List Measurement) : Calibration :=
  ⟨1, ⟨0, false⟩ :: more, false, 0, running, none, 0, 0, [], 0, false⟩

theorem witness_CalibrationCommands :
    (let d := stroking.setConv 3 fun c => { c with cal := some (calibration false []) };
      (d.conv 3).cal = some (calibration false []) ∧ d.calBlocked 3 = false ∧ d.seatOf 3 = none ∧
        (calibration false []).running = false ∧ (calibration false []).after = none) ∧
    (let d := (unityGain 3 stroking).setConv 3 fun c => { c with cal := some (calibration true [⟨1, false⟩]) };
      (d.conv 3).cal = some (calibration true [⟨1, false⟩]) ∧ (calibration true []).running = true ∧
        (calibration true []).procedure = 1 ∧
      let a := d.advanceTo (measurementEnd (calibration true [⟨1, false⟩]))
      (∀ r ∈ [(34359752 : Int), 34359743, 0], isOvr (a.calibrated 3 0 false (.code r)) = false) ∧
        2147484 < ((([34359752] : List Int).sum + 8) / 16).natAbs ∧
        ((([34359743] : List Int).sum + 8) / 16).natAbs ≤ 2147484) := by
  refine ⟨?_, ?_⟩ <;> decide +kernel

/-- The first two seats comparable, every converter in service. -/
def paired : Dev :=
  ((((stroking.put Obj.XCHK_MODE 1).put (Obj.XCHK_ENTRY 0) 0).put (Obj.XCHK_ENTRY 1) 0).put (Obj.INBUF 0) 1).put (Obj.INBUF 1) 1
    |>.setXcheck fun x => { x with pair := 5, pairLeft := 0 }

/-- A self-test of converters 0 and 1 that runs on converter 1, at a level. -/
def testing (level : Nat) : SelfTest := ⟨0, 1, some 0, 0, true, false, .testFirst, level, 0, [], false, none⟩

theorem witness_CrossCheckCommands :
    (let d := stroking.setXcheck fun x => { x with rotationDue := true };
      d.xcheck.rotationDue = true ∧ d.course.elapsed = d.course.strokeStart ∧ d.rotationBlocked = false ∧
        d.xcheck.spare = some 3 ∧ (d.followingConvs 3).head? = some 0 ∧ d.seatOf 0 = some 0 ∧
        (d.setXcheck fun x => { x with test := some (testing 2) }).rotationBlocked = true ∧
        (d.advance 1).course.elapsed ≠ (d.advance 1).course.strokeStart) ∧
    stroking.xcheck.rotationDue = false ∧ stroking.u Obj.XCHK_MODE ≠ 1 ∧
    (let d := ((stroking.put Obj.PROFILE_ACTIVE 0).put Obj.ROTATE_STROKES 90).put Obj.ROTATE_COUNTDOWN 30;
      d.u Obj.XCHK_MODE = 0 ∧ d.u Obj.PROFILE_ACTIVE ≠ 2 ∧
        [d.u Obj.ROTATE_STROKES, d.u Obj.ROTATE_STROKES - d.u Obj.ROTATE_STROKES / 3,
          d.u Obj.ROTATE_STROKES - 2 * d.u Obj.ROTATE_STROKES / 3].contains (d.u Obj.ROTATE_COUNTDOWN) = true ∧
        d.xcheck.join = none ∧ d.xcheck.test = none ∧ d.xcheck.spare = some 3 ∧
        (d.followingConvs 3)[d.thirdNow]? = some 2) ∧
    (paired.u Obj.XCHK_MODE = 1 ∧ paired.xcheck.pairLeft = 0 ∧ paired.u Obj.PROFILE_ACTIVE ≠ 2 ∧
      let counted := if paired.xcheck.paired then paired else (paired.bump Obj.XCHK_STARVED).flagFirst Obj.XCHK_FLAGS 6 0x2026 []
      let e := counted.endComparison.setXcheck fun x => { x with pairLeft := counted.u Obj.FULL4_PAIR_PERIOD, paired := true }
      e.nextPair = some 0 ∧
        (e.setXcheck fun x => { x with pair := 0 }).pairable ((e.seatOf (pairCycle.getD 0 (0, 1)).1).getD 0)
          ((e.seatOf (pairCycle.getD 0 (0, 1)).2).getD 0) = true ∧
        (e.seatOf (pairCycle.getD 0 (0, 1)).1).isSome = true ∧ (e.seatOf (pairCycle.getD 0 (0, 1)).2).isSome = true ∧
        ((e.setXcheck fun x => { x with pair := 0 }).put (Obj.REF_SEL 0) 1).startPair.isNone = true) ∧
    (let d := paired.setXcheck fun x => { x with down := 0xF }
     let counted := (d.bump Obj.XCHK_STARVED).flagFirst Obj.XCHK_FLAGS 6 0x2026 []
     (counted.endComparison.setXcheck fun x => { x with pairLeft := 1, paired := true }).nextPair = none) ∧
    (let d := stroking.setXcheck fun x => { x with call := some ⟨0, 1, some 0, 0, false⟩ };
      d.xcheck.call = some ⟨0, 1, some 0, 0, false⟩ ∧ d.checkRuns = false ∧ d.calRuns = false ∧ d.xcheck.join = none ∧
        d.thermal.refRun = none ∧ bit (d.u Obj.DIAG_FLAGS) 1 = false ∧
        (d.setXcheck fun x => { x with join := some ⟨0, 3, .rotation, 0⟩ }).xcheck.join.isSome = true) ∧
    (∀ level : Fin 3, let d := stroking.setXcheck fun x => { x with test := some (testing level) }
      d.xcheck.test = some (testing level) ∧ d.underTest = some 1) := by
  refine ⟨?_, ?_, ?_, ?_, ?_, ?_, ?_, ?_⟩ <;> decide +kernel

/-- Lane 31 at the front of the engine's queue. -/
def laneRuns : Dev := stroking.setEngine fun v => { v with queue := [⟨31, 0, 0, [], [], []⟩] }

/-- Lane 31 and the last frame, or a row, under test. -/
def placeTested (place : ParityPlace) : Dev :=
  (stroking.setLane 31 fun v => { v with testing := true }).setEngine fun v => { v with tests := [(place, [31])] }

theorem witness_LaneCommands :
    laneRuns.engine.queue = [⟨31, 0, 0, [], [], []⟩] ∧
    (let d := ((stroking.putOn (Obj.LANE_ENABLE 31) true).put (Obj.IN_BIND 31 7) 0x8000).put (Obj.IN_TIMEOUT 31 7) 1
        |>.put Obj.STROKE_COUNT 1;
      d.start.configured = true ∧ d.inputBound 31 7 = true ∧ d.u (Obj.IN_TIMEOUT 31 7) ≠ 0 ∧
        (d.input 31 7).stroke + d.u (Obj.IN_TIMEOUT 31 7) ≤ d.strokeNumber ∧ (d.input 31 7).failed = none) ∧
    (∀ p ∈ [ParityPlace.frame 32, .row 527], ((placeTested p).engine.tests.find? fun t => t.1 == p) = some (p, [31])) ∧
    (let ended := (placeTested (.frame 32)).setEngine fun e => { e with tests := [] }
     let e := fun d : Dev =>
       let mask := setBit (d.u Obj.FRAMES_RETIRED) 32
       ((d.put Obj.FRAMES_RETIRED mask).bufferInternal .retired [Obj.FRAMES_RETIRED.write mask]).flagRaise Obj.ENGINE_FLAGS 1
         0x3003 (u8 31);
      (e ended).spareFrame = none ∧
        (e (ended.setLane 0 fun v => { v with frame := 32 })).spareFrame = some 0) ∧
    (let ended := (placeTested (.row 527)).setEngine fun e => { e with tests := [] }
     let e := fun d : Dev =>
       let t := (d.setEngine fun v => { v with rowsRetired := 527 :: v.rowsRetired }).bump Obj.ROWS_RETIRED
       (t.bufferInternal .retired [Obj.ROWS_RETIRED.write (t.u Obj.ROWS_RETIRED)]).flagRaise Obj.ENGINE_FLAGS 2 0x3003 (u8 31);
      (e ended).spareRow = some 512 ∧
        (e (ended.setEngine fun v => { v with rowsRetired := (List.range 16).map (· + 512) })).spareRow = none) ∧
    (let o : OpenCatch := ⟨7, Element.initial, false, none⟩
     let d := ((stroking.put (Obj.CATCH_POST 7) 0).setCapture fun c => { c with catches := [o] });
      d.openCatch 7 = some o ∧ o.definition = 7 ∧ d.device.appRunning = true ∧
        d.postCount 7 ≤ d.samplesBack (d.u (Obj.CATCH_CHANNEL 7)) o.trigger.instant + 1 ∧ d.earlierOpen o = false) := by
  refine ⟨?_, ?_, ?_, ?_, ?_, ?_⟩ <;> decide +kernel

/-- What location needs of a catch, whole or failed. -/
def facts (failed : Bool) : CatchFacts := ⟨1, 0, 0, F32.one, 0, failed, 1, 0, 0⟩

theorem witness_LocationCommands :
    (let d := stroking.putOn Obj.LOC_ENABLE true;
      d.on Obj.LOC_ENABLE = true ∧ d.device.appRunning = true ∧ d.stopped = false ∧ d.device.state ≠ .starting ∧
        d.capture.loc = .idle ∧ d.capture.retry = none) ∧
    (∀ l ∈ [LocStep.opening, .reading, .subscribing],
      ((stroking.setCapture fun c => { c with loc := l, retry := some 1 }).capture.loc = l)) ∧
    stroking.on Obj.LOC_ENABLE = false ∧
    (stroking.setCapture fun c => { c with upstream := [facts false] }).capture.upstream = [facts false] ∧
    (∀ f : Bool, let d := (stroking.putOn Obj.LOC_ENABLE true).setCapture fun c => { c with own := [facts f] }
      d.capture.own = [facts f] ∧ (facts f).failed = f ∧ d.on Obj.LOC_ENABLE = true ∧
        ((d.advanceTo (d.u Obj.LOC_WAIT * 65536)).setCapture fun c => { c with own := [] }).partner (facts f) = none ∧
        let b := (d.advanceTo (d.u Obj.LOC_WAIT * 65536)).setCapture fun c => { c with own := [], upstream := [facts false] }
        b.partner (facts false) = some (facts false) ∧ syncAdmissible (facts false).sync = false) ∧
    (stroking.b Obj.LOC_UP_ADDRESS = [] ∧ stroking.upstreamSession = none ∧
      (stroking.setCapture fun c => { c with locFailed := true }).capture.locFailed = true) := by
  refine ⟨?_, ?_, ?_, ?_, ?_, ?_⟩ <;> decide +kernel

theorem witness_LoopCommands :
    (let d := stroking.setOutputs fun o => { o with row := 4, offSince := some 0, nearSince := some 0 };
      4 ≤ d.outputs.row ∧ d.outputs.row ≠ 9 ∧ d.outputs.compliance = false ∧ d.outputs.offSince = some 0 ∧
        d.outputs.nearSince = some 0 ∧ (d.setOutputs fun o => { o with compliance := true }).outputs.compliance = true) ∧
    (stroking.outputs.row < 4 ∧ (stroking.setOutputs fun o => { o with row := 9, compliance := true }).outputs.compliance = true) ∧
    (F32.le (F32.ofInt 125) (F32.ofInt 125) = true ∧ F32.le (F32.ofInt 125) (F32.ofInt 114) = false ∧
      F32.lt (F32.ofInt 114) (F32.ofInt 115) = true) ∧
    (let d := stroking.setOutputs fun o => { o with source := true, row := 3 };
      d.outputs.source = true ∧ d.outputs.row ≤ 3 ∧ d.on Obj.ADAC_ENABLE = false) ∧
    (stroking.stopped = false ∧ stroking.start.configured = true ∧ bit stroking.outputs.stuck 0 = false ∧
      bit stroking.outputs.stuck 1 = false ∧ (stroking.setDevice fun v => { v with state := .hold }).device.state ≠ .run) ∧
    (let d := stroking.setOutputs fun o => { o with stuck := 3 };
      bit d.outputs.stuck 0 = true ∧ bit d.outputs.stuck 1 = true) ∧
    (let d := ((stroking.putOn Obj.BUTTON_ENABLE true).put Obj.LOOP_PV 0).put (Obj.PV_STATUS 0) 0;
      d.buttonReason false false = none ∧ (d.putF (Obj.PV_VALUE 0) (F32.ofInt 50)).buttonReason true false = none) := by
  refine ⟨?_, ?_, ?_, ?_, ?_, ?_, ?_⟩ <;> decide +kernel

theorem witness_ActuatorCommands :
    (F32.le (F32.ofInt 125) (F32.ofInt 125) = true ∧ F32.le (F32.ofInt 125) (F32.ofInt 114) = false ∧
      F32.lt (F32.ofInt 114) (F32.ofInt 115) = true) ∧
    (stroking.setOutputs fun o => { o with adacClamp := some 1 }).outputs.adacClamp = some 1 ∧
    (let d := stroking.setOutputs fun o => { o with adacRange := 2 };
      d.outputs.adacRange = 2 ∧ d.outputs.adacCompliance = false) ∧
    (let d := stroking.putOn Obj.ADAC_ENABLE true;
      d.outputs.adacRange ≠ 2 ∧ d.adacOn = true) ∧
    (stroking.putOn Obj.XDAC_ENABLE true).xdacOn = true ∧ stroking.xdacOn = false ∧
    (let d := ({ stroking with pwm := [⟨some 0, F32.one⟩, ⟨some 0, F32.one⟩] } : Dev);
      d.start.configured = true ∧ (d.pwmOf 1).start = some 0 ∧ (d.put (Obj.PWM_DUTY 1) 1).u (Obj.PWM_DUTY 1) ≠ 0 ∧
        (d.put (Obj.PWM_DUTY 1) 0).u (Obj.PWM_DUTY 1) = 0 ∧ Dev.reset.start.configured = false) := by
  refine ⟨?_, ?_, ?_, ?_, ?_, ?_, ?_⟩ <;> decide +kernel

theorem witness_PwmFollowsTheState :
    Dev.reset.start.configured = false ∧ stroking.on (Obj.PWM_ENABLE 1) = false ∧
    (∀ x ∈ [DeviceState.starting, .run, .hold, .config, .service, .safe],
      (stroking.setDevice fun v => { v with state := x }).device.state = x) := by
  refine ⟨?_, ?_, ?_⟩ <;> decide +kernel

theorem witness_EventsAreCountedAndRecorded :
    (let d := stroking.put Obj.EVENT_MASK 0x7FFF;
      d.start.recovered = true ∧ bit (d.u Obj.EVENT_MASK) (0xF000 / 4096) = false ∧
        bit (d.u Obj.EVENT_MASK) (0xE000 / 4096) = true ∧
        d.rateCount (d.u Obj.EVENT_STREAM) < d.u (Obj.STREAM_RATE_MAX (d.u Obj.EVENT_STREAM)) ∧
        d.ledger.burst.getD (d.u Obj.EVENT_STREAM) 0 < d.u (Obj.STREAM_BURST (d.u Obj.EVENT_STREAM)) ∧
        d.bufferFill + 32 + 4 ≤ 16384 ∧ d.heldByLog (d.u Obj.EVENT_STREAM) = false) ∧
    Dev.reset.start.recovered = false ∧
    (let d := ((stroking.put Obj.EVENT_STREAM 7).put Obj.ENTRY_FLAGS 1).put (Obj.STREAM_RATE_MAX 7) 0;
      d.start.recovered = true ∧ bit (d.u Obj.EVENT_MASK) (0x2000 / 4096) = true ∧ bit (d.u Obj.ENTRY_FLAGS) 0 = true ∧
        d.u Obj.EVENT_STREAM < 8 ∧
        d.u (Obj.STREAM_RATE_MAX (d.u Obj.EVENT_STREAM)) ≤ d.rateCount (d.u Obj.EVENT_STREAM)) := by
  refine ⟨?_, ?_, ?_⟩ <;> decide +kernel

theorem witness_SerialNumberComparison :
    (0 < 48 ∧ 2 ^ 48 - 1 < 2 ^ 48 ∧ 2 ^ 47 < 2 ^ 48) ∧ (5 + 2 ^ 48 - 5) % 2 ^ 48 = 0 ∧
    (0 < (2 ^ 47 - 1 + 2 ^ 48 - 0) % 2 ^ 48 ∧ (2 ^ 47 - 1 + 2 ^ 48 - 0) % 2 ^ 48 < 2 ^ 47) ∧
    (2 ^ 47 < (0 + 2 ^ 48 - (2 ^ 47 - 1)) % 2 ^ 48) ∧ (2 ^ 47 + 2 ^ 48 - 0) % 2 ^ 48 = 2 ^ (48 - 1) := by decide

theorem witness_FlagsAreClearedByOnes :
    (Obj.SEQ_FLAGS 3).size = 2 ∧ (Dev.reset.put (Obj.SEQ_FLAGS 3) 0xFFFF).u (Obj.SEQ_FLAGS 3) < 2 ^ 16 := by decide +kernel

/-- A request of a host at OPERATE. -/
def hostRequest : Request := ⟨0x2000, 2, 0, .spi, false⟩

/-- The strokes of the angle course. -/
def onAngle : Dev := stroking.put Obj.STROKE_MODE 1

theorem witness_EntryCommands :
    (stroking.setLedger fun l => { l with rate := List.replicate 7 [] ++ [[2, 1]] }).ledger.rate.getD 7 [] = [2, 1] ∧
    (let p : PendingRequest := ⟨hostRequest, [], [], 0, [], [], []⟩
     let d := stroking.setLedger fun l => { l with buffer := [.request p [] []] };
      d.ledger.group = none ∧ d.ledger.buffer = [.request p [] []] ∧ (Item.request p [] []).withdrawable = true ∧
        d.device.appRunning = true ∧ p.joined = []) ∧
    (let d := (((stroking.putOn (Obj.SUB_ENABLE 15) true).put (Obj.SUB_STATE 15) 1).put (Obj.SUB_SENT 15) 6).put (Obj.SUB_ACKED 15) 5
        |>.setSub 15 fun x => { x with timer := some 0, timeouts := 6 };
      (d.sub 15).timer = some 0 ∧ d.on (Obj.SUB_ENABLE 15) = true ∧ d.outstanding 15 = true ∧ d.u (Obj.SUB_STATE 15) = 1 ∧
        (d.sub 15).timeouts + 1 ≠ 8 ∧ d.u (Obj.SUB_ACKED 15) ≠ (d.sub 15).committed) ∧
    (let p : PendingTransition := ⟨.hold, hostRequest, 0, 0, [], []⟩
     let d := onAngle.setDevice fun v => { v with pending := some p };
      d.device.pending = some p ∧ d.angle = true ∧ p.target ≠ .safe ∧ d.device.state ≠ .config ∧
        stroking.device.pending = none) := by
  refine ⟨?_, ?_, ?_, ?_⟩ <;> decide +kernel

theorem witness_LedgerStoreCommands :
    (onAngle.angle = true ∧ onAngle.stopped = false ∧ onAngle.start.recovered = true) ∧
    (let x : PageTarget × List Byte := (.log, [])
     let g : Group := ⟨1, 0, 2, 2, [], [x, x], [], [], stroking.ledger.heads, [], false⟩
     let d := stroking.setLedger fun l => { l with group := some g };
      d.ledger.group = some g ∧ d.groupHeld g = false ∧ g.plan[g.done.length]? = some x ∧
        let e := d.setLedger fun l => { l with testing := [(1, (d.roundPair g).getD 0)] }
        e.ledger.group = some g ∧ e.groupHeld g = true) ∧
    stroking.ledger.group = none ∧
    (let p : PendingRequest := ⟨hostRequest, [], [], 0, [], [], []⟩
     let a : Apply := ⟨.cox, [], false, [], p, []⟩
     let b : Apply := { a with rest := [⟨1, .num 0⟩] }
     let d := stroking.setLedger fun l => { l with applies := [a] }
     let e := stroking.setLedger fun l => { l with applies := [b] };
      (d.ledger.applies.find? fun x => !x.selected) = some a ∧ a.rest = [] ∧ d.bufferFill + 15 ≤ 16384 ∧
        (e.ledger.applies.find? fun x => !x.selected) = some b ∧ b.rest ≠ [] ∧ e.nextPart b.rest ≠ [] ∧
      let full := e.setLedger fun l => { l with buffer := [.entry ⟨.event, 0, 0, 0, 0, List.replicate 16352 0⟩] }
      (full.ledger.applies.find? fun x => !x.selected) = some b ∧ full.nextPart b.rest = []) ∧
    (stroking.setLedger fun l => { l with testing := [(1, 16383)] }).ledger.testing = [(1, 16383)] ∧
    stroking.ledger.testing = [] ∧ stroking.thermal.level = 0 ∧
    stroking.ledger.banksRetired.getD 1 false = false ∧ stroking.ledger.margin = false ∧
    (stroking.setLedger fun l => { l with margin := true }).ledger.margin = true ∧
    (let d := stroking.setLedger fun l => { l with retiredPairs := (List.range 63).map fun k => (1, k) };
      (d.ledger.retiredPairs.filter fun p => p.1 == 1).length < 64 ∧
        (d.ledger.retiredPairs.any fun x => x.2 == 63) = false ∧ (d.ledger.retiredPairs.any fun x => x.2 == 62) = true) := by
  refine ⟨?_, ?_, ?_, ?_, ?_, ?_, ?_, ?_, ?_, ?_, ?_⟩ <;> decide +kernel

/-- Three links up, in FULL, with the address of the part given. -/
def linked : Dev :=
  ((({ stroking with live := [(Obj.NET_MAC.key, .num 1)] } : Dev).put (Obj.LINK_STATE 0) 2).put (Obj.LINK_STATE 1) 2).put
    (Obj.LINK_STATE 2) 2

theorem witness_LinkCommands :
    (∀ n : Fin 3, let d := (stroking.put Obj.PROFILE_ACTIVE 0).putOn (Obj.PORT_ENABLE n) true
      d.portUsable n = true ∧ d.u (Obj.LINK_STATE n) ≠ 2 ∧ (d.port n).testing = none) ∧
    linked.u (Obj.LINK_STATE 2) ≠ 0 ∧ stroking.u Obj.PHY_ERR_LIMIT < stroking.u Obj.PHY_ERR_LIMIT + 1 ∧
    ((stroking.setPort 2 fun v => { v with testing := some 0 }).port 2).testing = some 0 ∧
    (stroking.put (Obj.PODL_STATE 1) 3).u (Obj.PODL_STATE RingPort.B.no) = 3 := by
  refine ⟨?_, ?_, ?_, ?_, ?_⟩ <;> decide +kernel

/-- A frame of 512 bytes from another station's address. -/
def ringFrame (intact : Bool) : RingFrame := ⟨0, 2, 65535, 7, 512, intact, false, []⟩

theorem witness_RingCommands :
    (linked.portUp 0 = true ∧ linked.portUp 1 = true ∧ (ringFrame false).intact = false ∧ (ringFrame true).intact = true ∧
      oversizeFrame { ringFrame true with pcp := 0 } = false ∧ (ringFrame true).source ≠ linked.mac) ∧
    (linked.setNet fun n => { n with dup := [⟨2, 0, 1, true, false, false⟩] }).net.dup = [⟨2, 0, 1, true, false, false⟩] ∧
    (linked.start.configured = true ∧ linked.stopped = false ∧ linked.device.state ≠ .starting) ∧
    (let x : Sending := ⟨⟨.own, .best, false, 64, 0, [], false⟩, 0, 1⟩
     let d := linked.setPort 2 fun v => { v with sending := some x };
      (d.port Port.S.no).sending = some x ∧ (d.port Port.A.no).sending = none) ∧
    (linked.course.running = true ∧ ∀ p : Fin 3,
      (((linked.advanceTo (linked.course.strokeStart + alarmWindowTicks)).port p).waiting.filter fun f =>
        f.queue == .alarm && linked.alarmDue f) = []) := by
  refine ⟨?_, ?_, ?_, ?_, ?_⟩ <;> decide +kernel

/-- A frame of the shore network, of a size. -/
def shoreFrame (size : Nat) : ShoreFrame := ⟨2, 3, true, false, size, true, []⟩

theorem witness_ShoreFrames :
    stroking.portUp 2 = false ∧ linked.portUp 2 = true ∧ (shoreFrame 1523).tagged = true ∧ (shoreFrame 1522).intact = true ∧
    (shoreFrame 1522).dest ≠ linked.mac ∧ linked.net.proxies.contains (shoreFrame 64).source = false ∧
    ({ shoreFrame 64 with dest := 1 } : ShoreFrame).dest = linked.mac ∧
    (let d := linked.setNet fun n => { n with proxies := (List.range 16).map fun k => 0x100 + k };
      16 ≤ d.net.proxies.length ∧ d.net.proxies.contains (shoreFrame 64).source = false ∧ (shoreFrame 64).dest ≠ d.mac) ∧
    (let d := linked.setNet fun n => { n with proxies := [3] };
      d.net.proxies.contains (shoreFrame 64).source = true ∧ d.net.proxies.contains (shoreFrame 64).dest = false ∧
        d.net.proxies.contains ({ shoreFrame 64 with dest := 3 } : ShoreFrame).dest = true) ∧
    512 < shoreRingSize (shoreFrame 507) ∧ shoreRingSize (shoreFrame 506) ≤ 512 := by
  refine ⟨?_, ?_, ?_, ?_, ?_, ?_, ?_, ?_, ?_, ?_, ?_⟩ <;> decide +kernel

/-- A master of a domain and a class, whose source port is 9. -/
def announce (domain clockClass : BitVec 8) : Announce := ⟨domain, 0, clockClass, 0, 0, 0, 5, 0, 9, true⟩

/-- The ports ready for PTP, that master the grandmaster. -/
def mastered : Dev :=
  ((linked.put Obj.PTP_DOMAIN 0).put Obj.GM_IDENTITY 5).setPort 2 (fun v => { v with
    exchanges := 4, sync := some ⟨7, 9, 0, 0, 0⟩ }) |>.setNet fun n => { n with grandmaster := some (datasetOf (announce 0 6)) }

theorem witness_PtpCommands :
    (let d := mastered.put Obj.PTP_MAX_CLASS 6;
      d.portUp 2 = true ∧ (announce 0 6).domain.toNat = d.u Obj.PTP_DOMAIN ∧
        (announce 0 6).clockClass.toNat ≤ d.u Obj.PTP_MAX_CLASS ∧ d.prefersMaster (announce 0 6) = true ∧
        d.u Obj.GM_IDENTITY = (announce 0 6).grandmaster.toNat ∧ (announce 1 6).domain.toNat ≠ d.u Obj.PTP_DOMAIN ∧
        d.u Obj.PTP_MAX_CLASS < (announce 0 7).clockClass.toNat) ∧
    linked.net.grandmaster.map masterOf ≠ some (announce 0 7).grandmaster.toNat ∧
    (∀ two : Bool, let m : PtpSync := ⟨0, 0, 9, 7, two, 0, 0, 0⟩
      mastered.ptpReady .S = true ∧
        ((mastered.advanceTo m.ingress).passSync .S m.source.toNat m.sequence.toNat m.ingress
          (if m.twoStep then none else some (m.origin, m.correction))).fromMaster m.domain m.source = true ∧
        -4 ≤ m.interval ∧ m.interval ≤ 0 ∧ ({ m with interval := -5 } : PtpSync).interval < -4) ∧
    linked.ptpReady .A = false ∧
    (let m : PtpFollowUp := ⟨0, 9, 7, 0, 0⟩;
      mastered.net.bridges = [] ∧ (mastered.port Port.S.no).sync = some ⟨7, 9, 0, 0, 0⟩ ∧ 7 = m.sequence.toNat ∧
        9 = m.source.toNat ∧ mastered.fromMaster m.domain m.source = true) ∧
    (linked.portUp 1 = true ∧ stroking.portUp 1 = false) := by
  refine ⟨?_, ?_, ?_, ?_, ?_, ?_⟩ <;> decide +kernel

/-- The device has an IPv4 address and one IPv6 address. -/
def addressed : Dev :=
  ((linked.put Obj.IP_MODE 2).put Obj.IPV4_ADDRESS 0x0A000001).setNet fun n => { n with
    addresses := [⟨List.replicate 16 1, 64, false⟩] }

theorem witness_AddressCommands :
    (addressed.u Obj.IP_MODE ≠ 1 ∧ addressed.start.configured = true ∧
      (addressed.net.addresses.any fun x => x.bytes == List.replicate 8 2 ++ addressed.interfaceId) = false ∧
      addressed.net.addresses.length < 3) ∧
    (addressed.answersOn .A = true ∧ (⟨false, [], [], 0⟩ : NdMessage).solicitation = false) ∧
    (addressed.ownIpv4 0x0A000001 = true ∧ addressed.ownIpv4 0x0A000002 = false) ∧
    (addressed.ownIpv6 (List.replicate 16 1) = true ∧ addressed.ownIpv6 (List.replicate 16 3) = false) := by
  refine ⟨?_, ?_, ?_, ?_⟩ <;> decide +kernel

theorem witness_AcceptedCountersAreSpent :
    counterStep 64 1 1 = some (64, 2 ^ 63 + 1) ∧ counterStep 64 1 0 = none ∧ counterStep 64 1 64 = none ∧
    counterStep 0 1 64 = some (64, 1) ∧ counterStep 0 1 63 = some (63, 2 ^ 63 + 1) := by decide +kernel

/-- A session of a host of the network at CONFIGURE, or the device's own one. -/
def session (isOpen upstream : Bool) : Session :=
  ⟨0x1002, 2, 0, .port .A, [0, 0, 0, 0], List.replicate 32 0, [], isOpen, 0, 1, isOpen, 0, 0, upstream, [], 16, .port .A⟩

/-- Session 16 is that session. -/
def conversing (isOpen upstream : Bool) : Dev :=
  linked.setNet fun n => { n with sessions := n.sessions.set 15 (some (session isOpen upstream)) }

theorem witness_SessionHandshake :
    (linked.device.appRunning = true ∧ linked.stopped = false ∧ linked.lockedOut [0] = false ∧
      linked.openRefusal (.port .S) 0 0 4095 = none ∧ linked.sessionPlace = some 0 ∧
      linked.openRefusal (.port .S) 0 0 4096 = some 4) ∧
    (∀ o : Bool, (conversing o false).session 15 = some (session o false) ∧ (session o false).upstream = false ∧
      (session o false).confirmed = o ∧
      [] ≠ woredMac (session o false).key (woredHeader 3 0 0 (session o false).number 0 0) []) ∧
    (let d := linked.setNet fun n => { n with sessions := n.sessions.set 15 (some { session false true with number := 0 }) }
     let e := d.setCapture fun c => { c with loc := .opening };
      e.upstreamSession = some 15 ∧ e.capture.loc = .opening ∧
        e.session 15 = some { session false true with number := 0 }) ∧
    linked.upstreamSession = none ∧
    (∀ o : Bool, (conversing o true).upstreamNumber 16 = some 15 ∧ (conversing o true).session 15 = some (session o true) ∧
      (session o true).confirmed = o) ∧
    (let x := { session true false with fragments := [⟨1, 0, true, [], 0⟩] }
     (linked.setNet fun n => { n with sessions := n.sessions.set 15 (some x) }).session 15 = some x) ∧
    ((linked.setNet fun n => { n with lockouts := [([0], 1)] }).net.lockouts.find? fun y => y.1 == [0]) = some ([0], 1) ∧
    linked.session 15 = none := by
  refine ⟨?_, ?_, ?_, ?_, ?_, ?_, ?_, ?_⟩ <;> decide +kernel

/-- A request of one read, and the body of a subscription to every stream. -/
def readBody : List Byte := [0, 0, 0, 1, 1, 0, 1, 0, 0x10, 0, 0, 0]

theorem witness_SessionFrames :
    (let x := session true false
     let d := conversing true false;
      d.session 15 = some x ∧ x.isOpen = true ∧ x.upstream = false ∧ d.device.appRunning = true ∧ d.stopped = false ∧
        counterStep x.high x.seen 1 = some (1, 3) ∧ counterStep x.high x.seen 0 = none ∧ 2 ≤ x.level ∧
        (d.put Obj.SUB_LEVEL_MIN 2).u Obj.SUB_LEVEL_MIN ≤ x.level ∧
      let a := d.setSession 15 fun y => { y with high := 1, seen := 3, last := d.course.elapsed }
      a.isRepeat x.client 1 = false ∧ a.freeSub = some 0 ∧
        [] ≠ woredMac x.key (woredHeader 5 0 0 x.number 0 1) [] ∧
        [] ≠ woredMac x.key (woredHeader 0x10 0 0 x.number 12 1) readBody) ∧
    parseRequest readBody = some (1, [.read 0x1000 0]) ∧
    (let x := session true true
     let d := conversing true true;
      d.upstreamNumber 16 = some 15 ∧ d.session 15 = some x ∧ x.isOpen = true ∧ d.device.appRunning = true ∧
        d.stopped = false ∧ counterStep x.high x.seen 1 = some (1, 3)) ∧
    (parseEntries 1 (List.replicate 28 0)).length = 1 := by
  refine ⟨?_, ?_, ?_, ?_⟩ <;> decide +kernel

theorem witness_PublicationsAndRingKeys :
    stroking.portUp 0 = false ∧
    (let f := ringFrame true
     let d := linked.setNet fun n => { n with ringKey := [1] }
     let a := d.hsrFrame 0 { f with pcp := 0 };
      d.portUp 0 = true ∧ f.source ≠ d.mac ∧ (d.dupOf f.source f.sequence).delivered = false ∧ f.intact = true ∧
        oversizeFrame { f with pcp := 0 } = false ∧ a.ringKeyOf (a.u Obj.RING_EPOCH) = some [1] ∧
        (a.net.pubSeen.find? fun x => x.1 == f.source) = none ∧ counterStep 0 0 1 = some (1, 1)) ∧
    (let d := (linked.putB Obj.RING_KEY_NEXT [1]).put Obj.RING_SWITCH_AT 1;
      d.b Obj.RING_KEY_NEXT ≠ [] ∧ d.u Obj.RING_SWITCH_AT ≠ 0) ∧
    (linked.setNet fun n => { n with ringBefore := some (0, [1], 1) }).net.ringBefore = some (0, [1], 1) := by
  refine ⟨?_, ?_, ?_, ?_⟩ <;> decide +kernel

theorem witness_HartReads :
    ready.hartServed = true ∧ ready.link.masters.length = 2 ∧
    packAscii (fillText 8 0x20 (ready.b Obj.HART_TAG)) ≠ [] ∧ fillText 32 0 (ready.b Obj.HART_LONG_TAG) ≠ [] := by
  refine ⟨?_, ?_, ?_, ?_⟩ <;> decide +kernel

theorem witness_HartWrites :
    ready.hartServed = true ∧ (ready.master true).writes = [] ∧ (ready.master false).writes = [] ∧
    ready.u Obj.HART_LEVEL ≠ 0 ∧ (ready.put Obj.HART_LEVEL 0).u Obj.HART_LEVEL = 0 ∧
    hartWriteOf ready (.writePollingAddress .primary 63 1) =
      some (true, 6, [63, 1], [.write 0x1640 1 [63], .write 0x1640 2 [1]], false, 0) ∧
    (hartWriteOf ready (.writeMessage .secondary (List.replicate 23 0))).map (fun x => x.2.2.2.2.2) = some 5 ∧
    (hartWriteOf ready (.writeRangeValues .primary (BitVec.ofNat 8 (ready.unitOf (ready.u Obj.LOOP_PV))) F32.one F32.zero false)).map
      (fun x => x.2.2.2.2.2) = some 0 ∧
    (hartWriteOf ready (.writeRangeValues .primary 255 F32.one F32.zero false)).map (fun x => x.2.2.2.2.2) = some 2 ∧
    (∀ code ∈ [none, some 0], let w : HartWrite := ⟨6, [63, 1], 0, 1, none, code⟩
      let d := ready.setMaster true fun x => { x with writes := [w] };
      (d.master true).writes = [w] ∧ w.code = code ∧ d.hartServed = true ∧
        (d.advanceTo (d.u Obj.HART_REPEAT_TIME * 65536)).course.elapsed ≤ w.instant + d.u Obj.HART_REPEAT_TIME * 65536) := by
  refine ⟨?_, ?_, ?_, ?_, ?_, rfl, ?_, ?_, ?_, ?_⟩ <;> decide +kernel

theorem witness_ConfigurationChangedBits :
    ready.link.masters.length = 2 ∧ ready.hartServed = true ∧
    (([⟨Obj.LOOP_FIXED.key, .num 0⟩] : List Write).filter fun w =>
      match ready.cardAt (w.key / 256) (w.key % 256) with
      | some c => c.persist = .P || c.persist = .PC
      | none => false).length = 0 ∧
    0 < (([⟨Obj.HART_POLL_ADDR.key, .num 1⟩] : List Write).filter fun w =>
      match ready.cardAt (w.key / 256) (w.key % 256) with
      | some c => c.persist = .P || c.persist = .PC
      | none => false).length := by
  refine ⟨?_, ?_, ?_, ?_⟩ <;> decide +kernel

theorem witness_VariableStatusByte :
    catOf 0x8000 = 4 ∧ catOf 0x4000 = 2 ∧ catOf 0x6000 = 3 ∧ catOf 0 = 0 ∧ catOf 0x2000 = 1 ∧
    bit 0x400 10 = true ∧ bit 0x800 10 = false ∧ bit 0x800 11 = true := by decide

theorem witness_HartOtherCommands :
    (ready.hartServed = true ∧ (ready.master true).frames = [] ∧ ready.on Obj.MARKER_ENABLE = false) ∧
    (let o : Outgoing := ⟨.own, false, [1]⟩
     let w : HartWrite := ⟨6, [], 0, 1, some 0, none⟩
     let d := ready.setMaster false fun x => { x with frames := [o], writes := [w] };
      (d.master false).frames = [o] ∧ (d.master false).oldestOwed = some (w, 0) ∧ (ready.master false).oldestOwed = none) ∧
    ((ready.put Obj.BURST_MODE 1).u Obj.BURST_MODE ≠ 0 ∧ ready.u Obj.BURST_MODE = 0) ∧
    (let x := { session true false with path := .tunnel false, number := 1, level := 1 }
     let d := (ready.putOn Obj.MARKER_ENABLE true).setNet fun n => { n with sessions := n.sessions.set 0 (some x) };
      d.hartServed = true ∧ d.on Obj.MARKER_ENABLE = true ∧ d.session 0 = some x ∧ x.isOpen = true ∧ x.upstream = false ∧
        x.path = .tunnel false ∧ 1 ≤ x.level ∧ counterStep x.high x.seen 1 = some (1, 3)) := by
  refine ⟨?_, ?_, ?_, ?_⟩ <;> decide +kernel

theorem witness_HostPortCommands :
    (let d := ready.putOn Obj.SPI_ENABLE true;
      d.hostServed .spi = true ∧ d.hostServed .wake = true ∧ (d.host .spi).pending = none ∧ (d.host .wake).messages = [] ∧
        d.device.appRunning = true ∧ (d.hostSnapshot .spi 0 1 0).2.isOk = false ∧
        (d.hostSnapshot .spi 0x1100 1 1).2.isOk = true ∧ servedAtOnce 0x1100 1 = true ∧
        (d.hostSnapshot .spi 0x1640 1 1).2.isOk = true ∧ servedAtOnce 0x1640 1 = false ∧
        (d.setDevice fun v => { v with appRunning := false }).device.appRunning = false ∧ d.device.state ≠ .starting ∧
        d.security.romLoader = false) ∧
    parseRequest readBody = some (1, [.read 0x1000 0]) ∧
    (let d := ready.setHost .wake fun h => { h with pending := some (.result 0 0 []), messages := [⟨.own, false, []⟩] };
      (d.host .wake).pending = some (.result 0 0 []) ∧ (d.host .wake).messages = [⟨.own, false, []⟩]) ∧
    ((ready.setHost .wake fun h => { h with pending := some (.reading 0 0 []) }).host .wake).pending = some (.reading 0 0 []) ∧
    (ready.setPower fun p => { p with mode := .doze, stretch := some 0 }).power.mode = .doze ∧ ready.power.mode = .on ∧
    (ready.setPower fun p => { p with mode := .stow, stretch := some 0 }).power.stretch = some 0 ∧
    ready.power.stretch = none := by
  refine ⟨?_, ?_, ?_, ?_, ?_, ?_, ?_, ?_⟩ <;> decide +kernel

theorem witness_SupplyCommands :
    (ready.present 0 = false ∧ ready.present 1 = false ∧ ready.present 3 = false ∧ ready.outputs.source = false ∧
      (ready.put (Obj.PODL_STATE 1) 3).u (Obj.PODL_STATE 1) = 3 ∧ ready.u (Obj.PODL_STATE 0) ≠ 3 ∧ ready.power.mode = .on ∧
      (ready.setOutputs fun o => { o with source := true }).outputs.source = true) ∧
    (∀ m ∈ [PowerMode.doze, .stow], (ready.setPower fun p => { p with mode := m }).power.mode = m) ∧
    (let d := (ready.setPower fun p => { p with mode := .off, lostAt := 0 }).setCourse fun c => { c with elapsed := secTicks };
      d.present 0 = false ∧ d.power.mode = .off ∧ d.anySource = false ∧ d.power.lostAt + secTicks ≤ d.course.elapsed ∧
        let e := d.setCourse fun c => { c with elapsed := secTicks - 1 }
        e.course.elapsed < e.power.lostAt + secTicks) ∧
    (let d := ready.putOn (Obj.SRC_PRESENT 3) true
     let e := ((d.putF (Obj.SRC_VOLTAGE 3) F32.zero).putOn (Obj.SRC_PRESENT 3) false).flagRaise Obj.PWR_FLAGS 0 0x1002 (u8 3);
      d.present 3 = true ∧ d.power.mode ≠ .off ∧ e.anySource = false ∧ d.start.recovered = true ∧ d.power.mode ≠ .holdup ∧
        d.anySource = true ∧ (d.setPower fun p => { p with mode := .off }).anySource = true) ∧
    (let d := (ready.putOn (Obj.SRC_PRESENT 3) true).putOn (Obj.SRC_PRESENT 0) true
     let e := ((d.putF (Obj.SRC_VOLTAGE 3) F32.zero).putOn (Obj.SRC_PRESENT 3) false).flagRaise Obj.PWR_FLAGS 0 0x1002 (u8 3);
      d.present 3 = true ∧ e.anySource = true) ∧
    (let d := ready.setPower fun p => { p with mode := .holdup };
      d.anySource = false ∧ d.power.mode = .holdup ∧ d.present 0 = false ∧
        F32.lt ((d.putF Obj.STORE_VOLTAGE (F32.ofInt 3)).f Obj.STORE_VOLTAGE) (F32.ofInt 3) = false ∧
        F32.lt ((d.putF Obj.STORE_VOLTAGE (F32.ofInt 2)).f Obj.STORE_VOLTAGE) (F32.ofInt 3) = true) ∧
    (let d := Dev.reset.setPower fun p => { p with mode := .on };
      d.anySource = false ∧ d.power.mode = .on ∧ d.start.recovered = false) ∧
    (ready.put Obj.PROFILE_ACTIVE 2).u Obj.PROFILE_ACTIVE = 2 ∧
    F32.lt (F32.ofRat 12 10) (F32.ofInt 2) = true ∧ F32.lt (F32.ofRat 12 10) (F32.ofRat 12 10) = false := by
  refine ⟨?_, ?_, ?_, ?_, ?_, ?_, ?_, ?_, ?_, ?_⟩ <;> decide +kernel

/-- A transition of a kind waits. -/
def queued (k : Nat) : Dev := ready.setPower fun p => { p with queued := some k }

/-- A handshake runs, its agent 7 in a state. -/
def shaking (x : AgentState) : Dev :=
  ready.setPower fun p => { p with running := some (.handshake 3 (List.replicate 7 .accepted ++ [x])), queued := some 5 }

theorem witness_TransitionCommands :
    (∀ k : Fin 6, (queued k).power.running = none ∧ (queued k).power.queued = some k.val ∧ (queued k).power.mode = .on) ∧
    ((((queued 0).putOn (Obj.SRC_PRESENT 0) true).setPower fun p => { p with queued := none }).profileCheck 0).isOk = true ∧
    ((((queued 2).put (Obj.IEXC_LEVEL 3) 6).setPower fun p => { p with queued := none }).profileCheck 2).isOk = false ∧
    (∀ again : Bool, (shaking (.queried 0 again)).power.running =
        some (.handshake 3 (List.replicate 7 .accepted ++ [.queried 0 again])) ∧
      (List.replicate 7 AgentState.accepted ++ [AgentState.queried 0 again]).getD 7 .accepted = .queried 0 again ∧
      (shaking (.queried 0 again)).agentRefuses 3 7 = none ∧ (shaking (.queried 0 again)).agentDelays 7 = false) ∧
    ((ready.put Obj.RING_STATE 0).agentRefuses 3 6 = some 7 ∧
      let d := (ready.put Obj.RING_STATE 3).setPort 0 fun v => { v with sending := some ⟨⟨.own, .best, false, 64, 0, [], false⟩, 0, 1⟩ }
      d.agentRefuses 3 6 = none ∧ d.agentDelays 6 = true) ∧
    (shaking (.delayed 1)).power.running = some (.handshake 3 (List.replicate 7 .accepted ++ [.delayed 1])) ∧
    (List.replicate 7 AgentState.accepted ++ [AgentState.delayed 1]).getD 7 .accepted = .delayed 1 ∧
    ((shaking .accepted).power.running ≠ none ∧ (shaking .accepted).power.queued = some 5) := by
  refine ⟨?_, ?_, ?_, ?_, ?_, ?_, ?_, ?_⟩ <;> decide +kernel

theorem witness_WakeCommands :
    (let d := ready.put Obj.WAKE_MASK 0x40;
      bit (d.u Obj.WAKE_MASK) 0 = false ∧ bit (d.u Obj.WAKE_MASK) 6 = true ∧
        (d.setPower fun p => { p with mode := .doze }).power.mode = .doze ∧
        (d.setPower fun p => { p with mode := .waking 2 }).power.mode = .waking 2 ∧ d.thermal.shutdown = none ∧
        (d.setThermal fun t => { t with shutdown := some (7, F32.one) }).thermal.shutdown ≠ none) ∧
    ready.regulating = false ∧
    (∀ n : Fin 5, let d := ready.setPower fun p => { p with mode := .waking 1, regulators := false, attempts := n }
      d.power.mode = .waking 1 ∧ d.regulating = true ∧ d.power.attempts = n ∧ d.power.bypass = false) ∧
    (let d := ready.setPower fun p => { p with mode := .stow, wakeFailed := true, tcxo := false, regulators := true };
      d.power.mode = .stow ∧ d.power.wakeFailed = true ∧ d.thermal.shutdown = none ∧ d.power.tcxo = false ∧
        d.power.regulators = true) ∧
    (let d := ready.setPower fun p => { p with tcxo := true };
      d.power.tcxo = true ∧ d.power.mode = .on ∧ d.course.sync ≠ .rc ∧ ∀ n : Fin 3, d.power.mode ≠ .waking n) ∧
    (ready.setCourse fun c => { c with sync := .rc }).course.sync = .rc ∧
    (∀ failed : Bool, let d := ready.setPower fun p => { p with mode := .waking 1, wakeFailed := failed }
      let e := (d.setPower fun p => { p with mode := .on }).restartDomain.resumeShadow.pwrResult 1 3 0 0
      let f := e.raise 0x1006 (u8 (e.u Obj.WAKE_CAUSE) ++ u8 1)
      d.power.mode = .waking 1 ∧ d.start.holdup = false ∧ f.power.wakeFailed = failed) := by
  refine ⟨?_, ?_, ?_, ?_, ?_, ?_, ?_⟩ <;> decide +kernel

theorem witness_EnergyCommands :
    (ready.power.mode ≠ .off ∧ ready.power.mode ≠ .holdup ∧ ready.course.elapsed < ready.power.hourStart + 3600 * secTicks ∧
      ready.u Obj.AGE_SAMPLE_DAYS > ready.thermal.sinceSample + 1 ∧ ready.b Obj.BATT_CURVE = [] ∧ ready.present 0 = false ∧
      ready.adacOn = false ∧ (ready.putOn Obj.ADAC_ENABLE true).adacOn = true) ∧
    (let d := (ready.putB Obj.BATT_CURVE (List.replicate 16 1)).putOn (Obj.SRC_PRESENT 0) true;
      d.b Obj.BATT_CURVE ≠ [] ∧ d.present 0 = true) := by
  refine ⟨?_, ?_⟩ <;> decide +kernel

theorem witness_ThermalCommands :
    ready.power.mode ≠ .off ∧ (ready.setThermal fun t => { t with testing := some 7 }).thermal.testing = some 7 ∧
    (let d := ready.setThermal fun t => { t with
        below := some 0, level := 1, cool := some 0, shutdown := some (7, F32.one), safe := some 0 };
      d.thermal.below = some 0 ∧ 0 < d.thermal.level ∧ d.thermal.cool = some 0 ∧ d.thermal.shutdown = some (7, F32.one) ∧
        d.thermal.safe = some 0) ∧
    ready.thermal.below = none ∧ ready.thermal.cool = none ∧ (0 : Fin 8) ≠ 7 := by
  refine ⟨?_, ?_, ?_, ?_, ?_, ?_⟩ <;> decide +kernel

theorem witness_AgeingCommands :
    (let d := (ready.putF Obj.STORE_VOLTAGE (F32.ofRat 490 100)).setThermal fun t => { t with storeDue := true };
      d.storeTestDue = true ∧ d.thermal.storeTest = false ∧ d.stopped = false ∧
        F32.lt (d.f Obj.STORE_VOLTAGE) (F32.ofRat 490 100) = false ∧ d.ledger.group = none ∧ d.thermal.level = 0) ∧
    ready.storeTestDue = false ∧
    (let d := (ready.put Obj.STORE_TEST_CURRENT 20).setThermal fun t => { t with storeTest := true, reference := true }
     let i := F32.ofInt (d.u Obj.STORE_TEST_CURRENT)
     let c := fun dt => F32.div (F32.mul i dt) (F32.ofRat 20 100);
      d.thermal.storeTest = true ∧ F32.lt (F32.ofInt 10) (F32.ofInt 11) = true ∧ F32.lt (F32.ofInt 10) (F32.ofInt 10) = false ∧
        F32.le (c F32.one) (F32.ofInt 600) = true ∧ F32.le (F32.ofInt 20) (c F32.one) = true ∧
        F32.le (c (F32.ofInt 10)) (F32.ofInt 600) = false ∧
        F32.le (F32.div (F32.mul F32.zero (F32.ofInt 1000)) i) (F32.ofInt 10) = true ∧
        F32.le F32.zero (F32.div (F32.mul F32.zero (F32.ofInt 1000)) i) = true ∧
        d.thermal.reference = true ∧ d.thermal.refRun = none ∧ d.u (Obj.SEQ_CTRL 3) = 0 ∧
        (d.setThermal fun t => { t with refRun := some (3, 0) }).thermal.refRun ≠ none ∧
        let e := ((((d.put (Obj.SEQ_CTRL 0) 1).put (Obj.SEQ_CTRL 1) 1).put (Obj.SEQ_CTRL 2) 1).put (Obj.SEQ_CTRL 3) 1)
        e.thermal.refRun = none ∧ e.device.state ≠ .service ∧ ∀ n : Fin 4, e.u (Obj.SEQ_CTRL n) ≠ 0) ∧
    ready.power.mode ≠ .off := by
  refine ⟨?_, ?_, ?_, ?_⟩ <;> decide +kernel

/-- A component of a kind with an empty key, signature and body, in the form of R464. -/
def bareComponent (kind : Nat) : Component :=
  ⟨(beBytes 4 0x47534649 ++ u8 kind ++ u8 0 ++ u8 1 ++ List.replicate 57 0).take 64, [], [], [], 64, true⟩

/-- A download of a target that is being verified, with nothing in its area. -/
def verifying (target : Nat) : Dev :=
  ({ ready with live := [(Obj.SERIAL_NUMBER.key, .bytes (List.replicate 12 0))] } : Dev).putB Obj.DEBUG_CHALLENGE
    (List.replicate 16 0) |>.setSecurity fun x => { x with load := .verifying, loadTarget := target }

/-- The body of a token for that part, of a lifetime. -/
def tokenBody (life : Nat) : List Byte := List.replicate 28 0 ++ beBytes 4 life

theorem witness_DownloadAndDebugCommands :
    (∀ t : Fin 3, (verifying t).security.load = .verifying ∧ (verifying t).security.loadTarget = t ∧
      (verifying t).loadFinding.reason ≠ 0) ∧
    ready.security.load ≠ .verifying ∧
    (let c := bareComponent 0
     let h := c.header;
      beAt h 0 4 = 0x47534649 ∧ beAt h 6 1 = 1 ∧ beAt h 4 1 = 0 ∧ c.fits = true ∧
        sha256 c.key ≠ ({ ready with live := [(Obj.VENDOR_KEY_HASH.key, .bytes [])] } : Dev).b Obj.VENDOR_KEY_HASH ∧
        sha256 c.key = ({ ready with live := [(Obj.VENDOR_KEY_HASH.key, .bytes (sha256 []))] } : Dev).b Obj.VENDOR_KEY_HASH ∧
        hssTypesOk c.key c.signature = false ∧ beAt (bareComponent 1).header 4 1 ≠ 0) ∧
    ((tokenBody 86400).take 12 = (verifying 2).b Obj.SERIAL_NUMBER ∧
      ((tokenBody 86400).drop 12).take 16 = (verifying 2).b Obj.DEBUG_CHALLENGE ∧ 1 ≤ beAt (tokenBody 1) 28 4 ∧
      beAt (tokenBody 86400) 28 4 ≤ 86400 ∧ ((tokenBody 1).drop 12).take 16 ≠ ready.b Obj.DEBUG_CHALLENGE) ∧
    (let d := (ready.put Obj.DEBUG_STATE 1).setSecurity fun x => { x with debugUntil := some 1 };
      d.security.debugUntil = some 1 ∧ d.u Obj.DEBUG_STATE ≠ 0 ∧ d.u Obj.DEBUG_STATE = 1) ∧
    (ready.security.debugUntil = none ∧ ready.u Obj.DEBUG_STATE ≠ 1) ∧
    (let d := (ready.put (Obj.ATTEST_WINDOW 7) 60).put Obj.IDENTITY_STATE 1;
      d.attestWindow 7 ≠ 0 ∧ d.u Obj.IDENTITY_STATE ≠ 3 ∧ d.u Obj.IDENTITY_STATE ≠ 0 ∧ d.security.closing = false ∧
        d.start.recovered = true) ∧
    (ready.put (Obj.ATTEST_WINDOW 7) 0).attestWindow 7 = 0 ∧
    (ready.put Obj.INDEX_NEXT 32767).treeLeft < 4096 ∧
    (let f : SigSet := ⟨.spi, 0, 0, false⟩
     let d := ready.setSecurity fun x => { x with sigs := [f] };
      d.security.sigs = [f] ∧ f.ready = false ∧ bits f.select 63 56 = 0 ∧ ready.security.sigs = []) := by
  refine ⟨?_, ?_, ?_, ?_, ?_, ?_, ?_, ?_, ?_, ?_⟩ <;> decide +kernel

theorem witness_WholeResetLeaves :
    (∀ c : Fin 4, Obj.LOOP_CODE.key ≠ (Obj.CAL_STATUS c).key) ∧
    ((ready.conv 3).cal = none ∧
      ((ready.setConv 3 fun c => { c with cal := some (calibration true []) }).conv 3).cal = some (calibration true [])) ∧
    (ready.putOn (Obj.SRC_PRESENT 3) true).on (Obj.SRC_PRESENT 3) = true ∧
    0 < (ready.setStart fun x => { x with loopCount := 1 }).start.loopCount ∧ ready.start.loopCount = 0 := by
  refine ⟨?_, ?_, ?_, ?_, ?_⟩ <;> decide +kernel

/-- A start in a phase. -/
def starting (p : BootPhase) : Dev := Dev.reset.setStart fun x => { x with phase := p }

/-- What the boot ROM finds: image slot 0 intact or not. -/
def findings (good : Bool) : BootFindings :=
  let bad : SlotFinding := ⟨some (0, 1), 0, 0⟩
  ⟨if good then ⟨none, 0, 0⟩ else bad, bad, ⟨some 1, 0, []⟩, ⟨some 1, 0, []⟩⟩

theorem witness_StartCommands :
    (∀ p ∈ [BootPhase.supply, .verify, .energy, .recovery, .load], (starting p).start.phase = p) ∧
    (starting .verify).security.romLoader = false ∧
    (∀ good : Bool, let d := starting .verify
      let b := (d.put Obj.ROLLBACK_COUNT d.security.fuses).noteSlots (findings good)
      (b.trySlots (findings good) b.security.bootOrder).2 = if good then some 0 else none) ∧
    (let e := fun v => F32.mul (F32.mul (F32.ofRat 1 2) (F32.ofInt 35)) (F32.sub (F32.mul v v) (F32.ofInt 9));
      F32.lt (e (F32.ofInt 5)) (energyNeeded 32) = false ∧ F32.lt (e (F32.ofInt 3)) (energyNeeded 32) = true) ∧
    (Dev.reset.start.cause < 256 ∧ Dev.reset.start.detail < 65536 ∧
      Dev.reset.start.loopCount < Dev.reset.u Obj.RESET_LOOP_LIMIT ∧
      Dev.reset.u Obj.RESET_LOOP_LIMIT ≤ (Dev.reset.setStart fun x => { x with loopCount := 255 }).start.loopCount) := by
  refine ⟨?_, ?_, ?_, ?_, ?_⟩ <;> decide +kernel

theorem witness_RegisterCommandsAreRequests :
    registerOp (.queueWord hostRequest) = some (hostRequest, .read 0x2600 1) := rfl

/-- A device that serves requests of a client of level MANUFACTURE. -/
def top : Request := { hostRequest with level := 3 }

theorem ready_serves : ready.serves := by unfold Dev.serves; decide +kernel

theorem witness_UnjournaledRequestsAct :
    top.id = 0 ∧ ready.readCheck top.via top.level 0x2600 1 = none ∧
    (ready.writeCheck top 0x2600 7 [1] = none ∧ appliesOf [ready.writeOf 0x2600 7 [1]] = []) ∧
    (ready.writeCheck top 0x1001 2 [3] = none ∧ (DeviceState.ofCode 3).isSome = true) ∧
    (let d := ready.setDevice fun v => { v with state := .config }
     let w := d.writeOf 0x2800 4 [1]
     let second := (d.effect top w).recordsOf [w];
      d.writeCheck top 0x2800 4 [1] = none ∧ appliesOf [w] = [.engine] ∧
        d.copyRoom [] (second.map Prod.snd) = true) := by
  refine ⟨?_, ?_, ?_, ?_, ?_⟩ <;> decide +kernel

/-- The same client with a request ID. -/
def journaled : Request := { top with id := 1 }

theorem witness_JournaledWritesWait :
    (let d := ready.setDevice fun v => { v with state := .config, wpLow := journaled.wpLow }
     let w := d.writeOf 0x1640 1 [1]
     let f := d.prospect
     let second := (f.effect journaled w).recordsOf [w]
     let copies := lastCopies (f.copiesOf w)
     let entries := d.commandEntries journaled [.write 0x1640 1 [1]]
     let item := Item.request ⟨journaled, [.write 0x1640 1 [1]], [w], d.course.elapsed, [], [], second⟩ entries copies;
      journaled.id ≠ 0 ∧ d.pendingWith journaled.client.toNat journaled.id.toNat = false ∧
        d.clientSlot journaled.client.toNat = none ∧ d.slotAvailable journaled.client.toNat = true ∧
        f.writeCheck journaled 0x1640 1 [1] = none ∧ roundsOf [item] ≤ 32 ∧ d.copyRoom copies (second.map Prod.snd) = true ∧
        d.refusedAtSource (d.u Obj.CMD_STREAM) entries.length item.bytes
          (!entries.isEmpty && d.heldByLog (d.u Obj.CMD_STREAM)) = false) ∧
    (let c : ClientSlot := ⟨journaled.client.toNat, 0, 1, 0⟩
     let d := ready.setLedger fun l => { l with clients := [c] };
      d.clientSlot journaled.client.toNat = some c ∧ c.accepted journaled.id.toNat = false ∧
        serialCmp journaled.id.toNat ((c.high + 2 ^ 32 - 255) % 2 ^ 32) 32 ≠ .before) := by
  refine ⟨?_, ?_⟩ <;> decide +kernel

theorem witness_RefusedRequestsHaveNoEffect :
    (let d := starting .load;
      d.security.romLoader = false ∧ d.stopped = false ∧ d.start.phase ≠ .supply ∧ d.start.phase ≠ .verify ∧
        d.device.state = .starting) ∧
    (ready.firstDeny top 0 [.read 0 1]).isSome = true ∧
    (let r : Request := { top with level := 0 };
      (match ready.cardAt 0x2600 7 with
        | some card => card.access != .R && decide (r.level.val < writeLevel card 0x2600 7)
        | none => false) = true ∧ ready.lastSub 0x2600 ≠ 0) := by
  refine ⟨?_, ?_, ?_⟩ <;> decide +kernel

theorem witness_EffectsOfConversionWrites :
    (ready.device.state ≠ .config ∧ ready.device.state ≠ .starting) ∧ ready.calCheck 2 1 = none ∧ ready.stCheck 0 = none ∧
    ((ready.setCapture fun c => { c with held := [⟨1, 0, 0, 0, 0, 0, 0⟩] }).heldCatch 1).isSome = true := by
  refine ⟨?_, ?_, ?_, ?_⟩ <;> decide +kernel

/-- Of the effects of system writes each is one of every device; of the trims' addresses 3 and 5 are the ends. -/
theorem witness_EffectsOfSystemWrites : 3 ≤ 3 ∧ 5 ≤ 5 ∧ 7 < 8 ∧ 15 < 16 ∧ 31 < 32 ∧ 3 < 4 := by decide

theorem witness_QueueStaysWellFormed :
    (∀ c ∈ [Instr.rstPin, .ppsEdge 0], c.wf = true) ∧
    ∃ t, step { pending := [.rstPin, .ppsEdge 0], dev := ready } = .next t := ⟨by decide, _, rfl⟩

theorem witness_IdleStepsAreTicks :
    (ready.setCourse fun c => { c with ticks := courseModulus - 1 }).course.ticks < courseModulus ∧ State.reset.pending = [] := by
  decide

theorem witness_MarksFireByPhase :
    (⟨0, 7, 0, 1024, 1023⟩ : MarkSlot).action ≠ 0 ∧ (⟨0, 7, 0, 1024, 1023⟩ : MarkSlot).divider = 2 ^ 10 := by decide

theorem witness_ConverterStatusWord : ready.convMode 3 < 4 := by decide +kernel

end Sys2Proof.Tests
end

section
/-! PROOFS. CV_STATUS (R91): the word is four fields at fixed places, and each field is read back from its place. -/

open Sys2Proof Sys2Proof.Machine

namespace Sys2Proof.FrontEnd

/-! ### A flag at a bit of a word -/

theorem flag_le_one (b : Bool) : flag b ≤ 1 := by cases b <;> decide

theorem flag_eq_one_iff (b : Bool) : flag b = 1 ↔ b = true := by cases b <;> decide

/-- A word whose binary digit `k` is the flag `b` has `b` as its bit `k`. -/
theorem bit_eq_of_digit_eq_flag {w k : Nat} {b : Bool} (h : w / 2 ^ k % 2 = flag b) : bit w k = b := by
  rw [bit, Nat.testBit_eq_decide_div_mod_eq, h, Bool.eq_iff_iff, decide_eq_true_iff, flag_eq_one_iff]

/-! ### The layout of R91 -/

/-- The layout of R91: MODE from bit 5, CHECKING at bit 4, REF_FAULT at bit 3, RECOVERING at bit 2. -/
def statusWord (mode : Nat) (checking refFault recovering : Bool) : Nat :=
  mode * 2 ^ 5 + flag checking * 2 ^ 4 + flag refFault * 2 ^ 3 + flag recovering * 2 ^ 2

section
variable (mode : Nat) (checking refFault recovering : Bool)

theorem statusWord_mode : statusWord mode checking refFault recovering / 2 ^ 5 = mode := by
  have hc := flag_le_one checking
  have hf := flag_le_one refFault
  have hr := flag_le_one recovering
  simp only [statusWord]
  omega

theorem statusWord_checking : bit (statusWord mode checking refFault recovering) 4 = checking := by
  have hc := flag_le_one checking
  have hf := flag_le_one refFault
  have hr := flag_le_one recovering
  apply bit_eq_of_digit_eq_flag
  simp only [statusWord]
  omega

theorem statusWord_refFault : bit (statusWord mode checking refFault recovering) 3 = refFault := by
  have hf := flag_le_one refFault
  have hr := flag_le_one recovering
  apply bit_eq_of_digit_eq_flag
  simp only [statusWord]
  omega

theorem statusWord_recovering : bit (statusWord mode checking refFault recovering) 2 = recovering := by
  have hr := flag_le_one recovering
  apply bit_eq_of_digit_eq_flag
  simp only [statusWord]
  omega

theorem statusWord_low_reserved : statusWord mode checking refFault recovering % 4 = 0 := by
  simp only [statusWord]
  omega

/-- The bits 15:7 are 0 where MODE fits its two bits. -/
theorem statusWord_high_reserved (h : mode < 4) : statusWord mode checking refFault recovering / 2 ^ 7 = 0 := by
  have hm := statusWord_mode mode checking refFault recovering
  omega

end

/-- CV_STATUS has this layout; its CHECKING says that the open-wire check of the converter's seat is running (R84). -/
theorem exists_cvStatus_eq_statusWord (d : Dev) (c : Nat) : ∃ checking : Bool,
    (checking = true ↔ ∃ n x, d.seatOf c = some n ∧ (d.seat n).check = some (.running x)) ∧
    d.cvStatus c = statusWord (d.convMode c) checking (d.conv c).refActive (d.conv c).overload.isSome := by
  refine ⟨_, ?_, rfl⟩
  cases hseat : d.seatOf c with
  | none => simp
  | some n =>
    cases hcheck : (d.seat n).check with
    | none => simp [hcheck]
    | some k => cases k <;> simp [hcheck]

/-- Settles O60: CV_STATUS is the word of R91's layout, and every field is read back from its place. -/
theorem converterStatusWord : Obligations.ConverterStatusWord := by
  unfold Obligations.ConverterStatusWord
  intro d c hmode
  obtain ⟨checking, hchecking, hword⟩ := exists_cvStatus_eq_statusWord d c
  simp only [hword]
  refine ⟨statusWord_high_reserved _ _ _ _ hmode, ?_, ?_, statusWord_refFault _ _ _ _, statusWord_recovering _ _ _ _,
    statusWord_low_reserved _ _ _ _⟩
  · rw [statusWord_mode, Nat.mod_eq_of_lt hmode]
  · rw [statusWord_checking, hchecking]

end Sys2Proof.FrontEnd
end

section
/-! PROOFS. The variable status byte of command 9 (R385): a quality above a limit code, each read back from its place. -/

open Sys2Proof Sys2Proof.Machine

namespace Sys2Proof.Hart

/-! ### The layout of R385 -/

/-- The layout of R385: the quality from bit 6, the limit code in bits 5:4, the low half 0. -/
def statusByte (quality limit : Nat) : Nat := quality * 2 ^ 6 + limit * 2 ^ 4

theorem statusByte_quality {quality limit : Nat} (hlimit : limit < 4) : statusByte quality limit / 64 = quality := by
  simp only [statusByte]
  omega

theorem statusByte_limit {quality limit : Nat} (hlimit : limit < 4) : bits (statusByte quality limit) 5 4 = limit := by
  simp only [statusByte, bits]
  omega

theorem statusByte_low (quality limit : Nat) : bits (statusByte quality limit) 3 0 = 0 := by
  simp only [statusByte, bits]
  omega

/-! ### The two codes of a status -/

/-- The quality of a category (R385): bad, poor accuracy, fixed, and good for every other one. -/
def categoryQuality : Nat → Nat
  | 4 => 0
  | 2 => 1
  | 3 => 2
  | _ => 3

/-- The limit code (R385) of LIM_LO and LIM_HI; where both are set, LIM_LO is shown. -/
def limitBits (lo hi : Bool) : Nat := if lo then 1 else if hi then 2 else 0

theorem limitBits_lt (lo hi : Bool) : limitBits lo hi < 4 := by
  cases lo <;> cases hi <;> decide

/-- The byte holds the quality of CAT and the limit code of the bits LIM_LO (10) and LIM_HI (11) of R170. -/
theorem variableStatus_eq_statusByte (status : Nat) :
    variableStatus status = statusByte (categoryQuality (catOf status)) (limitBits (bit status 10) (bit status 11)) := by
  have hlimit : (if bit status 10 then 16 else if bit status 11 then 32 else 0) =
      limitBits (bit status 10) (bit status 11) * 2 ^ 4 := by
    cases bit status 10 <;> cases bit status 11 <;> rfl
  rw [variableStatus, hlimit]
  rfl

theorem variableStatus_quality (status : Nat) : variableStatus status / 64 = categoryQuality (catOf status) := by
  rw [variableStatus_eq_statusByte, statusByte_quality (limitBits_lt _ _)]

theorem variableStatus_limit (status : Nat) :
    bits (variableStatus status) 5 4 = limitBits (bit status 10) (bit status 11) := by
  rw [variableStatus_eq_statusByte, statusByte_limit (limitBits_lt _ _)]

theorem variableStatus_low (status : Nat) : bits (variableStatus status) 3 0 = 0 := by
  rw [variableStatus_eq_statusByte, statusByte_low]

/-- Settles O37: the quality of each category, the limit code of each case of LIM_LO and LIM_HI, and the zero low half. -/
theorem variableStatusByte : Obligations.VariableStatusByte := by
  unfold Obligations.VariableStatusByte
  intro status
  simp only [variableStatus_quality, variableStatus_limit]
  refine ⟨?bad, ?poor, ?fixed, ?good, ?low, ?high, ?neither, variableStatus_low status⟩
  case bad => intro hcat; rw [hcat]; rfl
  case poor => intro hcat; rw [hcat]; rfl
  case fixed => intro hcat; rw [hcat]; rfl
  case good => rintro (hcat | hcat) <;> rw [hcat] <;> rfl
  case low => intro hlo; simp [hlo, limitBits]
  case high => intro hlo hhi; simp [hlo, hhi, limitBits]
  case neither => intro hlo hhi; simp [hlo, hhi, limitBits]

end Sys2Proof.Hart
end

section
/-! PROOFS. UNATTESTED at the formation of an entry (R478): bit 0 of FLAGS is written, and nothing else of the entry is. -/

open Sys2Proof Sys2Proof.Machine

namespace Sys2Proof.Security

/-! ### Setting and clearing one bit -/

theorem bit_setBit (n k j : Nat) : bit (setBit n k) j = (bit n j || decide (k = j)) := by
  rw [bit, setBit, Nat.testBit_or, Nat.testBit_two_pow, bit]

/-- An odd number loses bit 0, and only it, when it is lowered by 1. -/
theorem testBit_sub_one_of_odd {m : Nat} (hodd : m % 2 = 1) (i : Nat) :
    (m - 1).testBit i = (m.testBit i && !decide (i = 0)) := by
  cases i with
  | zero =>
    have heven : (m - 1) % 2 = 0 := by omega
    simp [Nat.testBit_zero, heven]
  | succ i =>
    have hhalf : (m - 1) / 2 = m / 2 := by omega
    simp [Nat.testBit_succ, hhalf]

/-- Where bit `k` is set, lowering by `2 ^ k` lowers the part from bit `k` on by 1 and keeps the part below. -/
theorem sub_two_pow_eq_of_testBit {n k : Nat} (hset : n.testBit k = true) :
    n - 2 ^ k = 2 ^ k * (n / 2 ^ k - 1) + n % 2 ^ k := by
  have hle : 2 ^ k * 1 ≤ 2 ^ k * (n / 2 ^ k) :=
    Nat.mul_le_mul_left _ (Nat.div_pos (Nat.ge_two_pow_of_testBit hset) (Nat.two_pow_pos k))
  have hsplit := Nat.div_add_mod n (2 ^ k)
  rw [Nat.mul_sub]
  omega

theorem testBit_sub_two_pow {n k : Nat} (hset : n.testBit k = true) (j : Nat) :
    (n - 2 ^ k).testBit j = (n.testBit j && !decide (k = j)) := by
  have hlow : n % 2 ^ k < 2 ^ k := Nat.mod_lt _ (Nat.two_pow_pos k)
  rw [sub_two_pow_eq_of_testBit hset, Nat.testBit_two_pow_mul_add _ hlow]
  split
  case isTrue hbelow => simp [Nat.testBit_mod_two_pow, hbelow, Nat.ne_of_gt hbelow]
  case isFalse habove =>
    have hodd : n / 2 ^ k % 2 = 1 := by simpa [Nat.testBit_eq_decide_div_mod_eq] using hset
    obtain ⟨i, rfl⟩ := Nat.exists_eq_add_of_le (Nat.le_of_not_lt habove)
    simp [testBit_sub_one_of_odd hodd, Nat.testBit_div_two_pow, Nat.add_comm]

theorem bit_clearBit (n k j : Nat) : bit (clearBit n k) j = (bit n j && !decide (k = j)) := by
  unfold bit clearBit
  split
  case isTrue hset => exact testBit_sub_two_pow hset j
  case isFalse hclear =>
    by_cases hkj : k = j
    · subst hkj
      simp [hclear]
    · simp [hkj]

/-! ### The entry as it is formed -/

/-- The flags of a formed entry: UNATTESTED is written as the case of R478 says. -/
theorem formed_flags (d : Dev) (e : Entry) :
    (d.formed e).flags = if d.unattested e.stream then setBit e.flags 0 else clearBit e.flags 0 := by
  unfold Dev.formed
  split <;> rfl

theorem formed_with_flags (d : Dev) (e : Entry) : { d.formed e with flags := e.flags } = e := by
  unfold Dev.formed
  split <;> rfl

theorem unattested_iff (d : Dev) (stream : Nat) :
    d.unattested stream = true ↔
      (d.u (Obj.ATTEST_WINDOW stream) = 0 ∨ d.u Obj.IDENTITY_STATE = 0 ∨ d.u Obj.IDENTITY_STATE = 3) := by
  simp only [Dev.unattested, Bool.or_eq_true, beq_iff_eq, or_assoc]

theorem bit_formed_zero (d : Dev) (e : Entry) : bit (d.formed e).flags 0 = d.unattested e.stream := by
  rw [formed_flags]
  split
  case isTrue hun => simp [bit_setBit, hun]
  case isFalse hatt => simp [bit_clearBit, hatt]

theorem bit_formed_of_pos (d : Dev) (e : Entry) {k : Nat} (hk : 0 < k) :
    bit (d.formed e).flags k = bit e.flags k := by
  rw [formed_flags]
  split
  case isTrue => simp [bit_setBit, Nat.ne_of_lt hk]
  case isFalse => simp [bit_clearBit, Nat.ne_of_lt hk]

/-- Settles O22: bit 0 is the case of R478, the bits above it and the fields beside FLAGS are the entry's own. -/
theorem unattestedEntries : Obligations.UnattestedEntries := by
  unfold Obligations.UnattestedEntries
  intro d e
  refine ⟨?unattested, fun _ hk => bit_formed_of_pos d e hk, formed_with_flags d e⟩
  case unattested => rw [bit_formed_zero, unattested_iff]

end Sys2Proof.Security
end

section
/-! PROOFS. APP_CORE_RESET (R13, R14, R371, R486): the core stops, its pending transition goes, and every session closes. That a session
closes moves nothing beside what sessions own is shown once, as a relation of two devices that composes over the operations of
`Dev.closeSession`. -/

open Sys2Proof Sys2Proof.Machine

namespace Sys2Proof.Startup

/-! ### What the end of sessions leaves alone -/

/-- The device with what sessions, the events of their end and the paths that follow them own blanked: the register file, catches and
location, the commit buffer, the network, signatures, and the device chapter's own state beside its state, the pending transition, the
core and the replies given out. -/
def besideSessions (d : Dev) : Dev :=
  { d with
    live := []
    capture := Capture.reset
    ledger := Ledger.reset
    net := Net.reset
    security := Security.reset
    device := { Device.reset with
      state := d.device.state, pending := d.device.pending, appRunning := d.device.appRunning, replies := d.device.replies } }

/-- The objects that the end of a session never writes: all but those of an event, SESSIONS_OPEN, LOC_UP_STATE and SUB_STATE. -/
def keptRegister (q : Reg) : Prop :=
  q.quiet ∧ q.key ≠ Obj.SESSIONS_OPEN.key ∧ q.key ≠ Obj.LOC_UP_STATE.key ∧ ∀ u, q.key ≠ (Obj.SUB_STATE u).key

/-- From `d` to `e` sessions may have ended, and nothing else has happened but what goes with their end. -/
structure SessionsEnd (d e : Dev) : Prop where
  parts : besideSessions e = besideSessions d
  registers : ∀ q, keptRegister q → e.get q = d.get q
  sessions : ∀ n, d.session n = none → e.session n = none

theorem keptRegister_of_lt {q : Reg} (hcount : q.key ≠ Obj.EVENT_COUNT.key) (hlast : q.key ≠ Obj.EVENT_LAST.key)
    (hopen : q.key ≠ Obj.SESSIONS_OPEN.key) (hloc : q.key ≠ Obj.LOC_UP_STATE.key) (hlow : q.key < Obj.ENTRY_FLAGS.key) :
    keptRegister q := by
  refine ⟨⟨hcount, hlast, Nat.ne_of_lt hlow, fun n => ?refused⟩, hopen, hloc, fun u => ?subState⟩
  all_goals
    simp only [Obj.ENTRY_FLAGS, Obj.STREAM_REFUSED, Obj.SUB_STATE] at hlow ⊢
    omega

/-- The four objects that show a reset of the application core are such objects. -/
theorem keptRegister_appResetObjects : keptRegister Obj.RESET_CAUSE ∧ keptRegister Obj.APP_RESETS ∧
    keptRegister Obj.APP_RESET_CAUSE ∧ keptRegister Obj.STATE_PENDING := by
  refine ⟨?resetCause, ?appResets, ?appResetCause, ?statePending⟩
  all_goals exact keptRegister_of_lt (by decide) (by decide) (by decide) (by decide) (by decide)

namespace SessionsEnd

variable {d e g : Dev}

theorem refl (d : Dev) : SessionsEnd d d := ⟨rfl, fun _ _ => rfl, fun _ h => h⟩

theorem trans (h : SessionsEnd d e) (h' : SessionsEnd e g) : SessionsEnd d g where
  parts := h'.parts.trans h.parts
  registers q hq := (h'.registers q hq).trans (h.registers q hq)
  sessions n hn := h'.sessions n (h.sessions n hn)

theorem u (h : SessionsEnd d e) {q : Reg} (hq : keptRegister q) : e.u q = d.u q :=
  congrArg Value.toNat (h.registers q hq)

theorem part (h : SessionsEnd d e) {α : Type} (f : Dev → α) : f (besideSessions e) = f (besideSessions d) :=
  congrArg f h.parts

theorem when (c : Bool) {f : Dev → Dev} (h : SessionsEnd d (f d)) : SessionsEnd d (d.when c f) := by
  unfold Dev.when
  split
  case isTrue => exact h
  case isFalse => exact refl d

theorem foldl {α : Type} (f : Dev → α → Dev) (hf : ∀ d a, SessionsEnd d (f d a)) (l : List α) (d : Dev) :
    SessionsEnd d (l.foldl f d) := by
  induction l generalizing d with
  | nil => exact refl d
  | cons a l ih => exact (hf d a).trans (ih (f d a))

/-! ### The operations of which the end of a session consists -/

theorem put (d : Dev) {r : Reg} (n : Nat) (hr : ∀ q, keptRegister q → q.key ≠ r.key) : SessionsEnd d (d.put r n) :=
  ⟨rfl, fun q hq => Dev.set_get_ne _ _ _ _ (hr q hq), fun _ h => h⟩

theorem putSubState (d : Dev) (u n : Nat) : SessionsEnd d (d.put (Obj.SUB_STATE u) n) :=
  put d n fun _ ⟨_, _, _, hsub⟩ => hsub u

theorem setSub (d : Dev) (u : Nat) (f : SubState → SubState) : SessionsEnd d (d.setSub u f) :=
  ⟨rfl, fun _ _ => rfl, fun _ h => h⟩

theorem setCapture (d : Dev) (f : Capture → Capture) : SessionsEnd d (d.setCapture f) :=
  ⟨rfl, fun _ _ => rfl, fun _ h => h⟩

theorem forgetVia (v : Via) (d : Dev) : SessionsEnd d (d.forgetVia v) :=
  ⟨rfl, fun _ _ => rfl, fun _ h => h⟩

theorem raise (d : Dev) (code : Nat) (data : List Byte) : SessionsEnd d (d.raise code data) where
  parts := by simp [besideSessions]
  registers _ hq := Dev.raise_get _ _ _ _ hq.1
  sessions n hn := by rwa [Dev.session, Dev.raise_net]

end SessionsEnd

/-- Session `n` is taken out of the table. -/
def freeSession (n : Nat) (d : Dev) : Dev := d.setNet fun v => { v with sessions := v.sessions.set n none }

theorem freeSession_session_self (n : Nat) (d : Dev) : (freeSession n d).session n = none := by
  simp only [freeSession, Dev.session, Dev.setNet_net, List.getD_eq_getElem?_getD, List.getElem?_set_self']
  cases d.net.sessions[n]? <;> rfl

theorem SessionsEnd.free (n : Nat) (d : Dev) : SessionsEnd d (freeSession n d) where
  parts := rfl
  registers _ _ := rfl
  sessions m hm := by
    by_cases hnm : n = m
    · subst hnm
      exact freeSession_session_self n d
    · simpa [freeSession, Dev.session, List.getElem?_set, hnm] using hm

/-! ### One session closes -/

namespace SessionsEnd

theorem checkPaths (d : Dev) : SessionsEnd d d.checkPaths := by
  refine foldl _ (fun d u => ?path) _ d
  split
  case isTrue => exact refl d
  case isFalse =>
    split
    · exact when _ ((putSubState d u 1).trans (setSub _ u _))
    · exact when _ ((putSubState d u 3).trans (setSub _ u _))

theorem sessionsChanged (d : Dev) : SessionsEnd d d.sessionsChanged :=
  (put d _ fun _ ⟨_, hopen, _, _⟩ => hopen).trans (checkPaths _)

theorem locLost (reason : Nat) (d : Dev) : SessionsEnd d (d.locLost reason) :=
  ((put d reason fun _ ⟨_, _, hloc, _⟩ => hloc).trans (setCapture _ _)).trans (when _ (raise _ _ _))

end SessionsEnd

/-- A session in use that leaves the table is freed first; the rest ends no more than sessions. -/
theorem sessionsEnd_dropSession_of_isSome {n : Nat} {d : Dev} (h : (d.session n).isSome = true) :
    SessionsEnd (freeSession n d) (d.dropSession n) := by
  have hnone : (d.session n).isNone = false := by simpa using h
  simp only [Dev.dropSession, hnone, Bool.false_eq_true, if_false]
  refine SessionsEnd.trans ?forget (SessionsEnd.sessionsChanged _)
  split
  case isTrue => exact SessionsEnd.forgetVia _ _
  case isFalse => exact SessionsEnd.refl _

/-- Closing a session frees its place and ends no more than sessions, or the place was free and nothing happens. -/
theorem closeSession_cases (n : Nat) (d : Dev) : SessionsEnd (freeSession n d) (d.closeSession n) ∨
    (d.session n = none ∧ d.closeSession n = d) := by
  unfold Dev.closeSession
  split
  next h => exact .inr ⟨h, rfl⟩
  next s h =>
    have hdrop := sessionsEnd_dropSession_of_isSome (d := d) (n := n) (by simp [h])
    exact .inl (hdrop.trans (SessionsEnd.when _ (SessionsEnd.locLost 2 _)))

theorem SessionsEnd.closeSession (n : Nat) (d : Dev) : SessionsEnd d (d.closeSession n) := by
  obtain h | ⟨_, h⟩ := closeSession_cases n d
  · exact (SessionsEnd.free n d).trans h
  · rw [h]
    exact SessionsEnd.refl d

theorem closeSession_session_self (n : Nat) (d : Dev) : (d.closeSession n).session n = none := by
  obtain h | ⟨hnone, h⟩ := closeSession_cases n d
  · exact h.sessions n (freeSession_session_self n d)
  · rw [h, hnone]

/-! ### Every session closes -/

theorem SessionsEnd.closeEach (l : List Nat) (d : Dev) : SessionsEnd d (l.foldl (fun d n => d.closeSession n) d) :=
  SessionsEnd.foldl _ (fun d n => SessionsEnd.closeSession n d) l d

theorem SessionsEnd.closeSessions (d : Dev) : SessionsEnd d d.closeSessions := SessionsEnd.closeEach _ d

theorem closeEach_session {l : List Nat} {n : Nat} (hn : n ∈ l) (d : Dev) :
    (l.foldl (fun d n => d.closeSession n) d).session n = none := by
  induction l generalizing d with
  | nil => cases hn
  | cons m l ih =>
    obtain rfl | hl := List.mem_cons.mp hn
    · exact (SessionsEnd.closeEach l _).sessions n (closeSession_session_self n d)
    · exact ih hl _

theorem closeSessions_session {n : Nat} (hn : n < 16) (d : Dev) : d.closeSessions.session n = none :=
  closeEach_session (List.mem_range.mpr hn) d

/-! ### The reset of the application core -/

/-- The device whose application core has stopped, its sessions not yet closed (R13, R486). -/
def coreStopped (cause : AppResetCause) (d : Dev) : Dev :=
  (((d.bump Obj.APP_RESETS).put Obj.APP_RESET_CAUSE cause.code).setDevice fun v => { v with appRunning := false }).dropPending

/-- A running core's reset: it stops, its sessions close, and the host ports forget the operation they hold. -/
theorem appReset_of_running (cause : AppResetCause) {d : Dev} (h : d.device.appRunning = true) :
    d.appReset cause = (coreStopped cause d).closeSessions.setLink fun l =>
      { l with hosts := l.hosts.map fun h => { h with holding := none } } := by
  simp [Dev.appReset, h, coreStopped]

theorem coreStopped_u_ne (cause : AppResetCause) (d : Dev) {q : Reg} (hcount : q.key ≠ Obj.APP_RESETS.key)
    (hcause : q.key ≠ Obj.APP_RESET_CAUSE.key) (hpending : q.key ≠ Obj.STATE_PENDING.key) :
    (coreStopped cause d).u q = d.u q := by
  rw [coreStopped, Dev.dropPending, Dev.put_u_ne _ _ _ _ hpending, Dev.setDevice_u, Dev.setDevice_u,
    Dev.put_u_ne _ _ _ _ hcause, Dev.bump_u_ne _ _ _ hcount]

theorem coreStopped_appResets (cause : AppResetCause) (d : Dev) :
    (coreStopped cause d).u Obj.APP_RESETS = (d.u Obj.APP_RESETS + 1) % 2 ^ 32 := by
  rw [coreStopped, Dev.dropPending, Dev.put_u_ne _ _ _ _ (by decide), Dev.setDevice_u, Dev.setDevice_u,
    Dev.put_u_ne _ _ _ _ (by decide), Dev.bump_u_self]
  rfl

theorem coreStopped_appResetCause (cause : AppResetCause) (d : Dev) :
    (coreStopped cause d).u Obj.APP_RESET_CAUSE = cause.code := by
  rw [coreStopped, Dev.dropPending, Dev.put_u_ne _ _ _ _ (by decide), Dev.setDevice_u, Dev.setDevice_u, Dev.put_u_self]
  cases cause <;> rfl

theorem coreStopped_statePending (cause : AppResetCause) (d : Dev) : (coreStopped cause d).u Obj.STATE_PENDING = 0xFF := by
  rw [coreStopped, Dev.dropPending, Dev.put_u_self]
  rfl

/-- Settles O2: the core's stop writes its count, its cause and the dropped transition, and the end of the sessions leaves these and
every part named as the stop left them. -/
theorem appCoreResetKeepsTheRest : Obligations.AppCoreResetKeepsTheRest := by
  unfold Obligations.AppCoreResetKeepsTheRest
  intro s cause hrun
  have hend : SessionsEnd (coreStopped cause s.dev.cleared) (coreStopped cause s.dev.cleared).closeSessions :=
    SessionsEnd.closeSessions _
  have hnone : ∀ n, n < 16 → (coreStopped cause s.dev.cleared).closeSessions.session n = none :=
    fun _ hn => closeSessions_session hn _
  have hreset := appReset_of_running (d := s.dev.cleared) cause hrun
  generalize (coreStopped cause s.dev.cleared).closeSessions = e at hend hnone hreset
  refine after_of_act (Dev.appReset cause) rfl ?replies ?left
  case replies =>
    rw [hreset]
    exact hend.part (·.device.replies)
  case left =>
    rw [hreset]
    obtain ⟨keptCause, keptCount, keptWhich, keptPending⟩ := keptRegister_appResetObjects
    have hcause := (hend.u keptCause).trans (coreStopped_u_ne cause _ (by decide) (by decide) (by decide))
    have hcount := (hend.u keptCount).trans (coreStopped_appResets cause _)
    have hwhich := (hend.u keptWhich).trans (coreStopped_appResetCause cause _)
    have hpending := (hend.u keptPending).trans (coreStopped_statePending cause _)
    exact ⟨hcause, hcount, hwhich, hpending,
      hend.part (·.device.pending), hend.part (·.device.appRunning), hend.part (·.device.state),
      hnone,
      hend.part (·.nvm), hend.part (·.shadow), hend.part (·.course), hend.part (·.convs), hend.part (·.seats), hend.part (·.queue),
      hend.part (·.xcheck), hend.part (·.engine), hend.part (·.outputs), hend.part (·.pwm), hend.part (·.power),
      hend.part (·.thermal), hend.part (·.start)⟩

end Sys2Proof.Startup
end

section
/-! PROOFS. The queue of commands and steps without one (log 1, log 3): commands are taken first in, first out, one a step, whatever waits
behind them; a step with nothing waiting is one tick. -/

open Sys2Proof Sys2Proof.Machine

namespace Sys2Proof.Steps

/-! ### A step with a command in front -/

theorem step_cons (c : Instr) (rest : List Instr) (d : Dev) :
    step { pending := c :: rest, dev := d } = exec c { pending := rest, dev := d } := rfl

/-- Settles O1: the front command is the one that a step runs, on the rest of the queue. -/
theorem stepRunsTheFrontCommand : Obligations.StepRunsTheFrontCommand := by
  unfold Obligations.StepRunsTheFrontCommand
  intro c rest s
  exact step_cons c rest s.dev

theorem runSteps_cons {c : Instr} {rest : List Instr} {d e : Dev} (n : Nat)
    (h : exec c { pending := rest, dev := d } = .next { pending := rest, dev := e }) :
    runSteps (n + 1) { pending := c :: rest, dev := d } = runSteps n { pending := rest, dev := e } := by
  rw [runSteps, step_cons, h]

/-- Run one step more, and a further command is taken. -/
theorem runSteps_succ_of_next {n : Nat} {s t : State} (h : runSteps n s = .next t) : runSteps (n + 1) s = step t := by
  induction n generalizing s with
  | zero =>
    obtain rfl : s = t := by simpa [runSteps] using h
    simp only [runSteps]
    cases step s <;> rfl
  | succ n ih =>
    rw [runSteps] at h ⊢
    cases hs : step s with
    | next u =>
      rw [hs] at h
      exact ih h
    | fault f => rw [hs] at h; cases h
    | refused r => rw [hs] at h; cases h

/-- The commands of `a` end in one device, whatever waits behind them. -/
theorem exists_runSteps_length (a : List Instr) (d : Dev) : ∃ e, ∀ b : List Instr,
    runSteps a.length { pending := a ++ b, dev := d } = .next { pending := b, dev := e } := by
  induction a generalizing d with
  | nil => exact ⟨d, fun _ => rfl⟩
  | cons c a ih =>
    obtain ⟨e, he, -⟩ := exec_ignores_queue c d [] []
    obtain ⟨f, hf⟩ := ih e
    refine ⟨f, fun b => ?_⟩
    obtain ⟨e', hnil, hrest⟩ := exec_ignores_queue c d [] (a ++ b)
    obtain rfl : e = e' := by simpa [he] using hnil
    exact (runSteps_cons a.length hrest).trans (hf b)

/-- Settles O55: one device for every rest of the queue, by induction on the commands taken. -/
theorem commandsAreTakenInOrder : Obligations.CommandsAreTakenInOrder := by
  unfold Obligations.CommandsAreTakenInOrder
  intro a b d
  obtain ⟨e, he⟩ := exists_runSteps_length a d
  refine ⟨e, he b, ?alone, ?further⟩
  case alone => simpa using he []
  case further =>
    rintro c rest rfl
    exact runSteps_succ_of_next (he (c :: rest))

/-! ### The queue after a step -/

/-- A step takes the front of the queue and leaves its rest. -/
theorem pending_of_step {s t : State} (h : step s = .next t) : t.pending = s.pending.tail := by
  cases hq : s.pending with
  | nil =>
    rw [step_empty s hq] at h
    cases h
    exact hq
  | cons c rest =>
    obtain ⟨e, he⟩ := exec_next c { s with pending := rest }
    rw [step_front c s rest hq, he] at h
    cases h
    rfl

/-- Settles O56: what waits after a step is the tail of what waited, and every command ends in a next state. -/
theorem queueStaysWellFormed : Obligations.QueueStaysWellFormed := by
  unfold Obligations.QueueStaysWellFormed
  refine ⟨fun s t hwf hstep => ?step, fun c s => ?exec⟩
  case step =>
    have hpending := pending_of_step hstep
    refine ⟨fun c hc => hwf c ?_, hpending⟩
    rw [hpending] at hc
    exact List.mem_of_mem_tail hc
  case exec =>
    obtain ⟨e, he⟩ := exec_next c s
    exact ⟨_, he, rfl⟩

end Sys2Proof.Steps
end

section
/-! PROOFS. Course time and elapsed time (R25, R26, R42; log 3): what the operations of the time sources leave of the clocks, and steps
with no command waiting. -/

open Sys2Proof Sys2Proof.Machine

namespace Sys2Proof.Steps

/-! ### Operations at one instant -/

/-- From `d` to `e` no time has passed, course time was not changed, and no reply was given out. -/
structure SameInstant (d e : Dev) : Prop where
  ticks : e.course.ticks = d.course.ticks
  elapsed : e.course.elapsed = d.course.elapsed
  replies : e.device.replies = d.device.replies

namespace SameInstant

variable {d e g : Dev}

theorem refl (d : Dev) : SameInstant d d := ⟨rfl, rfl, rfl⟩

theorem ite {c : Prop} [Decidable c] (h : SameInstant d e) (h' : SameInstant d g) : SameInstant d (if c then e else g) := by
  split
  case isTrue => exact h
  case isFalse => exact h'

theorem when (c : Bool) (f : Dev → Dev) (h : SameInstant d e) (hf : SameInstant d (f e)) : SameInstant d (e.when c f) :=
  ite hf h

/-- An operation that moves no clock by its definition. -/
theorem of_eq (f : Dev → Dev) (h : SameInstant d e) (ht : (f e).course.ticks = e.course.ticks)
    (he : (f e).course.elapsed = e.course.elapsed) (hr : (f e).device.replies = e.device.replies) : SameInstant d (f e) :=
  ⟨ht.trans h.ticks, he.trans h.elapsed, hr.trans h.replies⟩

theorem setCourse (f : Course → Course) (h : SameInstant d e) (ht : (f e.course).ticks = e.course.ticks)
    (he : (f e.course).elapsed = e.course.elapsed) : SameInstant d (e.setCourse f) := of_eq (Dev.setCourse f) h ht he rfl

theorem put (r : Reg) (n : Nat) (h : SameInstant d e) : SameInstant d (e.put r n) := of_eq (Dev.put r n) h rfl rfl rfl

theorem putI (r : Reg) (n : Int) (h : SameInstant d e) : SameInstant d (e.putI r n) := of_eq (Dev.putI r n) h rfl rfl rfl

theorem tickFresh (h : SameInstant d e) : SameInstant d e.tickFresh := of_eq Dev.tickFresh h rfl rfl rfl

theorem setFlag (r : Reg) (k : Nat) (h : SameInstant d e) : SameInstant d (e.setFlag r k) :=
  of_eq (Dev.setFlag r k) h rfl rfl rfl

theorem raise (code : Nat) (data : List Byte) (h : SameInstant d e) : SameInstant d (e.raise code data) :=
  of_eq (Dev.raise code data) h (by simp) (by simp) (by simp)

theorem flagRaise (r : Reg) (k code : Nat) (data : List Byte) (h : SameInstant d e) :
    SameInstant d (e.flagRaise r k code data) := raise _ _ (setFlag r k h)

theorem setSource (src : Source) (f : SourceState → SourceState) (h : SameInstant d e) : SameInstant d (e.setSource src f) :=
  setCourse _ h rfl rfl

theorem setSeries (place : Nat) (x : Option Series) (h : SameInstant d e) : SameInstant d (e.setSeries place x) :=
  setCourse _ h rfl rfl

theorem noteQuality (h : SameInstant d e) : SameInstant d e.noteQuality := by
  unfold Dev.noteQuality
  exact ite h (setCourse _ h rfl rfl)

theorem enterSync (st : SyncState) (h : SameInstant d e) : SameInstant d (e.enterSync st) := by
  unfold Dev.enterSync
  cases st
  case holdover => exact flagRaise _ _ _ _ (noteQuality ⟨h.ticks, h.elapsed, h.replies⟩)
  case free => exact flagRaise _ _ _ _ (noteQuality ⟨h.ticks, h.elapsed, h.replies⟩)
  case rc => exact flagRaise _ _ _ _ (noteQuality ⟨h.ticks, h.elapsed, h.replies⟩)
  all_goals exact noteQuality ⟨h.ticks, h.elapsed, h.replies⟩

theorem correctOffset (off : Int) (h : SameInstant d e) : SameInstant d (e.correctOffset off) := by
  unfold Dev.correctOffset
  exact ite (setCourse _ h rfl rfl) (setCourse _ (tickFresh h) rfl rfl)

theorem measureSelected (src : Source) (h : SameInstant d e) : SameInstant d (e.measureSelected src) := by
  unfold Dev.measureSelected
  split
  next off _ =>
    have hmeasured := setCourse (fun c => { c with filtered := off }) (putI Obj.OFFSET_LAST off h) rfl rfl
    exact ite hmeasured (correctOffset off hmeasured)
  next => exact h

theorem selectSource (src : Source) (h : SameInstant d e) : SameInstant d (e.selectSource src) := by
  unfold Dev.selectSource
  exact noteQuality (measureSelected _ (put _ _ (setCourse _ (ite h (enterSync _ h)) rfl rfl)))

theorem switchSource (src : Source) (h : SameInstant d e) : SameInstant d (e.switchSource src) :=
  selectSource src (flagRaise _ _ _ _ h)

theorem loseActive (h : SameInstant d e) : SameInstant d e.loseActive := by
  unfold Dev.loseActive
  split
  next s _ => exact switchSource s h
  next => exact noteQuality (put _ _ (setCourse _ (ite (enterSync _ h) h) rfl rfl))

theorem reselect (h : SameInstant d e) : SameInstant d e.reselect := by
  unfold Dev.reselect
  split
  next =>
    split
    next s _ => exact selectSource s h
    next => exact h
  next => exact ite h (loseActive h)

theorem sourceQualified (src : Source) (h : SameInstant d e) : SameInstant d (e.sourceQualified src) := by
  unfold Dev.sourceQualified
  exact ite h (reselect (raise _ _ (put _ _ (setSource _ _ h))))

theorem clearSeries (l : List Nat) (h : SameInstant d e) : SameInstant d (l.foldl (fun d k => d.setSeries k none) e) := by
  induction l generalizing e with
  | nil => exact h
  | cons k l ih => exact ih (setSeries k none h)

theorem sourceLost (src : Source) (h : SameInstant d e) : SameInstant d (e.sourceLost src) := by
  unfold Dev.sourceLost
  have hcleared := clearSeries (sourcePlaces src)
    (setSource src (fun s => { s with qualified := false, last := none, offset := none }) h)
  refine ite h (ite (loseActive ?lost) ?lost)
  cases src
  all_goals exact raise _ _ (setCourse _ (put _ _ hcleared) rfl rfl)

theorem judgeSample (src : Source) (off : Int) (h : SameInstant d e) : SameInstant d (e.judgeSample src off) := by
  unfold Dev.judgeSample
  split
  · exact enterSync _ h
  · exact ite (ite (enterSync _ h) (setCourse _ h rfl rfl)) (setCourse _ h rfl rfl)
  · exact ite (ite (enterSync _ h) (setCourse _ h rfl rfl)) (setCourse _ h rfl rfl)
  · exact ite (ite (enterSync _ h) (setCourse _ h rfl rfl)) (setCourse _ h rfl rfl)
  · exact h

theorem filterSample (off : Int) (h : SameInstant d e) : SameInstant d (e.filterSample off) := by
  unfold Dev.filterSample
  exact setCourse _ (putI _ _ (tickFresh (tickFresh (tickFresh h)))) rfl rfl

theorem offsetSample (src : Source) (off : Int) (h : SameInstant d e) : SameInstant d (e.offsetSample src off) := by
  unfold Dev.offsetSample
  have hrenewed := setSource src (fun s => { s with last := some e.course.elapsed, offset := some off }) h
  have hmeasured := putI Obj.OFFSET_LAST off hrenewed
  exact ite hrenewed (ite hmeasured (noteQuality (judgeSample _ _ (correctOffset _ (filterSample _ hmeasured)))))

theorem rejectPps (h : SameInstant d e) : SameInstant d e.rejectPps := flagRaise _ _ _ _ (put _ _ h)

theorem forgetMaster (h : SameInstant d e) : SameInstant d e.forgetMaster := of_eq Dev.forgetMaster h rfl rfl rfl

theorem growInSleep (h : SameInstant d e) : SameInstant d e.growInSleep := of_eq Dev.growInSleep h rfl rfl rfl

theorem startWake (cause : Nat) (h : SameInstant d e) : SameInstant d (e.startWake cause) :=
  put _ _ (of_eq (Dev.setPower _) (growInSleep h) rfl rfl rfl)

theorem wakeEvent (b : Nat) (h : SameInstant d e) : SameInstant d (e.wakeEvent b) := by
  unfold Dev.wakeEvent
  refine ite h ?_
  split
  · exact startWake _ h
  · exact startWake _ h
  · exact of_eq (Dev.setPower _) (put _ _ h) rfl rfl rfl
  · exact of_eq (Dev.setPower _) h rfl rfl rfl
  · exact of_eq (Dev.setPower _) h rfl rfl rfl
  · exact h

end SameInstant

/-! ### Operations at a later instant -/

/-- From `d` to `e` elapsed time has not gone back, course time has stayed in its range, and no reply was given out. -/
structure ClockMoves (d e : Dev) : Prop where
  ticks : d.course.ticks < courseModulus → e.course.ticks < courseModulus
  elapsed : d.course.elapsed ≤ e.course.elapsed
  replies : e.device.replies = d.device.replies

theorem courseModulus_pos : 0 < courseModulus := by decide

namespace ClockMoves

variable {d e g : Dev}

theorem of_sameInstant (h : SameInstant d e) : ClockMoves d e :=
  ⟨fun ht => h.ticks ▸ ht, Nat.le_of_eq h.elapsed.symm, h.replies⟩

theorem refl (d : Dev) : ClockMoves d d := of_sameInstant (SameInstant.refl d)

theorem andThen (h : ClockMoves d e) (h' : SameInstant e g) : ClockMoves d g :=
  ⟨fun ht => h'.ticks ▸ h.ticks ht, h'.elapsed ▸ h.elapsed, h'.replies.trans h.replies⟩

theorem advance (n : Nat) (d : Dev) : ClockMoves d (d.advance n) where
  ticks ht := by
    unfold Dev.advance
    split
    case isTrue => exact ht
    case isFalse => exact Nat.mod_lt _ courseModulus_pos
  elapsed := Dev.advance_elapsed d n ▸ Nat.le_add_right _ _
  replies := by simp

theorem advanceTo (t : Nat) (d : Dev) : ClockMoves d (d.advanceTo t) := advance _ d

theorem ppsEdge (instant : Nat) (d : Dev) : ClockMoves d (d.ppsEdge instant) := by
  have hedge : ∀ t, SameInstant (d.advanceTo instant) ((d.advanceTo instant).setCourse fun c => { c with ppsEdge := t }) :=
    fun t => SameInstant.setCourse _ (SameInstant.refl _) rfl rfl
  unfold Dev.ppsEdge
  split
  · exact refl d
  refine (advanceTo instant d).andThen ?_
  dsimp only
  split
  · exact (hedge _).setSeries 3 _
  · refine .ite ((hedge _).setSeries 3 _).rejectPps (.ite ?_ ?_)
    · exact ((hedge _).setSeries 3 _).rejectPps
    · exact ((hedge _).setSeries 3 _).offsetSample .pps _

theorem qualified (src : Source) (d : Dev) : ClockMoves d (d.qualified src) := by
  unfold Dev.qualified
  split
  · exact refl d
  next t _ =>
    have h := SameInstant.refl (d.advanceTo t)
    exact (advanceTo t d).andThen ((h.when _ _ (h.setCourse _ rfl rfl)).sourceQualified src)

theorem lost (src : Source) (d : Dev) : ClockMoves d (d.lost src) := by
  unfold Dev.lost
  split
  · exact refl d
  · have h := SameInstant.refl (d.advanceTo (d.lossDue src))
    exact (advanceTo _ d).andThen ((h.when _ _ h.forgetMaster).sourceLost src)

theorem switchHoldExpiry (d : Dev) : ClockMoves d d.switchHoldExpiry := by
  unfold Dev.switchHoldExpiry
  split
  · exact refl d
  · exact (advanceTo _ d).andThen ((SameInstant.refl _).switchSource _)

theorem holdoverLimit (d : Dev) : ClockMoves d d.holdoverLimit := by
  unfold Dev.holdoverLimit
  split
  · exact (advanceTo _ d).andThen ((SameInstant.refl _).enterSync _)
  · exact refl d

theorem courseWrap (d : Dev) : ClockMoves d d.courseWrap :=
  (advance _ d).andThen ((SameInstant.refl _).flagRaise _ _ _ _)

theorem fireAlarm (n : Nat) (d : Dev) : ClockMoves d (d.fireAlarm n) := by
  unfold Dev.fireAlarm
  split
  · exact (advanceTo _ d).andThen (((SameInstant.refl _).setFlag _ _).setCourse _ rfl rfl)
  · exact refl d

theorem alarmFires (n : Nat) (d : Dev) : ClockMoves d (d.alarmFires n) := by
  unfold Dev.alarmFires
  split
  · exact (fireAlarm n d).andThen ((SameInstant.refl _).wakeEvent 2)
  · exact refl d

end ClockMoves

/-- A command whose effect moves no clock back ends with course time in its range and elapsed time at or past where it was. -/
theorem after_of_clockMoves {s : State} {c : Instr} (ht : s.dev.course.ticks < courseModulus) (f : Dev → Dev)
    (hc : exec c s = act f s) (h : ClockMoves s.dev.cleared (f s.dev.cleared)) :
    s.after c fun e => e.course.ticks < courseModulus ∧ s.dev.course.elapsed ≤ e.course.elapsed :=
  after_of_act f hc h.replies ⟨h.ticks ht, h.elapsed⟩

/-! ### Steps with no command waiting -/

theorem advance_ticks {d : Dev} (ht : d.course.ticks < courseModulus) (n : Nat) :
    (d.advance n).course.ticks = (d.course.ticks + n) % courseModulus := by
  unfold Dev.advance
  split
  case isTrue hn => rw [hn, Nat.add_zero, Nat.mod_eq_of_lt ht]
  case isFalse => rfl

theorem advance_zero (d : Dev) : d.advance 0 = d := rfl

theorem advance_succ (n : Nat) (d : Dev) : (d.advance 1).advance n = d.advance (n + 1) := by
  by_cases hn : n = 0
  · subst hn
    rfl
  · simp only [Dev.advance, hn, Nat.succ_ne_zero, if_false, one_ne_zero]
    split <;> simp [Nat.add_assoc, Nat.add_comm 1 n]

/-- With no command waiting, n steps are n ticks. -/
theorem runSteps_empty (n : Nat) (d : Dev) :
    runSteps n { pending := [], dev := d } = .next { pending := [], dev := d.advance n } := by
  induction n generalizing d with
  | zero => rfl
  | succ n ih =>
    rw [runSteps, step_empty _ rfl]
    exact (ih (d.advance 1)).trans (by rw [advance_succ])

/-- Settles O57: n empty steps are n ticks, and each of the commands moves the clocks forward only. -/
theorem idleStepsAreTicks : Obligations.IdleStepsAreTicks := by
  unfold Obligations.IdleStepsAreTicks
  refine ⟨fun n d ht => ?idle, fun s ht => ?commands⟩
  case idle =>
    refine ⟨d.advance n, runSteps_empty n d, Dev.advance_elapsed d n, advance_ticks ht n, ?_⟩
    simp
  case commands =>
    refine ⟨fun t => ?pps, fun x => ?qualified, fun x => ?lost, ?hold, ?holdover, ?encError, fun n => ?alarm, ?wrap, ?tick⟩
    case pps => exact after_of_clockMoves ht _ rfl (ClockMoves.ppsEdge t _)
    case qualified => exact after_of_clockMoves ht _ rfl (ClockMoves.qualified x _)
    case lost => exact after_of_clockMoves ht _ rfl (ClockMoves.lost x _)
    case hold => exact after_of_clockMoves ht _ rfl (ClockMoves.switchHoldExpiry _)
    case holdover => exact after_of_clockMoves ht _ rfl (ClockMoves.holdoverLimit _)
    case encError => exact after_of_clockMoves ht _ rfl (.of_sameInstant ((SameInstant.refl _).put _ _))
    case alarm => exact after_of_clockMoves ht _ rfl (ClockMoves.alarmFires n _)
    case wrap => exact after_of_clockMoves ht _ rfl (ClockMoves.courseWrap _)
    case tick =>
      intro hempty
      have htick := ClockMoves.advance 1 s.dev
      exact ⟨_, step_empty s hempty, htick.ticks ht, htick.elapsed⟩

end Sys2Proof.Steps
end

section
/-! PROOFS. Numbers with a window or a wrap: the comparison of R270, session counters (R369), flag objects (R336), and the strokes in
which a mark fires (R49). -/

open Sys2Proof Sys2Proof.Machine

namespace Sys2Proof.Numbers

/-! ### Serial numbers -/

/-- The order that a distance gives, from half of the range (R270). -/
def orderOfDistance (x half : Nat) : SerialOrder :=
  if x = 0 then .equal else if x < half then .before else if half < x then .after else .unordered

theorem serialCmp_eq_orderOfDistance {a b w : Nat} (ha : a < 2 ^ w) :
    serialCmp a b w = orderOfDistance ((b + 2 ^ w - a) % 2 ^ w) (2 ^ (w - 1)) := by
  simp only [serialCmp, Nat.mod_eq_of_lt ha, orderOfDistance]

section
variable {x half : Nat}

theorem orderOfDistance_equal_iff : orderOfDistance x half = .equal ↔ x = 0 := by
  unfold orderOfDistance
  split_ifs <;> simp [*]

theorem orderOfDistance_before_iff : orderOfDistance x half = .before ↔ 0 < x ∧ x < half := by
  unfold orderOfDistance
  split_ifs <;> simp <;> omega

theorem orderOfDistance_after_iff (hhalf : 0 < half) : orderOfDistance x half = .after ↔ half < x := by
  unfold orderOfDistance
  split_ifs <;> simp <;> omega

theorem orderOfDistance_half (hhalf : 0 < half) : orderOfDistance half half = .unordered := by
  simp [orderOfDistance, Nat.ne_of_gt hhalf]

end

/-- The distance from `a` up to `b`, without a wrap or with one. -/
theorem serialDistance_cases {a b m : Nat} (ha : a < m) (hb : b < m) :
    (a ≤ b ∧ (b + m - a) % m = b - a) ∨ (b < a ∧ (b + m - a) % m = b + m - a) := by
  by_cases hab : a ≤ b
  · have hsum : b + m - a = b - a + m := by omega
    exact .inl ⟨hab, by rw [hsum, Nat.add_mod_right, Nat.mod_eq_of_lt (by omega)]⟩
  · exact .inr ⟨Nat.lt_of_not_le hab, Nat.mod_eq_of_lt (by omega)⟩

/-- Settles O20: the distance and the half of the range decide, and the distances of the two directions add up to the range. -/
theorem serialNumberComparison : Obligations.SerialNumberComparison := by
  unfold Obligations.SerialNumberComparison
  intro a b w hw ha hb
  have hhalf : 2 ^ w = 2 ^ (w - 1) + 2 ^ (w - 1) := by
    obtain ⟨v, rfl⟩ := Nat.exists_eq_succ_of_ne_zero (Nat.ne_of_gt hw)
    rw [Nat.succ_sub_one, Nat.pow_succ, Nat.mul_two]
  have hab := serialDistance_cases ha hb
  have hba := serialDistance_cases hb ha
  have hpos : 0 < 2 ^ (w - 1) := Nat.two_pow_pos _
  rw [serialCmp_eq_orderOfDistance ha, serialCmp_eq_orderOfDistance hb]
  generalize (b + 2 ^ w - a) % 2 ^ w = x at *
  generalize (a + 2 ^ w - b) % 2 ^ w = y at *
  refine ⟨orderOfDistance_equal_iff.mpr, fun hx hlt => orderOfDistance_before_iff.mpr ⟨hx, hlt⟩,
    (orderOfDistance_after_iff hpos).mpr, fun _ hx => hx ▸ orderOfDistance_half (hx ▸ hpos), ?equal, ?symmetry⟩
  case equal =>
    rw [orderOfDistance_equal_iff]
    omega
  case symmetry =>
    rw [orderOfDistance_before_iff, orderOfDistance_after_iff hpos]
    omega

/-! ### Session counters -/

theorem bit_shifted_window {seen k back : Nat} (hk : back + k < 64) :
    bit (seen * 2 ^ k % 2 ^ 64 ||| 1) (back + k) = (bit seen back || decide (back + k = 0)) := by
  have hone : Nat.testBit 1 (back + k) = decide (back + k = 0) := by
    rw [← Nat.pow_zero 2, Nat.testBit_two_pow]
    exact decide_eq_decide.mpr eq_comm
  rw [bit, Nat.testBit_or, Nat.testBit_mod_two_pow, Nat.testBit_mul_two_pow, hone]
  simp [hk, bit]

/-- A counter is refused where it lies 64 or more below the highest one, or its bit of the window is set. -/
theorem counterStep_eq_none_iff {high seen c : Nat} : counterStep high seen c = none ↔
    c ≤ high ∧ (64 ≤ high - c ∨ bit seen (high - c) = true) := by
  unfold counterStep
  by_cases hc : high < c
  · simp [hc]
  · by_cases hfar : 64 ≤ high - c <;> simp [hc, Nat.le_of_not_lt hc, hfar]

/-- A counter above the highest one becomes it; one of the window sets its bit. -/
theorem counterStep_eq_some {high seen c h v : Nat} (hs : counterStep high seen c = some (h, v)) :
    (high < c ∧ h = c ∧ v = if 64 ≤ c - high then 1 else seen * 2 ^ (c - high) % 2 ^ 64 ||| 1) ∨
      (c ≤ high ∧ h = high ∧ v = setBit seen (high - c)) := by
  unfold counterStep at hs
  by_cases hc : high < c
  · simp only [hc, if_true, Option.some.injEq, Prod.mk.injEq] at hs
    exact .inl ⟨hc, hs.1.symm, hs.2.symm⟩
  · simp only [hc, if_false] at hs
    split at hs
    · cases hs
    · simp only [Option.some.injEq, Prod.mk.injEq] at hs
      exact .inr ⟨Nat.le_of_not_lt hc, hs.1.symm, hs.2.symm⟩

/-- The counter accepted is the newest of the window, or its bit of the window is set. -/
theorem counterStep_spends {high seen c h v : Nat} (hs : counterStep high seen c = some (h, v)) :
    counterStep h v c = none ∧ high ≤ h := by
  rw [counterStep_eq_none_iff]
  obtain ⟨hc, rfl, rfl⟩ | ⟨hc, rfl, rfl⟩ := counterStep_eq_some hs
  · refine ⟨⟨le_rfl, .inr ?_⟩, Nat.le_of_lt hc⟩
    rw [Nat.sub_self]
    split
    · rfl
    · simp [bit]
  · exact ⟨⟨hc, .inr (by simp [Security.bit_setBit])⟩, le_rfl⟩

/-- A spent counter stays spent: a new highest one shifts its bit along, or out of the window. -/
theorem counterStep_keeps_spent {high seen c c' h v : Nat} (hc : counterStep high seen c = none)
    (hs : counterStep high seen c' = some (h, v)) : counterStep h v c = none := by
  rw [counterStep_eq_none_iff] at hc ⊢
  obtain ⟨hle, hspent⟩ := hc
  obtain ⟨hc', rfl, rfl⟩ | ⟨hc', rfl, rfl⟩ := counterStep_eq_some hs
  · refine ⟨by omega, ?_⟩
    have hback : h - c = (high - c) + (h - high) := by omega
    by_cases hout : 64 ≤ h - c
    · exact .inl hout
    · have hbit : bit seen (high - c) = true := hspent.resolve_left (by omega)
      have hnear : ¬ 64 ≤ h - high := by omega
      rw [hback] at hout ⊢
      exact .inr (by simp only [hnear, if_false, bit_shifted_window (Nat.lt_of_not_le hout), hbit, Bool.true_or])
  · refine ⟨hle, hspent.imp_right fun hbit => ?_⟩
    simp [Security.bit_setBit, hbit]

/-- Settles O30: the window refuses what it has accepted, and nothing else within 63 of the highest. -/
theorem acceptedCountersAreSpent : Obligations.AcceptedCountersAreSpent := by
  unfold Obligations.AcceptedCountersAreSpent
  refine ⟨⟨fun _ _ _ _ _ => counterStep_spends, fun _ _ _ _ _ _ => counterStep_keeps_spent⟩, fun high seen c => ?acceptable⟩
  case acceptable =>
    rw [← Option.ne_none_iff_isSome, ne_eq, counterStep_eq_none_iff]
    constructor
    · intro hnot
      exact ⟨by omega, fun hle => by simpa using fun hbit => hnot ⟨hle, .inr hbit⟩⟩
    · rintro ⟨hwindow, hfree⟩ ⟨hle, hfar | hbit⟩
      · omega
      · rw [hfree hle] at hbit
        cases hbit

/-! ### Flag objects -/

theorem bit_foldl_clearBit (l : List Nat) (n k : Nat) : bit (l.foldl clearBit n) k = (bit n k && !decide (k ∈ l)) := by
  induction l generalizing n with
  | nil => simp
  | cons j l ih =>
    rw [List.foldl_cons, ih, Security.bit_clearBit]
    by_cases hkj : k = j
    · simp [hkj]
    · simp [hkj, Ne.symm hkj]

/-- Settles O21: the flags cleared are those written 1 and not set in this tick. -/
theorem flagsAreClearedByOnes : Obligations.FlagsAreClearedByOnes := by
  unfold Obligations.FlagsAreClearedByOnes
  intro d r mask k hsize hk _
  have hvalue : ∀ l : List Nat, bit (l.foldl clearBit (d.u r) % 256 ^ r.size) k = (bit (d.u r) k && !decide (k ∈ l)) := by
    intro l
    rw [hsize, ← bit_foldl_clearBit, bit, bit, show 256 ^ 2 = 2 ^ 16 from rfl, Nat.testBit_mod_two_pow]
    simp [hk]
  simp only [Dev.clearFlags, Dev.put_u_self]
  refine (hvalue _).trans ?_
  have hmask : k ∈ bitList 16 mask ↔ bit mask k = true := by simp [bitList, hk, bit]
  cases hset : bit (d.u r) k
  case false => rfl
  case true => simp [List.mem_filter, hmask, hset, Bool.not_and]

/-! ### Marks -/

/-- Settles O59: a divider that divides 2 ^ 32 gives the same rest on both sides of the wrap. -/
theorem marksFireByPhase : Obligations.MarksFireByPhase := by
  unfold Obligations.MarksFireByPhase
  intro m n haction
  refine ⟨fun hdivider => ?phase, fun k j hk hdivider => ?wrap⟩
  case phase => simp [MarkSlot.firesIn, haction, hdivider]
  case wrap =>
    have hdvd : m.divider ∣ 2 ^ 32 := hdivider ▸ Nat.pow_dvd_pow 2 (by omega)
    simp only [MarkSlot.firesIn, Nat.mod_mod_of_dvd _ hdvd]

end Sys2Proof.Numbers
end

section
/-! PROOFS. Whole-device resets (R7, R15, R120, R404, R485, R487): the block right after reset, what a whole-device reset leaves, and what a
start after OFF knows. -/

open Sys2Proof Sys2Proof.Machine

namespace Sys2Proof.Startup

/-! ### The state right after reset -/

theorem session_reset (n : Nat) : Dev.reset.session n = none := by
  simp only [Dev.session, Dev.reset, Net.reset, List.getD_eq_getElem?_getD, List.getElem?_replicate]
  split <;> rfl

/-- Settles O58: every list of the state right after reset is empty, and a register file without cells reads defaults. -/
theorem resetState : Obligations.ResetState := by
  unfold Obligations.ResetState
  exact ⟨rfl, fun _ => rfl, rfl, rfl, rfl, rfl, rfl, rfl, rfl, rfl, rfl, rfl, fun n _ => session_reset n⟩

/-! ### A whole-device reset -/

theorem calStatus_key_ne {n c : Nat} (h : n ≠ c) : (Obj.CAL_STATUS n).key ≠ (Obj.CAL_STATUS c).key := by
  simp only [Obj.CAL_STATUS]
  omega

/-- The calibration of one converter is cut short (R120). -/
def cutCal (d e : Dev) (c : Nat) : Dev :=
  match (d.conv c).cal with
  | some k => e.put (Obj.CAL_STATUS c) (calStatus 4 4 k.done)
  | none => e

theorem calsCut_eq (d e : Dev) : d.calsCut e = (List.range 4).foldl (cutCal d) e := rfl

theorem cutCal_eq_live (d e : Dev) (c : Nat) : cutCal d e c = { e with live := (cutCal d e c).live } := by
  unfold cutCal
  split <;> rfl

theorem cutCal_live_get_ne (d e : Dev) {c k : Nat} (x : Value) (h : k ≠ (Obj.CAL_STATUS c).key) :
    (cutCal d e c).live.get k x = e.live.get k x := by
  unfold cutCal
  split
  · exact Store.get_set_ne _ _ _ _ _ _ h
  · rfl

theorem cutCal_calStatus (d e : Dev) (c n : Nat) : (cutCal d e c).u (Obj.CAL_STATUS n) =
    if n = c then ((d.conv n).cal.map fun k => calStatus 4 4 k.done % 2 ^ 16).getD (e.u (Obj.CAL_STATUS n))
    else e.u (Obj.CAL_STATUS n) := by
  split
  case isTrue h =>
    subst h
    unfold cutCal
    split
    next k hk => simp [hk, Obj.CAL_STATUS]
    next hk => simp [hk]
  case isFalse h => simp only [Dev.u, Dev.get, cutCal_live_get_ne d e _ (calStatus_key_ne h)]

theorem foldl_cutCal_eq_live (d : Dev) (l : List Nat) (e : Dev) :
    l.foldl (cutCal d) e = { e with live := (l.foldl (cutCal d) e).live } := by
  induction l generalizing e with
  | nil => rfl
  | cons c l ih =>
    rw [List.foldl_cons, ih, cutCal_eq_live]

theorem foldl_cutCal_live_get_ne (d : Dev) (l : List Nat) (e : Dev) {k : Nat} (x : Value)
    (h : ∀ c ∈ l, k ≠ (Obj.CAL_STATUS c).key) : (l.foldl (cutCal d) e).live.get k x = e.live.get k x := by
  induction l generalizing e with
  | nil => rfl
  | cons c l ih =>
    rw [List.foldl_cons, ih _ fun c' hc' => h c' (List.mem_cons_of_mem c hc')]
    exact cutCal_live_get_ne d e x (h c List.mem_cons_self)

theorem foldl_cutCal_calStatus (d : Dev) (l : List Nat) (e : Dev) (n : Nat) :
    (l.foldl (cutCal d) e).u (Obj.CAL_STATUS n) =
      if n ∈ l then ((d.conv n).cal.map fun k => calStatus 4 4 k.done % 2 ^ 16).getD (e.u (Obj.CAL_STATUS n))
      else e.u (Obj.CAL_STATUS n) := by
  induction l generalizing e with
  | nil => rfl
  | cons c l ih =>
    rw [List.foldl_cons, ih, cutCal_calStatus]
    by_cases hc : n = c
    · subst hc
      cases (d.conv n).cal <;> simp
    · simp [hc]

/-- The device of a whole-device reset but for the register file, which is empty (R15, R485). -/
def resetBesideCals (cause detail : Nat) (d : Dev) : Dev :=
  let counts := cause == 2 || cause == 3 || cause == 8
  { Dev.reset with
    nvm := d.nvm
    course := { Course.reset with elapsed := d.course.elapsed }
    ledger := d.ledgerKept
    engine := { Engine.reset with rows := d.engine.rows, rowsRetired := d.engine.rowsRetired }
    capture := { Capture.reset with banks := d.capture.banks }
    link := { Link.reset with
      masters := d.link.masters.map fun m => { HartMaster.reset with counter := m.counter } }
    security := d.securityKept
    thermal := d.thermalKept cause
    power := { Power.reset with
      lostAt := d.power.lostAt, hourStart := d.course.elapsed, dayStart := d.course.elapsed }
    device := { Device.reset with
      replies := d.device.replies, responses := d.device.responses, fresh := d.device.fresh, wpLow := d.device.wpLow }
    start := { Start.reset with
      cause := cause
      detail := detail
      cold := false
      loopCount := if counts then d.start.loopCount + 1 else d.start.loopCount
      loopLast := if counts then d.course.elapsed else d.start.loopLast
      watchdog := d.start.watchdog || d.outputs.watchdog
      sramRetired := d.start.sramRetired
      sramSpare := d.start.sramSpare
      shutdown := if cause = 4 then d.thermal.shutdown else none } }

/-- A whole-device reset: the calibrations cut short are shown, and the end of debugging, an event before recovery, is held. -/
theorem exists_wholeReset_eq (cause detail : Nat) (d : Dev) : ∃ held, d.wholeReset cause detail =
    { resetBesideCals cause detail d with
      live := (d.calsCut (resetBesideCals cause detail d)).live
      device := { (resetBesideCals cause detail d).device with heldEvents := held } } := by
  have hcut := foldl_cutCal_eq_live d (List.range 4) (resetBesideCals cause detail d)
  rw [← calsCut_eq] at hcut
  have hreset : d.wholeReset cause detail = (d.calsCut (resetBesideCals cause detail d)).when
      (decide (cause ≠ 0) && d.u Obj.DEBUG_STATE == 1) (Dev.raise 0x8009 []) := rfl
  rw [hreset]
  unfold Dev.when
  split
  case isTrue =>
    refine ⟨[(0x8009, [])], ?_⟩
    have hunrecovered : (d.calsCut (resetBesideCals cause detail d)).start.recovered = false := by rw [hcut]; rfl
    rw [Dev.raise, if_neg (by simp [hunrecovered]), hcut]
    rfl
  case isFalse => exact ⟨[], hcut⟩

theorem wholeReset_live (cause detail : Nat) (d : Dev) :
    (d.wholeReset cause detail).live = (d.calsCut (resetBesideCals cause detail d)).live := by
  obtain ⟨held, h⟩ := exists_wholeReset_eq cause detail d
  rw [h]

theorem wholeReset_live_get (cause detail : Nat) (d : Dev) {k : Nat} (x : Value)
    (h : ∀ c : Fin 4, k ≠ (Obj.CAL_STATUS c).key) : (d.wholeReset cause detail).live.get k x = x := by
  rw [wholeReset_live, calsCut_eq]
  exact foldl_cutCal_live_get_ne d _ _ x fun c hc => h ⟨c, List.mem_range.mp hc⟩

theorem wholeReset_calStatus (cause detail : Nat) (d : Dev) (c : Fin 4) :
    (d.wholeReset cause detail).u (Obj.CAL_STATUS c) =
      ((d.conv c).cal.map fun k => calStatus 4 4 k.done % 2 ^ 16).getD 0 := by
  have h := foldl_cutCal_calStatus d (List.range 4) (resetBesideCals cause detail d) c
  rw [if_pos (List.mem_range.mpr c.isLt), ← calsCut_eq] at h
  have hdflt : (resetBesideCals cause detail d).u (Obj.CAL_STATUS c) = 0 := rfl
  rw [hdflt] at h
  simpa only [Dev.u, Dev.get, wholeReset_live] using h

/-! ### A start after OFF -/

theorem srcPresent_key_ne {n s : Nat} (h : n ≠ s) : (Obj.SRC_PRESENT n).key ≠ (Obj.SRC_PRESENT s).key := by
  simp only [Obj.SRC_PRESENT]
  omega

theorem srcVoltage_key_ne {n s : Nat} (h : n ≠ s) : (Obj.SRC_VOLTAGE n).key ≠ (Obj.SRC_VOLTAGE s).key := by
  simp only [Obj.SRC_VOLTAGE]
  omega

theorem srcPresent_key_ne_srcVoltage (n s : Nat) : (Obj.SRC_PRESENT n).key ≠ (Obj.SRC_VOLTAGE s).key := by
  simp only [Obj.SRC_PRESENT, Obj.SRC_VOLTAGE]
  omega

theorem dfltOf_srcVoltage (n : Fin 4) : dfltOf (Obj.SRC_VOLTAGE n).key = (Obj.SRC_VOLTAGE n).dflt := by
  revert n
  decide +kernel

/-- A source that was found in OFF is present in the start, with its voltage (R404; log 77). -/
def knowSource (d e : Dev) (s : Nat) : Dev :=
  e.when (d.on (Obj.SRC_PRESENT s)) fun e =>
    (e.putOn (Obj.SRC_PRESENT s) true).setKey ⟨(Obj.SRC_VOLTAGE s).key, d.get (Obj.SRC_VOLTAGE s)⟩

/-- The device of a start after OFF before it knows its sources. -/
def coldBeforeSources (d : Dev) : Dev :=
  ((d.wholeReset 0 0).setStart fun s => { s with cold := true, loopCount := 0, watchdog := false }).setThermal fun t =>
    { t with storeDue := true }

theorem coldStart_eq (d : Dev) : d.coldStart = (List.range 4).foldl (knowSource d) (coldBeforeSources d) := rfl

theorem knowSource_start (d e : Dev) (s : Nat) : (knowSource d e s).start = e.start := by
  unfold knowSource Dev.when
  split <;> rfl

theorem knowSource_present (d e : Dev) (s n : Nat) :
    (knowSource d e s).on (Obj.SRC_PRESENT n) = (e.on (Obj.SRC_PRESENT n) || (decide (n = s) && d.on (Obj.SRC_PRESENT n))) := by
  unfold knowSource Dev.when
  split
  case isTrue hon =>
    simp only [Dev.on, Dev.u, Dev.get, Dev.setKey_live, Store.get_set_ne _ _ _ _ _ _ (srcPresent_key_ne_srcVoltage n s),
      Dev.putOn_live] at hon ⊢
    by_cases h : n = s
    · subst h
      simp [hon, show (Value.num (flag true)).toNat = 1 from rfl]
    · simp [h, Store.get_set_ne _ _ _ _ _ _ (srcPresent_key_ne h)]
  case isFalse hoff =>
    by_cases h : n = s
    · subst h
      simp [hoff]
    · simp [h]

theorem knowSource_voltage (d e : Dev) (s : Nat) {n : Nat} (hdflt : dfltOf (Obj.SRC_VOLTAGE n).key = (Obj.SRC_VOLTAGE n).dflt) :
    (knowSource d e s).get (Obj.SRC_VOLTAGE n) =
      if n = s ∧ d.on (Obj.SRC_PRESENT n) = true then d.get (Obj.SRC_VOLTAGE n) else e.get (Obj.SRC_VOLTAGE n) := by
  unfold knowSource Dev.when
  by_cases h : n = s
  · subst h
    cases hon : d.on (Obj.SRC_PRESENT n)
    · simp
    · simp [Dev.get, hdflt]
  · have hkey : (Obj.SRC_VOLTAGE n).key ≠ (Obj.SRC_PRESENT s).key := (srcPresent_key_ne_srcVoltage s n).symm
    split <;> simp [h, Dev.get, Store.get_set_ne _ _ _ _ _ _ (srcVoltage_key_ne h), Store.get_set_ne _ _ _ _ _ _ hkey]

theorem foldl_knowSource_start (d : Dev) (l : List Nat) (e : Dev) : (l.foldl (knowSource d) e).start = e.start := by
  induction l generalizing e with
  | nil => rfl
  | cons s l ih => rw [List.foldl_cons, ih, knowSource_start]

theorem foldl_knowSource_present (d : Dev) (l : List Nat) (e : Dev) (n : Nat) :
    (l.foldl (knowSource d) e).on (Obj.SRC_PRESENT n) =
      (e.on (Obj.SRC_PRESENT n) || (decide (n ∈ l) && d.on (Obj.SRC_PRESENT n))) := by
  induction l generalizing e with
  | nil => simp
  | cons s l ih =>
    rw [List.foldl_cons, ih, knowSource_present]
    cases d.on (Obj.SRC_PRESENT n) <;> simp [Bool.or_assoc]

theorem foldl_knowSource_voltage (d : Dev) (l : List Nat) (e : Dev) {n : Nat}
    (hdflt : dfltOf (Obj.SRC_VOLTAGE n).key = (Obj.SRC_VOLTAGE n).dflt) (hon : d.on (Obj.SRC_PRESENT n) = true) :
    (l.foldl (knowSource d) e).get (Obj.SRC_VOLTAGE n) =
      if n ∈ l then d.get (Obj.SRC_VOLTAGE n) else e.get (Obj.SRC_VOLTAGE n) := by
  induction l generalizing e with
  | nil => rfl
  | cons s l ih =>
    rw [List.foldl_cons, ih, knowSource_voltage d e s hdflt]
    by_cases h : n = s
    · subst h
      simp [hon]
    · simp [h]

/-- Before it knows its sources a start after OFF has none. -/
theorem coldBeforeSources_present (d : Dev) (n : Nat) : (coldBeforeSources d).on (Obj.SRC_PRESENT n) = false := by
  have hget : (coldBeforeSources d).get (Obj.SRC_PRESENT n) = (Obj.SRC_PRESENT n).dflt := by
    refine wholeReset_live_get 0 0 d _ fun c => ?_
    simp only [Obj.SRC_PRESENT, Obj.CAL_STATUS]
    omega
  rw [Dev.on, Dev.u, hget]
  rfl

/-! ### The resets of commands and the return of the loop count -/

theorem resetLoopExpiry_of_pos {d : Dev} (h : 0 < d.start.loopCount) : d.resetLoopExpiry =
    ((d.advanceTo (d.start.loopLast + 600 * secTicks)).setStart fun s => { s with loopCount := 0 }).put Obj.RESET_LOOP_COUNT 0 := by
  rw [Dev.resetLoopExpiry, if_neg (Nat.ne_of_gt h)]

theorem advanceTo_elapsed (d : Dev) (t : Nat) : (d.advanceTo t).course.elapsed = max d.course.elapsed t := by
  rw [Dev.advanceTo, Dev.advance_elapsed]
  omega

/-- Settles O47: the reset's device is written out once, and its clauses are read off; a start after OFF adds the sources found. -/
theorem wholeResetLeaves : Obligations.WholeResetLeaves := by
  unfold Obligations.WholeResetLeaves
  refine ⟨fun d cause detail => ⟨?registers, ?cals, ?rest⟩, fun d n => ⟨?present, ?voltage, ?loopCount⟩,
    fun s => ⟨?pin, ?brownout, ?expiry, ?noLoop⟩⟩
  case registers => exact fun k x => wholeReset_live_get cause detail d x
  case cals =>
    intro c
    rw [wholeReset_calStatus]
    exact ⟨fun h => by rw [h]; rfl, fun k h => by rw [h]; rfl⟩
  case rest =>
    obtain ⟨held, h⟩ := exists_wholeReset_eq cause detail d
    rw [h]
    refine ⟨rfl, rfl, rfl, rfl, rfl, rfl, rfl, rfl, rfl, fun n _ => session_reset n, rfl, rfl, rfl, rfl, rfl, rfl, ?_⟩
    simp only [resetBesideCals, Bool.or_eq_true, beq_iff_eq, or_assoc]
  case present =>
    rw [coldStart_eq, foldl_knowSource_present, coldBeforeSources_present, Bool.false_or,
      decide_eq_true (List.mem_range.mpr n.isLt), Bool.true_and]
  case voltage =>
    intro hon
    rw [coldStart_eq, foldl_knowSource_voltage d _ _ (dfltOf_srcVoltage n) hon, if_pos (List.mem_range.mpr n.isLt)]
  case loopCount =>
    rw [coldStart_eq, foldl_knowSource_start]
    rfl
  case pin => exact becomes_of_act _ rfl rfl
  case brownout => exact becomes_of_act _ rfl rfl
  case expiry =>
    intro hpos
    refine after_of_act Dev.resetLoopExpiry rfl ?replies ?left
    all_goals rw [resetLoopExpiry_of_pos (d := s.dev.cleared) hpos]
    case replies =>
      rw [Dev.put_device, Dev.setStart_device, Dev.advanceTo_device_replies]
      rfl
    case left =>
      refine ⟨Dev.put_u_self _ _ _, rfl, ?_⟩
      rw [Dev.put_course, Dev.setStart_course, advanceTo_elapsed]
  case noLoop =>
    intro hzero
    exact becomes_of_act Dev.resetLoopExpiry rfl (if_pos hzero)

end Sys2Proof.Startup
end

section
/-! PROOFS. Outputs by the state of the device: the row of R218's table, the failure of the process value (R220), and the duty and pin of
a PWM channel (R260). -/

open Sys2Proof Sys2Proof.Machine

namespace Sys2Proof.Outputs

/-! ### The loop -/

/-- The conditions of the rows of R218's table, from row 1 on; the last row has none. -/
def rowConditions (d : Dev) : List Bool :=
  [!d.outputs.loaded, d.outputs.watchdog, d.outputs.thermal, d.on Obj.MULTIDROP,
    d.device.state == .service && !F32.eq (d.f Obj.LOOP_FIXED) F32.zero, d.device.state == .safe, d.device.state == .config,
    d.device.state == .hold, d.u Obj.LOOP_PV == 0xFF, d.loopFails, true]

theorem loopRow_eq_findIdx (d : Dev) : d.loopRow = (rowConditions d).findIdx id + 1 := by
  simp only [rowConditions, Dev.loopRow]
  generalize (d.device.state == .service && !F32.eq (d.f Obj.LOOP_FIXED) F32.zero) = fixed
  generalize (d.device.state == .safe) = safe
  generalize (d.device.state == .config) = config
  generalize (d.device.state == .hold) = hold
  generalize (d.u Obj.LOOP_PV == 0xFF) = noPv
  split_ifs <;> simp_all [List.findIdx_cons]

/-- Row `i + 1` holds where condition `i` does. -/
theorem rowConditions_getElem? (d : Dev) (i : Nat) : (rowConditions d)[i]? = some true ↔
    (i = 0 ∧ d.outputs.loaded = false) ∨ (i = 1 ∧ d.outputs.watchdog = true) ∨ (i = 2 ∧ d.outputs.thermal = true) ∨
      (i = 3 ∧ d.on Obj.MULTIDROP = true) ∨
      (i = 4 ∧ d.device.state = .service ∧ F32.eq (d.f Obj.LOOP_FIXED) F32.zero = false) ∨
      (i = 5 ∧ d.device.state = .safe) ∨ (i = 6 ∧ d.device.state = .config) ∨ (i = 7 ∧ d.device.state = .hold) ∨
      (i = 8 ∧ d.u Obj.LOOP_PV = 0xFF) ∨ (i = 9 ∧ d.loopFails = true) ∨ i = 10 := by
  rcases i with _ | _ | _ | _ | _ | _ | _ | _ | _ | _ | _ | i
  all_goals simp [rowConditions]

theorem exists_first_true {l : List Bool} (h : true ∈ l) :
    l[l.findIdx id]? = some true ∧ ∀ i, i < l.findIdx id → l[i]? ≠ some true := by
  have hlt : l.findIdx id < l.length := List.findIdx_lt_length_of_exists ⟨true, h, rfl⟩
  refine ⟨?found, fun i hi hget => ?before⟩
  case found =>
    have htrue := List.findIdx_getElem (w := hlt)
    rw [List.getElem?_eq_getElem hlt]
    exact congrArg some htrue
  case before =>
    have hfalse := List.not_of_lt_findIdx hi
    rw [List.getElem?_eq_getElem (hi.trans hlt), Option.some.injEq] at hget
    simp [hget] at hfalse

/-- Settles O14: the row is the place of the first condition that is true, in the list of the rows' conditions. -/
theorem loopRowIsTheFirstThatHolds : Obligations.LoopRowIsTheFirstThatHolds := by
  unfold Obligations.LoopRowIsTheFirstThatHolds
  intro d
  have hlast : true ∈ rowConditions d := by simp [rowConditions]
  obtain ⟨hfound, hbefore⟩ := exists_first_true hlast
  rw [loopRow_eq_findIdx]
  refine ⟨?holds, fun k hk hholds => ?first⟩
  case holds => simpa using (rowConditions_getElem? d _).mp hfound
  case first =>
    have hpos : k - 1 + 1 = k := by omega
    refine hbefore (k - 1) (by omega) ((rowConditions_getElem? d _).mpr ?_)
    rw [← hpos] at hholds
    simpa using hholds

/-- Settles O15: the failure is the disjunction of the two causes. -/
theorem processValueFails : Obligations.ProcessValueFails := by
  unfold Obligations.ProcessValueFails
  intro d
  simp only [Dev.loopFails, Bool.or_eq_true, beq_iff_eq, decide_eq_true_iff]

/-! ### PWM -/

theorem pwmPin_of_not_configured {d : Dev} (h : d.start.configured = false) (n : Nat) : d.pwmPin n = false := by
  simp [Dev.pwmPin, h]

theorem pwmPin_of_not_enabled {d : Dev} {n : Nat} (h : d.on (Obj.PWM_ENABLE n) = false) : d.pwmPin n = false := by
  simp [Dev.pwmPin, h]

section
variable {d : Dev} (n : Nat)

theorem pwmPending_of_starting (h : d.device.state = .starting) : d.pwmPending n = d.f (Obj.PWM_SAFE n) := by
  simp only [Dev.pwmPending, h]

theorem pwmPending_of_run (h : d.device.state = .run) : d.pwmPending n = d.pwmRun n := by
  simp only [Dev.pwmPending, h]

theorem pwmPending_of_hold (h : d.device.state = .hold) : d.pwmPending n = (d.pwmOf n).duty := by
  simp only [Dev.pwmPending, h]

theorem pwmPending_of_config (h : d.device.state = .config) : d.pwmPending n =
    if d.u (Obj.PWM_CONFIG_ACTION n) = 0 then (d.pwmOf n).duty else d.f (Obj.PWM_SAFE n) := by
  simp only [Dev.pwmPending, h]

theorem pwmPending_of_service (h : d.device.state = .service) : d.pwmPending n =
    if fixedInForce (d.f (Obj.PWM_FIXED n)) then d.f (Obj.PWM_FIXED n) else d.pwmRun n := by
  simp only [Dev.pwmPending, h]

theorem pwmPending_of_safe (h : d.device.state = .safe) : d.pwmPending n = d.f (Obj.PWM_SAFE n) := by
  simp only [Dev.pwmPending, h]

end

/-- Settles O18: the duty of each device state, and a pin that is low before the configuration is loaded. -/
theorem pwmFollowsTheState : Obligations.PwmFollowsTheState := by
  unfold Obligations.PwmFollowsTheState
  refine ⟨fun d n _ => ⟨fun h => pwmPin_of_not_configured h n, pwmPending_of_starting n, pwmPending_of_run n,
    pwmPending_of_hold n, pwmPending_of_config n, pwmPending_of_service n, pwmPending_of_safe n, pwmPin_of_not_enabled⟩,
    fun s kind => ?reset⟩
  case reset =>
    have hreset := Startup.exists_wholeReset_eq 2 (keeperDetail kind) s.dev.cleared
    obtain ⟨held, h⟩ := hreset
    refine after_of_act (Dev.wholeReset 2 (keeperDetail kind)) rfl ?replies fun n _ => pwmPin_of_not_configured ?low n
    all_goals rw [h]
    case replies => rfl
    case low => rfl

end Sys2Proof.Outputs

namespace Sys2Proof.Hart

/-! ### The masters -/

theorem master_of_length {d : Dev} (h : d.link.masters.length = 2) (p : Bool) :
    d.link.masters[flag (!p)]? = some (d.master p) := by
  have hlt : flag (!p) < d.link.masters.length := h ▸ Nat.lt_succ_of_le (FrontEnd.flag_le_one _)
  simp [Dev.master, List.getD_eq_getElem?_getD, List.getElem?_eq_getElem hlt]

theorem setMaster_master {d : Dev} (h : d.link.masters.length = 2) (p q : Bool) (f : HartMaster → HartMaster) :
    (d.setMaster p f).master q = if p = q then f (d.master q) else d.master q := by
  have hq := master_of_length h q
  have hflag : flag (!p) = flag (!q) ↔ p = q := by cases p <;> cases q <;> decide
  rw [Dev.master, Dev.setMaster_link, List.getD_eq_getElem?_getD, List.getElem?_modify, hq]
  simp only [hflag]
  split <;> rfl

theorem setMaster_masters_length (d : Dev) (p : Bool) (f : HartMaster → HartMaster) :
    (d.setMaster p f).link.masters.length = d.link.masters.length := by simp

/-- A response takes the cold-start bit of its master and leaves the masters otherwise as they were (R383). -/
theorem respond_master {d : Dev} (h : d.link.masters.length = 2) (p q : Bool) (command code : Nat) (data : List Byte) :
    (d.respond p command code data).master q =
      if p = q then { d.master q with cold := false } else d.master q :=
  setMaster_master h p q _

/-- Of eight flags at the bits of a byte, that at bit 5 is read back. -/
theorem bit_five_of_flags (b7 b6 b5 b4 b3 b2 b1 b0 : Bool) : bit (flag b7 * 128 + flag b6 * 64 + flag b5 * 32 + flag b4 * 16 +
    flag b3 * 8 + flag b2 * 4 + flag b1 * 2 + flag b0) 5 = b5 := by
  apply FrontEnd.bit_eq_of_digit_eq_flag
  have h5 := FrontEnd.flag_le_one b5
  have h4 := FrontEnd.flag_le_one b4
  have h3 := FrontEnd.flag_le_one b3
  have h2 := FrontEnd.flag_le_one b2
  have h1 := FrontEnd.flag_le_one b1
  have h0 := FrontEnd.flag_le_one b0
  omega

/-- Bit 5 of the device status is the cold-start bit (R383). -/
theorem hartStatus_cold (d : Dev) (m : HartMaster) : bit (d.hartStatus m) 5 = m.cold := by
  unfold Dev.hartStatus
  exact bit_five_of_flags _ _ _ _ _ _ _ _

/-! ### The configuration-changed bits -/

/-- How many of the writes are of P and PC objects, as `Dev.noteConfigChanged` counts them. -/
def configWrites (d : Dev) (ws : List Write) : Nat :=
  (ws.filter fun w => match d.cardAt (w.key / 256) (w.key % 256) with
    | some c => c.persist = .P || c.persist = .PC
    | none => false).length

/-- Writes of P and PC objects are counted, and set both masters' bits (R383). -/
theorem noteConfigChanged_of_pos {d : Dev} {ws : List Write} (hpos : 0 < configWrites d ws) : d.noteConfigChanged ws =
    (d.add Obj.CONFIG_CHANGED_COUNT (configWrites d ws)).setLink fun l => { l with
      masters := l.masters.map fun (m : HartMaster) => { m with changed := true } } :=
  if_pos (decide_eq_true hpos)

theorem noteConfigChanged_of_none {d : Dev} {ws : List Write} (hzero : configWrites d ws = 0) : d.noteConfigChanged ws = d :=
  if_neg (mt of_decide_eq_true (Nat.not_lt.mpr (Nat.le_of_eq hzero)))

theorem master_map {d : Dev} (h : d.link.masters.length = 2) (f : HartMaster → HartMaster) (p : Bool) {e : Dev}
    (he : e.link.masters = d.link.masters.map f) : e.master p = f (d.master p) := by
  have hp := master_of_length h p
  rw [Dev.master, he, List.getD_eq_getElem?_getD, List.getElem?_map, hp]
  rfl

/-- Command 38 clears the bit of its master alone (R383). -/
theorem hartClearChanged_of_served {d : Dev} (h : d.hartServed = true) (p : Bool) : d.hartClearChanged p =
    (d.setMaster p fun m => { m with changed := false }).respond p 38 0 (u16 (d.u Obj.CONFIG_CHANGED_COUNT)) := by
  simp [Dev.hartClearChanged, h]

/-- Two devices of one register file read every register alike. -/
theorem u_of_live {d e : Dev} (h : e.live = d.live) (q : Reg) : e.u q = d.u q := by
  rw [Dev.u, Dev.get, h, Dev.u, Dev.get]

/-- What command 38 leaves: its master without the bit, the other as it was. -/
theorem hartClearChanged_masters {d : Dev} (hserved : d.hartServed = true) (hmasters : d.link.masters.length = 2) (p : Bool) :
    ((d.hartClearChanged p).master p).changed = false ∧
      ((d.hartClearChanged p).master !p).changed = (d.master !p).changed := by
  have hlength : (d.setMaster p fun m => { m with changed := false }).link.masters.length = 2 := by
    rw [setMaster_masters_length]
    exact hmasters
  have hne : ¬p = !p := (Bool.eq_not_self p).mp
  rw [hartClearChanged_of_served hserved, respond_master hlength, respond_master hlength, if_pos rfl, if_neg hne,
    setMaster_master hmasters, setMaster_master hmasters, if_pos rfl, if_neg hne]
  exact ⟨rfl, rfl⟩

/-- After a whole-device reset both masters are as at the start, but for their counters (R383). -/
theorem wholeReset_masters (cause detail : Nat) (d : Dev) : (d.wholeReset cause detail).link.masters =
    d.link.masters.map fun m => { HartMaster.reset with counter := m.counter } := by
  obtain ⟨held, hreset⟩ := Startup.exists_wholeReset_eq cause detail d
  rw [hreset]
  rfl

/-- Settles O36: the bits of the two masters after each of the operations that R383 names. -/
theorem configurationChangedBits : Obligations.ConfigurationChangedBits := by
  unfold Obligations.ConfigurationChangedBits
  refine ⟨fun d ws hmasters => ⟨fun hpos => ?counted, fun hzero => ?uncounted⟩, fun s m hserved hmasters => ?command38,
    fun d cause detail p hmasters => ?reset, fun d p command code data hmasters => ⟨hartStatus_cold d _, ?response⟩⟩
  case counted =>
    have hnote := noteConfigChanged_of_pos hpos
    refine ⟨?_, fun p => ?_⟩
    · rw [hnote]
      simp only [Dev.setLink_u, Dev.add, Dev.put_u_self]
      rfl
    · rw [master_map hmasters (fun m => { m with changed := true }) p (by rw [hnote]; rfl)]
  case uncounted => exact noteConfigChanged_of_none hzero
  case command38 =>
    refine after_of_act (Dev.hartClearChanged m.isPrimary) rfl ?replies ?left
    case replies =>
      rw [hartClearChanged_of_served (d := s.dev.cleared) hserved]
      rfl
    case left =>
      obtain ⟨hself, hother⟩ := hartClearChanged_masters (d := s.dev.cleared) hserved hmasters m.isPrimary
      refine ⟨hself, hother, u_of_live ?_ _⟩
      rw [hartClearChanged_of_served (d := s.dev.cleared) hserved]
      rfl
  case reset =>
    rw [master_map hmasters (fun m => { HartMaster.reset with counter := m.counter }) p (wholeReset_masters cause detail d)]
    rfl
  case response => rw [respond_master hmasters, if_pos rfl]

end Sys2Proof.Hart
end

section
/-! PROOFS. The loss of a time source (R34, R38, R42): what is forgotten of the source, and where the course goes when it was the active
one and no other is qualified. -/

open Sys2Proof Sys2Proof.Machine

namespace Sys2Proof.Course

/-! ### Sources -/

theorem source_code_sub_one_inj {x y : Source} : x.code - 1 = y.code - 1 ↔ x = y := by
  cases x <;> cases y <;> decide

theorem source_eq_of_sources {d e : Dev} (h : e.course.sources = d.course.sources) (x : Source) : e.source x = d.source x := by
  rw [Dev.source, h, Dev.source]

/-- A source that has lost its qualification is not qualified; the others are as they were. -/
theorem qualified_of_modified {d e : Dev} {src : Source} {f : SourceState → SourceState} (hf : ∀ x, (f x).qualified = false)
    (h : e.course.sources = d.course.sources.modify (src.code - 1) f) (x : Source) :
    (e.source x).qualified = if x = src then false else (d.source x).qualified := by
  rw [Dev.source, h, List.getD_eq_getElem?_getD, List.getElem?_modify]
  by_cases hx : x = src
  · subst hx
    rw [if_pos rfl]
    cases d.course.sources[x.code - 1]? with
    | none => rfl
    | some y => simp [hf y]
  · have hcode : src.code - 1 ≠ x.code - 1 := fun h => hx (source_code_sub_one_inj.mp h.symm)
    rw [if_neg hx, Dev.source, List.getD_eq_getElem?_getD]
    simp [hcode]

theorem firstQualified_eq_none {d : Dev} (h : ∀ x, (d.source x).qualified = false) : d.firstQualified = none := by
  rw [Dev.firstQualified, List.findSome?_eq_none_iff]
  intro k _
  cases Source.ofCode k with
  | none => rfl
  | some x => simp [h x]

/-! ### What is forgotten of a lost source -/

/-- A source is no longer qualified, nothing is kept of its samples, and 0xA002 is raised (R34). -/
def disqualify (src : Source) (d : Dev) : Dev :=
  let d := d.setSource src fun s => { s with qualified := false, last := none, offset := none }
  let d := (sourcePlaces src).foldl (fun d k => d.setSeries k none) d
  let d := d.put Obj.SOURCE_QUALIFIED (clearBit (d.u Obj.SOURCE_QUALIFIED) src.code)
  let d := d.setCourse fun c => match src with
    | .pps => { c with ppsEdge := none }
    | .loopMarker => { c with marker := none }
    | .ptpRing => { c with offsetsA := [], offsetsB := [] }
    | .ptpS => c
  d.raise 0xA002 (u8 src.code)

theorem sourceLost_of_qualified {src : Source} {d : Dev} (h : (d.source src).qualified = true) : d.sourceLost src =
    if (disqualify src d).course.active = some src then (disqualify src d).loseActive else disqualify src d := by
  unfold Dev.sourceLost
  rw [h, Bool.not_true, if_neg Bool.false_ne_true]
  rfl

section
variable (src : Source) (d : Dev)

theorem disqualify_sources : (disqualify src d).course.sources = d.course.sources.modify (src.code - 1) fun s =>
    { s with qualified := false, last := none, offset := none } := by
  cases src <;> simp [disqualify, sourcePlaces, Dev.setSeries]

theorem disqualify_active : (disqualify src d).course.active = d.course.active := by
  cases src <;> simp [disqualify, sourcePlaces, Dev.setSeries]

theorem disqualify_sync : (disqualify src d).course.sync = d.course.sync := by
  cases src <;> simp [disqualify, sourcePlaces, Dev.setSeries]

theorem disqualify_disc : (disqualify src d).course.disc = d.course.disc := by
  cases src <;> simp [disqualify, sourcePlaces, Dev.setSeries]

theorem activeSource_quiet : Obj.ACTIVE_SOURCE.quiet := by
  refine ⟨by decide, by decide, by decide, fun n => ?_⟩
  simp only [Obj.ACTIVE_SOURCE, Obj.STREAM_REFUSED]
  omega

theorem disqualify_activeSource : (disqualify src d).u Obj.ACTIVE_SOURCE = d.u Obj.ACTIVE_SOURCE := by
  rw [disqualify, Dev.raise_u _ _ _ _ activeSource_quiet, Dev.setCourse_u, Dev.put_u_ne _ _ _ _ (by decide)]
  cases src <;> rfl

theorem disqualify_qualified (x : Source) :
    ((disqualify src d).source x).qualified = if x = src then false else (d.source x).qualified :=
  qualified_of_modified (fun _ => rfl) (disqualify_sources src d) x

end

/-! ### The active source is gone -/

/-- The history of the sync-quality field is all that it may change (R48, R170). -/
theorem exists_noteQuality_eq (d : Dev) : ∃ l, d.noteQuality = { d with course := { d.course with qualities := l } } := by
  unfold Dev.noteQuality
  dsimp only
  split
  · exact ⟨_, rfl⟩
  · exact ⟨_, rfl⟩

section
variable (d : Dev)

@[simp] theorem noteQuality_live : d.noteQuality.live = d.live := by
  obtain ⟨l, h⟩ := exists_noteQuality_eq d
  rw [h]

@[simp] theorem noteQuality_u (q : Reg) : d.noteQuality.u q = d.u q := by
  rw [Dev.u, Dev.get, noteQuality_live, Dev.u, Dev.get]

@[simp] theorem noteQuality_sync : d.noteQuality.course.sync = d.course.sync := by
  obtain ⟨l, h⟩ := exists_noteQuality_eq d
  rw [h]

@[simp] theorem noteQuality_active : d.noteQuality.course.active = d.course.active := by
  obtain ⟨l, h⟩ := exists_noteQuality_eq d
  rw [h]

@[simp] theorem noteQuality_sources : d.noteQuality.course.sources = d.course.sources := by
  obtain ⟨l, h⟩ := exists_noteQuality_eq d
  rw [h]

theorem enterSync_sync (st : SyncState) : (d.enterSync st).course.sync = st := by
  cases st <;> (unfold Dev.enterSync; simp)

theorem enterSync_sources (st : SyncState) : (d.enterSync st).course.sources = d.course.sources := by
  cases st <;> (unfold Dev.enterSync; simp)

end

/-- With no source qualified a LOCKED course whose active source is gone goes to HOLDOVER after an hour of discipline, else to FREE. -/
theorem loseActive_of_locked {d : Dev} (h : d.firstQualified = none) (hsync : d.course.sync = .locked) :
    let e := d.enterSync (if 3600 * secTicks ≤ d.course.disc then .holdover else .free)
    d.loseActive = ((e.setCourse fun c => { c with lastCode := e.sourceCode, active := none }).put Obj.ACTIVE_SOURCE 0).noteQuality := by
  unfold Dev.loseActive
  rw [h]
  dsimp only
  rw [if_pos (Or.inr hsync)]

/-- The master of a PTP source is forgotten with it. -/
def withoutMaster (src : Source) (d : Dev) : Dev := d.when (src == .ptpRing || src == .ptpS) Dev.forgetMaster

theorem withoutMaster_eq_net (src : Source) (d : Dev) : withoutMaster src d = { d with net := (withoutMaster src d).net } := by
  unfold withoutMaster Dev.when
  split <;> rfl

theorem lost_of_qualified {src : Source} {d : Dev} (h : (d.source src).qualified = true) :
    d.lost src = (withoutMaster src (d.advanceTo (d.lossDue src))).sourceLost src := by
  unfold Dev.lost
  rw [h, Bool.not_true, if_neg Bool.false_ne_true]
  rfl

/-! ### The two cases -/

section
variable {src : Source} {d : Dev}

/-- The active source was lost, and no other one is qualified. -/
theorem sourceLost_of_last (hq : (d.source src).qualified = true) (hactive : d.course.active = some src)
    (hsync : d.course.sync = .locked) (hothers : ∀ x, x ≠ src → (d.source x).qualified = false) :
    let e := d.sourceLost src
    e.course.sync = (if 3600 * secTicks ≤ d.course.disc then .holdover else .free) ∧ e.course.active = none ∧
      e.u Obj.ACTIVE_SOURCE = 0 ∧ (e.source src).qualified = false := by
  have hnone : ∀ x, ((disqualify src d).source x).qualified = false := by
    intro x
    rw [disqualify_qualified]
    split
    · rfl
    · exact hothers x ‹_›
  have hlocked := (disqualify_sync src d).trans hsync
  rw [sourceLost_of_qualified hq, disqualify_active, if_pos hactive, loseActive_of_locked (firstQualified_eq_none hnone) hlocked,
    disqualify_disc]
  refine ⟨?sync, ?active, ?shown, ?lost⟩
  case sync => rw [noteQuality_sync, Dev.put_course, Dev.setCourse_course, enterSync_sync]
  case active => rw [noteQuality_active, Dev.put_course, Dev.setCourse_course]
  case shown =>
    rw [noteQuality_u, Dev.put_u_self]
    rfl
  case lost =>
    refine (congrArg SourceState.qualified (source_eq_of_sources (d := disqualify src d) ?_ src)).trans (hnone src)
    rw [noteQuality_sources, Dev.put_course, Dev.setCourse_course, enterSync_sources]

/-- A source that is not the active one was lost. -/
theorem sourceLost_of_other (hq : (d.source src).qualified = true) (hactive : d.course.active ≠ some src) :
    let e := d.sourceLost src
    e.course.sync = d.course.sync ∧ e.course.active = d.course.active ∧
      e.u Obj.ACTIVE_SOURCE = d.u Obj.ACTIVE_SOURCE ∧ (e.source src).qualified = false := by
  rw [sourceLost_of_qualified hq, disqualify_active, if_neg hactive]
  refine ⟨disqualify_sync src d, disqualify_active src d, disqualify_activeSource src d, ?lost⟩
  case lost => rw [disqualify_qualified, if_pos rfl]

end

theorem cleared_advance (n : Nat) (d : Dev) : d.cleared.advance n = (d.advance n).cleared := by
  unfold Dev.advance
  split <;> rfl

/-- The course at the loss of a source is that of the instant to which it lasts. -/
theorem atLoss_course (src : Source) (d : Dev) :
    (withoutMaster src (d.cleared.advanceTo (d.lossDue src))).course = (d.advanceTo (d.lossDue src)).course := by
  rw [withoutMaster_eq_net, Dev.advanceTo, cleared_advance]
  rfl

theorem atLoss_u (src : Source) (d : Dev) (q : Reg) :
    (withoutMaster src (d.cleared.advanceTo (d.lossDue src))).u q = d.u q := by
  rw [withoutMaster_eq_net]
  exact Dev.advanceTo_u d.cleared _ q

/-- What SOURCE_LOST leaves, for the instant at which the source is lost. -/
theorem after_sourceLost {s : State} {src : Source} {t : Nat} (ht : t = s.dev.lossDue src)
    (hq : (s.dev.source src).qualified = true) :
    let a := s.dev.advanceTo t
    (s.dev.course.active = some src → s.dev.course.sync = .locked → (∀ x, x ≠ src → (s.dev.source x).qualified = false) →
      s.after (.sourceLost src) fun e =>
        e.course.sync = (if 3600 * secTicks ≤ a.course.disc then .holdover else .free) ∧ e.course.active = none ∧
        e.u Obj.ACTIVE_SOURCE = 0 ∧ (e.source src).qualified = false ∧ e.course.ticks = a.course.ticks) ∧
    (s.dev.course.active ≠ some src →
      s.after (.sourceLost src) fun e =>
        e.course.sync = s.dev.course.sync ∧ e.course.active = s.dev.course.active ∧
        e.u Obj.ACTIVE_SOURCE = s.dev.u Obj.ACTIVE_SOURCE ∧ (e.source src).qualified = false ∧
        e.course.ticks = a.course.ticks) := by
  subst ht
  have hlost : s.dev.cleared.lost src = _ := lost_of_qualified hq
  have hu := atLoss_u src s.dev
  have hcourse := atLoss_course src s.dev
  have hreplies : (withoutMaster src (s.dev.cleared.advanceTo (s.dev.lossDue src))).device.replies = [] := by
    rw [withoutMaster_eq_net]
    exact Dev.advanceTo_device_replies s.dev.cleared _
  change s.dev.cleared.lost src = (withoutMaster src (s.dev.cleared.advanceTo (s.dev.lossDue src))).sourceLost src at hlost
  generalize withoutMaster src (s.dev.cleared.advanceTo (s.dev.lossDue src)) = b at hlost hu hcourse hreplies
  have hsame := Steps.SameInstant.sourceLost src (Steps.SameInstant.refl b)
  have hsources : b.course.sources = s.dev.course.sources := by rw [hcourse, Dev.advanceTo_course_sources]
  have hactive : b.course.active = s.dev.course.active := by rw [hcourse, Dev.advanceTo_course_active]
  have hsync : b.course.sync = s.dev.course.sync := by rw [hcourse, Dev.advanceTo_course_sync]
  have hsource := source_eq_of_sources hsources
  have hq' : (b.source src).qualified = true := by rw [hsource, hq]
  have hafter : ∀ {P : Dev → Prop}, P (b.sourceLost src) → s.after (.sourceLost src) P := fun {P} h =>
    after_of_act (Dev.lost src) rfl (by rw [hlost, hsame.replies, hreplies]) (hlost ▸ h)
  refine ⟨fun hlast hlocked hothers => hafter ?last, fun hother => hafter ?other⟩
  case last =>
    obtain ⟨hto, hnone, hzero, hun⟩ := sourceLost_of_last hq' (hactive.trans hlast) (hsync.trans hlocked)
      fun x hx => (congrArg _ (hsource x)).trans (hothers x hx)
    exact ⟨by rw [hto, hcourse], hnone, hzero, hun, by rw [hsame.ticks, hcourse]⟩
  case other =>
    obtain ⟨hto, hstays, hshown, hun⟩ := sourceLost_of_other hq' (hactive ▸ hother)
    exact ⟨hto.trans hsync, hstays.trans hactive, hshown.trans (hu _), hun, by rw [hsame.ticks, hcourse]⟩

/-- Settles O5: the loss at its instant, by whether the source was the active one. -/
theorem lostSource : Obligations.LostSource := by
  unfold Obligations.LostSource
  intro s src d wait a hq
  refine after_sourceLost ?instant hq
  case instant =>
    unfold Dev.lossDue
    cases (d.source src).last <;> rfl

end Sys2Proof.Course
end

section
/-! PROOFS. Events (R267, R273, R274, R338): an event is counted first; whether it is recorded is then judged as it was before, because
nothing that judges it reads the two objects that the count writes. -/

open Sys2Proof Sys2Proof.Machine

namespace Sys2Proof.Entries

theorem beBytes_length (len n : Nat) : (beBytes len n).length = len := by
  induction len with
  | zero => rfl
  | succ len ih => rw [beBytes, List.length_cons, ih]

/-! ### The count -/

section
variable (d : Dev) (code : Nat) (data : List Byte)

/-- The count writes the two objects of events alone. -/
theorem countEvent_eq_live : d.countEvent code data = { d with live := (d.countEvent code data).live } := rfl

theorem countEvent_live_get_ne {k : Nat} (x : Value) (hcount : k ≠ Obj.EVENT_COUNT.key) (hlast : k ≠ Obj.EVENT_LAST.key) :
    (d.countEvent code data).live.get k x = d.live.get k x := by
  simp only [Dev.countEvent, Dev.putB_live, Dev.bump_live, Store.get_set_ne _ _ _ _ _ _ hlast,
    Store.get_set_ne _ _ _ _ _ _ hcount]

theorem countEvent_registersBut : Dev.registersBut [Obj.EVENT_COUNT.key, Obj.EVENT_LAST.key] d (d.countEvent code data) := by
  intro k x hk
  simp only [List.mem_cons, List.not_mem_nil, or_false, not_or] at hk
  exact countEvent_live_get_ne d code data x hk.1 hk.2

/-- The objects above those of chapter 10's first block are none of the two. -/
theorem countEvent_u_of_lt {q : Reg} (h : Obj.EVENT_LAST.key < q.key) : (d.countEvent code data).u q = d.u q := by
  have hcount : q.key ≠ Obj.EVENT_COUNT.key := by
    simp only [Obj.EVENT_LAST, Obj.EVENT_COUNT] at h ⊢
    omega
  simp only [Dev.u, Dev.get, countEvent_live_get_ne d code data _ hcount (Nat.ne_of_gt h)]

theorem countEvent_count : (d.countEvent code data).u Obj.EVENT_COUNT = (d.u Obj.EVENT_COUNT + 1) % 2 ^ 32 := by
  simp only [Dev.countEvent, Dev.u, Dev.get, Dev.putB_live, Dev.bump_live, Store.get_set_ne _ _ _ _ _ _
    (show Obj.EVENT_COUNT.key ≠ Obj.EVENT_LAST.key by decide), Store.get_set_self]
  rfl

theorem countEvent_last : (d.countEvent code data).get Obj.EVENT_LAST = .bytes (u64 d.courseNs ++ eventPayload code data) :=
  Dev.putB_get_self _ _ _

end

/-! ### Whether an event is recorded -/

section
variable (d : Dev) (code : Nat) (data : List Byte)

theorem countEvent_subEnable (u : Nat) : (d.countEvent code data).on (Obj.SUB_ENABLE u) = d.on (Obj.SUB_ENABLE u) := by
  rw [Dev.on, countEvent_u_of_lt _ _ _ (by simp only [Obj.SUB_ENABLE, Obj.EVENT_LAST]; omega), Dev.on]

theorem countEvent_subStream (u : Nat) : (d.countEvent code data).u (Obj.SUB_STREAM u) = d.u (Obj.SUB_STREAM u) :=
  countEvent_u_of_lt _ _ _ (by simp only [Obj.SUB_STREAM, Obj.EVENT_LAST]; omega)

theorem countEvent_rateMax (k : Nat) : (d.countEvent code data).u (Obj.STREAM_RATE_MAX k) = d.u (Obj.STREAM_RATE_MAX k) :=
  countEvent_u_of_lt _ _ _ (by simp only [Obj.STREAM_RATE_MAX, Obj.EVENT_LAST]; omega)

theorem countEvent_burst (k : Nat) : (d.countEvent code data).u (Obj.STREAM_BURST k) = d.u (Obj.STREAM_BURST k) :=
  countEvent_u_of_lt _ _ _ (by simp only [Obj.STREAM_BURST, Obj.EVENT_LAST]; omega)

theorem countEvent_unacked (stream pos : Nat) : (d.countEvent code data).unacked stream pos = d.unacked stream pos := by
  simp only [Dev.unacked, countEvent_subEnable, countEvent_subStream]
  rfl

theorem countEvent_unreleased (i : LogItem) : (d.countEvent code data).unreleased i = d.unreleased i := by
  simp only [Dev.unreleased, countEvent_unacked]
  rfl

theorem countEvent_heldByLog (stream : Nat) : (d.countEvent code data).heldByLog stream = d.heldByLog stream := by
  have hfull : (d.countEvent code data).u Obj.LOG_FULL_PCT = d.u Obj.LOG_FULL_PCT := countEvent_u_of_lt _ _ _ (by decide)
  have hpages : (d.countEvent code data).logPages = d.logPages := countEvent_u_of_lt _ _ _ (by decide)
  have hat : (d.countEvent code data).unreleasedPages = d.unreleasedPages := by
    rw [Dev.unreleasedPages, Dev.unreleasedAt, funext (countEvent_unreleased d code data)]
    rfl
  have hany : (d.countEvent code data).hasUnreleased stream = d.hasUnreleased stream := by
    simp only [Dev.hasUnreleased, countEvent_unreleased]
    rfl
  rw [Dev.heldByLog, Dev.logFull, hfull, hpages, hat, hany, Dev.heldByLog, Dev.logFull]

/-- The judgement of R273 is the same before and after the count. -/
theorem countEvent_refusedAtSource (stream n bytes : Nat) (held : Bool) :
    (d.countEvent code data).refusedAtSource stream n bytes held = d.refusedAtSource stream n bytes held := by
  simp only [Dev.refusedAtSource, countEvent_rateMax, countEvent_burst]
  rfl

theorem countEvent_stamp (t : EntryType) (stream : Nat) (payload : List Byte) :
    (d.countEvent code data).stamp t stream payload = d.stamp t stream payload := by
  have hangle : (d.countEvent code data).angle = d.angle := by
    rw [Dev.angle, countEvent_u_of_lt _ _ _ (by decide), Dev.angle]
  simp only [Dev.stamp, Dev.syncQuality, hangle]
  rfl

/-- The entry that an event becomes (R267). -/
def eventEntry : Entry := d.stamp .event (d.u Obj.EVENT_STREAM) (eventPayload code data)

/-- An event is counted; what follows is judged by the device before it. -/
theorem raiseOnce_eq : d.raiseOnce code data =
    if !bit (d.u Obj.EVENT_MASK) (code / 4096) then (d.countEvent code data, true)
    else if d.refusedAtSource (d.u Obj.EVENT_STREAM) 1 (eventEntry d code data).size (d.heldByLog (d.u Obj.EVENT_STREAM)) then
      ((d.countEvent code data).bump (Obj.STREAM_REFUSED (d.u Obj.EVENT_STREAM)), false)
    else ((d.countEvent code data).bufferEntry (eventEntry d code data), true) := by
  have hmask : (d.countEvent code data).u Obj.EVENT_MASK = d.u Obj.EVENT_MASK := countEvent_u_of_lt _ _ _ (by decide)
  have hstream : (d.countEvent code data).u Obj.EVENT_STREAM = d.u Obj.EVENT_STREAM := countEvent_u_of_lt _ _ _ (by decide)
  simp only [Dev.raiseOnce, Dev.recordEvent, hmask, hstream, countEvent_stamp, countEvent_heldByLog, countEvent_refusedAtSource]
  rfl

theorem eventEntry_size : (eventEntry d code data).size = 32 + data.length := by
  simp only [eventEntry, Dev.stamp, Entry.size, eventPayload, u16, u8, List.length_append, beBytes_length]
  omega

end

/-! ### An event in its three cases -/

section
variable {d : Dev} (code : Nat) (data : List Byte)

theorem raise_of_unrecovered (h : d.start.recovered = false) : d.raise code data =
    { d with device := { d.device with heldEvents := d.device.heldEvents ++ [(code, data)] } } := by
  rw [Dev.raise, h, if_neg Bool.false_ne_true]

theorem raise_of_masked (h : d.start.recovered = true) (hmask : bit (d.u Obj.EVENT_MASK) (code / 4096) = false) :
    d.raise code data = d.countEvent code data := by
  rw [Dev.raise, if_pos h, Dev.raiseNow, raiseOnce_eq, hmask, Bool.not_false, if_pos rfl, if_pos rfl]

theorem raise_of_recorded (h : d.start.recovered = true) (hmask : bit (d.u Obj.EVENT_MASK) (code / 4096) = true)
    (hroom : d.refusedAtSource (d.u Obj.EVENT_STREAM) 1 (eventEntry d code data).size (d.heldByLog (d.u Obj.EVENT_STREAM)) = false) :
    d.raise code data = (d.countEvent code data).bufferEntry (eventEntry d code data) := by
  rw [Dev.raise, if_pos h, Dev.raiseNow, raiseOnce_eq, hmask, hroom, Bool.not_true, if_neg Bool.false_ne_true,
    if_neg Bool.false_ne_true, if_pos rfl]

theorem raise_of_refused (h : d.start.recovered = true) (hmask : bit (d.u Obj.EVENT_MASK) (code / 4096) = true)
    (hfull : d.refusedAtSource (d.u Obj.EVENT_STREAM) 1 (eventEntry d code data).size (d.heldByLog (d.u Obj.EVENT_STREAM)) = true) :
    d.raise code data =
      ((d.countEvent code data).bump (Obj.STREAM_REFUSED (d.u Obj.EVENT_STREAM))).reportRefused (d.u Obj.EVENT_STREAM) 2 := by
  rw [Dev.raise, if_pos h, Dev.raiseNow, raiseOnce_eq, hmask, hfull, Bool.not_true, if_neg Bool.false_ne_true, if_pos rfl]
  exact if_neg Bool.false_ne_true

end

theorem streamRefused_key_ne {q : Reg} (h : q.key < 0x501000) (k : Nat) : q.key ≠ (Obj.STREAM_REFUSED k).key := by
  simp only [Obj.STREAM_REFUSED]
  omega

/-- Settles O19: the three cases of an event, and the report of a refusal whose flag was set before. -/
theorem eventsAreCountedAndRecorded : Obligations.EventsAreCountedAndRecorded := by
  unfold Obligations.EventsAreCountedAndRecorded
  refine ⟨fun d code data => ⟨fun hrec hmask => ?masked, fun hrec hmask hrate hburst hroom hlog => ?recorded, fun hrec => ?held⟩,
    fun d code data hrec hmask hflag _ hrate => ?refused⟩
  case masked =>
    rw [raise_of_masked code data hrec hmask]
    exact ⟨countEvent_count d code data, countEvent_last d code data, rfl, countEvent_registersBut d code data⟩
  case recorded =>
    have hnot : d.refusedAtSource (d.u Obj.EVENT_STREAM) 1 (eventEntry d code data).size (d.heldByLog (d.u Obj.EVENT_STREAM))
        = false := by
      rw [eventEntry_size, hlog]
      simp only [Dev.refusedAtSource, Dev.bufferRoom, Bool.or_false, Bool.or_eq_false_iff, decide_eq_false_iff_not,
        Bool.not_eq_false', decide_eq_true_iff]
      omega
    rw [raise_of_recorded code data hrec hmask hnot]
    exact ⟨countEvent_count d code data, ⟨eventEntry d code data, rfl, rfl, rfl, rfl, rfl, rfl⟩, rfl, rfl,
      countEvent_registersBut d code data⟩
  case held =>
    rw [raise_of_unrecovered code data hrec]
    exact ⟨rfl, rfl, rfl⟩
  case refused =>
    have hfull : d.refusedAtSource (d.u Obj.EVENT_STREAM) 1 (eventEntry d code data).size (d.heldByLog (d.u Obj.EVENT_STREAM))
        = true := by
      have hover : d.u (Obj.STREAM_RATE_MAX (d.u Obj.EVENT_STREAM)) < d.rateCount (d.u Obj.EVENT_STREAM) + 1 := Nat.lt_succ_of_le hrate
      simp only [Dev.refusedAtSource, Bool.or_eq_true, decide_eq_true_iff]
      exact .inl (.inl (.inl hover))
    have hflags : ((d.countEvent code data).bump (Obj.STREAM_REFUSED (d.u Obj.EVENT_STREAM))).u Obj.ENTRY_FLAGS = d.u Obj.ENTRY_FLAGS := by
      rw [Dev.bump_u_ne _ _ _ (streamRefused_key_ne (by decide) _), countEvent_u_of_lt _ _ _ (by decide)]
    have hwas : ((d.countEvent code data).bump (Obj.STREAM_REFUSED (d.u Obj.EVENT_STREAM))).flagWas Obj.ENTRY_FLAGS 0 = true := by
      rw [Dev.flagWas, hflags, hflag, Bool.true_or]
    dsimp only
    rw [raise_of_refused code data hrec hmask hfull, Dev.reportRefused, if_pos hwas]
    refine ⟨?counted, ?event, ?flag, rfl⟩
    case counted =>
      rw [Dev.u, Dev.setFlag_get _ _ _ _ (streamRefused_key_ne (by decide) _).symm]
      refine (Dev.bump_u_self _ _).trans ?_
      rw [countEvent_u_of_lt _ _ _ (by simp only [Obj.STREAM_REFUSED, Obj.EVENT_LAST]; omega)]
      rfl
    case event =>
      rw [Dev.u, Dev.setFlag_get _ _ _ _ (by decide)]
      refine (Dev.bump_u_ne _ _ _ (streamRefused_key_ne (by decide) _)).trans (countEvent_count d code data)
    case flag =>
      rw [Dev.setFlag_u_self, show 256 ^ Obj.ENTRY_FLAGS.size = 2 ^ 16 from rfl, bit, Nat.testBit_mod_two_pow]
      have hset : (setBit (((d.countEvent code data).bump (Obj.STREAM_REFUSED (d.u Obj.EVENT_STREAM))).u Obj.ENTRY_FLAGS) 0).testBit 0
          = true := by rw [← bit, Security.bit_setBit]; simp
      rw [hset]
      rfl

end Sys2Proof.Entries
end

section
/-! PROOFS. The front end's commands (R67, R68, R70, R84–R86; logs 6, 71, 72): overload, reference fault, excitation compliance, and the
open-wire check with what it finds. -/

open Sys2Proof Sys2Proof.Machine

namespace Sys2Proof.FrontEnd

/-! ### Seats -/

theorem setSeat_seat_self {d : Dev} {n : Nat} (h : n < d.seats.length) (f : Seat → Seat) :
    (d.setSeat n f).seat n = f (d.seat n) := by
  simp [Dev.seat, List.getD_eq_getElem?_getD, List.getElem?_eq_getElem h]

theorem setSeat_conv {d : Dev} {n : Nat} {f : Seat → Seat} (hf : ∀ x, (f x).conv = x.conv) :
    ((d.setSeat n f).seat n).conv = (d.seat n).conv := by
  rw [Dev.seat, Dev.setSeat_seats, List.getD_eq_getElem?_getD, List.getElem?_modify, Dev.seat, List.getD_eq_getElem?_getD]
  cases d.seats[n]? with
  | none => rfl
  | some x => simp [hf x]

theorem advanceTo_seat (d : Dev) (t n : Nat) : (d.advanceTo t).seat n = d.seat n := by
  rw [Dev.seat, Dev.advanceTo_seats, Dev.seat]

/-! ### Overload and reference -/

theorem modulatorOverload_eq (c : Nat) (negative : Bool) (d : Dev) :
    let done := d.course.elapsed + d.freshNat % 66
    let o := ((d.tickFresh).setConv c fun v => { v with overload := some negative, clean := done + 132 }).overloadPhase c done
    d.modulatorOverload c negative =
      if (d.conv c).overload = none then (o.bump (Obj.OVERLOAD_COUNT c)).flagRaise (Obj.CV_FLAGS c) 1 0x2002 (u8 c) else o := by
  cases hfirst : (d.conv c).overload <;> simp only [Dev.modulatorOverload, hfirst] <;> rfl

theorem refFault_of_external {d : Dev} {c : Nat} (hext : d.refExternal c = true) (hnone : (d.conv c).refActive = false)
    (instant : Nat) : d.refFault c instant =
      ((d.advanceTo (instant + 656)).setConv c fun v => { v with
        refs := (instant, none) :: (d.advanceTo (instant + 656)).recentRefs v.refs
        refActive := true }).flagRaise (Obj.CV_FLAGS c) 2 0x2003 (u8 c) := by
  rw [Dev.refFault, hext, hnone]
  exact if_neg Bool.false_ne_true

theorem refFaultClear_of_active {d : Dev} {c : Nat} (h : (d.conv c).refActive = true) : d.refFaultClear c =
    (d.setConv c fun v => { v with
      refActive := false
      refs := v.refs.map fun p => (p.1, p.2.orElse fun _ => some d.course.elapsed) }).raise 0x2004 (u8 c) := by
  have hend : ∀ o : Option Nat, (match o with | some e => some e | none => some d.course.elapsed) =
      o.orElse fun _ => some d.course.elapsed := by
    intro o
    cases o <;> rfl
  rw [Dev.refFaultClear, h]
  simp only [Bool.not_true, Bool.false_eq_true, if_false, ← hend] <;> rfl

theorem iexcCompliance_of_on {d : Dev} {k : Nat} (h : d.u (Obj.IEXC_LEVEL k) ≠ 0) :
    d.iexcCompliance k = (d.setFlag Obj.IEXC_FLAGS k).raise 0x2005 (u8 k) := by
  simp only [Dev.iexcCompliance, Dev.when, bne_iff_ne, ne_eq, h, not_false_eq_true, if_true, Dev.flagRaise]

theorem iexcCompliance_of_off {d : Dev} {k : Nat} (h : d.u (Obj.IEXC_LEVEL k) = 0) : d.iexcCompliance k = d := by
  simp only [Dev.iexcCompliance, Dev.when, h, bne_self_eq_false, Bool.false_eq_true, if_false]

/-! ### The open-wire check -/

theorem checkStart_of_free {d : Dev} {n : Nat} (hdue : (d.seat n).check = some .due) (hdac : d.dacBusy = false)
    (hlower : d.lowerDue n = false) : d.checkStart n = d.setSeat n fun x => { x with
      check := some (.running d.course.elapsed), cont := none
      spans := (d.course.elapsed, d.course.elapsed + 13108, d.u (Obj.SEQ_ENTRY n x.entryNow)) ::
        x.spans.filter fun p => decide (d.course.elapsed ≤ p.2.1 + longestWindow) } := by
  rw [Dev.checkStart, if_neg (not_not.mpr hdue), hdac, hlower]
  rfl

theorem checkStart_of_taken {d : Dev} {n c : Nat} (hdue : (d.seat n).check = some .due)
    (htaken : d.dacBusy = true ∨ d.lowerDue n = true) (hconv : (d.seat n).conv = some c) : d.checkStart n =
      (((d.setSeat n fun x => { x with check := none }).bump (Obj.OW_DEFERRED n)).setFlag (Obj.CV_FLAGS c) 5).nextEntry n := by
  have hkept : (((d.setSeat n fun x => { x with check := none }).bump (Obj.OW_DEFERRED n)).seat n).conv = some c :=
    (setSeat_conv (f := fun x => { x with check := none }) fun _ => rfl).trans hconv
  rw [Dev.checkStart, if_neg (not_not.mpr hdue), if_pos ((Bool.or_eq_true _ _).mpr htaken)]
  simp only [hkept]

theorem checkEnd_of_running {d : Dev} {n t : Nat} (h : (d.seat n).check = some (.running t)) (xp xm : Reading) :
    let e := (d.seat n).entryNow
    let found := (d.advanceTo (t + 12751)).checkFinding n e
      (findsOpen (d.u (Obj.OW_THRESHOLD n)) (d.u (Obj.OW_AMPLITUDE n)) xp xm)
    let done := ((found.advanceTo (t + 13108)).bump (Obj.OW_CHECKS n)).setSeat n fun x => { x with
      check := none, checked := (e, t) :: x.checked.filter fun p => p.1 != e }
    d.checkEnd n xp xm = done.release n false fun x =>
      if past x.course.elapsed (x.seat n).startAt then x.startTable n else x.nextEntry n := by
  simp only [Dev.checkEnd, h, checkDecision, checkTicks, advanceTo_seat, Dev.advanceTo_u]

section
variable {d : Dev} {n e c : Nat}

/-- A first open result marks the entry and asks for another (R85). -/
theorem checkFinding_open_first (hopen : bit (d.u (Obj.OW_OPEN n)) e = false) (hfirst : bit (d.seat n).recheck e = false) :
    d.checkFinding n e true = d.setSeat n fun x => { x with marked := setBit x.marked e, recheck := setBit x.recheck e } := by
  simp only [Dev.checkFinding, hopen, hfirst, if_true, Bool.false_eq_true, if_false]

/-- A second open result declares the entry open (R85). -/
theorem checkFinding_open_second (hopen : bit (d.u (Obj.OW_OPEN n)) e = false) (hsecond : bit (d.seat n).recheck e = true)
    (hconv : (d.seat n).conv = some c) : d.checkFinding n e true =
      ((d.setSeat n fun x => { x with recheck := clearBit x.recheck e }).put (Obj.OW_OPEN n)
        (setBit (d.u (Obj.OW_OPEN n)) e)).flagRaise (Obj.CV_FLAGS c) 3 0x2006 (u8 n ++ u8 e) := by
  simp only [Dev.checkFinding, hopen, hsecond, hconv, if_true, Bool.false_eq_true, if_false, Option.getD_some, Dev.setSeat_u]

theorem checkFinding_open_declared (hopen : bit (d.u (Obj.OW_OPEN n)) e = true) : d.checkFinding n e true = d := by
  simp only [Dev.checkFinding, hopen, if_true]

/-- A clean result of an entry that is to be checked again counts as transient (R85). -/
theorem checkFinding_clean_second (hopen : bit (d.u (Obj.OW_OPEN n)) e = false) (hsecond : bit (d.seat n).recheck e = true) :
    d.checkFinding n e false =
      (d.setSeat n fun x => { x with marked := clearBit x.marked e, recheck := clearBit x.recheck e }).bump
        (Obj.OW_TRANSIENT n) := by
  simp only [Dev.checkFinding, hopen, hsecond, if_true, Bool.false_eq_true, if_false]

/-- A clean result of a declared entry closes it (R86). -/
theorem checkFinding_clean_declared (hopen : bit (d.u (Obj.OW_OPEN n)) e = true) (hconv : (d.seat n).conv = some c) :
    d.checkFinding n e false =
      ((d.setSeat n fun x => { x with marked := clearBit x.marked e }).put (Obj.OW_OPEN n)
        (clearBit (d.u (Obj.OW_OPEN n)) e)).flagRaise (Obj.CV_FLAGS c) 4 0x2007 (u8 n ++ u8 e) := by
  simp only [Dev.checkFinding, hopen, hconv, if_true, Bool.false_eq_true, if_false, Option.getD_some, Dev.setSeat_u]

theorem checkFinding_clean_first (hopen : bit (d.u (Obj.OW_OPEN n)) e = false) (hfirst : bit (d.seat n).recheck e = false) :
    d.checkFinding n e false = d := by
  simp only [Dev.checkFinding, hopen, hfirst, Bool.false_eq_true, if_false]

end

theorem bit_setBit_self (n k : Nat) : bit (setBit n k) k = true := by simp [Security.bit_setBit]

theorem bit_clearBit_self (n k : Nat) : bit (clearBit n k) k = false := by simp [Security.bit_clearBit]

/-- Settles O8: each command by the equation of its operation, and a finding by the equation of its case. -/
theorem frontEndCommands : Obligations.FrontEndCommands := by
  unfold Obligations.FrontEndCommands
  refine ⟨fun s => ⟨fun c negative => ?overload, fun c instant hext hnone => ?fault, fun c hactive => ?faultEnd,
    fun k hon => ?compliance, fun k hoff => ?noExcitation, fun n hdue hdac hlower => ?start,
    fun n c hdue htaken hconv => ?deferred, fun n t xp xm hrun => ?finish⟩, fun d n e c hconv hseat _ _ => ?findings⟩
  case overload => exact becomes_of_act _ rfl (modulatorOverload_eq c negative _)
  case fault => exact becomes_of_act _ rfl (refFault_of_external hext hnone instant)
  case faultEnd => exact becomes_of_act _ rfl (refFaultClear_of_active hactive)
  case compliance => exact becomes_of_act _ rfl (iexcCompliance_of_on hon)
  case noExcitation => exact becomes_of_act _ rfl (iexcCompliance_of_off hoff)
  case start => exact becomes_of_act _ rfl (checkStart_of_free hdue hdac hlower)
  case deferred => exact becomes_of_act _ rfl (checkStart_of_taken hdue htaken hconv)
  case finish => exact becomes_of_act _ rfl (checkEnd_of_running hrun xp xm)
  case findings =>
    refine ⟨fun hopen hfirst => ?first, fun hopen hsecond => ?second, fun hopen => ?declared,
      fun hopen hfirst => checkFinding_clean_first hopen hfirst⟩
    case first =>
      dsimp only
      rw [checkFinding_open_first hopen hfirst, setSeat_seat_self hseat]
      exact ⟨bit_setBit_self _ _, bit_setBit_self _ _, rfl⟩
    case second =>
      rw [checkFinding_clean_second hopen hsecond]
      refine ⟨checkFinding_open_second hopen hsecond hconv, Dev.bump_u_self _ _, ?_⟩
      refine (congrArg (fun x => bit (Seat.marked x) e) (setSeat_seat_self hseat fun x =>
        { x with marked := clearBit x.marked e, recheck := clearBit x.recheck e })).trans (bit_clearBit_self _ _)
    case declared => exact ⟨checkFinding_open_declared hopen, checkFinding_clean_declared hopen hconv⟩

end Sys2Proof.FrontEnd
end

section
/-! PROOFS. What flags read after they are raised, and the commands of the tables (R97, R99–R101, R107): windows, delays, triggers and
injected conversions. -/

open Sys2Proof Sys2Proof.Machine

namespace Sys2Proof.Registers

/-- The registers between EVENT_LAST and ENTRY_FLAGS are none of the event log. -/
theorem quiet_of_between {q : Reg} (hlow : 0x100302 < q.key) (hhigh : q.key < 0x500007) : q.quiet := by
  refine ⟨?_, ?_, ?_, fun n => ?_⟩
  · simp only [Obj.EVENT_COUNT]; omega
  · simp only [Obj.EVENT_LAST]; omega
  · simp only [Obj.ENTRY_FLAGS]; omega
  · simp only [Obj.STREAM_REFUSED]; omega

theorem bit_setBit_mod (n : Nat) {k size : Nat} (h : k < 8 * size) : bit (setBit n k % 256 ^ size) k = true := by
  rw [show 256 ^ size = 2 ^ (8 * size) from (pow_mul 2 8 size).symm, bit, Nat.testBit_mod_two_pow, decide_eq_true h, Bool.true_and]
  exact (Security.bit_setBit n k k).trans (by simp)

section
variable {d : Dev} {r q : Reg} {k code : Nat} {data : List Byte}

theorem flagFirst_u (hq : q.quiet) (hne : q.key ≠ r.key) : (d.flagFirst r k code data).u q = d.u q := by
  rw [Dev.u, Dev.flagFirst_get _ _ _ _ _ _ hq hne, Dev.u]

theorem flagFirst_u_self (hr : r.quiet) : (d.flagFirst r k code data).u r = setBit (d.u r) k % 256 ^ r.size := by
  unfold Dev.flagFirst
  split
  · exact Dev.setFlag_u_self _ _ _
  · rw [Dev.raise_u _ _ _ _ hr, Dev.setFlag_u_self]

theorem bit_flagFirst_self (hr : r.quiet) (hk : k < 8 * r.size) : bit ((d.flagFirst r k code data).u r) k = true := by
  rw [flagFirst_u_self hr]
  exact bit_setBit_mod _ hk

end

end Sys2Proof.Registers

namespace Sys2Proof.Sequencing

open Registers

section
variable {d : Dev} {n : Nat}

/-! ### Windows and delays -/

theorem entryWindowEnd_of_run {r : EntryRun} (h : (d.seat n).run = some r) : d.entryWindowEnd n =
    let a := (d.advanceTo r.windowEnd).setSeat n fun x => { x with run := none }
    if a.calTakes n then a.setSeat n fun x => { x with cont := none }
    else if delayOf r.word = 0 then a.afterEntry n
    else a.setSeat n fun x => { x with delayEnd := some (r.windowEnd + delayOf r.word) } := by
  rw [Dev.entryWindowEnd, h]

theorem delayEndNow_of_unguarded {t : Nat} (h : (d.seat n).delayEnd = some t) (hfree : (d.advanceTo t).guarded n = false) :
    d.delayEndNow n = (d.advanceTo t).afterEntry n := by
  rw [Dev.delayEndNow, h]
  simp only [hfree, Bool.false_eq_true, if_false]

theorem injWindowEnd_of_running {t : Nat} (h : (d.seat n).inj = some t) : d.injWindowEnd n =
    ((d.advanceTo t).setSeat n fun x => { x with inj := none }).release n false (Dev.resumeTable n) := by
  rw [Dev.injWindowEnd, h]

/-! ### Triggers -/

theorem armed_advanceTo (t : Nat) : (d.advanceTo t).armed n = d.armed n := by
  rw [Dev.armed, FrontEnd.advanceTo_seat, Dev.armed]

theorem triggerStart_of_unguarded {t : Nat} (h : (d.seat n).startAt = some t) (hfree : (d.advanceTo t).guarded n = false) :
    d.triggerStart n =
      if d.armed n then (d.advanceTo t).startTable n else (d.advanceTo t).setSeat n fun x => { x with startAt := none } := by
  rw [Dev.triggerStart, h]
  simp only [hfree, armed_advanceTo, Bool.false_eq_true, if_false]

theorem trigger_of_unarmed (h : d.armed n = false) : d.trigger n = d := by
  rw [Dev.trigger, h]
  rfl

theorem trigger_of_idle (h : d.condition n = .idle) (harmed : d.armed n = true) : d.trigger n = d.pendStart n := by
  simp only [Dev.trigger, h, harmed, Bool.not_true, Bool.false_eq_true, if_false]

theorem trigger_of_converting (h : d.condition n = .converting) (harmed : d.armed n = true) (hignore : d.u (Obj.RETRIG n) = 1) :
    d.trigger n = d.countMissed n := by
  simp only [Dev.trigger, h, harmed, hignore, Bool.not_true, Bool.false_eq_true, if_false, beq_self_eq_true, if_true]

theorem trigger_of_stopped (h : d.condition n = .stopped) : d.trigger n = d := by
  simp only [Dev.trigger, h, ite_self]

/-- Only an armed table is converting, delaying, pending or idle. -/
theorem armed_of_condition {c : Condition} (h : d.condition n = c) (hguarded : c ≠ .guarded) (hstopped : c ≠ .stopped) :
    d.armed n = true := by
  subst h
  by_contra hunarmed
  rw [Bool.not_eq_true] at hunarmed
  cases hg : d.guarded n with
  | true => exact hguarded (by simp only [Dev.condition, hg, if_true])
  | false => exact hstopped (by
      simp only [Dev.condition, hg, hunarmed, Bool.false_eq_true, if_false, Bool.not_false, if_true])

theorem pendStart_of_zero (h : d.u (Obj.TRIG_DELAY n) = 0) : d.pendStart n = d.startTable n := by
  rw [Dev.pendStart]
  exact if_pos h

theorem pendStart_of_delay (h : d.u (Obj.TRIG_DELAY n) ≠ 0) : d.pendStart n =
    d.setSeat n fun x => { x with startAt := some (d.course.elapsed + 8 * d.u (Obj.TRIG_DELAY n)) } := by
  rw [Dev.pendStart]
  exact if_neg h

/-! ### A missed trigger -/

theorem trigMissed_quiet (h : n < 4) : (Obj.TRIG_MISSED n).quiet :=
  quiet_of_between (by simp only [Obj.TRIG_MISSED]; omega) (by simp only [Obj.TRIG_MISSED]; omega)

theorem seqFlags_quiet (h : n < 4) : (Obj.SEQ_FLAGS n).quiet :=
  quiet_of_between (by simp only [Obj.SEQ_FLAGS]; omega) (by simp only [Obj.SEQ_FLAGS]; omega)

theorem countMissed_trigMissed (h : n < 4) : (d.countMissed n).u (Obj.TRIG_MISSED n) = (d.u (Obj.TRIG_MISSED n) + 1) % 2 ^ 32 := by
  have hne : (Obj.TRIG_MISSED n).key ≠ (Obj.SEQ_FLAGS n).key := by
    simp only [Obj.TRIG_MISSED, Obj.SEQ_FLAGS]
    omega
  rw [Dev.countMissed, flagFirst_u (trigMissed_quiet h) hne, Dev.bump_u_self]
  rfl

theorem countMissed_flag (h : n < 4) : bit ((d.countMissed n).u (Obj.SEQ_FLAGS n)) 0 = true :=
  bit_flagFirst_self (seqFlags_quiet h) (by simp [Obj.SEQ_FLAGS])

end

/-- Settles O9: each command by the equation of its operation, a trigger by the condition of its table. -/
theorem sequencingCommands : Obligations.SequencingCommands := by
  unfold Obligations.SequencingCommands
  refine ⟨fun s n => ⟨fun r hrun => ⟨fun htakes => ?taken, fun htakes hdelay => ?delayed, fun htakes hzero => ?next⟩,
    fun t hdelay hfree => ?delayEnd, fun t hstart hfree harmed => ?start, fun t hstart hfree harmed => ?unarmed,
    fun t hinj => ?injected⟩, fun d n hseat hn => ⟨fun hidle hdelay => ?pend, fun hidle hzero => ?atOnce,
    fun hconv hignore => ?missed, fun hstopped => trigger_of_stopped hstopped⟩⟩
  case taken => exact becomes_of_act _ rfl ((entryWindowEnd_of_run hrun).trans (if_pos htakes))
  case delayed =>
    exact becomes_of_act _ rfl ((entryWindowEnd_of_run hrun).trans
      ((if_neg (ne_true_of_eq_false htakes)).trans (if_neg hdelay)))
  case next =>
    exact becomes_of_act _ rfl ((entryWindowEnd_of_run hrun).trans
      ((if_neg (ne_true_of_eq_false htakes)).trans (if_pos hzero)))
  case delayEnd => exact becomes_of_act _ rfl (delayEndNow_of_unguarded hdelay hfree)
  case start => exact becomes_of_act _ rfl ((triggerStart_of_unguarded hstart hfree).trans (if_pos harmed))
  case unarmed =>
    exact becomes_of_act _ rfl ((triggerStart_of_unguarded hstart hfree).trans (if_neg (ne_true_of_eq_false harmed)))
  case injected => exact becomes_of_act _ rfl (injWindowEnd_of_running hinj)
  case pend =>
    have harmed := armed_of_condition hidle (by decide) (by decide)
    rw [trigger_of_idle hidle harmed, pendStart_of_delay hdelay, FrontEnd.setSeat_seat_self hseat]
    exact ⟨rfl, rfl, rfl⟩
  case atOnce =>
    have harmed := armed_of_condition hidle (by decide) (by decide)
    exact (trigger_of_idle hidle harmed).trans (pendStart_of_zero hzero)
  case missed =>
    have harmed := armed_of_condition hconv (by decide) (by decide)
    rw [trigger_of_converting hconv harmed hignore]
    exact ⟨countMissed_trigMissed hn, countMissed_flag hn, by simp [Dev.countMissed], by simp [Dev.countMissed]⟩

end Sys2Proof.Sequencing
end

section
/-! PROOFS. Transitions (R414, R417, R418; log 102): profile changes, sleep entries and their handshake, refusal and supersession. -/

open Sys2Proof Sys2Proof.Machine

namespace Sys2Proof.Registers

section
variable {d : Dev} {r q : Reg} {k code : Nat} {data : List Byte}

theorem flagRaise_u (hq : q.quiet) (hne : q.key ≠ r.key) : (d.flagRaise r k code data).u q = d.u q := by
  rw [Dev.u, Dev.flagRaise_get _ _ _ _ _ _ hq hne, Dev.u]

theorem flagRaise_u_self (hr : r.quiet) : (d.flagRaise r k code data).u r = setBit (d.u r) k % 256 ^ r.size := by
  rw [Dev.flagRaise, Dev.raise_u _ _ _ _ hr, Dev.setFlag_u_self]

theorem bit_flagRaise_self (hr : r.quiet) (hk : k < 8 * r.size) : bit ((d.flagRaise r k code data).u r) k = true := by
  rw [flagRaise_u_self hr]
  exact bit_setBit_mod _ hk

/-- What holds of a device and of what an operation makes of it holds where the operation may be left out. -/
theorem when_of {P : Dev → Prop} {c : Bool} {f : Dev → Dev} (hd : P d) (hf : P (f d)) : P (d.when c f) := by
  cases c
  · exact hd
  · exact hf

theorem when_u {c : Bool} {f : Dev → Dev} (h : (f d).u q = d.u q) : (d.when c f).u q = d.u q :=
  when_of (P := fun x => x.u q = d.u q) rfl h

end

end Sys2Proof.Registers

namespace Sys2Proof.Power

open Registers

/-- The registers of the power chapter are none of the event log. -/
theorem quiet_of_power (sub : Nat) (h : sub < 256) (size : Nat) (dflt : Value) : Reg.quiet ⟨0x120000 + sub, size, dflt⟩ :=
  quiet_of_between (by show 0x100302 < 0x120000 + sub; omega) (by show 0x120000 + sub < 0x500007; omega)

theorem pwrResult_quiet : Obj.PWR_RESULT.quiet := quiet_of_power 7 (by decide) _ _
theorem pwrFlags_quiet : Obj.PWR_FLAGS.quiet := quiet_of_power 2 (by decide) _ _
theorem sleepRefused_quiet : Obj.SLEEP_REFUSED.quiet := quiet_of_power 0x12 (by decide) _ _
theorem transitionsSuperseded_quiet : Obj.TRANSITIONS_SUPERSEDED.quiet := quiet_of_power 0x13 (by decide) _ _

section
variable {d : Dev}

/-! ### Starts -/

theorem profileChangeStart_of_ok {f : Dev} {k : Nat} (hk : k < 3) (hfree : d.power.running = none)
    (hqueued : d.power.queued = some k) (hon : d.power.mode = .on)
    (hcheck : (d.setPower fun p => { p with queued := none }).profileCheck k = .ok f) :
    d.profileChangeStart = f.setPower fun p => { p with running := some (.profile k) } := by
  simp only [Dev.profileChangeStart, hfree, hqueued, hon, Nat.not_le.mpr hk, hcheck, decide_false, ne_eq, not_true_eq_false,
    Bool.or_self, Bool.false_eq_true, if_false]

theorem profileChangeStart_of_error {f : Dev} {r : Fail} {k : Nat} (hk : k < 3) (hfree : d.power.running = none)
    (hqueued : d.power.queued = some k) (hon : d.power.mode = .on)
    (hcheck : (d.setPower fun p => { p with queued := none }).profileCheck k = .error (r, f)) :
    d.profileChangeStart = f.refuseTransition k 0 0xF0 := by
  simp only [Dev.profileChangeStart, hfree, hqueued, hon, Nat.not_le.mpr hk, hcheck, decide_false, ne_eq, not_true_eq_false,
    Bool.or_self, Bool.false_eq_true, if_false]

theorem handshakeStart_of_queued {k : Nat} (hk : 3 ≤ k) (hfree : d.power.running = none) (hqueued : d.power.queued = some k)
    (hon : d.power.mode = .on) : d.handshakeStart = (d.storeTestFailed 2).setPower fun p => { p with
      queued := none, latched := 0
      running := some (.handshake k (List.replicate 8 (.queried (d.storeTestFailed 2).course.elapsed false))) } := by
  simp only [Dev.handshakeStart, hfree, hqueued, hon, Nat.not_lt.mpr hk, decide_false, ne_eq, not_true_eq_false,
    Bool.or_self, Bool.false_eq_true, if_false]

theorem profileChangeStart_of_running (h : d.power.running ≠ none) : d.profileChangeStart = d := by
  obtain ⟨r, hr⟩ := Option.ne_none_iff_exists'.mp h
  simp only [Dev.profileChangeStart, hr]

theorem handshakeStart_of_running (h : d.power.running ≠ none) : d.handshakeStart = d := by
  obtain ⟨r, hr⟩ := Option.ne_none_iff_exists'.mp h
  simp only [Dev.handshakeStart, hr]

/-! ### The answer of an agent -/

section
variable {k a t ms : Nat} {again : Bool} {l : List AgentState} (hrun : d.power.running = some (.handshake k l))
include hrun

theorem agentAnswer_of_refusal {r : Nat} (hquery : l.getD a .accepted = .queried t again) (hrefuse : d.agentRefuses k a = some r) :
    d.agentAnswer a ms = d.refuseTransition k a r := by
  simp only [Dev.agentAnswer, hrun, hquery, hrefuse]

theorem agentAnswer_of_delay_again (hquery : l.getD a .accepted = .queried t true) (hrefuse : d.agentRefuses k a = none)
    (hdelay : d.agentDelays a = true) :
    d.agentAnswer a ms = d.refuseTransition k a (if a = 7 then 0x08 else 0xFE) := by
  simp only [Dev.agentAnswer, hrun, hquery, hrefuse, hdelay, if_true]

theorem agentAnswer_of_long_delay (hquery : l.getD a .accepted = .queried t false) (hrefuse : d.agentRefuses k a = none)
    (hdelay : d.agentDelays a = true) (hlong : 100 < ms) : d.agentAnswer a ms = d.refuseTransition k a (agentReason a) := by
  simp only [Dev.agentAnswer, hrun, hquery, hrefuse, hdelay, hlong, if_true, Bool.false_eq_true, if_false]

theorem agentAnswer_of_short_delay (hquery : l.getD a .accepted = .queried t false) (hrefuse : d.agentRefuses k a = none)
    (hdelay : d.agentDelays a = true) (hshort : ms ≤ 100) : d.agentAnswer a ms = d.setPower fun p => { p with
      running := some (.handshake k (l.set a (.delayed (d.course.elapsed + ms * msTicks)))) } := by
  simp only [Dev.agentAnswer, hrun, hquery, hrefuse, hdelay, Nat.not_lt.mpr hshort, if_true, Bool.false_eq_true, if_false]

theorem agentAnswer_of_acceptance (hquery : l.getD a .accepted = .queried t again) (hrefuse : d.agentRefuses k a = none)
    (hready : d.agentDelays a = false) : d.agentAnswer a ms =
      let e := d.setPower fun p => { p with running := some (.handshake k (l.set a .accepted)) }
      if (l.set a .accepted).all (fun x => x == .accepted) then e.closingPhase k else e := by
  simp only [Dev.agentAnswer, hrun, hquery, hrefuse, hready, Bool.false_eq_true, if_false, Dev.when]

theorem agentTimeout_of_queried (hquery : l.getD a .accepted = .queried t again) :
    d.agentTimeout a = (d.advanceTo (t + msTicks)).refuseTransition k a 0xFE := by
  simp only [Dev.agentTimeout, hrun, hquery]

theorem agentDelayExpiry_of_delayed {due : Nat} (hdelayed : l.getD a .accepted = .delayed due) : d.agentDelayExpiry a =
    (d.advanceTo due).setPower fun p => { p with
      running := some (.handshake k (l.set a (.queried (d.advanceTo due).course.elapsed true))) } := by
  simp only [Dev.agentDelayExpiry, hrun, hdelayed]

end

/-! ### Refusal -/

section
variable {k a r : Nat}

theorem latchedCause_u {q : Reg} (hq : q.key ≠ Obj.WAKE_CAUSE.key) (x : Dev) (c : Bool) :
    (x.when c fun e => e.put Obj.WAKE_CAUSE e.power.latched).u q = x.u q :=
  when_u (Dev.put_u_ne _ _ _ _ hq)

theorem refuseTransition_running : (d.refuseTransition k a r).power.running = none := rfl

theorem refuseTransition_latched : (d.refuseTransition k a r).power.latched = 0 := rfl

/-- Of the power state it ends what runs and forgets what was latched. -/
theorem refuseTransition_power :
    (d.refuseTransition k a r).power = { d.power with running := none, latched := 0 } := by
  have hcounted : ((d.pwrResult 2 k a r).when (decide (3 ≤ k)) (Dev.bump Obj.SLEEP_REFUSED)).power = d.power :=
    when_of (P := fun x => x.power = d.power) rfl rfl
  have hraised : ∀ x : Dev, x.power = d.power → ∀ c : Bool, (x.when c fun e => e.put Obj.WAKE_CAUSE e.power.latched).power = d.power :=
    fun x hx c => when_of (P := fun y => y.power = d.power) hx hx
  exact congrArg (fun p : Power => { p with running := none, latched := 0 })
    (hraised _ ((Dev.flagRaise_power _ _ _ _ _).trans hcounted) _)

/-- A register that neither the cause of a wake nor the report of the refusal is. -/
theorem refuseTransition_u {q : Reg} (hq : q.quiet) (hflags : q.key ≠ Obj.PWR_FLAGS.key) (hcause : q.key ≠ Obj.WAKE_CAUSE.key) :
    (d.refuseTransition k a r).u q = ((d.pwrResult 2 k a r).when (decide (3 ≤ k)) (Dev.bump Obj.SLEEP_REFUSED)).u q := by
  rw [Dev.refuseTransition, Dev.setPower_u, latchedCause_u hcause, flagRaise_u hq hflags]

theorem refuseTransition_result (hk : k < 6) (ha : a < 8) (hr : r < 256) :
    (d.refuseTransition k a r).u Obj.PWR_RESULT = 2 * 2 ^ 24 + k * 2 ^ 16 + a * 2 ^ 8 + r := by
  rw [refuseTransition_u pwrResult_quiet (by decide) (by decide), when_u (Dev.bump_u_ne _ _ _ (by decide)), Dev.pwrResult,
    Dev.put_u_self]
  exact Nat.mod_eq_of_lt (by show _ < 256 ^ 4; omega)

theorem refuseTransition_flag : bit ((d.refuseTransition k a r).u Obj.PWR_FLAGS) 2 = true := by
  rw [Dev.refuseTransition, Dev.setPower_u, latchedCause_u (by decide)]
  exact bit_flagRaise_self pwrFlags_quiet (by decide)

theorem refuseTransition_sleepRefused : (d.refuseTransition k a r).u Obj.SLEEP_REFUSED =
    if 3 ≤ k then (d.u Obj.SLEEP_REFUSED + 1) % 2 ^ 32 else d.u Obj.SLEEP_REFUSED := by
  rw [refuseTransition_u sleepRefused_quiet (by decide) (by decide)]
  have hkept : (d.pwrResult 2 k a r).u Obj.SLEEP_REFUSED = d.u Obj.SLEEP_REFUSED := Dev.put_u_ne _ _ _ _ (by decide)
  by_cases hsleep : 3 ≤ k
  · rw [if_pos hsleep, decide_eq_true hsleep, Dev.when, if_pos rfl, Dev.bump_u_self, hkept]
    rfl
  · rw [if_neg hsleep, decide_eq_false hsleep, Dev.when, if_neg Bool.false_ne_true, hkept]

end

/-! ### Supersession -/

theorem queueTransition_of_idle_queue (kind : Nat) (hrun : d.power.running ≠ none) (hqueued : d.power.queued = none) :
    d.queueTransition kind = d.setPower fun p => { p with queued := some kind } := by
  rw [Dev.queueTransition, profileChangeStart_of_running hrun, handshakeStart_of_running hrun]
  simp only [hqueued]

theorem queueTransition_of_queued (kind : Nat) {k : Nat} (hrun : d.power.running ≠ none) (hqueued : d.power.queued = some k) :
    d.queueTransition kind = (((d.pwrResult 3 k 0 0).bump Obj.TRANSITIONS_SUPERSEDED).flagRaise Obj.PWR_FLAGS 3 0x1005
      (u8 k)).setPower fun p => { p with queued := some kind } := by
  rw [Dev.queueTransition, profileChangeStart_of_running hrun, handshakeStart_of_running hrun]
  simp only [hqueued]

theorem queueTransition_power (kind : Nat) (hrun : d.power.running ≠ none) :
    (d.queueTransition kind).power = { d.power with queued := some kind } := by
  cases hqueued : d.power.queued with
  | none => rw [queueTransition_of_idle_queue kind hrun hqueued]; rfl
  | some k =>
    rw [queueTransition_of_queued kind hrun hqueued]
    exact congrArg (fun p : Power => { p with queued := some kind }) (Dev.flagRaise_power _ _ _ _ _)

theorem superseded_result {kind k : Nat} (hk : k < 6) (hrun : d.power.running ≠ none) (hqueued : d.power.queued = some k) :
    (d.queueTransition kind).u Obj.PWR_RESULT = 3 * 2 ^ 24 + k * 2 ^ 16 := by
  rw [queueTransition_of_queued kind hrun hqueued, Dev.setPower_u, flagRaise_u pwrResult_quiet (by decide),
    Dev.bump_u_ne _ _ _ (by decide), Dev.pwrResult, Dev.put_u_self]
  exact Nat.mod_eq_of_lt (by show _ < 256 ^ 4; omega)

theorem superseded_count {kind k : Nat} (hrun : d.power.running ≠ none) (hqueued : d.power.queued = some k) :
    (d.queueTransition kind).u Obj.TRANSITIONS_SUPERSEDED = (d.u Obj.TRANSITIONS_SUPERSEDED + 1) % 2 ^ 32 := by
  rw [queueTransition_of_queued kind hrun hqueued, Dev.setPower_u, flagRaise_u transitionsSuperseded_quiet (by decide),
    Dev.bump_u_self, Dev.pwrResult, Dev.put_u_ne _ _ _ _ (by decide)]
  rfl

theorem superseded_flag {kind k : Nat} (hrun : d.power.running ≠ none) (hqueued : d.power.queued = some k) :
    bit ((d.queueTransition kind).u Obj.PWR_FLAGS) 3 = true := by
  rw [queueTransition_of_queued kind hrun hqueued, Dev.setPower_u]
  exact bit_flagRaise_self pwrFlags_quiet (by decide)

end

/-- Settles O41: each command by the equation of its case; a refusal and a queued transition by what they write. -/
theorem transitionCommands : Obligations.TransitionCommands := by
  unfold Obligations.TransitionCommands
  refine ⟨fun s => ⟨fun k hk hfree hqueued hon => ⟨fun f hcheck => ?profile, fun r f hcheck => ?conflict⟩,
    fun k hk hfree hqueued hon => ?sleep,
    fun k l a t again ms hrun hquery => ⟨fun r hrefuse => ?refusal, fun hrefuse hdelay hagain => ?again,
      fun hrefuse hdelay hagain hlong => ?long, fun hrefuse hdelay hagain hshort => ?short, fun hrefuse hready => ?accept, ?timeout⟩,
    fun k l a due hrun hdelayed => ?expiry⟩, fun d k a r hk ha hr => ?refused, fun d kind hrun => ?superseded⟩
  case profile => exact becomes_of_act _ rfl (profileChangeStart_of_ok hk hfree hqueued hon hcheck)
  case conflict => exact becomes_of_act _ rfl (profileChangeStart_of_error hk hfree hqueued hon hcheck)
  case sleep => exact becomes_of_act _ rfl (handshakeStart_of_queued hk hfree hqueued hon)
  case refusal => exact becomes_of_act _ rfl (agentAnswer_of_refusal hrun hquery hrefuse)
  case again => exact becomes_of_act _ rfl (agentAnswer_of_delay_again hrun (hagain ▸ hquery) hrefuse hdelay)
  case long => exact becomes_of_act _ rfl (agentAnswer_of_long_delay hrun (hagain ▸ hquery) hrefuse hdelay hlong)
  case short => exact becomes_of_act _ rfl (agentAnswer_of_short_delay hrun (hagain ▸ hquery) hrefuse hdelay hshort)
  case accept => exact becomes_of_act _ rfl (agentAnswer_of_acceptance hrun hquery hrefuse hready)
  case timeout => exact becomes_of_act _ rfl (agentTimeout_of_queried hrun hquery)
  case expiry => exact becomes_of_act _ rfl (agentDelayExpiry_of_delayed hrun hdelayed)
  case refused =>
    refine ⟨refuseTransition_result hk ha hr, refuseTransition_flag,
      fun hsleep => refuseTransition_sleepRefused.trans (if_pos hsleep),
      fun hprofile => refuseTransition_sleepRefused.trans (if_neg (Nat.not_le.mpr hprofile)),
      refuseTransition_running, refuseTransition_latched, ?_, ?_⟩
    · rw [refuseTransition_power]
    · rw [refuseTransition_power]
  case superseded =>
    exact ⟨by rw [queueTransition_power kind hrun], by rw [queueTransition_power kind hrun],
      fun hqueued => (congrArg Dev.live (queueTransition_of_idle_queue kind hrun hqueued)).trans (Dev.setPower_live _ _),
      fun k hk hqueued => ⟨superseded_result hk hrun hqueued, superseded_count hrun hqueued, superseded_flag hrun hqueued⟩⟩

end Sys2Proof.Power
end

section
/-! PROOFS. Commands on registers: each is the request of its one operation (R317, R324). -/

open Sys2Proof Sys2Proof.Machine

namespace Sys2Proof.Requests

/-- The index and subindex of a register are what its key is made of. -/
theorem write_at {r : Reg} {i k : Nat} (hkey : r.key = 256 * i + k) (hk : k < 256) (b : List Byte) :
    ReqOp.write (r.key / 256) (r.key % 256) b = ReqOp.write i k b := by
  rw [hkey, show (256 * i + k) / 256 = i by omega, show (256 * i + k) % 256 = k by omega]

/-- The four keys of level and ring lie side by side (R466, R470). -/
theorem levelKey_key (n : Fin 4) :
    (if n.val < 3 then Obj.LEVEL_KEY n else Obj.RING_KEY_NEXT).key = 256 * 0x1410 + (1 + n.val) := by
  split
  · simp only [Obj.LEVEL_KEY]
    omega
  · have h3 : n.val = 3 := by omega
    rw [h3]
    rfl

/-- Settles O49: a register of one address is its card's by computation, one of a series by its place in the series. -/
theorem registerCommandsAreRequests : Obligations.RegisterCommandsAreRequests := by
  unfold Obligations.RegisterCommandsAreRequests
  intro s c rq o h
  unfold registerOp at h
  split at h <;> cases h
  all_goals refine becomes_of_act _ rfl (congrArg (fun o => Dev.request _ [o] _) ?_)
  any_goals rfl
  all_goals refine write_at ?_ (by omega) _
  any_goals exact levelKey_key _
  all_goals
    simp only [Obj.SOURCE_PRIO, Obj.CV_MODE, Obj.REF_SEL, Obj.INJ_REQUEST, Obj.SEQ_CTRL, Obj.SEQ_START, Obj.CAL_REQUEST,
      Obj.PARAM_BLOCK, Obj.CATCH_ENABLE, Obj.CTRL_MODE, Obj.CTRL_SP, Obj.SUB_ENABLE, Obj.FAST_MAP]
    omega

end Sys2Proof.Requests
end

section
/-! PROOFS. Requests of one operation (R277–R279, R325, R331, R332, R174; logs 49, 54): those that act at once, those that wait in the
commit buffer, and those that are refused. -/

open Sys2Proof Sys2Proof.Machine

namespace Sys2Proof.Requests

/-! ### The entrance -/

section
variable {d : Dev} {rq : Request}

theorem request_of_starting {ops : List ReqOp} (hrom : d.security.romLoader = false) (hstop : d.stopped = false)
    (hsupply : d.start.phase ≠ .supply) (hverify : d.start.phase ≠ .verify) (hstarting : d.device.state = .starting) :
    d.request rq ops = (d.setDevice fun v => { v with wpLow := rq.wpLow }).answerAt rq 0x06
      (d.setDevice fun v => { v with wpLow := rq.wpLow }).stateDetail 0 [] := by
  have hstop' : (d.setDevice fun v => { v with wpLow := rq.wpLow }).stopped = false := hstop
  simp only [Dev.request, Dev.requestWith, Dev.setDevice_security, Dev.setDevice_start, Dev.setDevice_device, hrom, hstop', hsupply,
    hverify, hstarting, decide_false, Bool.or_self, Bool.false_eq_true, if_false, if_true]

/-- A device that serves requests takes one as its ID and its writes say (R277). -/
theorem request_of_serving (ops : List ReqOp) (h : (d.setDevice fun v => { v with wpLow := rq.wpLow }).serves) :
    d.request rq ops = if journaled rq ops then (d.setDevice fun v => { v with wpLow := rq.wpLow }).requestJournaled rq ops []
      else (d.setDevice fun v => { v with wpLow := rq.wpLow }).requestNow rq ops := by
  obtain ⟨hrom, hstop, hsupply, hverify, hstate, happ⟩ := h
  simp only [Dev.request, Dev.requestWith, hrom, hstop, hsupply, hverify, hstate, happ, decide_false, Bool.or_self,
    Bool.not_true, Bool.false_eq_true, if_false]

end

section
variable {s : State} {c : Instr} {rq : Request} {o : ReqOp}

theorem becomes_of_request {e : Dev} (hc : registerOp c = some (rq, o)) (h : s.dev.cleared.request rq [o] = e) :
    s.becomes c e := by
  subst h
  exact registerCommandsAreRequests s c rq o hc

/-- A read, or a write of request ID 0, is done at once. -/
theorem becomes_of_requestNow {e : Dev} (hc : registerOp c = some (rq, o)) (hnow : journaled rq [o] = false)
    (hserves : (s.dev.cleared.setDevice fun v => { v with wpLow := rq.wpLow }).serves)
    (h : (s.dev.cleared.setDevice fun v => { v with wpLow := rq.wpLow }).requestNow rq [o] = e) : s.becomes c e :=
  becomes_of_request hc ((request_of_serving [o] hserves).trans ((if_neg (ne_true_of_eq_false hnow)).trans h))

theorem becomes_of_requestJournaled {e : Dev} (hc : registerOp c = some (rq, o)) (hlater : journaled rq [o] = true)
    (hserves : (s.dev.cleared.setDevice fun v => { v with wpLow := rq.wpLow }).serves)
    (h : (s.dev.cleared.setDevice fun v => { v with wpLow := rq.wpLow }).requestJournaled rq [o] [] = e) : s.becomes c e :=
  becomes_of_request hc ((request_of_serving [o] hserves).trans ((if_pos hlater).trans h))

end

theorem journaled_read (rq : Request) (i k : Nat) : journaled rq [.read i k] = false :=
  Bool.and_false _

theorem journaled_write (rq : Request) (i k : Nat) (b : List Byte) : journaled rq [.write i k b] = (rq.id != 0) :=
  Bool.and_true _

theorem journaled_of_id_zero {rq : Request} (h : rq.id = 0) (i k : Nat) (b : List Byte) :
    journaled rq [.write i k b] = false := by
  rw [journaled_write, h]
  rfl

/-! ### Requests done at once -/

section
variable {d : Dev} {rq : Request} {i k : Nat} {b : List Byte}

theorem firstDeny_read (h : d.readCheck rq.via rq.level i k = none) : d.firstDeny rq 0 [.read i k] = none := by
  simp only [Dev.firstDeny, h]

theorem firstDeny_write : d.firstDeny rq 0 [.write i k b] = (d.writeCheck rq i k b).map fun x => (x, 0) := by
  cases h : d.writeCheck rq i k b <;> simp only [Dev.firstDeny, h] <;> rfl

theorem requestNow_of_deny {ops : List ReqOp} {x : Deny} {n : Nat} (h : d.firstDeny rq 0 ops = some (x, n)) :
    d.requestNow rq ops = (x.apply d).answerAt rq x.fail.status x.fail.detail n [] := by
  rw [Dev.requestNow, h]
  rfl

theorem noteConfigChanged_nil : d.noteConfigChanged [] = d := rfl

theorem requestNow_read (h : d.readCheck rq.via rq.level i k = none) : d.requestNow rq [.read i k] =
    (d.readObject rq.via i k).2.answerAt rq 0 0 255 [(d.readObject rq.via i k).1] := by
  rw [Dev.requestNow, firstDeny_read h]
  rfl

/-- A write that passes its checks is in effect, and is answered unless it starts an apply (R279, R300). -/
theorem requestNow_write (h : d.writeCheck rq i k b = none)
    (hroom : ((d.effect rq (d.writeOf i k b)).recordsOf [d.writeOf i k b]).isEmpty = true ∨
      d.copyRoom [] (((d.effect rq (d.writeOf i k b)).recordsOf [d.writeOf i k b]).map Prod.snd) = true) :
    d.requestNow rq [.write i k b] = d.applyRequest ⟨rq, [.write i k b], [d.writeOf i k b], d.course.elapsed, [], [],
      (d.effect rq (d.writeOf i k b)).recordsOf [d.writeOf i k b]⟩ := by
  rw [Dev.requestNow, firstDeny_write, h]
  refine if_neg fun hfull => ?_
  rw [Bool.and_eq_true, Bool.not_eq_true', Bool.not_eq_true'] at hfull
  obtain ⟨hsome, hnone⟩ := hfull
  exact hroom.elim (fun hempty => Bool.false_ne_true (hsome.symm.trans hempty)) fun hfits =>
    Bool.false_ne_true (hnone.symm.trans hfits)

theorem recordsOf_of_no_apply {e : Dev} {ws : List Write} (h : appliesOf ws = []) : e.recordsOf ws = [] := by
  rw [Dev.recordsOf, h]
  rfl

/-- A write that starts no apply takes effect and is concluded. -/
theorem requestNow_of_no_apply (h : d.writeCheck rq i k b = none) (hno : appliesOf [d.writeOf i k b] = []) :
    d.requestNow rq [.write i k b] =
      ((d.effect rq (d.writeOf i k b)).noteConfigChanged [d.writeOf i k b]).conclude rq [] [.write i k b] [] := by
  rw [requestNow_write h (.inl (by rw [recordsOf_of_no_apply hno]; rfl)), Dev.applyRequest]
  simp only [hno]
  rfl

theorem stateRequestOf_other (h : ¬(i = 0x1001 ∧ k = 2)) : stateRequestOf [.write i k b] = none := by
  show (List.findSome? _ [(0, i, k, b)]) = none
  simp only [List.findSome?, if_neg h]

theorem stateRequestOf_state {t : DeviceState} (h : DeviceState.ofCode (ofBe b) = some t) :
    stateRequestOf [.write 0x1001 2 b] = some (0, t) := by
  show (List.findSome? _ [(0, 0x1001, 2, b)]) = some (0, t)
  simp only [List.findSome?, h, and_self, if_true, Option.map_some]

theorem conclude_answer {e : Dev} (h : ¬(i = 0x1001 ∧ k = 2)) : e.conclude rq [] [.write i k b] [] = e.answerAt rq 0 0 255 [] := by
  rw [Dev.conclude, stateRequestOf_other h]
  rfl

theorem conclude_state {e : Dev} {t : DeviceState} (h : DeviceState.ofCode (ofBe b) = some t) :
    e.conclude rq [] [.write 0x1001 2 b] [] = e.stateRequest rq [] 0 [] t := by
  rw [Dev.conclude, stateRequestOf_state h]

/-- STATE_REQUEST has a card of its own: written, volatile (R332). -/
theorem stateRequest_card : ∃ c, Machine.cardAt 0x1001 2 = some c ∧ c.access = .W ∧ c.persist = .V := by
  have h : (Machine.cardAt 0x1001 2).map (fun c => (c.access, c.persist)) = some (.W, .V) := by decide +kernel
  obtain ⟨c, hc, hprops⟩ := Option.map_eq_some_iff.mp h
  obtain ⟨haccess, hpersist⟩ := Prod.mk.inj hprops
  exact ⟨c, hc, haccess, hpersist⟩

theorem cardAt_of_machine {c : Card} (h : Machine.cardAt i k = some c) : d.cardAt i k = some c := by
  rw [Dev.cardAt, h]

/-- The write of STATE_REQUEST itself changes nothing: the change of state that follows it does. -/
theorem stateRequest_write (h : d.writeCheck rq 0x1001 2 b = none) {t : DeviceState} (ht : DeviceState.ofCode (ofBe b) = some t) :
    d.requestNow rq [.write 0x1001 2 b] = d.stateRequest rq [] 0 [] t := by
  obtain ⟨c, hc, haccess, hpersist⟩ := stateRequest_card
  have hcard : d.cardAt 0x1001 2 = some c := cardAt_of_machine hc
  have hkey : (d.writeOf 0x1001 2 b).key = 0x100102 := by rw [Dev.writeOf, hcard]
  have heffect : d.effect rq (d.writeOf 0x1001 2 b) = d :=
    Dev.effect_of_apply d rq _ c (by rw [hkey]; exact hcard) (by rw [haccess]; decide) (by rw [hkey]; rfl)
  have hno : appliesOf [d.writeOf 0x1001 2 b] = [] := by
    simp [appliesOf, hkey, Obj.COX_APPLY, Obj.ENGINE_APPLY, Obj.WASH_APPLY]
  have hnote : d.noteConfigChanged [d.writeOf 0x1001 2 b] = d := by
    have hcard' : d.cardAt ((d.writeOf 0x1001 2 b).key / 256) ((d.writeOf 0x1001 2 b).key % 256) = some c := by
      rw [hkey]; exact hcard
    simp only [Dev.noteConfigChanged, List.filter, hcard', hpersist]
    rfl
  rw [requestNow_of_no_apply h hno, heffect, hnote, conclude_state ht]

/-- A write that starts an apply waits for it, answered once its tables switch (R174, R300). -/
theorem requestNow_of_apply {a : ApplyKind} (h : d.writeCheck rq i k b = none) (happly : appliesOf [d.writeOf i k b] = [a])
    (hroom : d.copyRoom [] (((d.effect rq (d.writeOf i k b)).recordsOf [d.writeOf i k b]).map Prod.snd) = true) :
    let w := d.writeOf i k b
    let second := (d.effect rq w).recordsOf [w]
    let ws := (second.filter fun x => decide (x.1 = a)).map Prod.snd
    d.requestNow rq [.write i k b] = ((d.effect rq w).noteConfigChanged [w]).setLedger fun l => { l with
      applies := l.applies ++ [⟨a, ws, false, ws, ⟨rq, [.write i k b], [w], d.course.elapsed, [], [], second⟩, []⟩] } := by
  intro w second ws
  rw [requestNow_write h (.inr hroom), Dev.applyRequest]
  simp only [happly]
  rfl

end

/-- Settles O50: the four kinds of request that are done at once. -/
theorem unjournaledRequestsAct : Obligations.UnjournaledRequestsAct := by
  unfold Obligations.UnjournaledRequestsAct
  intro s c rq d hserves
  refine ⟨fun i k hc hcheck => ?read, fun i k b hc hid hcheck hno hother => ?write, fun b t hc hid hcheck ht => ?state,
    fun i k b a hc hid hcheck => ?apply⟩
  case read => exact becomes_of_requestNow hc (journaled_read rq i k) hserves (requestNow_read hcheck)
  case write =>
    exact becomes_of_requestNow hc (journaled_of_id_zero hid i k b) hserves
      ((requestNow_of_no_apply hcheck hno).trans (conclude_answer hother))
  case state =>
    exact becomes_of_requestNow hc (journaled_of_id_zero hid _ _ b) hserves (stateRequest_write hcheck ht)
  case apply =>
    intro w second ws happly hroom
    exact becomes_of_requestNow hc (journaled_of_id_zero hid i k b) hserves (requestNow_of_apply hcheck happly hroom)

/-! ### Journaled writes -/

section
variable {d : Dev} {rq : Request} {i k : Nat} {b : List Byte}

/-- An ID that its client has not used and whose place is free goes to the checks (R278 steps 2 to 6). -/
theorem requestJournaled_of_new {ops : List ReqOp} {extra : List (List Byte)}
    (hpending : d.pendingWith rq.client.toNat rq.id.toNat = false)
    (hslot : d.clientSlot rq.client.toNat = none ∧ d.slotAvailable rq.client.toNat = true ∨
      ∃ x, d.clientSlot rq.client.toNat = some x ∧ x.accepted rq.id.toNat = false ∧
        serialCmp rq.id.toNat ((x.high + 2 ^ 32 - 255) % 2 ^ 32) 32 ≠ .before)
    (hpass : d.prospect.firstDeny rq 0 ops = none) : d.requestJournaled rq ops extra = d.makePending rq ops extra := by
  obtain ⟨hnone, hfree⟩ | ⟨x, hsome, hnew, hwindow⟩ := hslot
  · simp only [Dev.requestJournaled, hnone, hfree, hpending, hpass, Bool.not_true, Bool.false_eq_true, if_false]
  · simp only [Dev.requestJournaled, hsome, hnew, hpending, hpass, Bool.false_eq_true, if_false]
    exact if_neg hwindow

theorem makePending_write
    (hrounds : roundsOf [.request ⟨rq, [.write i k b], [d.writeOf i k b], d.course.elapsed, [], [],
      (d.prospect.effect rq (d.writeOf i k b)).recordsOf [d.writeOf i k b]⟩ (d.commandEntries rq [.write i k b])
      (lastCopies (d.prospect.copiesOf (d.writeOf i k b)))] ≤ 32)
    (hroom : d.copyRoom (lastCopies (d.prospect.copiesOf (d.writeOf i k b)))
      (((d.prospect.effect rq (d.writeOf i k b)).recordsOf [d.writeOf i k b]).map Prod.snd) = true)
    (hsource : d.refusedAtSource (d.u Obj.CMD_STREAM) (d.commandEntries rq [.write i k b]).length
      (Item.bytes (.request ⟨rq, [.write i k b], [d.writeOf i k b], d.course.elapsed, [], [],
        (d.prospect.effect rq (d.writeOf i k b)).recordsOf [d.writeOf i k b]⟩ (d.commandEntries rq [.write i k b])
        (lastCopies (d.prospect.copiesOf (d.writeOf i k b)))))
      (!(d.commandEntries rq [.write i k b]).isEmpty && d.heldByLog (d.u Obj.CMD_STREAM)) = false) :
    d.makePending rq [.write i k b] [] = ((d.reserveSlot rq.client.toNat).buffer
      (.request ⟨rq, [.write i k b], [d.writeOf i k b], d.course.elapsed, [], [],
        (d.prospect.effect rq (d.writeOf i k b)).recordsOf [d.writeOf i k b]⟩ (d.commandEntries rq [.write i k b])
        (lastCopies (d.prospect.copiesOf (d.writeOf i k b))))).countBurst (d.u Obj.CMD_STREAM)
          (d.commandEntries rq [.write i k b]).length := by
  rw [Dev.makePending]
  refine (if_neg (Nat.not_lt.mpr hrounds)).trans ((if_neg fun hfull => ?_).trans (if_neg (ne_true_of_eq_false hsource)))
  rw [Bool.and_eq_true, Bool.not_eq_true'] at hfull
  exact Bool.false_ne_true (hfull.2.symm.trans hroom)

/-- A slot is reserved for a client in the ledger's table of taken slots, and nowhere else (R278). -/
theorem exists_reserveSlot_eq (d : Dev) (client : Nat) :
    ∃ l, d.reserveSlot client = d.setLedger fun x => { x with taken := l } := by
  rw [Dev.reserveSlot]
  split
  · exact ⟨d.ledger.taken, rfl⟩
  · split
    · exact ⟨_, rfl⟩
    · exact ⟨d.ledger.taken, rfl⟩

end

theorem exec_of_becomes {s : State} {c : Instr} {e : Dev} (h : s.becomes c e) (hreplies : e.device.replies = []) :
    exec c s = .next { s with dev := e } := by
  rw [h, Dev.routed_of_no_replies e hreplies]

/-- Settles O51: a new request passes to the commit buffer, and only the ledger shows it. -/
theorem journaledWritesWait : Obligations.JournaledWritesWait := by
  unfold Obligations.JournaledWritesWait
  intro s c rq i k b d client w f second copies entries item hc hserves hid hpending hslot hcheck hrounds hroom hsource
  have hlater : journaled rq [.write i k b] = true := by
    rw [journaled_write]
    exact bne_iff_ne.mpr hid
  have hpass : d.prospect.firstDeny rq 0 [.write i k b] = none := by
    rw [firstDeny_write, hcheck]
    rfl
  have hwaits : s.becomes c (((d.reserveSlot client).buffer item).countBurst (d.u Obj.CMD_STREAM) entries.length) :=
    becomes_of_requestJournaled hc hlater hserves
      ((requestJournaled_of_new hpending hslot hpass).trans (makePending_write hrounds hroom hsource))
  refine ⟨hwaits, _, exec_of_becomes hwaits ?_, ?_⟩
  · obtain ⟨l, hl⟩ := exists_reserveSlot_eq d client
    rw [hl]
    rfl
  · obtain ⟨l, hl⟩ := exists_reserveSlot_eq d client
    rw [hl]
    exact ⟨rfl, rfl, rfl, rfl, rfl, rfl, rfl⟩

/-! ### Refused requests -/

theorem withLevel_access {n : Nat} (h : n % 256 = 0) (level : Nat) : Fail.withLevel level ⟨0x05, n⟩ = ⟨0x05, n + level⟩ :=
  if_pos ⟨rfl, h⟩

/-- A level below the write level of an object refuses the write with 0x05 (R322, log 49). -/
theorem writeCheck_of_level {d : Dev} {rq : Request} {i k : Nat} {b : List Byte} {card : Card} (hlast : d.lastSub i ≠ 0)
    (hk : k ≠ 0) (hcard : d.cardAt i k = some card) (haccess : card.access ≠ .R) (hlevel : rq.level.val < writeLevel card i k) :
    d.writeCheck rq i k b = some ⟨⟨0x05, 2 * 2 ^ 24 + writeLevel card i k⟩, [], none⟩ := by
  simp only [Dev.writeCheck, if_neg hlast, if_neg hk, hcard, if_neg haccess, if_pos hlevel, failAccess, plainDeny, Option.map_some,
    withLevel_access (show 2 * 2 ^ 24 % 256 = 0 by decide), Nat.add_zero]

/-- Settles O52: the refusal of STARTING, that of the first operation that fails, and that of a level too low. -/
theorem refusedRequestsHaveNoEffect : Obligations.RefusedRequestsHaveNoEffect := by
  unfold Obligations.RefusedRequestsHaveNoEffect
  intro s c rq o hc d
  refine ⟨fun hrom hstop hsupply hverify hstarting => ?starting, fun hserves hnow x n hdeny => ?denied,
    fun hserves i k b ho hid card hcard haccess hlevel hlast hk => ?level⟩
  case starting => exact becomes_of_request hc (request_of_starting hrom hstop hsupply hverify hstarting)
  case denied =>
    have hnotjournaled : journaled rq [o] = false := by
      obtain hid | ⟨i, k, rfl⟩ := hnow
      · rw [journaled, hid]
        rfl
      · exact journaled_read rq i k
    exact becomes_of_requestNow hc hnotjournaled hserves (requestNow_of_deny hdeny)
  case level =>
    subst ho
    have hdeny : d.firstDeny rq 0 [.write i k b] = some (⟨⟨0x05, 2 * 2 ^ 24 + writeLevel card i k⟩, [], none⟩, 0) := by
      rw [firstDeny_write, writeCheck_of_level hlast hk hcard haccess hlevel]
      rfl
    exact becomes_of_requestNow hc (journaled_of_id_zero hid i k b) hserves (requestNow_of_deny hdeny)

end Sys2Proof.Requests
end

section
/-! PROOFS. The frames of an open session (R202, R281, R368, R369, R371–R373): authentic ones act, wrong MACs and replays only count. -/

open Sys2Proof Sys2Proof.Machine

namespace Sys2Proof.Sessions

section
variable {d : Dev} {n : Nat} {x : Session} {kind flags frag counter : Nat} {body mac : List Byte}

/-! ### One frame -/

/-- A message of one frame is there with its frame (R368). -/
theorem sessionMessage_of_frame {a : Dev} {took : Bool} (hframe : d.sessionFrame n kind 0 0 body counter mac = (a, took)) :
    d.sessionMessage n kind counter mac ⟨0, 0, body⟩ = (a, if took then some (body, counter) else none) := by
  have hframe' : d.sessionFrame n kind (0 : BitVec 8).toNat (0 : BitVec 8).toNat body counter mac = (a, took) := hframe
  have hwhole : a.takeFragment n counter ⟨0, 0, body⟩ = (a, some (body, counter)) :=
    if_pos ⟨rfl, show (!bit (0 : BitVec 8).toNat 1) = true by decide⟩
  rw [Dev.sessionMessage, hframe']
  cases took
  · rfl
  · exact hwhole

section
variable (hx : d.session n = some x) (hopen : x.isOpen = true) (happ : d.device.appRunning = true) (hstop : d.stopped = false)
include hx hopen happ hstop

/-- A right MAC and an acceptable counter move the session's window on (R369). -/
theorem sessionFrame_of_accepted {h v : Nat} (hstep : counterStep x.high x.seen counter = some (h, v)) :
    d.sessionFrame n kind flags frag body counter (woredMac x.key (woredHeader kind flags frag x.number body.length counter) body) =
      (d.setSession n fun y => { y with high := h, seen := v, last := d.course.elapsed }, true) := by
  simp only [Dev.sessionFrame, hx, hopen, happ, hstop, hstep, Bool.not_true, Bool.or_self, Bool.false_eq_true, if_false,
    bne_self_eq_false]

/-- A counter that is not acceptable is a replay, and nothing else (R369). -/
theorem sessionFrame_of_replay (hstep : counterStep x.high x.seen counter = none) :
    d.sessionFrame n kind flags frag body counter (woredMac x.key (woredHeader kind flags frag x.number body.length counter) body) =
      (d.bump Obj.REPLAY_REJECTED, false) := by
  simp only [Dev.sessionFrame, hx, hopen, happ, hstop, hstep, Bool.not_true, Bool.or_self, Bool.false_eq_true, if_false,
    bne_self_eq_false]

/-- A wrong MAC is an authentication failure, and nothing else (R368). -/
theorem sessionFrame_of_wrong_mac (hmac : mac ≠ woredMac x.key (woredHeader kind flags frag x.number body.length counter) body) :
    d.sessionFrame n kind flags frag body counter mac = (d.authFail x.address, false) := by
  simp only [Dev.sessionFrame, hx, hopen, happ, hstop, Bool.not_true, Bool.or_self, Bool.false_eq_true, if_false,
    bne_iff_ne.mpr hmac, if_true]

/-! ### A message in one frame -/

theorem sessionMessage_of_accepted {h v : Nat} (hstep : counterStep x.high x.seen counter = some (h, v)) :
    d.sessionMessage n kind counter (woredMac x.key (woredHeader kind 0 0 x.number body.length counter) body) ⟨0, 0, body⟩ =
      (d.setSession n fun y => { y with high := h, seen := v, last := d.course.elapsed }, some (body, counter)) :=
  sessionMessage_of_frame (sessionFrame_of_accepted hx hopen happ hstop hstep)

theorem sessionMessage_of_replay (hstep : counterStep x.high x.seen counter = none) :
    d.sessionMessage n kind counter (woredMac x.key (woredHeader kind 0 0 x.number body.length counter) body) ⟨0, 0, body⟩ =
      (d.bump Obj.REPLAY_REJECTED, none) :=
  sessionMessage_of_frame (sessionFrame_of_replay hx hopen happ hstop hstep)

theorem sessionMessage_of_wrong_mac (hmac : mac ≠ woredMac x.key (woredHeader kind 0 0 x.number body.length counter) body) :
    d.sessionMessage n kind counter mac ⟨0, 0, body⟩ = (d.authFail x.address, none) :=
  sessionMessage_of_frame (sessionFrame_of_wrong_mac hx hopen happ hstop hmac)

end

/-! ### What the messages do -/

theorem sessionAck_of_frame {a : Dev} {u pos : Nat} (hu : u < 16)
    (hframe : d.sessionFrame n 0x22 0 0 (u8 u ++ beBytes 3 0 ++ u64 pos) counter mac = (a, true)) :
    d.sessionAck n counter mac u pos = (a.acknowledge u pos).deliverSub u := by
  simp only [Dev.sessionAck, hframe, hu, decide_true, Bool.and_self, if_true]

theorem closed_of_frame {a : Dev} {took : Bool} (hx : d.session n = some x) (hdown : x.upstream = false)
    (hframe : d.sessionFrame n 5 0 0 [] counter mac = (a, took)) :
    d.closed n counter mac = if took then a.closeSession n else a := by
  simp only [Dev.closed, hx, hdown, Bool.not_false, if_true, hframe]
  rfl

section
variable {k : Fin 16} {a : Dev} {w : WoredBody} {wp : Bool} {path : SessionPath} {address : List Byte}
variable (hx : d.session k = some x) (hopen : x.isOpen = true) (hdown : x.upstream = false)
include hx hopen hdown

theorem sessionRequest_of_message {id : BitVec 32} {ops : List ReqOp} (hparse : parseRequest body = some (id, ops))
    (hmessage : d.sessionMessage k 0x10 counter mac w = (a, some (body, counter))) :
    d.sessionRequest k path address counter mac w wp =
      (a.setSession k fun y => { y with back := path }).request (x.request k id wp) (ops.map (unwrapOp x counter)) := by
  simp only [Dev.sessionRequest, hx, hopen, hdown, hmessage, hparse, Option.bind_some, Option.map_some, Bool.not_true, Bool.or_self,
    Bool.false_eq_true, if_false]

theorem sessionRequest_of_no_message (hmessage : d.sessionMessage k 0x10 counter mac w = (a, none)) :
    d.sessionRequest k path address counter mac w wp = a := by
  simp only [Dev.sessionRequest, hx, hopen, hdown, hmessage, Option.bind_none, Bool.not_true, Bool.or_self,
    Bool.false_eq_true, if_false]

end

section
variable {k : Fin 16} {a : Dev} {w : WoredBody} {wp : Bool} (hx : d.session k = some x) (hdown : x.upstream = false)
  (hlength : body.length = 26) (hmessage : d.sessionMessage k 0x20 counter mac w = (a, some (body, counter)))
include hx hdown hlength hmessage

theorem subscribe_of_low_level (hlow : x.level < a.u Obj.SUB_LEVEL_MIN) : d.subscribe k counter mac w wp =
    a.answer (x.request k (BitVec.ofNat 32 (ofBe (body.take 4))) wp) 0x05 (2 * 2 ^ 24 + a.u Obj.SUB_LEVEL_MIN) := by
  simp only [Dev.subscribe, hx, hdown, hmessage, hlength, hlow, ne_eq, not_true_eq_false, Bool.false_eq_true, if_false, if_true]

theorem subscribe_of_no_slot (hlevel : a.u Obj.SUB_LEVEL_MIN ≤ x.level)
    (hnew : a.isRepeat x.client (BitVec.ofNat 32 (ofBe (body.take 4))).toNat = false) (hslot : a.freeSub = none) :
    d.subscribe k counter mac w wp = a.answer (x.request k (BitVec.ofNat 32 (ofBe (body.take 4))) wp) 0x07 0 := by
  have hid : (x.request k (BitVec.ofNat 32 (ofBe (body.take 4))) wp).id = BitVec.ofNat 32 (ofBe (body.take 4)) := rfl
  simp only [Dev.subscribe, hx, hdown, hmessage, hlength, Nat.not_lt.mpr hlevel, hid, hnew, hslot, ne_eq, not_true_eq_false,
    Bool.false_eq_true, if_false]

theorem subscribe_of_slot {u : Nat} (hlevel : a.u Obj.SUB_LEVEL_MIN ≤ x.level)
    (hnew : a.isRepeat x.client (BitVec.ofNat 32 (ofBe (body.take 4))).toNat = false) (hslot : a.freeSub = some u) :
    let rq := x.request k (BitVec.ofNat 32 (ofBe (body.take 4))) wp
    d.subscribe k counter mac w wp =
      a.requestWith { rq with level := if x.level < 2 then 2 else rq.level } (subscribeOps u x body) [u8 u] := by
  have hid : (x.request k (BitVec.ofNat 32 (ofBe (body.take 4))) wp).id = BitVec.ofNat 32 (ofBe (body.take 4)) := rfl
  simp only [Dev.subscribe, hx, hdown, hmessage, hlength, Nat.not_lt.mpr hlevel, hid, hnew, hslot, ne_eq, not_true_eq_false,
    Bool.false_eq_true, if_false]

end

section
variable {number : Nat} {a : Dev} {w : WoredBody} (hnumber : d.upstreamNumber number = some n)
include hnumber

theorem upstreamReply_of_message (hmessage : d.sessionMessage n 0x11 counter mac w = (a, some (body, counter))) :
    d.upstreamReply number counter mac w = a.locReply n body := by
  simp only [Dev.upstreamReply, hnumber, hmessage]

theorem upstreamDelivery_of_message (hmessage : d.sessionMessage n 0x21 counter mac w = (a, some (body, counter)))
    {e : Nat × Nat × Nat × List Byte} {rest : List (Nat × Nat × Nat × List Byte)}
    (hentries : parseEntries (ofBe ((body.drop 1).take 1)) (body.drop 4) = e :: rest) :
    d.upstreamDelivery number counter mac w = ((e :: rest).foldl (fun d e => d.upstreamEntry e) a).sendMessage n 0x22 .own false
      .best 49840 (body.take 1 ++ beBytes 3 0 ++ u64 (((e :: rest).getLast (by simp)).2.1)) := by
  simp only [Dev.upstreamDelivery, hnumber, hmessage, hentries, List.getLast?_eq_getLast_of_ne_nil (List.cons_ne_nil e rest)]

end

end

/-- Settles O32: each frame by what its MAC and counter make of it, then by what its message does. -/
theorem sessionFrames : Obligations.SessionFrames := by
  unfold Obligations.SessionFrames
  refine ⟨fun s k x c hx hopen hdown happ hstop => ?served, fun s k n x c hnumber hx hopen happ hstop h v hstep => ?upstream⟩
  case served =>
    intro key badMac
    refine ⟨fun h v hstep => ⟨fun p address body wp id ops hparse => ?request, fun body wp hlength => ?subscribe, fun u pos => ?ack,
      ?close⟩, fun hreplay => ⟨?closeAgain, fun p address body wp => ?requestAgain⟩, fun mac hmac => ?closeForged,
      fun p address mac body wp hmac => ?requestForged⟩
    case request =>
      exact becomes_of_act _ rfl (sessionRequest_of_message hx hopen hdown hparse
        (sessionMessage_of_accepted hx hopen happ hstop hstep))
    case subscribe =>
      have hmessage := sessionMessage_of_accepted (kind := 0x20) (body := body) hx hopen happ hstop hstep
      refine ⟨fun hlow => ?_, fun hlevel hnew => ⟨fun hslot => ?_, fun u hslot => ?_⟩⟩
      · exact becomes_of_act _ rfl (subscribe_of_low_level hx hdown hlength hmessage hlow)
      · exact becomes_of_act _ rfl (subscribe_of_no_slot hx hdown hlength hmessage hlevel hnew hslot)
      · exact becomes_of_act _ rfl (subscribe_of_slot hx hdown hlength hmessage hlevel hnew hslot)
    case ack =>
      exact becomes_of_act _ rfl (sessionAck_of_frame u.isLt (sessionFrame_of_accepted hx hopen happ hstop hstep))
    case close =>
      exact becomes_of_act _ rfl (closed_of_frame hx hdown (sessionFrame_of_accepted hx hopen happ hstop hstep))
    case closeAgain =>
      exact becomes_of_act _ rfl (closed_of_frame hx hdown (sessionFrame_of_replay hx hopen happ hstop hreplay))
    case requestAgain =>
      exact becomes_of_act _ rfl (sessionRequest_of_no_message hx hopen hdown
        (sessionMessage_of_replay hx hopen happ hstop hreplay))
    case closeForged =>
      exact becomes_of_act _ rfl (closed_of_frame hx hdown (sessionFrame_of_wrong_mac hx hopen happ hstop hmac))
    case requestForged =>
      exact becomes_of_act _ rfl (sessionRequest_of_no_message hx hopen hdown
        (sessionMessage_of_wrong_mac hx hopen happ hstop hmac))
  case upstream =>
    refine ⟨fun body => ?_, fun body e rest hentries => ?_⟩
    · exact becomes_of_act _ rfl (upstreamReply_of_message hnumber (sessionMessage_of_accepted hx hopen happ hstop hstep))
    · exact becomes_of_act _ rfl (upstreamDelivery_of_message hnumber (sessionMessage_of_accepted hx hopen happ hstop hstep) hentries)

end Sys2Proof.Sessions
end

section
/-! PROOFS. The application core, the keeper and the SRAM (R13, R15, R22, R485), and the marks (R50, R51). -/

open Sys2Proof Sys2Proof.Machine

namespace Sys2Proof.Startup

section
variable {d : Dev}

/-- With nothing waiting to be applied the application core only runs again, and takes up what its absence held back. -/
theorem appRestart_of_nothing_unapplied (hdown : d.device.appRunning = false) (hstop : d.stopped = false)
    (hconfigured : d.start.configured = true) (hnone : d.ledger.unapplied = []) :
    d.appRestart = (d.setDevice fun v => { v with appRunning := true }).drainTriggers.deliver := by
  have hledger : (d.setDevice fun v => { v with appRunning := true }).setLedger (fun l => { l with unapplied := [] }) =
      d.setDevice fun v => { v with appRunning := true } := by
    rw [← hnone]
    rfl
  have hwaiting : (d.setDevice fun v => { v with appRunning := true }).ledger.unapplied = [] := hnone
  simp only [Dev.appRestart, hdown, hstop, hconfigured, hwaiting, hledger, Bool.not_true, Bool.or_self, Bool.false_eq_true, if_false,
    List.foldl_nil]
  rfl

theorem marchDone_of_passed {b : SramBank} (htesting : bit d.start.sramTesting b.no = true) :
    d.marchDone b false = d.setStart fun x => { x with sramTesting := clearBit x.sramTesting b.no } := by
  simp only [Dev.marchDone, htesting, Bool.not_true, Bool.not_false, Bool.false_eq_true, if_false, if_true]

/-- A lasting fault of a bank of the system: the first of the banks 2 to 14 is rebuilt into bank 15 where that is whole (R22). -/
theorem marchDone_system {n : Fin 16} (htesting : bit d.start.sramTesting (SramBank.system n).no = true) :
    d.marchDone (.system n) true =
      let retired := (d.setStart fun x => { x with sramTesting := clearBit x.sramTesting (SramBank.system n).no }).setStart fun x =>
        { x with
          sramRetired := setBit x.sramRetired (SramBank.system n).no
          sramSpare := if 2 ≤ n.val && n.val < 15 && d.start.sramSpare.isNone && !bit d.start.sramRetired 15
            then some (SramBank.system n).no else x.sramSpare }
      if n.val < 2 then retired.wholeReset 3 n else retired := by
  simp only [Dev.marchDone, htesting, Bool.not_true, Bool.false_eq_true, if_false]
  rfl

theorem marchDone_wash {n : Fin 8} (htesting : bit d.start.sramTesting (SramBank.wash n).no = true) :
    d.marchDone (.wash n) true =
      ((d.setStart fun x => { x with sramTesting := clearBit x.sramTesting (SramBank.wash n).no }).setStart fun x =>
        { x with sramRetired := setBit x.sramRetired (SramBank.wash n).no }).retireWashBank n := by
  simp only [Dev.marchDone, htesting, Bool.not_true, Bool.false_eq_true, if_false]

end

/-- Settles O3: each command by the equation of its operation, a march test by its verdict and its bank. -/
theorem coreKeeperAndSramCommands : Obligations.CoreKeeperAndSramCommands := by
  unfold Obligations.CoreKeeperAndSramCommands
  intro s d
  refine ⟨fun hdown hstop hconfigured hnone => ?restart, fun kind => ?keeper, fun bank => becomes_of_act _ rfl rfl,
    fun bank lasting htesting => ?march⟩
  case restart =>
    exact becomes_of_act (fun d => d.appRestart.hostsResume) rfl
      (congrArg Dev.hostsResume (appRestart_of_nothing_unapplied hdown hstop hconfigured hnone))
  case keeper =>
    cases kind
    all_goals exact becomes_of_act _ rfl rfl
  case march =>
    intro passed takes retired
    refine becomes_of_act _ rfl ?_
    cases lasting with
    | false => exact marchDone_of_passed htesting
    | true =>
      cases bank with
      | system n => exact marchDone_system htesting
      | wash n => exact marchDone_wash htesting

end Sys2Proof.Startup

namespace Sys2Proof.Marks

section
variable {d : Dev} {slot action : Nat} {f : MarkSlot → Dev → Dev}

/-- Moving to an instant changes no register, so no mark. -/
theorem advanceTo_markCollides (t : Nat) : (d.advanceTo t).markCollides slot = d.markCollides slot := by
  simp only [Dev.markCollides, Dev.mark, Dev.advanceTo_u]

/-- A mark that is due comes at its offset in the stroke, and then a colliding one is only counted (R50, R51). -/
theorem fireMark_of_due (hdue : d.markDue slot action) : d.fireMark slot action f =
    let a := d.advanceTo (d.course.strokeStart + (d.mark slot).offset)
    if d.markCollides slot then (a.bump Obj.MARK_COLLISIONS).flagRaise Obj.COURSE_FLAGS 6 0xA008 [] else f (d.mark slot) a := by
  obtain ⟨hrun, hconfigured, hstarting, haction, hfires, hoffset⟩ := hdue
  have hstate : (d.device.state == .starting && decide (action < 4)) = false := by
    rw [Bool.and_eq_false_iff, beq_eq_false_iff_ne]
    by_cases h : d.device.state = .starting
    · exact .inr (decide_eq_false (Nat.not_lt.mpr (hstarting h)))
    · exact .inl h
  simp only [Dev.fireMark, hrun, hconfigured, hstate, haction, hfires, hoffset, Bool.not_true, bne_self_eq_false, decide_true,
    Bool.or_self, Bool.false_eq_true, if_false, advanceTo_markCollides]

theorem fireMark_of_free (hfree : d.markCollides slot = false) (hdue : d.markDue slot action) : d.fireMark slot action f =
    f (d.mark slot) (d.advanceTo (d.course.strokeStart + (d.mark slot).offset)) :=
  (fireMark_of_due hdue).trans (if_neg (ne_true_of_eq_false hfree))

theorem fireMark_of_collision (hcollides : d.markCollides slot = true) (hdue : d.markDue slot action) :
    d.fireMark slot action f = ((d.advanceTo (d.course.strokeStart + (d.mark slot).offset)).bump Obj.MARK_COLLISIONS).flagRaise
      Obj.COURSE_FLAGS 6 0xA008 [] :=
  (fireMark_of_due hdue).trans (if_pos hcollides)

/-! ### The actions that ask for more -/

theorem triggerFrom_of_source {n src : Nat} (h : d.u (Obj.TRIG_SRC n) = src) : d.triggerFrom n src = d.trigger n :=
  if_pos (beq_iff_eq.mpr h)

theorem triggerFrom_of_other_source {n src : Nat} (h : d.u (Obj.TRIG_SRC n) ≠ src) : d.triggerFrom n src = d :=
  if_neg fun hsrc => h (beq_iff_eq.mp hsrc)

theorem loadStrobe_of_going (h : d.stopped = false) :
    d.loadStrobe = d.consume fun x => x.takeLoopMode.strobeLoop.strobeAdac.strobeXdac :=
  if_neg (ne_true_of_eq_false h)

theorem advanceTo_stopped (t : Nat) : (d.advanceTo t).stopped = d.stopped := by
  rw [Dev.stopped, Dev.advanceTo_power, Dev.advanceTo_thermal, Dev.stopped]

theorem advanceTo_pwmOf (t n : Nat) : (d.advanceTo t).pwmOf n = d.pwmOf n := by
  rw [Dev.pwmOf, Dev.advanceTo_pwm, Dev.pwmOf]

theorem pwmSync_of_no_period {n : Nat} (hconfigured : d.start.configured = true) (hnone : (d.pwmOf n).start = none) :
    d.pwmSync n = d.pwmBegin n := by
  have hstart : (none == some d.course.elapsed) = false := rfl
  simp only [Dev.pwmSync, hconfigured, hnone, hstart, Bool.not_true, Bool.or_self, Bool.false_eq_true, if_false, Dev.when]

/-- A period that is cut short is counted and flagged once (R258). -/
theorem pwmSync_of_period {n t : Nat} (hconfigured : d.start.configured = true) (hstart : (d.pwmOf n).start = some t)
    (hother : t ≠ d.course.elapsed) : d.pwmSync n =
      (if d.course.elapsed < t + d.u (Obj.PWM_PERIOD n) then (d.bump (Obj.PWM_RESYNC n)).flagFirst Obj.CTRL_FLAGS 6 0x9007 (u8 n)
        else d).pwmBegin n := by
  have hstart' : (some t == some d.course.elapsed) = false := beq_eq_false_iff_ne.mpr fun h => hother (Option.some.inj h)
  simp only [Dev.pwmSync, hconfigured, hstart, hstart', Bool.not_true, Bool.or_self, Bool.false_eq_true, if_false, Dev.when,
    decide_eq_true_eq]

end

/-- Settles O6: a mark that is due by its action where it is free, and by the collision where it is not. -/
theorem marksAct : Obligations.MarksAct := by
  unfold Obligations.MarksAct
  refine ⟨fun s slot => ?acts, fun s slot => ?collides⟩
  case acts =>
    intro d m a hfree
    refine ⟨fun hdue hsrc => ?trigger, fun hdue hsrc => ?otherSource, fun hdue => ?align, fun hdue => ?laneSlot,
      fun hdue hstop => ?strobe, fun hdue => ?gateOpen, fun hdue => ?gateClose, fun hdue hnone => ?sync,
      fun t hdue hstart hother => ?resync⟩
    case trigger =>
      exact becomes_of_act _ rfl ((fireMark_of_free hfree hdue).trans (triggerFrom_of_source ((Dev.advanceTo_u _ _ _).trans hsrc)))
    case otherSource =>
      refine becomes_of_act _ rfl ((fireMark_of_free hfree hdue).trans (triggerFrom_of_other_source ?_))
      rwa [Dev.advanceTo_u]
    case align => exact becomes_of_act _ rfl (fireMark_of_free hfree hdue)
    case laneSlot => exact becomes_of_act _ rfl (fireMark_of_free hfree hdue)
    case strobe =>
      exact becomes_of_act _ rfl ((fireMark_of_free hfree hdue).trans (loadStrobe_of_going ((advanceTo_stopped _).trans hstop)))
    case gateOpen => exact becomes_of_act _ rfl (fireMark_of_free hfree hdue)
    case gateClose => exact becomes_of_act _ rfl (fireMark_of_free hfree hdue)
    case sync =>
      obtain ⟨_, hconfigured, _⟩ := id hdue
      refine becomes_of_act _ rfl ((fireMark_of_free hfree hdue).trans (pwmSync_of_no_period ?_ ?_))
      · rwa [Dev.advanceTo_start]
      · rwa [advanceTo_pwmOf]
    case resync =>
      obtain ⟨_, hconfigured, _⟩ := id hdue
      have hsync := pwmSync_of_period (d := a) (n := m.target) (by rwa [Dev.advanceTo_start]) (by rwa [advanceTo_pwmOf]) hother
      rw [Dev.advanceTo_u] at hsync
      exact becomes_of_act _ rfl ((fireMark_of_free hfree hdue).trans hsync)
  case collides =>
    intro d e hcollides
    exact ⟨fun hdue => becomes_of_act _ rfl (fireMark_of_collision hcollides hdue),
      fun hdue => becomes_of_act _ rfl (fireMark_of_collision hcollides hdue),
      fun hdue => becomes_of_act _ rfl (fireMark_of_collision hcollides hdue),
      fun hdue => becomes_of_act _ rfl (fireMark_of_collision hcollides hdue),
      fun hdue => becomes_of_act _ rfl (fireMark_of_collision hcollides hdue),
      fun hdue => becomes_of_act _ rfl (fireMark_of_collision hcollides hdue),
      fun hdue => becomes_of_act _ rfl (fireMark_of_collision hcollides hdue)⟩

end Sys2Proof.Marks
end

section
/-! PROOFS. Strokes, the wrap of course time, time sources, the encoder and the course alarms (R27, R31, R34–R38, R42, R54–R56, R422). -/

open Sys2Proof Sys2Proof.Machine

namespace Sys2Proof.Course

section
variable {d : Dev}

/-! ### Strokes and the wrap -/

theorem advanceTo_angle (t : Nat) : (d.advanceTo t).angle = d.angle := by
  rw [Dev.angle, Dev.advanceTo_u, Dev.angle]

theorem advanceTo_strokesGo (t : Nat) : (d.advanceTo t).strokesGo = d.strokesGo := by
  rw [Dev.strokesGo, Dev.advanceTo_course_running, Dev.advanceTo_course_awaiting, Dev.strokesGo]

theorem strokeBoundary_of_due (hgo : d.strokesGo = true) (hdue : d.angle = false ∨ d.course.fallback = true) :
    d.strokeBoundary =
      let a := d.advanceTo (d.course.strokeStart + d.course.strokeLen)
      if d.angle then (a.dropMarks a.course.strokeLen).boundary else a.boundary := by
  have hfree : (d.angle && !d.course.fallback) = false := by
    obtain h | h := hdue <;> simp [h]
  simp only [Dev.strokeBoundary, hgo, hfree, Bool.not_true, Bool.or_self, Bool.false_eq_true, if_false, Dev.when, advanceTo_angle]
  split <;> rfl

theorem advance_to_wrap (h : d.course.ticks < courseModulus) :
    (d.advance (courseModulus - d.course.ticks)).course.ticks = 0 := by
  rw [Steps.advance_ticks h, Nat.add_sub_cancel' (Nat.le_of_lt h), Nat.mod_self]

/-! ### Sources -/

theorem qualified_of_not_due {src : Source} (h : d.qualifyDue src = none) : d.qualified src = d := by
  simp only [Dev.qualified, h]

/-- A ring source takes the better ring port as it qualifies (R35). -/
theorem qualified_of_due {src : Source} {t : Nat} (hdue : d.qualifyDue src = some t) (hnew : (d.source src).qualified = false) :
    let a := d.advanceTo t
    let p := a.when (src == .ptpRing) (Dev.setCourse fun c => { c with ringPort := a.betterRingPort })
    let q := p.setSource src fun x => { x with qualified := true, since := a.course.elapsed }
    d.qualified src = ((q.put Obj.SOURCE_QUALIFIED (setBit (d.u Obj.SOURCE_QUALIFIED) src.code)).raise 0xA001 (u8 src.code)).reselect := by
  intro a p q
  have ha : (a.source src).qualified = false := by
    rw [source_eq_of_sources (Dev.advanceTo_course_sources _ _)]
    exact hnew
  have hsources : p.course.sources = a.course.sources := by
    simp only [p, Dev.when]
    split <;> rfl
  have hp : (p.source src).qualified = false := by rw [source_eq_of_sources hsources, ha]
  have helapsed : p.course.elapsed = a.course.elapsed := by
    simp only [p, Dev.when]
    split <;> rfl
  have hreg : q.u Obj.SOURCE_QUALIFIED = d.u Obj.SOURCE_QUALIFIED := by
    have hq : q.live = d.live := by
      refine Eq.trans ?_ (Dev.advanceTo_live d t)
      simp only [q, p, Dev.when]
      split <;> rfl
    exact Hart.u_of_live hq _
  have hstep : d.qualified src = p.sourceQualified src := by
    simp only [Dev.qualified, hdue, a, p]
    rw [show ((d.advanceTo t).source src).qualified = false from ha, Bool.not_false, Bool.and_true]
  rw [hstep, Dev.sourceQualified, hp]
  refine (if_neg Bool.false_ne_true).trans ?_
  rw [helapsed, ← hreg]

/-- A 1PPS whose edges go on for QUAL_TIME is due QUAL_TIME after the first of them (R34). -/
theorem qualifyDue_pps {first last due : Nat} {off : Int} (hseries : d.course.series[3]? = some (some ⟨first, last, off⟩))
    (hdue : first + d.u Obj.QUAL_TIME * secTicks = due) (hlong : due ≤ last) : d.qualifyDue .pps = some due := by
  have hat : d.seriesAt 3 = some ⟨first, last, off⟩ := by
    rw [Dev.seriesAt, List.getD_eq_getElem?_getD, hseries]
    rfl
  have hseriesDue : d.seriesDue 3 = some due := by
    simp only [Dev.seriesDue, hat, hdue]
    exact if_pos (Nat.le_add_right_of_le hlong)
  rw [Dev.qualifyDue, sourcePlaces, List.filterMap_cons_some hseriesDue, List.filterMap_nil, List.min?_singleton]

theorem switchHoldExpiry_of_none (h : d.higherSources = []) : d.switchHoldExpiry = d := by
  simp only [Dev.switchHoldExpiry, h]

theorem switchHoldExpiry_of_one {x : Source} (h : d.higherSources = [x]) : d.switchHoldExpiry =
    ((d.advanceTo ((d.source x).since + d.u Obj.SWITCH_HOLD * secTicks)).flagRaise Obj.COURSE_FLAGS 2 0xA003 []).selectSource x := by
  simp only [Dev.switchHoldExpiry, h, List.foldl_nil]
  rfl

theorem holdoverLimit_of_holdover (h : d.course.sync = .holdover) :
    d.holdoverLimit = (d.advanceTo d.holdoverDue).enterSync .free := if_pos h

/-! ### The edge of 1PPS -/

theorem i_of_live {e : Dev} (h : e.live = d.live) (q : Reg) : e.i q = d.i q := by
  rw [Dev.i, Hart.u_of_live h, Dev.i]

theorem ppsEdge_of_stopped {instant : Nat} (h : d.stopped = true) : d.ppsEdge instant = d := if_pos h

theorem setSeries_i {f : Course → Course} {place : Nat} {x : Option Series} (q : Reg) :
    ((d.setCourse f).setSeries place x).i q = d.i q :=
  i_of_live (by rw [Dev.setSeries, Dev.setCourse_live, Dev.setCourse_live]) q

theorem advanceTo_i (t : Nat) (q : Reg) : (d.advanceTo t).i q = d.i q := i_of_live (Dev.advanceTo_live d t) q

/-- An edge in time gives an offset, unless that is too far off for a course that is not being set (R38, R41). -/
def judgeEdge (e : Dev) : Dev :=
  let off := ppsOffset (((nsOfTicks e.course.ticks : Int) - e.i Obj.PPS_DELAY) % 2 ^ 64).toNat
  if !e.phaseCapture && 250000000 < off.natAbs then e.rejectPps else e.offsetSample .pps off

theorem judgeEdge_eq {a e : Dev} (hticks : e.course.ticks = a.course.ticks)
    (hdelay : e.i Obj.PPS_DELAY = d.i Obj.PPS_DELAY) (hcapture : e.phaseCapture = a.phaseCapture) : judgeEdge e =
      let off := ppsOffset (((nsOfTicks a.course.ticks : Int) - d.i Obj.PPS_DELAY) % 2 ^ 64).toNat
      if a.phaseCapture = false ∧ 250000000 < off.natAbs
        then (e.bump Obj.PPS_REJECTED).flagRaise Obj.COURSE_FLAGS 9 0xA00B [] else e.offsetSample .pps off := by
  simp only [judgeEdge, hticks, hdelay, hcapture, Bool.and_eq_true, Bool.not_eq_true', decide_eq_true_eq, Dev.rejectPps]

/-- Neither the edges nor the series of 1PPS decide whether the course is being set. -/
theorem setSeries_phaseCapture {edge : Option Nat} {place : Nat} {x : Option Series} :
    ((d.setCourse fun c => { c with ppsEdge := edge }).setSeries place x).phaseCapture = d.phaseCapture := by
  have hbound : ((d.setCourse fun c => { c with ppsEdge := edge }).setSeries place x).errorBound = d.errorBound := by
    unfold Dev.errorBound
    rfl
  rw [Dev.phaseCapture, hbound]
  rfl

section
variable {instant : Nat} (hstop : d.stopped = false)
include hstop

theorem ppsEdge_of_first (hnone : d.course.ppsEdge = none) : d.ppsEdge instant =
    let a := d.advanceTo instant
    (a.setCourse fun c => { c with ppsEdge := some a.course.elapsed }).setSeries 3
      (some ⟨a.course.elapsed, a.course.elapsed, 0⟩) := by
  simp only [Dev.ppsEdge, hstop, Dev.advanceTo_course_ppsEdge, hnone, Bool.false_eq_true, if_false]

/-- An edge that is not 1 s ± 100 µs after the one before it is rejected and begins a new series (R38). -/
theorem ppsEdge_of_apart {t : Nat} (hlast : d.course.ppsEdge = some t)
    (hapart : ((d.advanceTo instant).course.elapsed - t) * 15625 < 999900000 * 1024 ∨
      1000100000 * 1024 < ((d.advanceTo instant).course.elapsed - t) * 15625) : d.ppsEdge instant =
    let a := d.advanceTo instant
    (((a.setCourse fun c => { c with ppsEdge := some a.course.elapsed }).setSeries 3
      (some ⟨a.course.elapsed, a.course.elapsed, 0⟩)).bump Obj.PPS_REJECTED).flagRaise Obj.COURSE_FLAGS 9 0xA00B [] := by
  have happart : (decide (((d.advanceTo instant).course.elapsed - t) * 15625 < 999900000 * 1024) ||
      decide (1000100000 * 1024 < ((d.advanceTo instant).course.elapsed - t) * 15625)) = true := by
    rwa [Bool.or_eq_true, decide_eq_true_eq, decide_eq_true_eq]
  simp only [Dev.ppsEdge, hstop, Dev.advanceTo_course_ppsEdge, hlast, Bool.false_eq_true, if_false]
  exact if_pos happart

/-- An edge in time goes on with the series, and its offset is judged (R38, R41). -/
theorem ppsEdge_of_next {t : Nat} (hlast : d.course.ppsEdge = some t)
    (hlow : 999900000 * 1024 ≤ ((d.advanceTo instant).course.elapsed - t) * 15625)
    (hhigh : ((d.advanceTo instant).course.elapsed - t) * 15625 ≤ 1000100000 * 1024) : d.ppsEdge instant = judgeEdge
      (((d.advanceTo instant).setCourse fun c => { c with ppsEdge := some (d.advanceTo instant).course.elapsed }).setSeries 3
        (some ⟨((d.seriesAt 3).map Series.since).getD (d.advanceTo instant).course.elapsed,
          (d.advanceTo instant).course.elapsed, 0⟩)) := by
  have hnear : (decide (((d.advanceTo instant).course.elapsed - t) * 15625 < 999900000 * 1024) ||
      decide (1000100000 * 1024 < ((d.advanceTo instant).course.elapsed - t) * 15625)) = false := by
    rw [Bool.or_eq_false_iff]
    exact ⟨decide_eq_false (Nat.not_lt.mpr hlow), decide_eq_false (Nat.not_lt.mpr hhigh)⟩
  have hseries : ((d.advanceTo instant).setCourse fun c => { c with ppsEdge := some (d.advanceTo instant).course.elapsed }).seriesAt 3 =
      d.seriesAt 3 := by
    rw [Dev.seriesAt, Dev.seriesAt, ← Dev.advanceTo_course_series d instant]
    rfl
  simp only [Dev.ppsEdge, hstop, Dev.advanceTo_course_ppsEdge, hlast, Bool.false_eq_true, if_false]
  rw [hnear, if_neg Bool.false_ne_true, hseries]
  rfl

end

/-! ### The encoder -/

theorem put_encCount_angle (n : Nat) : (d.put Obj.ENC_COUNT n).angle = d.angle := by
  rw [Dev.angle, Dev.put_u_ne _ _ _ _ (by decide), Dev.angle]

theorem put_encCount_encStep (n : Nat) : (d.put Obj.ENC_COUNT n).encStep = d.encStep := by
  rw [Dev.encStep, Dev.put_u_ne _ _ _ _ (by decide), Dev.put_u_ne _ _ _ _ (by decide), Dev.encStep]

theorem encBoundaryAt_of_stopped {instant count : Nat} (h : d.stopped = true) : d.encBoundaryAt instant count = d := if_pos h

theorem encBoundaryAt_eq {instant count : Nat} (h : d.stopped = false) : d.encBoundaryAt instant count =
    if d.u Obj.STROKE_MODE = 1 ∧ d.strokesGo = true ∧ count % max 1 d.encStep = 0 then
      (d.put Obj.ENC_COUNT count).angleBoundary instant
    else d.put Obj.ENC_COUNT count := by
  have hgo : (d.put Obj.ENC_COUNT count).strokesGo = d.strokesGo := rfl
  simp only [Dev.encBoundaryAt, h, put_encCount_angle, put_encCount_encStep, hgo, Bool.false_eq_true, if_false]
  by_cases hdue : d.u Obj.STROKE_MODE = 1 ∧ d.strokesGo = true ∧ count % max 1 d.encStep = 0
  · obtain ⟨hmode, hstrokes, hcount⟩ := hdue
    simp only [Dev.angle, hmode, hstrokes, hcount, beq_self_eq_true, Bool.not_true, Bool.or_self, ne_eq, not_true_eq_false,
      decide_false, Bool.false_eq_true, if_false, and_self, if_true]
  · rw [if_neg hdue, if_pos]
    simp only [Dev.angle, Bool.or_eq_true, Bool.not_eq_true', beq_eq_false_iff_ne, decide_eq_true_eq]
    by_contra hnot
    push Not at hnot
    obtain ⟨⟨hmode, hstrokes⟩, hcount⟩ := hnot
    exact hdue ⟨hmode, (Bool.not_eq_false _).mp hstrokes, hcount⟩

theorem encIndexPulse_of_stopped {instant : Nat} (h : d.stopped = true) : d.encIndexPulse instant = d := if_pos h

section
variable {instant : Nat} (hstop : d.stopped = false)
include hstop

/-- An index pulse zeroes the count where ENC_INDEX says so, is a boundary of the angle course, and triggers (R54, R55). -/
theorem encIndexPulse_eq : d.encIndexPulse instant =
    let a := d.advanceTo instant
    if d.u Obj.ENC_INDEX = 0 then a.triggerAll 5
    else if d.u Obj.STROKE_MODE = 1 ∧ d.strokesGo = true then ((a.put Obj.ENC_COUNT 0).angleBoundary instant).triggerAll 5
    else (a.put Obj.ENC_COUNT 0).triggerAll 5 := by
  have hindex : ((d.advanceTo instant).put Obj.ENC_COUNT 0).u Obj.ENC_INDEX = d.u Obj.ENC_INDEX := by
    rw [Dev.put_u_ne _ _ _ _ (by decide), Dev.advanceTo_u]
  have hangle : ((d.advanceTo instant).put Obj.ENC_COUNT 0).angle = (d.u Obj.STROKE_MODE == 1) := by
    rw [put_encCount_angle, advanceTo_angle, Dev.angle]
  have hgo : ((d.advanceTo instant).put Obj.ENC_COUNT 0).strokesGo = d.strokesGo := advanceTo_strokesGo instant
  by_cases hzero : d.u Obj.ENC_INDEX = 0
  · simp only [Dev.encIndexPulse, hstop, Dev.advanceTo_u, hzero, bne_self_eq_false, Dev.when, Bool.false_and, Bool.false_eq_true,
      if_false, if_true]
  · simp only [Dev.encIndexPulse, hstop, Dev.advanceTo_u, bne_iff_ne.mpr hzero, Dev.when, hindex, hangle, hgo, hzero, Bool.true_and,
      Bool.and_eq_true, beq_iff_eq, Bool.false_eq_true, if_false, if_true]
    split <;> rfl

end

theorem angleStall_of_running (hmode : d.u Obj.STROKE_MODE = 1) (hrun : d.course.running = true) (hfirst : d.course.fallback = false) :
    d.angleStall =
      let a := d.advanceTo d.stallDue
      (((a.dropMarks (a.course.elapsed - a.course.strokeStart)).flagRaise Obj.COURSE_FLAGS 7 0xA009 []).setCourse fun c =>
        { c with fallback := true }).boundary := by
  have hangle : d.angle = true := beq_iff_eq.mpr hmode
  have hgo : d.strokesGo = true := by rw [Dev.strokesGo, hrun, Bool.true_or]
  simp only [Dev.angleStall, hangle, hgo, hfirst, Bool.not_true, Bool.or_self, Bool.false_eq_true, if_false, Dev.when,
    Dev.advanceTo_course_running, hrun, if_true]

/-! ### The course alarms -/

theorem alarmFires_of_unarmed {n : Nat} (h : d.course.armed.getD n false = false) : d.alarmFires n = d := by
  simp only [Dev.alarmFires, h, Bool.false_and, Bool.false_eq_true, if_false]

/-- A wake source that WAKE_MASK leaves out is no wake event (R422). -/
theorem wakeEvent_of_masked {b : Nat} (h : bit (d.u Obj.WAKE_MASK) b = false) : d.wakeEvent b = d := by
  simp only [Dev.wakeEvent, h, Bool.not_false, Bool.true_or, if_true]

theorem alarmFires_of_armed {n : Fin 4} (harmed : d.course.armed.getD n false = true) (hset : d.u (Obj.COURSE_ALARM n) ≠ 0)
    (hmask : bit (d.u Obj.WAKE_MASK) 2 = false) :
    let t := d.course.elapsed + (ceilDiv (d.u (Obj.COURSE_ALARM n) * 1024) 15625 - d.course.ticks)
    let due := if d.power.mode = .stow then d.power.asleepAt + ceilDiv (t - d.power.asleepAt) stowTicks * stowTicks else t
    d.alarmFires n =
      ((d.advanceTo due).setFlag Obj.ALARM_FLAGS n).setCourse fun c => { c with armed := c.armed.set n false } := by
  intro t due
  have hfire : d.fireAlarm n =
      ((d.advanceTo due).setFlag Obj.ALARM_FLAGS n).setCourse fun c => { c with armed := c.armed.set n false } := by
    rw [Dev.fireAlarm, harmed, bne_iff_ne.mpr hset]
    rfl
  rw [Dev.alarmFires, harmed, bne_iff_ne.mpr hset]
  refine (if_pos rfl).trans ?_
  rw [hfire]
  refine wakeEvent_of_masked ?_
  have hkept : (((d.advanceTo due).setFlag Obj.ALARM_FLAGS n).setCourse fun c => { c with armed := c.armed.set n false }).u
      Obj.WAKE_MASK = d.u Obj.WAKE_MASK := by
    rw [Dev.setCourse_u, Dev.u, Dev.setFlag_get _ _ _ _ (by decide), ← Dev.u, Dev.advanceTo_u]
  rw [hkept]
  exact hmask

end

/-- Settles O4: each command by the equation of its case. -/
theorem strokeAndSourceCommands : Obligations.StrokeAndSourceCommands := by
  unfold Obligations.StrokeAndSourceCommands
  refine ⟨fun s => ⟨fun hgo hdue => ?boundary, fun hticks => ⟨becomes_of_act _ rfl rfl, advance_to_wrap hticks⟩,
    fun src hnot => ?notDue, fun src t hdue hnew => ?qualifies, fun first last off hseries hlong => qualifyDue_pps hseries rfl hlong,
    fun hnone => ?noSwitch, fun x hone => ?switch, fun hsync => ?holdover, fun instant hstop => ?ppsStopped,
    fun instant hstop => ⟨fun hnone => ?firstEdge, fun t hlast hapart => ?apart, fun t hlast hlow hhigh => ?nextEdge⟩⟩,
    fun s => ⟨fun instant count hstop => ⟨fun hmode hgo hcount => ?encBoundary, fun hnot => ?encOnly⟩,
      fun instant hstop => ⟨fun hindex => ?pulseOnly, fun hindex hmode => ?pulseZero, fun hindex hmode hgo => ?pulseBoundary⟩,
      fun instant count hstop => ?encStopped, ?encError, fun hmode hrun hfirst => ?stall, fun n harmed hset hmask => ?alarm,
      fun n hunarmed => ?noAlarm⟩⟩
  case boundary => exact becomes_of_act _ rfl (strokeBoundary_of_due hgo hdue)
  case notDue => exact becomes_of_act _ rfl (qualified_of_not_due hnot)
  case qualifies => exact becomes_of_act _ rfl (qualified_of_due hdue hnew)
  case noSwitch => exact becomes_of_act _ rfl (switchHoldExpiry_of_none hnone)
  case switch => exact becomes_of_act _ rfl (switchHoldExpiry_of_one hone)
  case holdover => exact becomes_of_act _ rfl (holdoverLimit_of_holdover hsync)
  case ppsStopped => exact becomes_of_act _ rfl (ppsEdge_of_stopped hstop)
  case firstEdge => exact becomes_of_act _ rfl (ppsEdge_of_first hstop hnone)
  case apart => exact becomes_of_act _ rfl (ppsEdge_of_apart hstop hlast hapart)
  case nextEdge =>
    exact becomes_of_act _ rfl ((ppsEdge_of_next hstop hlast hlow hhigh).trans
      (judgeEdge_eq (d := s.dev.cleared) (a := s.dev.cleared.advanceTo instant) rfl ((setSeries_i _).trans (advanceTo_i _ _))
        setSeries_phaseCapture))
  case encBoundary => exact becomes_of_act _ rfl ((encBoundaryAt_eq hstop).trans (if_pos ⟨hmode, hgo, hcount⟩))
  case encOnly =>
    exact becomes_of_act _ rfl ((encBoundaryAt_eq hstop).trans
      (if_neg fun ⟨hmode, _, hcount⟩ => hnot.elim (fun h => h hmode) fun h => h hcount))
  case pulseOnly => exact becomes_of_act _ rfl ((encIndexPulse_eq hstop).trans (if_pos hindex))
  case pulseZero =>
    exact becomes_of_act _ rfl ((encIndexPulse_eq hstop).trans ((if_neg hindex).trans (if_neg fun ⟨h, _⟩ => hmode h)))
  case pulseBoundary =>
    exact becomes_of_act _ rfl ((encIndexPulse_eq hstop).trans ((if_neg hindex).trans (if_pos ⟨hmode, hgo⟩)))
  case encStopped =>
    exact ⟨becomes_of_act _ rfl (encBoundaryAt_of_stopped hstop), becomes_of_act _ rfl (encIndexPulse_of_stopped hstop)⟩
  case encError =>
    refine after_of_act (Dev.bump Obj.ENC_ERRORS) rfl rfl ⟨Dev.bump_u_self _ _, Dev.bump_u_ne _ _ _ (by decide), ?_, rfl⟩
    intro k x hk
    exact Store.get_set_ne _ _ _ _ _ _ fun h => hk (List.mem_singleton.mpr h)
  case stall => exact becomes_of_act _ rfl (angleStall_of_running hmode hrun hfirst)
  case alarm => exact becomes_of_act _ rfl (alarmFires_of_armed harmed hset hmask)
  case noAlarm => exact becomes_of_act _ rfl (alarmFires_of_unarmed hunarmed)

end Sys2Proof.Course
end

section
/-! PROOFS. Results (R65, R66, R74, R108): a result is taken from its flight, its overrange is noted, and it goes to its seat. -/

open Sys2Proof Sys2Proof.Machine

namespace Sys2Proof.Results

open Registers

/-! ### Delivery leaves the cross-check alone -/

section
variable {d : Dev}

theorem when_xcheck {c : Bool} {f : Dev → Dev} (h : (f d).xcheck = d.xcheck) : (d.when c f).xcheck = d.xcheck :=
  when_of (P := fun x => x.xcheck = d.xcheck) rfl h

theorem when_when_xcheck {c c' : Bool} {f f' : Dev → Dev} (h : (f d).xcheck = d.xcheck) (h' : ∀ e, (f' e).xcheck = e.xcheck) :
    ((d.when c f).when c' f').xcheck = d.xcheck :=
  (when_xcheck (h' _)).trans (when_xcheck h)

theorem ite_xcheck {x : Xcheck} {p : Prop} [Decidable p] {e e' : Dev} (h : e.xcheck = x) (h' : e'.xcheck = x) :
    (if p then e else e').xcheck = x := by
  split
  · exact h
  · exact h'

theorem appendInput_xcheck (l k : Nat) (e : Element) : (d.appendInput l k e).xcheck = d.xcheck := by
  simp only [Dev.appendInput, Dev.when]
  split_ifs <;> simp [Dev.setInput, Dev.setLane]

theorem deliverInputs_xcheck (seat tag : Nat) (injected : Bool) (e : Element) :
    (d.deliverInputs seat tag injected e).xcheck = d.xcheck := by
  rw [Dev.deliverInputs]
  generalize allInputs = l
  induction l generalizing d with
  | nil => rfl
  | cons p ps ih => exact ih.trans (when_xcheck (appendInput_xcheck _ _ _))

theorem queueResult_xcheck (seat t word : Nat) : (d.queueResult seat t word).xcheck = d.xcheck := by
  rw [Dev.queueResult]
  refine ite_xcheck ?_ ?_
  · exact when_of (P := fun x => x.xcheck = d.xcheck) rfl rfl
  · rw [Dev.flagFirst_xcheck, Dev.bump_xcheck]

theorem writeResult_xcheck (r : Reg) (flags t : Nat) (code : Int) : (d.writeResult r flags t code).xcheck = d.xcheck := by
  rw [Dev.writeResult, Dev.put_xcheck]

theorem deliverHost_xcheck (b : Batch) (flags : Nat) (code : Int) : (d.deliverHost b flags code).xcheck = d.xcheck := by
  cases huse : b.use
  all_goals simp only [Dev.deliverHost, huse]
  case injected =>
    refine (when_when_xcheck ?_ fun e => ?_).trans ?_
    · exact Dev.put_xcheck _ _ _
    · exact queueResult_xcheck _ _ _
    · exact writeResult_xcheck _ _ _ _
  case entry => split_ifs <;> simp only [queueResult_xcheck, writeResult_xcheck]

theorem deliverResult_xcheck (b : Batch) (flags : Nat) (code : Int) : (d.deliverResult b flags code).xcheck = d.xcheck := by
  rw [Dev.deliverResult, deliverHost_xcheck, deliverInputs_xcheck]

end

/-! ### A result on its way -/

section
variable {d : Dev} {c : Nat} {b : Batch} {flags : Nat} {code : Int}

theorem compare_of_none {t : Taken} (h : d.xcheck.comparison = none) : d.compare c t = d := by
  simp only [Dev.compare, h, ite_self]

/-- With no comparison under way a result is only routed. -/
theorem compare_deliverResult {t : Taken} (h : d.xcheck.comparison = none) :
    (d.deliverResult b flags code).compare c t = d.deliverResult b flags code :=
  compare_of_none (by rw [deliverResult_xcheck, h])

theorem routeResult_entry (huse : b.use = .entry) (hjoin : d.xcheck.join = none) (hconv : (d.seat b.seat).conv = some c) :
    d.routeResult c b flags code = d.deliverResult b flags code := by
  simp only [Dev.routeResult, huse, hjoin, hconv, if_true]

theorem routeResult_injected (huse : b.use = .injected) : d.routeResult c b flags code = d.deliverResult b flags code := by
  simp only [Dev.routeResult, huse]

theorem noteOverrange_in_range (huse : b.use = .entry) (hrange : isOvr code = false) :
    d.noteOverrange c b code = d.setSeat b.seat fun x => { x with ovr := clearBit x.ovr b.entry } := by
  simp only [Dev.noteOverrange, huse, hrange, Dev.when, ne_eq, not_true_eq_false, Bool.false_eq_true, if_false]

/-- The first overranged result of an entry is counted, flagged and reported (R66). -/
theorem noteOverrange_first (huse : b.use = .entry) (hover : isOvr code = true) (hfirst : bit (d.seat b.seat).ovr b.entry = false) :
    d.noteOverrange c b code = ((d.bump (Obj.OVERRANGE_COUNT c)).setSeat b.seat fun x =>
      { x with ovr := setBit x.ovr b.entry }).flagRaise (Obj.CV_FLAGS c) 0 0x2001 (u8 c ++ u8 b.entry) := by
  have hfirst' : bit ((d.bump (Obj.OVERRANGE_COUNT c)).seat b.seat).ovr b.entry = false := hfirst
  simp only [Dev.noteOverrange, huse, hover, hfirst', Dev.when, ne_eq, not_true_eq_false, Bool.false_eq_true, if_false, if_true]

theorem noteOverrange_injected (huse : b.use = .injected) :
    d.noteOverrange c b code = if isOvr code then d.bump (Obj.OVERRANGE_COUNT c) else d := by
  simp only [Dev.noteOverrange, huse, Dev.when, ne_eq, reduceCtorEq, not_false_eq_true, if_true]

theorem resultReady_of_no_flight {out : FilterOut} (h : (d.conv c).flight = []) : d.resultReady c out = d := by
  simp only [Dev.resultReady, h]

theorem resultReady_of_later {out : FilterOut} {rest : List Batch} (hflight : (d.conv c).flight = b :: rest)
    (hlater : d.laterThanAnother c b = true) : d.resultReady c out = d := by
  simp only [Dev.resultReady, hflight, hlater, if_true]

/-- The device once a result has been taken from its converter's flight. -/
def taken (d : Dev) (c : Nat) (out : FilterOut) (b : Batch) (rest : List Batch) : Dev :=
  let a := d.advanceTo b.ready
  let code := (a.resultCode c b out).1
  let flags := a.resultFlags c b code
  a.setConv c fun _ => { (a.resultCode c b out).2 with
    flight := liveBatches [{ b with first := b.first + b.T, count := b.count - 1 }] ++ rest
    last := some ⟨b.first, a.nsAt b.first, code, flags, b.seat, b.entry, b.use⟩ }

theorem taken_xcheck (out : FilterOut) (rest : List Batch) : (taken d c out b rest).xcheck = d.xcheck :=
  (Dev.setConv_xcheck _ _ _).trans (Dev.advanceTo_xcheck _ _)

theorem taken_seat (out : FilterOut) (rest : List Batch) (n : Nat) : (taken d c out b rest).seat n = d.seat n :=
  FrontEnd.advanceTo_seat d b.ready n

/-- The overrange marks of a seat are not its converter. -/
theorem setSeat_ovr_conv (n : Nat) (g : Seat → Nat) :
    ((d.setSeat n fun x => { x with ovr := g x }).seat n).conv = (d.seat n).conv :=
  FrontEnd.setSeat_conv (f := fun x => { x with ovr := g x }) fun _ => rfl

theorem resultReady_of_first {out : FilterOut} {rest : List Batch} (hflight : (d.conv c).flight = b :: rest)
    (hlater : d.laterThanAnother c b = false) :
    let a := d.advanceTo b.ready
    let code := (a.resultCode c b out).1
    let flags := a.resultFlags c b code
    d.resultReady c out = (((taken d c out b rest).noteOverrange c b code).routeResult c b flags code).compare c
      ⟨b.first, a.nsAt b.first, code, flags, b.seat, b.entry, b.use⟩ := by
  simp only [Dev.resultReady, hflight, hlater, Bool.false_eq_true, if_false]
  rfl

section
variable {out : FilterOut} {rest : List Batch} (hflight : (d.conv c).flight = b :: rest) (hlater : d.laterThanAnother c b = false)
  (hcomparison : d.xcheck.comparison = none)
include hflight hlater hcomparison

theorem resultReady_in_range (hjoin : d.xcheck.join = none) (huse : b.use = .entry) (hconv : (d.seat b.seat).conv = some c) :
    let code := ((d.advanceTo b.ready).resultCode c b out).1
    isOvr code = false → d.resultReady c out = ((taken d c out b rest).setSeat b.seat fun x =>
      { x with ovr := clearBit x.ovr b.entry }).deliverResult b ((d.advanceTo b.ready).resultFlags c b code) code := by
  intro code hrange
  rw [resultReady_of_first hflight hlater, noteOverrange_in_range huse hrange, routeResult_entry huse, compare_deliverResult]
  · rw [Dev.setSeat_xcheck, taken_xcheck, hcomparison]
  · rw [Dev.setSeat_xcheck, taken_xcheck, hjoin]
  · rw [setSeat_ovr_conv, taken_seat, hconv]

theorem resultReady_overranged (hjoin : d.xcheck.join = none) (huse : b.use = .entry) (hconv : (d.seat b.seat).conv = some c)
    (hfirst : bit (d.seat b.seat).ovr b.entry = false) :
    let code := ((d.advanceTo b.ready).resultCode c b out).1
    isOvr code = true → d.resultReady c out = ((((taken d c out b rest).bump (Obj.OVERRANGE_COUNT c)).setSeat b.seat fun x =>
      { x with ovr := setBit x.ovr b.entry }).flagRaise (Obj.CV_FLAGS c) 0 0x2001 (u8 c ++ u8 b.entry)).deliverResult b
        ((d.advanceTo b.ready).resultFlags c b code) code := by
  intro code hover
  rw [resultReady_of_first hflight hlater, noteOverrange_first huse hover (by rwa [taken_seat]), routeResult_entry huse,
    compare_deliverResult]
  · rw [Dev.flagRaise_xcheck, Dev.setSeat_xcheck, Dev.bump_xcheck, taken_xcheck, hcomparison]
  · rw [Dev.flagRaise_xcheck, Dev.setSeat_xcheck, Dev.bump_xcheck, taken_xcheck, hjoin]
  · rw [Dev.seat, Dev.flagRaise_seats, ← Dev.seat, setSeat_ovr_conv, Dev.seat, Dev.bump_seats, ← Dev.seat,
      taken_seat, hconv]

theorem resultReady_injected (huse : b.use = .injected) :
    let code := ((d.advanceTo b.ready).resultCode c b out).1
    d.resultReady c out = (if isOvr code then (taken d c out b rest).bump (Obj.OVERRANGE_COUNT c) else taken d c out b rest).deliverResult
      b ((d.advanceTo b.ready).resultFlags c b code) code := by
  intro code
  rw [resultReady_of_first hflight hlater, noteOverrange_injected huse, routeResult_injected huse, compare_deliverResult]
  split
  · rw [Dev.bump_xcheck, taken_xcheck, hcomparison]
  · rw [taken_xcheck, hcomparison]

end

end

/-- Settles O7: an entry's result by its range, an injected one, and the two that have no effect. -/
theorem resultsAreDelivered : Obligations.ResultsAreDelivered := by
  unfold Obligations.ResultsAreDelivered
  refine ⟨fun s c out b rest hflight hlater hjoin hcomparison => ⟨fun huse hrange hconv => ?inRange,
    fun huse hover hconv hfirst => ?overranged, fun huse => ?injected⟩,
    fun s c out => ⟨fun hnone => ?none, fun b rest hflight hlater => ?later⟩⟩
  case inRange => exact becomes_of_act _ rfl (resultReady_in_range hflight hlater hcomparison hjoin huse hconv hrange)
  case overranged => exact becomes_of_act _ rfl (resultReady_overranged hflight hlater hcomparison hjoin huse hconv hfirst hover)
  case injected => exact becomes_of_act _ rfl (resultReady_injected hflight hlater hcomparison huse)
  case none => exact becomes_of_act _ rfl (resultReady_of_no_flight hnone)
  case later => exact becomes_of_act _ rfl (resultReady_of_later hflight hlater)

end Sys2Proof.Results
end

section
/-! PROOFS. The cross-check (R130, R131, R133, R139–R142), the lanes (R153, R154, R158, R177) and the assembly of a catch (R197–R199). -/

open Sys2Proof Sys2Proof.Machine

namespace Sys2Proof.CrossCheck

section
variable {d : Dev}

/-! ### Rotation and the spare third -/

theorem rotation_of_blocked (hdue : d.xcheck.rotationDue = true) (hboundary : d.course.elapsed = d.course.strokeStart)
    (hblocked : d.rotationBlocked = true) : d.rotation = d.setFlag Obj.XCHK_FLAGS 7 := by
  simp only [Dev.rotation, hdue, hboundary, hblocked, ne_eq, not_true_eq_false, decide_false, Bool.not_true, Bool.or_self,
    Bool.false_eq_true, if_false, if_true]

theorem rotation_of_free {x c n : Nat} (hdue : d.xcheck.rotationDue = true) (hboundary : d.course.elapsed = d.course.strokeStart)
    (hfree : d.rotationBlocked = false) (hspare : d.xcheck.spare = some x) (hnext : (d.followingConvs x).head? = some c)
    (hseat : d.seatOf c = some n) :
    d.rotation = (d.setXcheck fun v => { v with rotationDue := false }).startJoin n x .rotation := by
  simp only [Dev.rotation, hdue, hboundary, hfree, hspare, hnext, Option.bind_some, hseat, ne_eq, not_true_eq_false, decide_false,
    Bool.not_true, Bool.or_self, Bool.false_eq_true, if_false]

theorem rotation_of_not_due (h : d.xcheck.rotationDue = false ∨ d.course.elapsed ≠ d.course.strokeStart) : d.rotation = d := by
  refine if_pos ?_
  rw [Bool.or_eq_true, Bool.not_eq_true', decide_eq_true_eq]
  exact h

theorem lean_eq_false (h : d.u Obj.PROFILE_ACTIVE ≠ 2) : d.lean = false := beq_eq_false_iff_ne.mpr h

/-- At the start of a third the spare shadows the seat of that third (R131). -/
theorem spareThird_of_start {x y : Nat} (hmode : d.u Obj.XCHK_MODE = 0) (hprofile : d.u Obj.PROFILE_ACTIVE ≠ 2)
    (hstart : d.thirdStarts.contains (d.u Obj.ROTATE_COUNTDOWN) = true) (hjoin : d.xcheck.join = none) (htest : d.xcheck.test = none)
    (hspare : d.xcheck.spare = some x) (hthird : (d.followingConvs x)[d.thirdNow]? = some y) :
    d.spareThird = d.shadowSeat x y := by
  simp only [Dev.spareThird, Dev.when, hmode, lean_eq_false hprofile, hstart, hjoin, htest, Dev.resumeShadow, hspare, hthird,
    beq_self_eq_true, Option.isNone_none, Bool.not_false, Bool.and_self, Bool.false_eq_true, if_false, if_true]

/-! ### The pairs of FULL4 -/

theorem pairAdvance_of_other_mode (h : d.u Obj.XCHK_MODE ≠ 1) : d.pairAdvance = d := by
  simp only [Dev.pairAdvance, h, ne_eq, not_false_eq_true, decide_true, Bool.true_or, if_true]

/-- At the end of a pair's period: a pair that never compared is counted, and the next pair takes its place (R133). -/
def nextPeriod (d : Dev) : Dev :=
  let counted := if d.xcheck.paired then d else (d.bump Obj.XCHK_STARVED).flagFirst Obj.XCHK_FLAGS 6 0x2026 []
  counted.endComparison.setXcheck fun x => { x with pairLeft := counted.u Obj.FULL4_PAIR_PERIOD, paired := true }

theorem pairAdvance_of_due (hmode : d.u Obj.XCHK_MODE = 1) (hleft : d.xcheck.pairLeft = 0) (hprofile : d.u Obj.PROFILE_ACTIVE ≠ 2) :
    d.pairAdvance = match (nextPeriod d).nextPair with
      | none => nextPeriod d
      | some k =>
        let f := (nextPeriod d).setXcheck fun x => { x with pair := k }
        match f.startPair with
        | some e => ((if f.xcheck.test.isSome then f else e)).setXcheck fun x => { x with paired := false }
        | none => f.skipCheck := by
  have hcounted : (d.when (!d.xcheck.paired) fun d => (d.bump Obj.XCHK_STARVED).flagFirst Obj.XCHK_FLAGS 6 0x2026 []) =
      if d.xcheck.paired then d else (d.bump Obj.XCHK_STARVED).flagFirst Obj.XCHK_FLAGS 6 0x2026 [] := by
    cases h : d.xcheck.paired <;> rfl
  rw [Dev.pairAdvance, hcounted, if_neg (by simp [hmode, hleft, lean_eq_false hprofile])]
  rfl

theorem startPair_of_pairable {n m : Nat} (hn : d.seatOf (pairCycle.getD d.xcheck.pair (0, 1)).1 = some n)
    (hm : d.seatOf (pairCycle.getD d.xcheck.pair (0, 1)).2 = some m) (hpairable : d.pairable n m = true) :
    d.startPair = some (d.setXcheck fun x => { x with comparison := some (d.comparison (pairCycle.getD d.xcheck.pair (0, 1)).1
      (pairCycle.getD d.xcheck.pair (0, 1)).2 n (d.u (Obj.XCHK_ENTRY n)) 0) }) := by
  simp only [Dev.startPair, hn, hm, hpairable, if_true]

section
variable (hmode : d.u Obj.XCHK_MODE = 1) (hleft : d.xcheck.pairLeft = 0) (hprofile : d.u Obj.PROFILE_ACTIVE ≠ 2)
include hmode hleft hprofile

theorem pairAdvance_of_no_pair (hnone : (nextPeriod d).nextPair = none) : d.pairAdvance = nextPeriod d := by
  rw [pairAdvance_of_due hmode hleft hprofile, hnone]

theorem pairAdvance_of_skipped {k : Nat} (hnext : (nextPeriod d).nextPair = some k)
    (hnone : ((nextPeriod d).setXcheck fun x => { x with pair := k }).startPair = none) :
    d.pairAdvance = ((nextPeriod d).setXcheck fun x => { x with pair := k }).skipCheck := by
  rw [pairAdvance_of_due hmode hleft hprofile, hnext]
  simp only [hnone]

theorem pairAdvance_of_pair {k : Nat} {e : Dev} (hnext : (nextPeriod d).nextPair = some k)
    (hstart : ((nextPeriod d).setXcheck fun x => { x with pair := k }).startPair = some e) :
    let f := (nextPeriod d).setXcheck fun x => { x with pair := k }
    d.pairAdvance = (if f.xcheck.test.isSome then f else e).setXcheck fun x => { x with paired := false } := by
  rw [pairAdvance_of_due hmode hleft hprofile, hnext]
  simp only [hstart]

end

/-! ### The self-test -/

theorem selfTestStart_of_busy {call : TestCall} (hcall : d.xcheck.call = some call)
    (hbusy : (d.checkRuns || d.calRuns || d.thermal.refRun.isSome || d.xcheck.join.isSome || bit (d.u Obj.DIAG_FLAGS) 1) = true) :
    d.selfTestStart = d := by
  simp only [Dev.selfTestStart, hcall, hbusy, if_true]

theorem selfTestStart_of_free {call : TestCall} (hcall : d.xcheck.call = some call) (hcheck : d.checkRuns = false)
    (hcal : d.calRuns = false) (href : d.thermal.refRun = none) (hjoin : d.xcheck.join = none)
    (hfault : bit (d.u Obj.DIAG_FLAGS) 1 = false) : d.selfTestStart = d.beginTest call := by
  simp only [Dev.selfTestStart, hcall, hcheck, hcal, href, hjoin, hfault, Option.isSome_none, Bool.or_self, Bool.false_eq_true,
    if_false]

/-- A self-test at the end of a level: the mean of its sixteen results joins the others (R140). -/
def levelDone (t : SelfTest) (c : Nat) (results : List FilterOut) (a : Dev) : SelfTest :=
  let codes := results.map (a.calibrated c t.gain false)
  { t with
    level := t.level + 1, start := a.course.elapsed, ovr := t.ovr || codes.any isOvr, means := t.means ++ [(codes.sum + 8) / 16] }

theorem levelEnd_of_test {t : SelfTest} {c : Nat} (results : List FilterOut) (htest : d.xcheck.test = some t)
    (hunder : d.underTest = some c) :
    let a := d.advanceTo (t.start + levelTicks)
    let t' := levelDone t c results a
    let e := a.setXcheck fun x => { x with test := some t' }
    d.levelEnd results = if t.level + 1 < 3 then e else e.pathDone t' := by
  simp only [Dev.levelEnd, htest, hunder]
  rfl

end

/-- Settles O11: each command by the equation of its case. -/
theorem crossCheckCommands : Obligations.CrossCheckCommands := by
  unfold Obligations.CrossCheckCommands
  refine fun s => ⟨fun hdue hboundary hblocked => ?blocked, fun x c n hdue hboundary hfree hspare hnext hseat => ?rotates,
    fun hnot => ?notDue, fun hmode hprofile hstart hjoin htest x y hspare hthird => ?third, fun hmode => ?otherMode,
    fun hmode hleft hprofile => ?pairs, fun call hcall hbusy => ?busy, fun call hcall hcheck hcal href hjoin hfault => ?begins,
    fun t c results htest hunder hlevel => ?level, fun t c results htest hunder hlevel => ?lastLevel⟩
  case blocked => exact becomes_of_act _ rfl (rotation_of_blocked hdue hboundary hblocked)
  case rotates => exact becomes_of_act _ rfl (rotation_of_free hdue hboundary hfree hspare hnext hseat)
  case notDue => exact becomes_of_act _ rfl (rotation_of_not_due hnot)
  case third => exact becomes_of_act _ rfl (spareThird_of_start hmode hprofile hstart hjoin htest hspare hthird)
  case otherMode => exact becomes_of_act _ rfl (pairAdvance_of_other_mode hmode)
  case pairs =>
    intro counted e
    refine ⟨fun hnone => ?_, fun k hnext => ⟨fun hnone => ?_, fun n m hn hm hpairable => ?_⟩⟩
    · exact becomes_of_act _ rfl (pairAdvance_of_no_pair hmode hleft hprofile hnone)
    · exact becomes_of_act _ rfl (pairAdvance_of_skipped hmode hleft hprofile hnext hnone)
    · exact becomes_of_act _ rfl (pairAdvance_of_pair hmode hleft hprofile hnext (startPair_of_pairable hn hm hpairable))
  case busy => exact becomes_of_act _ rfl (selfTestStart_of_busy hcall hbusy)
  case begins => exact becomes_of_act _ rfl (selfTestStart_of_free hcall hcheck hcal href hjoin hfault)
  case level =>
    exact becomes_of_act _ rfl ((levelEnd_of_test results htest hunder).trans (if_pos (Nat.succ_lt_succ hlevel)))
  case lastLevel =>
    intro a codes t'
    have hdone : levelDone t c results a = t' := by
      simp only [levelDone, hlevel, t', codes]
    refine becomes_of_act _ rfl ((levelEnd_of_test results htest hunder).trans ((if_neg (by rw [hlevel]; decide)).trans ?_))
    rw [← hdone]
    rfl

end Sys2Proof.CrossCheck

namespace Sys2Proof.Lanes

section
variable {d : Dev} {l k : Nat}

/-! ### The front slot -/

theorem laneFinish_of_front {x : Slot} {rest : List Slot} (hqueue : d.engine.queue = x :: rest) (hlane : x.lane = l) :
    let fresh : Bool := d.engine.idleSince ≤ x.tick
    let start := if fresh then x.tick else d.engine.busyTick
    let total : Int := (if fresh then 0 else d.engine.busyCycles) + (d.runSlot x).cycles
    let a := d.advanceTo (start + cycleTicks d.engineHz total.toNat)
    let e := a.setEngine fun v => { v with
      queue := rest, idleSince := a.course.elapsed, busyTick := start, busyCycles := total }
    d.laneFinish l = Dev.finishSlot x (e.runSlot x) := by
  simp only [Dev.laneFinish, hqueue, hlane, ne_eq, not_true_eq_false, if_false]

theorem laneFinish_of_other {x : Slot} {rest : List Slot} (hqueue : d.engine.queue = x :: rest) (hlane : x.lane ≠ l) :
    d.laneFinish l = d := by
  simp only [Dev.laneFinish, hqueue, ne_eq, hlane, not_false_eq_true, if_true]

/-! ### An input without results -/

theorem failInput_of_whole {cause : Nat} (h : (d.input l k).failed = none) : d.failInput l k cause =
    let e := d.setInput l k fun i => { i with failed := some cause }
    ((e.put (Obj.IN_FAILED l) (setBit (e.u (Obj.IN_FAILED l)) k)).setFlag (Obj.LANE_FLAGS l) 4).raise 0x3005 (u8 l ++ u8 k) := by
  simp only [Dev.failInput, h, Option.isSome_none, Bool.false_eq_true, if_false, Dev.flagRaise]

theorem inTimeout_of_due (hconfigured : d.start.configured = true) (hbound : d.inputBound l k = true)
    (hset : d.u (Obj.IN_TIMEOUT l k) ≠ 0) (hdue : (d.input l k).stroke + d.u (Obj.IN_TIMEOUT l k) ≤ d.strokeNumber) :
    d.inTimeout l k = d.failInput l k 5 := by
  simp only [Dev.inTimeout, hconfigured, hbound, bne_iff_ne.mpr hset, hdue, decide_true, Bool.and_self, Dev.when, if_true]

/-! ### Parity -/

theorem parityError_of_front {x : Slot} {rest : List Slot} {place : ParityPlace} (hqueue : d.engine.queue = x :: rest)
    (hlane : x.lane = l) :
    let e := d.setEngine fun v => { v with queue := rest, idleSince := d.course.elapsed }
    let f := (((e.bump Obj.PARITY_ERRORS).setFlag (Obj.LANE_FLAGS l) 3).setFlag Obj.ENGINE_FLAGS 0).failLaneOutputs l
    let ls := (l :: f.lanesAt place).eraseDups
    let g := f.setEngine fun v => { v with tests := (v.tests.filter fun t => t.1 != place) ++ [(place, ls)] }
    d.parityError l place = ls.foldl (fun d k =>
      (d.setLane k fun v => { v with testing := true }).setEngine fun v => { v with
        queue := v.queue.filter fun s => s.lane != k }) g := by
  simp only [Dev.parityError, hqueue, hlane, ne_eq, not_true_eq_false, if_false]

section
variable {place p : ParityPlace} {rest : List Nat}

theorem parityTestDone_of_no_test {lasting : Bool} (h : (d.engine.tests.find? fun t => t.1 == place) = none) :
    d.parityTestDone place lasting = d := by
  simp only [Dev.parityTestDone, h]

theorem parityTestDone_of_transient (h : (d.engine.tests.find? fun t => t.1 == place) = some (p, k :: rest)) :
    d.parityTestDone place false =
      (((d.setEngine fun e => { e with tests := e.tests.filter fun t => t.1 != place }).bump Obj.PARITY_TRANSIENT).raise 0x3002
        (u8 k)).resumeLanes (k :: rest) := by
  simp only [Dev.parityTestDone, h, Bool.not_false, if_true, List.headD_cons]

/-- A frame whose fault lasts is retired (R177). -/
def frameRetired (d : Dev) (k f : Nat) : Dev :=
  let mask := setBit (d.u Obj.FRAMES_RETIRED) f
  ((d.put Obj.FRAMES_RETIRED mask).bufferInternal .retired [Obj.FRAMES_RETIRED.write mask]).flagRaise Obj.ENGINE_FLAGS 1 0x3003 (u8 k)

/-- A row whose fault lasts is retired (R177). -/
def rowRetired (d : Dev) (k n : Nat) : Dev :=
  let t := (d.setEngine fun v => { v with rowsRetired := n :: v.rowsRetired }).bump Obj.ROWS_RETIRED
  (t.bufferInternal .retired [Obj.ROWS_RETIRED.write (t.u Obj.ROWS_RETIRED)]).flagRaise Obj.ENGINE_FLAGS 2 0x3003 (u8 k)

theorem parityTestDone_of_frame {f : Fin 33}
    (h : (d.engine.tests.find? fun t => t.1 == ParityPlace.frame f) = some (p, k :: rest)) :
    let e := frameRetired (d.setEngine fun e => { e with tests := e.tests.filter fun t => t.1 != ParityPlace.frame f }) k f
    (e.spareFrame = none → d.parityTestDone (.frame f) true = e.failLanes (k :: rest)) ∧
    (∀ q, e.spareFrame = some q → d.parityTestDone (.frame f) true = (e.setEngine fun v => { v with
      lanes := v.lanes.map fun x => if x.frame = f.val then { x with frame := q } else x }).resumeLanes (k :: rest)) := by
  intro e
  have hdone : d.parityTestDone (.frame f) true = match e.spareFrame with
      | some g => (e.setEngine fun v => { v with lanes := v.lanes.map fun x =>
          if x.frame = f.val then { x with frame := g } else x }).resumeLanes (k :: rest)
      | none => e.failLanes (k :: rest) := by
    rw [Dev.parityTestDone, h]
    rfl
  exact ⟨fun hnone => by rw [hdone, hnone], fun q hq => by rw [hdone, hq]⟩

theorem parityTestDone_of_row {n : Fin 528}
    (h : (d.engine.tests.find? fun t => t.1 == ParityPlace.row n) = some (p, k :: rest)) :
    let e := rowRetired (d.setEngine fun e => { e with tests := e.tests.filter fun t => t.1 != ParityPlace.row n }) k n
    (e.spareRow = none → d.parityTestDone (.row n) true = e.failLanes (k :: rest)) ∧
    (∀ q, e.spareRow = some q →
      let block := ((List.range 512).find? fun b => e.rowOf b == n.val).getD n.val
      d.parityTestDone (.row n) true = (e.setEngine fun v => { v with
        rows := (block, q) :: v.rows.filter fun x => x.1 != block }).resumeLanes (k :: rest)) := by
  intro e
  have hdone : d.parityTestDone (.row n) true = match e.spareRow with
      | some q =>
        let block := ((List.range 512).find? fun b => e.rowOf b == n.val).getD n.val
        (e.setEngine fun v => { v with rows := (block, q) :: v.rows.filter fun x => x.1 != block }).resumeLanes (k :: rest)
      | none => e.failLanes (k :: rest) := by
    rw [Dev.parityTestDone, h]
    rfl
  exact ⟨fun hnone => by rw [hdone, hnone], fun q hq => by rw [hdone, hq]⟩

end

end

/-! ### A catch -/

/-- The device with a catch assembled, but for its entry: the catch is no longer open, and has taken the next identifier (R197). -/
def assembled (d : Dev) (c : Nat) (held : HeldCatch) (fresh : Nat) : Dev :=
  (({ d with device := { d.device with fresh := fresh } }.setCapture fun s => { s with
    catches := s.catches.filter fun x => x.definition != c
    held := (held :: s.held).take 32 }).put Obj.CATCH_LAST_ID ((d.u Obj.CATCH_LAST_ID + 1) % 2 ^ 32)).bump (Obj.CATCH_COUNT c)

theorem exists_assemble_eq (o : OpenCatch) (d : Dev) : ∃ held fresh payload, d.assemble o =
    (assembled d o.definition held fresh).waitEntry
      ((assembled d o.definition held fresh).stamp .catch ((assembled d o.definition held fresh).u (Obj.CATCH_STREAM o.definition))
        payload) :=
  ⟨_, _, _, rfl⟩

theorem catchAssembly_of_complete {d : Dev} {c : Nat} {o : OpenCatch} (hopen : d.openCatch c = some o)
    (happ : d.device.appRunning = true)
    (hsamples : d.postCount c ≤ d.samplesBack (d.u (Obj.CATCH_CHANNEL c)) o.trigger.instant + 1) (hfirst : d.earlierOpen o = false) :
    d.catchAssembly c = d.assemble o := by
  simp only [Dev.catchAssembly, hopen, happ, hfirst, decide_eq_false (Int.not_lt.mpr hsamples), Bool.not_true, Bool.or_self,
    Bool.false_eq_true, if_false]

/-- A waiting entry is handed over last, and only the ledger shows it. -/
theorem exists_waitEntry_eq (e : Entry) (d : Dev) : ∃ led : Ledger, d.waitEntry e = { d with ledger := led } ∧
    led.buffer ++ led.outside = d.handedOver ++ [.entry e] := by
  rw [Dev.waitEntry]
  split
  case isTrue h =>
    have hempty : d.ledger.outside = [] := List.isEmpty_iff.mp (Bool.and_eq_true_iff.mp h).1
    refine ⟨_, rfl, ?_⟩
    simp [Dev.handedOver, hempty]
  case isFalse =>
    rw [Dev.bufferWait]
    split
    case isTrue h =>
      have hempty : d.ledger.outside = [] := List.isEmpty_iff.mp (Bool.and_eq_true_iff.mp h).1
      exact ⟨_, rfl, by simp [Dev.handedOver, hempty]⟩
    case isFalse => exact ⟨_, rfl, by simp [Dev.handedOver]⟩

section
variable {d : Dev} {c : Nat} {held : HeldCatch} {fresh : Nat}

theorem catchLastId_key_ne_catchCount : Obj.CATCH_LAST_ID.key ≠ (Obj.CATCH_COUNT c).key := by
  simp only [Obj.CATCH_LAST_ID, Obj.CATCH_COUNT]
  omega

theorem assembled_lastId : (assembled d c held fresh).u Obj.CATCH_LAST_ID = (d.u Obj.CATCH_LAST_ID + 1) % 2 ^ 32 := by
  rw [assembled, Dev.bump_u_ne _ _ _ catchLastId_key_ne_catchCount, Dev.put_u_self]
  exact Nat.mod_mod _ _

theorem assembled_count : (assembled d c held fresh).u (Obj.CATCH_COUNT c) = (d.u (Obj.CATCH_COUNT c) + 1) % 2 ^ 32 := by
  rw [assembled, Dev.bump_u_self, Dev.put_u_ne _ _ _ _ catchLastId_key_ne_catchCount.symm]
  rfl

theorem assembled_registersBut :
    Dev.registersBut [Obj.CATCH_LAST_ID.key, (Obj.CATCH_COUNT c).key] d (assembled d c held fresh) := by
  intro k x hk
  rw [List.mem_cons, List.mem_singleton, not_or] at hk
  obtain ⟨hid, hcount⟩ := hk
  rw [assembled, Dev.bump_live, Store.get_set_ne _ _ _ _ _ _ hcount, Dev.put_live, Store.get_set_ne _ _ _ _ _ _ hid]
  rfl

theorem assembled_stream : (assembled d c held fresh).u (Obj.CATCH_STREAM c) = d.u (Obj.CATCH_STREAM c) := by
  have hid : (Obj.CATCH_STREAM c).key ≠ Obj.CATCH_LAST_ID.key := by
    simp only [Obj.CATCH_STREAM, Obj.CATCH_LAST_ID]
    omega
  have hcount : (Obj.CATCH_STREAM c).key ≠ (Obj.CATCH_COUNT c).key := by
    simp only [Obj.CATCH_STREAM, Obj.CATCH_COUNT]
    omega
  rw [assembled, Dev.bump_u_ne _ _ _ hcount, Dev.put_u_ne _ _ _ _ hid]
  rfl

theorem assembled_openCatch : (assembled d c held fresh).openCatch c = none := by
  rw [Dev.openCatch, List.find?_eq_none]
  intro x hx
  have hother : x ∈ d.capture.catches.filter fun x => x.definition != c := hx
  simpa using (List.mem_filter.mp hother).2

end

theorem cleared_u (d : Dev) (q : Reg) : d.cleared.u q = d.u q := Hart.u_of_live rfl q

/-- Settles O12: the lanes' commands by the equations of their cases; a catch by what its assembly leaves and the entry it hands over. -/
theorem laneCommands : Obligations.LaneCommands := by
  unfold Obligations.LaneCommands
  refine ⟨fun s l => ⟨fun x rest hqueue hlane => ?front, fun x rest hqueue hlane => ?other, fun k => ?timeout,
    fun x rest place hqueue hlane => ?parity, fun place hnone lasting => ?noTest, fun place p k rest hfind => ?test⟩,
    fun s c o hopen hdefinition happ hsamples hfirst => ?assembly⟩
  case front => exact becomes_of_act _ rfl (laneFinish_of_front hqueue hlane)
  case other => exact becomes_of_act _ rfl (laneFinish_of_other hqueue hlane)
  case timeout =>
    intro t hconfigured hbound hset hdue hwhole
    exact becomes_of_act _ rfl ((inTimeout_of_due hconfigured hbound hset hdue).trans (failInput_of_whole hwhole))
  case parity => exact becomes_of_act _ rfl (parityError_of_front hqueue hlane)
  case noTest => exact becomes_of_act _ rfl (parityTestDone_of_no_test hnone)
  case test =>
    refine ⟨becomes_of_act _ rfl (parityTestDone_of_transient hfind), fun f hframe => ?_, fun n hrow => ?_⟩
    · subst hframe
      obtain ⟨hfails, hspare⟩ := parityTestDone_of_frame hfind
      exact ⟨fun hnone => becomes_of_act _ rfl (hfails hnone), fun q hq => becomes_of_act _ rfl (hspare q hq)⟩
    · subst hrow
      obtain ⟨hfails, hspare⟩ := parityTestDone_of_row hfind
      exact ⟨fun hnone => becomes_of_act _ rfl (hfails hnone), fun q hq => becomes_of_act _ rfl (hspare q hq)⟩
  case assembly =>
    obtain ⟨held, fresh, payload, hassemble⟩ := exists_assemble_eq o s.dev.cleared
    rw [hdefinition] at hassemble
    obtain ⟨led, hwait, hhanded⟩ := exists_waitEntry_eq ((assembled s.dev.cleared c held fresh).stamp .catch
      ((assembled s.dev.cleared c held fresh).u (Obj.CATCH_STREAM c)) payload) (assembled s.dev.cleared c held fresh)
    have hdone : s.dev.cleared.catchAssembly c = { assembled s.dev.cleared c held fresh with ledger := led } :=
      (catchAssembly_of_complete (d := s.dev.cleared) hopen happ hsamples hfirst).trans (hassemble.trans hwait)
    refine after_of_act (Dev.catchAssembly c) rfl ?replies ?left
    all_goals rw [hdone]
    case replies => rfl
    case left =>
      have hu : ∀ q, ({ assembled s.dev.cleared c held fresh with ledger := led } : Dev).u q =
          (assembled s.dev.cleared c held fresh).u q := fun q => Hart.u_of_live rfl q
      have hregisters : Dev.registersBut [Obj.CATCH_LAST_ID.key, (Obj.CATCH_COUNT c).key] s.dev.cleared
          (assembled s.dev.cleared c held fresh) := assembled_registersBut
      refine ⟨?_, ?_, ⟨_, hhanded, rfl, ?_⟩, assembled_openCatch, hregisters, rfl, rfl, rfl⟩
      · rw [hu, assembled_lastId, cleared_u]
      · rw [hu, assembled_count, cleared_u]
      · exact assembled_stream.trans (cleared_u _ _)

end Sys2Proof.Lanes
end

section
/-! PROOFS. The loop, its buttons and the headroom of VBB (R215, R217, R224, R226, R232, R448), and the actuator, excitation and PWM
channels (R236–R238, R258, R259; log 87). -/

open Sys2Proof Sys2Proof.Machine

namespace Sys2Proof.Outputs

section
variable {d : Dev}

/-! ### Sense and compliance -/

theorem loopSense_eq (i v : F32) (draw : Bool) : d.loopSense i v draw =
    let e := ((d.putF Obj.LOOP_MEASURED i).putF Obj.LOOP_VOLTAGE v).compareLoop.setOutputs fun o => { o with
      drawHigh := draw && !d.outputs.source }
    if draw = true ∧ d.outputs.source = false ∧ d.outputs.drawHigh = false then (e.setFlag Obj.LOOP_FLAGS 5).raise 0x400D []
    else e := by
  have hsource : ((d.putF Obj.LOOP_MEASURED i).putF Obj.LOOP_VOLTAGE v).compareLoop.outputs.source = d.outputs.source := rfl
  have hwas : ((d.putF Obj.LOOP_MEASURED i).putF Obj.LOOP_VOLTAGE v).compareLoop.outputs.drawHigh = d.outputs.drawHigh := rfl
  simp only [Dev.loopSense, hsource, hwas, Dev.when, Dev.flagRaise, Bool.and_eq_true, Bool.not_eq_true', and_assoc]

theorem complianceActive_eq_true : d.complianceActive = true ↔ 4 ≤ d.outputs.row ∧ d.outputs.row ≠ 9 := by
  rw [Dev.complianceActive, Bool.and_eq_true, decide_eq_true_eq, bne_iff_ne]

theorem complianceActive_eq_false : d.complianceActive = false ↔ d.outputs.row < 4 ∨ d.outputs.row = 9 := by
  rw [Dev.complianceActive, Bool.and_eq_false_iff, decide_eq_false_iff_not, Nat.not_le, bne_eq_false_iff_eq]

theorem f_of_u {e : Dev} {q : Reg} (h : e.u q = d.u q) : e.f q = d.f q := congrArg (BitVec.ofNat 32) h

theorem complianceSet_of_off {t : Nat} (hoff : d.outputs.offSince = some t) (hrow : 4 ≤ d.outputs.row) (hrow9 : d.outputs.row ≠ 9)
    (hfirst : d.outputs.compliance = false) :
    let e := (d.advanceTo (t + 10 * msTicks)).setOutputs fun o => { o with compliance := true }
    let isOpen := F32.lt (d.f Obj.LOOP_MEASURED) (F32.ofRat 1 2) && F64.le (F64.nat codeDown) e.slewedNow
    let f := if isOpen then e.setFlag Obj.LOOP_FLAGS 2 else e
    d.complianceSet = (f.setFlag Obj.LOOP_FLAGS 1).raise 0x4001 (f32b (d.f Obj.LOOP_MEASURED)) := by
  intro e isOpen f
  have he : e.f Obj.LOOP_MEASURED = d.f Obj.LOOP_MEASURED := f_of_u ((Dev.setOutputs_u _ _ _).trans (Dev.advanceTo_u _ _ _))
  have hf : f.f Obj.LOOP_MEASURED = d.f Obj.LOOP_MEASURED := by
    simp only [f]
    split
    · refine (f_of_u ?_).trans he
      rw [Dev.u, Dev.setFlag_get _ _ _ _ (by decide), ← Dev.u]
    · exact he
  have hset : d.complianceSet = (e.when (F32.lt (e.f Obj.LOOP_MEASURED) (F32.ofRat 1 2) && F64.le (F64.nat codeDown) e.slewedNow)
      (Dev.setFlag Obj.LOOP_FLAGS 2)).flagRaise Obj.LOOP_FLAGS 1 0x4001 (f32b ((e.when (F32.lt (e.f Obj.LOOP_MEASURED)
        (F32.ofRat 1 2) && F64.le (F64.nat codeDown) e.slewedNow) (Dev.setFlag Obj.LOOP_FLAGS 2)).f Obj.LOOP_MEASURED)) := by
    simp only [Dev.complianceSet, hoff, complianceActive_eq_true.mpr ⟨hrow, hrow9⟩, hfirst, Bool.not_true, Bool.or_self,
      Bool.false_eq_true, if_false, e]
  rw [hset, he]
  exact congrArg (fun x => (f.setFlag Obj.LOOP_FLAGS 1).raise 0x4001 (f32b x)) hf

theorem complianceSet_of_not
    (h : d.outputs.row < 4 ∨ d.outputs.row = 9 ∨ d.outputs.offSince = none ∨ d.outputs.compliance = true) : d.complianceSet = d := by
  rw [Dev.complianceSet]
  cases hoff : d.outputs.offSince with
  | none => rfl
  | some t =>
    refine if_pos ?_
    rw [Bool.or_eq_true, Bool.not_eq_true', complianceActive_eq_false, or_assoc]
    simpa only [hoff, reduceCtorEq, false_or] using h

theorem complianceClear_of_near {t : Nat} (hnear : d.outputs.nearSince = some t) (hrow : 4 ≤ d.outputs.row)
    (hrow9 : d.outputs.row ≠ 9) (hset : d.outputs.compliance = true) : d.complianceClear =
      ((d.advanceTo (t + 100 * msTicks)).setOutputs fun o => { o with compliance := false }).raise 0x4002 [] := by
  simp only [Dev.complianceClear, hnear, complianceActive_eq_true.mpr ⟨hrow, hrow9⟩, hset, Bool.not_true, Bool.or_self,
    Bool.false_eq_true, if_false]

theorem complianceClear_of_not
    (h : d.outputs.row < 4 ∨ d.outputs.row = 9 ∨ d.outputs.nearSince = none ∨ d.outputs.compliance = false) :
    d.complianceClear = d := by
  rw [Dev.complianceClear]
  cases hnear : d.outputs.nearSince with
  | none => rfl
  | some t =>
    refine if_pos ?_
    rw [Bool.or_eq_true, Bool.not_eq_true', Bool.not_eq_true', complianceActive_eq_false, or_assoc]
    simpa only [hnear, reduceCtorEq, false_or] using h

/-! ### The headroom of VBB -/

/-- On the limiter's rows of a sourced loop, with the actuator off, VBB is at its cap of 24 V (R217). -/
theorem vbbAdjust_of_limiter (loopDrop actDrop : F32) (hsource : d.outputs.source = true) (hrow : d.outputs.row ≤ 3)
    (hoff : d.on Obj.ADAC_ENABLE = false) : (d.vbbAdjust loopDrop actDrop).outputs.vbb = F32.ofInt 24 := by
  have hact : d.adacOn = false := by simp [Dev.adacOn, Dev.adacEnabled, hoff]
  have hcap : F32.min (F32.ofInt 24) (F32.max (F32.ofInt 24) F32.zero) = F32.ofInt 24 := by decide +kernel
  simp only [Dev.vbbAdjust, Dev.setOutputs_outputs, hsource, hrow, hact, Bool.not_true, Bool.not_false, Bool.false_eq_true, if_false,
    if_true, hcap]

/-! ### The thermal limit -/

theorem hvThermal_of_hot {x : F32} (h : F32.le (F32.ofInt 125) x = true) :
    let e := d.setOutputs fun o => { o with
      thermal := true, hot := true, row := if 3 < o.row then 3 else o.row, slewed := F64.nat codeDown }
    d.hvThermal x = if d.outputs.hot = true ∧ d.outputs.thermal = true then e else (e.setFlag Obj.LOOP_FLAGS 4).raise 0x4005 [] := by
  intro e
  simp only [Dev.hvThermal, h, if_true, Dev.when, Bool.not_eq_true', ← Bool.and_eq_true, Dev.flagRaise]
  cases d.outputs.hot && d.outputs.thermal
  · rfl
  · rfl

theorem hvThermal_of_cool {x : F32} (h : F32.le (F32.ofInt 125) x = false) (hcool : F32.lt x (F32.ofInt 115) = true) :
    d.hvThermal x = d.setOutputs fun o => { o with hot := false } := by
  simp only [Dev.hvThermal, h, hcool, Bool.false_eq_true, if_false, if_true]

theorem hvThermal_of_warm {x : F32} (h : F32.le (F32.ofInt 125) x = false) (hwarm : F32.lt x (F32.ofInt 115) = false) :
    d.hvThermal x = d := by
  simp only [Dev.hvThermal, h, hwarm, Bool.false_eq_true, if_false]

theorem hvReading_eq (own sent : F32) : d.hvReading own sent =
    if d.outputs.beating = true ∧ d.course.elapsed < d.outputs.beatAt + secTicks then F32.max own sent else own := by
  simp only [Dev.hvReading, Bool.and_eq_true, decide_eq_true_eq]

/-! ### The buttons -/

section
variable {span wp : Bool}

theorem buttonPress_of_ignored (h : d.stopped = true ∨ bit d.outputs.stuck 0 = true ∨ bit d.outputs.stuck 1 = true) :
    d.buttonPress span wp = d.setDevice fun v => { v with wpLow := wp } := by
  refine if_pos ?_
  have hstopped : (d.setDevice fun v => { v with wpLow := wp }).stopped = d.stopped := rfl
  rw [Bool.or_eq_true, Bool.or_eq_true, hstopped]
  cases span
  · exact h.elim .inr fun hstuck => .inl (hstuck.elim .inl .inr)
  · exact h.elim .inr fun hstuck => .inl (hstuck.elim .inr .inl)

section
variable (hgoing : d.stopped = false) (hzero : bit d.outputs.stuck 0 = false) (hspan : bit d.outputs.stuck 1 = false)
include hgoing hzero hspan

theorem button_heeded : ¬((d.setDevice fun v => { v with wpLow := wp }).buttonIgnored span ||
    (d.setDevice fun v => { v with wpLow := wp }).buttonIgnored (!span) ||
    (d.setDevice fun v => { v with wpLow := wp }).stopped) = true := by
  have hstopped : (d.setDevice fun v => { v with wpLow := wp }).stopped = false := hgoing
  cases span <;> simp [Dev.buttonIgnored, hstopped, hzero, hspan]

theorem buttonPress_of_reason {r : Nat} (hreason : (d.setDevice fun v => { v with wpLow := wp }).buttonReason span wp = some r) :
    d.buttonPress span wp = ((d.setDevice fun v => { v with wpLow := wp }).setFlag Obj.LOOP_FLAGS 8).raise 0x4008 (u8 r) := by
  refine (if_neg (button_heeded hgoing hzero hspan)).trans ?_
  rw [hreason]
  rfl

theorem buttonPress_of_no_reason (hfree : (d.setDevice fun v => { v with wpLow := wp }).buttonReason span wp = none) :
    d.buttonPress span wp = (d.setDevice fun v => { v with wpLow := wp }).ownRequest (.button span) wp
      [.write 0x3400 3 ((d.setDevice fun v => { v with wpLow := wp }).buttonRange span)] := by
  refine (if_neg (button_heeded hgoing hzero hspan)).trans ?_
  rw [hfree]

end

/-- A low WP_N is the first reason (R232). -/
theorem buttonReason_of_wp : d.buttonReason span true = some 1 := rfl

theorem buttonReason_of_state (h : d.device.state ≠ .run ∨ d.on Obj.BUTTON_ENABLE = false) : d.buttonReason span false = some 2 := by
  have hstate : (d.device.state != .run || !d.on Obj.BUTTON_ENABLE) = true := by
    rwa [Bool.or_eq_true, bne_iff_ne, Bool.not_eq_true']
  simp only [Dev.buttonReason, hstate, Bool.false_eq_true, if_false, if_true]

end

/-! ### The actuator and excitation outputs -/

theorem actThermal_of_hot {x : F32} (h : F32.le (F32.ofInt 125) x = true) :
    let e := (d.setOutputs fun o => { o with adacThermal := true, adacHot := true, adacSource := 0 }).put Obj.ADAC_CODE 0
    d.actThermal x = if d.outputs.adacThermal = true ∧ d.outputs.adacHot = true then e
      else (e.setFlag Obj.ADAC_FLAGS 2).raise 0x4009 [] := by
  intro e
  simp only [Dev.actThermal, h, if_true, Dev.when, Bool.not_eq_true', ← Bool.and_eq_true, Dev.flagRaise]
  cases d.outputs.adacThermal && d.outputs.adacHot
  · rfl
  · rfl

theorem actThermal_of_cool {x : F32} (h : F32.le (F32.ofInt 125) x = false) (hcool : F32.lt x (F32.ofInt 115) = true) :
    d.actThermal x = d.setOutputs fun o => { o with adacHot := false } := by
  simp only [Dev.actThermal, h, hcool, Bool.false_eq_true, if_false, if_true]

theorem actThermal_of_warm {x : F32} (h : F32.le (F32.ofInt 125) x = false) (hwarm : F32.lt x (F32.ofInt 115) = false) :
    d.actThermal x = d := by
  simp only [Dev.actThermal, h, hwarm, Bool.false_eq_true, if_false]

theorem clampEnd_of_clamped {t : Nat} (h : d.outputs.adacClamp = some t) :
    d.clampEnd = (d.advanceTo t).setOutputs fun o => { o with adacClamp := none, adacWait := true } := by
  simp only [Dev.clampEnd, h]

theorem adacComplianceSet_of_current (hrange : d.outputs.adacRange = 2) (hfirst : d.outputs.adacCompliance = false) :
    d.adacComplianceSet =
      ((d.setOutputs fun o => { o with adacCompliance := true }).setFlag Obj.ADAC_FLAGS 0).raise 0x4009 [] := by
  simp only [Dev.adacComplianceSet, hrange, hfirst, ne_eq, not_true_eq_false, decide_false, Bool.or_self, Bool.false_eq_true, if_false,
    Dev.flagRaise]

theorem adacComplianceSet_of_not (h : d.outputs.adacRange ≠ 2 ∨ d.outputs.adacCompliance = true) : d.adacComplianceSet = d := by
  refine if_pos ?_
  rwa [Bool.or_eq_true, decide_eq_true_eq]

theorem adacOvercurrent_of_voltage (hrange : d.outputs.adacRange ≠ 2) (hon : d.adacOn = true) :
    d.adacOvercurrent = (d.setFlag Obj.ADAC_FLAGS 1).raise 0x4009 [] :=
  if_pos (Bool.and_eq_true_iff.mpr ⟨bne_iff_ne.mpr hrange, hon⟩)

theorem xdacOvercurrent_of_on (h : d.xdacOn = true) : d.xdacOvercurrent = (d.setFlag Obj.XDAC_FLAGS 0).raise 0x400B [] := if_pos h

theorem xdacOvercurrent_of_off (h : d.xdacOn = false) : d.xdacOvercurrent = d := if_neg (ne_true_of_eq_false h)

/-! ### The PWM channels -/

theorem pwmPeriodStart_of_configured {n : Nat} (h : d.start.configured = true) : d.pwmPeriodStart n =
    (match (d.pwmOf n).start with | some t => d.advanceTo (t + d.u (Obj.PWM_PERIOD n)) | none => d).pwmBegin n := by
  rw [Dev.pwmPeriodStart, h]
  exact if_neg Bool.false_ne_true

/-- Where a period ends, its own length is still that of the registers. -/
theorem periodEnd_u {n : Nat} (q : Reg) :
    (match (d.pwmOf n).start with | some t => d.advanceTo (t + d.u (Obj.PWM_PERIOD n)) | none => d).u q = d.u q := by
  cases (d.pwmOf n).start with
  | none => rfl
  | some t => exact Dev.advanceTo_u _ _ _

theorem pwmBegin_eq {n k : Nat} (hk : pwmTicks (d.seen.pwmPending n) (d.u (Obj.PWM_PERIOD n)) = k) : d.pwmBegin n =
    (({ d with pwm := d.pwm.set n ⟨some d.course.elapsed, d.seen.pwmPending n⟩ } : Dev).put (Obj.PWM_DUTY n) k).triggerAll
      (1 + 2 * n) := by
  rw [Dev.pwmBegin, hk]

theorem pwmPeriodStart_of_not_configured {n : Nat} (h : d.start.configured = false) : d.pwmPeriodStart n = d := by
  rw [Dev.pwmPeriodStart, h]
  rfl

theorem pwmCentre_of_pulse {n t : Nat} (hstart : (d.pwmOf n).start = some t) (hduty : d.u (Obj.PWM_DUTY n) ≠ 0) : d.pwmCentre n =
    (d.advanceTo (t + (if d.u (Obj.PWM_ALIGN n) = 1 then d.u (Obj.PWM_PERIOD n) else d.u (Obj.PWM_DUTY n)) / 2)).triggerAll
      (2 + 2 * n) := by
  simp only [Dev.pwmCentre, hstart, hduty, if_false]

theorem pwmCentre_of_none {n : Nat} (h : d.u (Obj.PWM_DUTY n) = 0 ∨ (d.pwmOf n).start = none) : d.pwmCentre n = d := by
  rw [Dev.pwmCentre]
  cases hstart : (d.pwmOf n).start with
  | none => rfl
  | some t => exact if_pos (h.resolve_right (by rw [hstart]; exact Option.some_ne_none t))

end

/-- Settles O16: each command by the equation of its case, and VBB by the need of the loop. -/
theorem loopCommands : Obligations.LoopCommands := by
  unfold Obligations.LoopCommands
  refine ⟨fun s => ⟨fun i v draw => ?sense, fun t hoff hrow hrow9 hfirst => ?setCompliance, fun hnot => ?noSet,
    fun t hnear hrow hrow9 hset => ?clearCompliance, fun hnot => ?noClear, fun drops => ?vbb, fun own => ⟨fun hhot => ?hot,
      fun hnot hcool => ?cool, fun hnot hwarm => ?warm⟩⟩, fun d own sent => hvReading_eq own sent,
    fun s drops hsource hrow hoff => ?limiter, fun s wp => ⟨fun hgoing hzero hspan => ⟨fun hwp => ?wp, fun hwp hstate => ?state,
      fun hfree => ?zero, fun hfree => ?span⟩, fun hignored => ?ignored, fun b => ?stuck⟩⟩
  case sense => exact becomes_of_act _ rfl (loopSense_eq i v draw)
  case setCompliance => exact becomes_of_act _ rfl (complianceSet_of_off hoff hrow hrow9 hfirst)
  case noSet => exact becomes_of_act _ rfl (complianceSet_of_not hnot)
  case clearCompliance => exact becomes_of_act _ rfl (complianceClear_of_near hnear hrow hrow9 hset)
  case noClear => exact becomes_of_act _ rfl (complianceClear_of_not hnot)
  case vbb => exact after_of_act (Dev.vbbAdjust drops.1 drops.2) rfl rfl rfl
  case hot => exact becomes_of_act _ rfl (hvThermal_of_hot hhot)
  case cool => exact becomes_of_act _ rfl (hvThermal_of_cool hnot hcool)
  case warm => exact becomes_of_act _ rfl (hvThermal_of_warm hnot hwarm)
  case limiter =>
    exact after_of_act (Dev.vbbAdjust drops.1 drops.2) rfl rfl (vbbAdjust_of_limiter (d := s.dev.cleared) _ _ hsource hrow hoff)
  case wp =>
    subst hwp
    exact ⟨becomes_of_act _ rfl (buttonPress_of_reason hgoing hzero hspan buttonReason_of_wp),
      becomes_of_act _ rfl (buttonPress_of_reason hgoing hzero hspan buttonReason_of_wp)⟩
  case state =>
    subst hwp
    exact ⟨becomes_of_act _ rfl (buttonPress_of_reason hgoing hzero hspan (buttonReason_of_state hstate)),
      becomes_of_act _ rfl (buttonPress_of_reason hgoing hzero hspan (buttonReason_of_state hstate))⟩
  case zero => exact becomes_of_act _ rfl (buttonPress_of_no_reason hgoing hzero hspan hfree)
  case span => exact becomes_of_act _ rfl (buttonPress_of_no_reason hgoing hzero hspan hfree)
  case ignored =>
    exact ⟨becomes_of_act _ rfl (buttonPress_of_ignored hignored), becomes_of_act _ rfl (buttonPress_of_ignored hignored)⟩
  case stuck =>
    cases b
    all_goals exact ⟨becomes_of_act _ rfl rfl, becomes_of_act _ rfl rfl⟩

/-- Settles O17: each command by the equation of its case. -/
theorem actuatorCommands : Obligations.ActuatorCommands := by
  unfold Obligations.ActuatorCommands
  refine ⟨fun s => ⟨fun own => ⟨fun hhot => ?hot, fun hnot hcool => ?cool, fun hnot hwarm => ?warm⟩, fun t hclamp => ?clamp,
    fun hrange hfirst => ?setCompliance, fun hnot => ?noSet, ?clearCompliance, fun hrange hon => ?overcurrent,
    fun hon => ?excitation, fun hoff => ?excitationOff⟩,
    fun s n => ⟨fun hconfigured => ?period, fun hnot => ?noPeriod, fun t hstart hduty => ?centre, fun hnot => ?noCentre⟩⟩
  case hot => exact becomes_of_act _ rfl (actThermal_of_hot hhot)
  case cool => exact becomes_of_act _ rfl (actThermal_of_cool hnot hcool)
  case warm => exact becomes_of_act _ rfl (actThermal_of_warm hnot hwarm)
  case clamp => exact becomes_of_act _ rfl (clampEnd_of_clamped hclamp)
  case setCompliance => exact becomes_of_act _ rfl (adacComplianceSet_of_current hrange hfirst)
  case noSet => exact becomes_of_act _ rfl (adacComplianceSet_of_not hnot)
  case clearCompliance => exact becomes_of_act _ rfl rfl
  case overcurrent => exact becomes_of_act _ rfl (adacOvercurrent_of_voltage hrange hon)
  case excitation => exact becomes_of_act _ rfl (xdacOvercurrent_of_on hon)
  case excitationOff => exact becomes_of_act _ rfl (xdacOvercurrent_of_off hoff)
  case period =>
    refine becomes_of_act _ rfl ((pwmPeriodStart_of_configured hconfigured).trans (pwmBegin_eq ?_))
    rw [periodEnd_u]
    rfl
  case noPeriod => exact becomes_of_act _ rfl (pwmPeriodStart_of_not_configured hnot)
  case centre => exact becomes_of_act _ rfl (pwmCentre_of_pulse hstart hduty)
  case noCentre => exact becomes_of_act _ rfl (pwmCentre_of_none hnot)

end Sys2Proof.Outputs
end

section
/-! PROOFS. The commands of chapter 10 and a state change that is due (R273, R279, R282, R283, R333). -/

open Sys2Proof Sys2Proof.Machine

namespace Sys2Proof.Entries

section
variable {d : Dev}

theorem msTicks_eq : msTicks = 65536 := rfl

theorem secTicks_eq : secTicks = 65536000 := rfl

theorem rateExpiry_of_counted {k t : Nat} {rest : List Nat} (h : d.ledger.rate.getD k [] = t :: rest) :
    let a := d.advanceTo (rest.foldl min t)
    d.rateExpiry k = a.setLedger fun l => { l with
      rate := l.rate.modify k fun r => r.filter fun t => decide (a.course.elapsed < t) } := by
  rw [Dev.rateExpiry, h]

/-! ### Withdrawal (R279) -/

theorem withdrawOne_of_alone {p : PendingRequest} (hrunning : d.device.appRunning = true) (hjoined : p.joined = []) :
    d.withdrawOne p = (((d.bump Obj.REQ_WITHDRAWN).setFlag Obj.ENTRY_FLAGS 1).raise 0x5002
      (u16 p.rq.client.toNat ++ u32 p.rq.id.toNat)).reply ⟨p.rq.via, p.rq.client.toNat, p.rq.id.toNat, 0x0C, 0, 255, []⟩ := by
  have hgoing : ((d.bump Obj.REQ_WITHDRAWN).flagRaise Obj.ENTRY_FLAGS 1 0x5002
      (u16 p.rq.client.toNat ++ u32 p.rq.id.toNat)).device.appRunning = true := by
    rw [Dev.flagRaise, Dev.raise_device_appRunning]
    exact hrunning
  simp only [Dev.withdrawOne, hgoing, hjoined, Bool.not_true, Bool.false_eq_true, if_false, List.foldl_cons, List.foldl_nil]
  rfl

/-- The request that an item of the buffer is, where it may still be withdrawn. -/
def withdrawableOf (i : Item) : Option PendingRequest :=
  match i with
  | .request p _ _ => if i.withdrawable then some p else none
  | _ => none

/-- All that may still be withdrawn is, at one instant. -/
def withdrawAll (d : Dev) : Dev :=
  let n := match d.ledger.group with | some g => g.count | none => 0
  ((d.waitingItems.filterMap withdrawableOf).foldl (fun d p => d.withdrawOne p) (d.setLedger fun l => { l with
    buffer := l.buffer.take n ++ (l.buffer.drop n).filter fun i => !i.withdrawable })).drainOutside

theorem withdrawRequests_eq : d.withdrawRequests = match d.waitingItems.findSome? withdrawableOf with
    | none => d
    | some p => withdrawAll (d.advanceTo (p.arrived + d.u Obj.ACK_WAIT * msTicks)) := rfl

section
variable {p : PendingRequest} {es : List Entry} {cs : List Write} (hgroup : d.ledger.group = none)
  (hbuffer : d.ledger.buffer = [.request p es cs]) (hw : (Item.request p es cs).withdrawable = true)
include hgroup hbuffer hw

theorem withdrawAll_of_sole :
    withdrawAll d = ((d.setLedger fun l => { l with buffer := [] }).withdrawOne p).drainOutside := by
  have hwaiting : d.waitingItems = [.request p es cs] := by rw [Dev.waitingItems, hgroup, hbuffer, List.drop_zero]
  have hempty : (d.setLedger fun l => { l with
      buffer := l.buffer.take 0 ++ (l.buffer.drop 0).filter fun i => !i.withdrawable }) =
      d.setLedger fun l => { l with buffer := [] } := by
    simp only [Dev.setLedger, hbuffer, List.take_zero, List.drop_zero, List.filter_cons, hw, Bool.not_true, Bool.false_eq_true,
      if_false, List.filter_nil, List.nil_append]
  simp only [withdrawAll, hwaiting, hgroup, hempty, withdrawableOf, hw, if_true, List.filterMap_cons, List.filterMap_nil,
    List.foldl_cons, List.foldl_nil]

theorem withdrawRequests_of_sole : d.withdrawRequests =
    (((d.advanceTo (p.arrived + d.u Obj.ACK_WAIT * 65536)).setLedger fun l => { l with
      buffer := [] }).withdrawOne p).drainOutside := by
  have hwaiting : d.waitingItems.findSome? withdrawableOf = some p := by
    rw [Dev.waitingItems, hgroup, hbuffer, List.drop_zero, List.findSome?_cons, withdrawableOf, hw, if_pos rfl]
  rw [withdrawRequests_eq, hwaiting, ← msTicks_eq]
  exact withdrawAll_of_sole ((congrArg Ledger.group (Dev.advanceTo_ledger _ _)).trans hgroup)
    ((congrArg Ledger.buffer (Dev.advanceTo_ledger _ _)).trans hbuffer) hw

end

/-! ### Subscriptions (R282, R283) -/

theorem sub_advanceTo (u n : Nat) : (d.advanceTo n).sub u = d.sub u := by rw [Dev.sub, Dev.advanceTo_ledger, ← Dev.sub]

theorem rtoExpiry_of_delivering {u t : Nat} (htimer : (d.sub u).timer = some t) (henabled : d.on (Obj.SUB_ENABLE u) = true)
    (hout : d.outstanding u = true) (hstate : d.u (Obj.SUB_STATE u) = 1) :
    let a := d.advanceTo (t + d.u (Obj.SUB_RTO u) * 65536)
    let e := (a.setSub u fun x => { x with
      timer := some a.course.elapsed, timeouts := (d.sub u).timeouts + 1, resend := true }).bump (Obj.SUB_RETX u)
    d.rtoExpiry u = if (d.sub u).timeouts + 1 = 8
      then ((e.put (Obj.SUB_STATE u) 2).setFlag Obj.ENTRY_FLAGS 2).raise 0x5004 (u8 u ++ u64 (d.u (Obj.SUB_ACKED u)))
      else e := by
  generalize hn : t + d.u (Obj.SUB_RTO u) * 65536 = n
  intro a e
  have hms : t + 1 * d.u (Obj.SUB_RTO u) * msTicks = n := by rw [Nat.one_mul, msTicks_eq, hn]
  have hacked : e.u (Obj.SUB_ACKED u) = d.u (Obj.SUB_ACKED u) := by
    have hkey : (Obj.SUB_ACKED u).key ≠ (Obj.SUB_RETX u).key := by simp [Obj.SUB_ACKED, Obj.SUB_RETX]
    rw [Dev.bump_u_ne _ _ _ hkey, Dev.setSub_u, Dev.advanceTo_u]
  have hstep : d.rtoExpiry u = e.when ((d.sub u).timeouts + 1 == 8) fun e =>
      (e.put (Obj.SUB_STATE u) 2).flagRaise Obj.ENTRY_FLAGS 2 0x5004 (u8 u ++ u64 (e.u (Obj.SUB_ACKED u))) := by
    simp only [Dev.rtoExpiry, htimer, henabled, hout, hstate, Nat.reduceBEq, Bool.not_true, Bool.or_self, Bool.false_eq_true,
      if_false, Bool.not_false, Bool.and_true, hms, sub_advanceTo, e, a]
  simp only [hstep, Dev.when, hacked, Dev.flagRaise, beq_iff_eq]

theorem ackPersist_of_moved {u : Nat} (hmoved : d.u (Obj.SUB_ACKED u) ≠ (d.sub u).committed)
    (henabled : d.on (Obj.SUB_ENABLE u) = true) :
    let a := d.advanceTo ((d.sub u).lastCommit + d.u Obj.ACK_PERSIST * 65536000)
    d.ackPersist u = (a.bufferWait (.acked u (d.u (Obj.SUB_ACKED u)) a.course.elapsed)).setSub u fun x => { x with
      lastCommit := a.course.elapsed } := by
  generalize hn : (d.sub u).lastCommit + d.u Obj.ACK_PERSIST * 65536000 = n
  have hs : (d.sub u).lastCommit + d.u Obj.ACK_PERSIST * secTicks = n := by rw [secTicks_eq, hn]
  have hgo : ¬(decide (d.u (Obj.SUB_ACKED u) = (d.sub u).committed) || !d.on (Obj.SUB_ENABLE u)) = true := by
    simp [hmoved, henabled]
  simp only [Dev.ackPersist, hs, Dev.advanceTo_u]
  exact if_neg fun h => hgo (by simpa using h)

/-! ### A state change (R333) -/

theorem takeTransition_of_change {p : PendingTransition} (hp : d.device.pending = some p) (htarget : p.target ≠ .safe)
    (hstate : d.device.state ≠ .config) : d.takeTransition =
      (((d.setDevice fun v => { v with pending := none }).put Obj.STATE_PENDING 0xFF).changeState p.target
        p.rq.client.toNat).answerAll p.rq p.joined 0 0 p.pos p.values := by
  have hkept : d.dropPending.device.state ≠ .config := hstate
  simp only [Dev.takeTransition, hp, if_neg htarget, if_neg hkept]
  rfl

theorem transitionTimeout_of_angle {p : PendingTransition} (hp : d.device.pending = some p) (hangle : d.angle = true) :
    d.transitionTimeout = (d.advanceTo (p.accepted + 8 * 65536)).takeTransition := by
  simp only [Dev.transitionTimeout, hp, hangle, if_true, msTicks_eq]

theorem transitionTimeout_of_none (hp : d.device.pending = none) : d.transitionTimeout = d := by
  rw [Dev.transitionTimeout, hp]

end

/-- Settles O23: each command by the equation of its case; the withdrawal with the buffer's sole item at its ACK_WAIT. -/
theorem entryCommands : Obligations.EntryCommands := by
  unfold Obligations.EntryCommands
  refine ⟨fun s => ⟨fun k t rest hrate => ?rate, fun p es cs hgroup hbuffer hw hrunning hjoined => ?withdrawn,
    fun u t htimer henabled hout hstate => ?rto, fun u hmoved henabled => ?ack⟩,
    fun s => ⟨fun p hp hangle htarget hstate => ?change, fun hnone => ?idle⟩⟩
  case rate => exact becomes_of_act _ rfl (rateExpiry_of_counted hrate)
  case withdrawn =>
    refine becomes_of_act _ rfl ((withdrawRequests_of_sole hgroup hbuffer hw).trans (congrArg Dev.drainOutside ?_))
    refine withdrawOne_of_alone ?_ hjoined
    rw [Dev.setLedger_device, Dev.advanceTo_device_appRunning]
    exact hrunning
  case rto =>
    exact becomes_of_act (fun d => (d.rtoExpiry u).deliverSub u) rfl
      (congrArg (Dev.deliverSub u) (rtoExpiry_of_delivering htimer henabled hout hstate))
  case ack => exact becomes_of_act _ rfl (ackPersist_of_moved hmoved henabled)
  case change =>
    refine becomes_of_act _ rfl ((transitionTimeout_of_angle hp hangle).trans
      (takeTransition_of_change ((Dev.advanceTo_device_pending _ _).trans hp) htarget ?_))
    rw [Dev.advanceTo_device_state]
    exact hstate
  case idle => exact becomes_of_act _ rfl (transitionTimeout_of_none hnone)

end Sys2Proof.Entries
end

section
/-! PROOFS. The ledger store (R291, R292, R296, R297, R300, R302, R308, R310): groups, page tests, retirement, margin passes. -/

open Sys2Proof Sys2Proof.Machine

namespace Sys2Proof.Store

section
variable {d : Dev}

/-! ### Groups -/

theorem angleGroupTimer_of_recovered (hangle : d.angle = true) (hgoing : d.stopped = false) (hrec : d.start.recovered = true) :
    let a := d.advanceTo (d.ledger.groupTimer + 8 * 65536)
    d.angleGroupTimer = (a.setLedger fun l => { l with groupTimer := a.course.elapsed }).formGroups := by
  simp only [Dev.angleGroupTimer, hangle, hgoing, hrec, Bool.not_true, Bool.or_self, Bool.false_eq_true, if_false]
  rfl

theorem roundDone_of_planned {g : Group} {t : PageTarget} {image : List Byte} (hgroup : d.ledger.group = some g)
    (hfree : d.groupHeld g = false) (hplan : g.plan[g.done.length]? = some (t, image)) :
    let place := d.inService t.order.1 t.order.2 t.order.2 (g.heads.of t)
    let pair := t.order.1 + place % t.order.2
    let e := (d.program pair image).bump (Obj.REGION_PROGRAMS (regionOf pair))
    let h := { g with
      left := g.left - 1, done := g.done ++ [pair], heads := g.heads.take t place
      logAt := if t = .log then g.logAt ++ [place] else g.logAt }
    d.roundDone = if 1 < g.left then e.setLedger fun l => { l with group := some h } else e.sealGroup h := by
  have hpage : d.roundPage g = some (t, d.inService t.order.1 t.order.2 t.order.2 (g.heads.of t), image) := by
    rw [Dev.roundPage, hplan]
    rfl
  simp only [Dev.roundDone, hgroup, hfree, Bool.false_eq_true, if_false, Dev.runRound, hpage]
  rfl

theorem roundDone_of_held {g : Group} (hgroup : d.ledger.group = some g) (hheld : d.groupHeld g = true) : d.roundDone = d := by
  simp only [Dev.roundDone, hgroup, hheld, if_true]

theorem roundDone_of_none (hgroup : d.ledger.group = none) : d.roundDone = d := by
  rw [Dev.roundDone, hgroup]

/-! ### Applies -/

section
variable {a : Apply} (hfind : (d.ledger.applies.find? fun x => !x.selected) = some a)
include hfind

theorem applyFeed_of_finished (hrest : a.rest = []) (hroom : d.bufferFill + 15 ≤ 16384) :
    d.applyFeed = (d.buffer (.selector a.kind)).setApply a.kind fun x => { x with selected := true } := by
  have hfits : d.bufferRoom (Item.selector a.kind).bytes = true := decide_eq_true hroom
  simp only [Dev.applyFeed, hfind, hrest, List.isEmpty_nil, if_true, hfits]

theorem applyFeed_of_part (hrest : a.rest ≠ []) (hpart : d.nextPart a.rest ≠ []) :
    d.applyFeed = (d.buffer (.applyPart a.kind (d.nextPart a.rest))).setApply a.kind fun x => { x with
      rest := x.rest.drop (d.nextPart a.rest).length } := by
  simp only [Dev.applyFeed, hfind, List.isEmpty_iff, if_neg hrest, if_neg hpart]

theorem applyFeed_of_full (hrest : a.rest ≠ []) (hpart : d.nextPart a.rest = []) : d.applyFeed = d := by
  simp only [Dev.applyFeed, hfind, List.isEmpty_iff, if_neg hrest, hpart, if_true]

end

/-! ### Tests of pages, and margin passes -/

section
variable {bank pair : Nat} {rest : List (Nat × Nat)} (htesting : d.ledger.testing = (bank, pair) :: rest)
include htesting

theorem nvmTestDone_of_pass : d.nvmTestDone true true =
    ((d.setLedger fun l => { l with testing := rest }).bump Obj.NVM_TRANSIENT).raise 0x5015 (u8 bank ++ u16 pair) := by
  simp only [Dev.nvmTestDone, htesting, Bool.not_true, Bool.false_eq_true, if_false]

theorem nvmTestDone_of_page : d.nvmTestDone true false = (d.setLedger fun l => { l with testing := rest }).retirePair bank pair := by
  simp only [Dev.nvmTestDone, htesting, Bool.not_true, Bool.not_false, Bool.false_eq_true, if_false, if_true]

theorem nvmTestDone_of_buffer (hbank : d.ledger.banksRetired.getD bank false = false) (page : Bool) : d.nvmTestDone false page =
    (((d.setLedger fun l => { l with testing := rest }).setLedger fun l => { l with
      banksRetired := l.banksRetired.set bank true }).setFlag Obj.NVM_FLAGS 5).raise 0x5017 (u8 bank) := by
  simp only [Dev.nvmTestDone, htesting, Bool.not_false, if_true, Dev.retireBank, Dev.setLedger_ledger, hbank, Bool.false_eq_true,
    if_false, Dev.flagRaise]

end

theorem nvmTestDone_of_none (htesting : d.ledger.testing = []) (buffer page : Bool) : d.nvmTestDone buffer page = d := by
  rw [Dev.nvmTestDone, htesting]

theorem marginStart_of_idle (hmargin : d.ledger.margin = false) (hgroup : d.ledger.group = none) (hlevel : d.thermal.level = 0) :
    let a := d.advanceTo (d.ledger.marginAt + d.u Obj.MARGIN_INTERVAL * 86400 * 65536000)
    d.marginStart = a.setLedger fun l => { l with margin := true, marginAt := a.course.elapsed } := by
  generalize hn : d.ledger.marginAt + d.u Obj.MARGIN_INTERVAL * 86400 * 65536000 = n
  have hs : d.ledger.marginAt + d.u Obj.MARGIN_INTERVAL * 86400 * secTicks = n := hn
  simp only [Dev.marginStart, hmargin, hgroup, hlevel, hs, Option.isSome_none, bne_self_eq_false, Bool.or_self, Bool.false_eq_true,
    if_false]

theorem marginStart_of_busy (h : d.ledger.margin = true ∨ d.ledger.group ≠ none ∨ d.thermal.level ≠ 0) : d.marginStart = d := by
  refine if_pos ?_
  rw [Bool.or_eq_true, Bool.or_eq_true, Option.isSome_iff_ne_none, bne_iff_ne, or_assoc]
  exact h

theorem marginEnd_of_none (hmargin : d.ledger.margin = false) (n : Nat) : d.marginEnd n = d := by
  simp only [Dev.marginEnd, hmargin, Bool.not_false, if_true]

theorem marginEnd_of_running (hmargin : d.ledger.margin = true) (n : Nat) :
    let e := (((d.setLedger fun l => { l with margin := false }).add Obj.PAGES_REFRESHED n).put Obj.MARGIN_LAST
      d.courseNs).bufferInternal .values [Obj.MARGIN_LAST.write d.courseNs]
    d.marginEnd n = if 0 < n then (e.setFlag Obj.NVM_FLAGS 8).raise 0x501A (u32 n) else e := by
  simp only [Dev.marginEnd, hmargin, Bool.not_true, Bool.false_eq_true, if_false, Dev.when, decide_eq_true_eq]
  rfl

/-! ### Retirement (R308): what leaves the retired pairs as they are -/

theorem reportRefused_retiredPairs (stream type : Nat) : (d.reportRefused stream type).ledger.retiredPairs = d.ledger.retiredPairs := by
  unfold Dev.reportRefused Dev.raiseOnce Dev.recordEvent
  split
  · rfl
  · dsimp only
    split
    · rfl
    · split <;> rfl

theorem raiseNow_retiredPairs (code : Nat) (data : List Byte) :
    (d.raiseNow code data).ledger.retiredPairs = d.ledger.retiredPairs := by
  have honce : (d.raiseOnce code data).1.ledger.retiredPairs = d.ledger.retiredPairs := by
    unfold Dev.raiseOnce Dev.recordEvent
    split
    · rfl
    · dsimp only
      split <;> rfl
  unfold Dev.raiseNow
  dsimp only
  split
  · exact honce
  · exact (reportRefused_retiredPairs _ _).trans honce

theorem raise_retiredPairs (code : Nat) (data : List Byte) : (d.raise code data).ledger.retiredPairs = d.ledger.retiredPairs := by
  unfold Dev.raise
  split
  · exact raiseNow_retiredPairs code data
  · rfl

theorem checkLife_retiredPairs : d.checkLife.ledger.retiredPairs = d.ledger.retiredPairs := by
  unfold Dev.checkLife Dev.when
  split
  · exact raise_retiredPairs _ _
  · rfl

theorem bufferWait_retiredPairs (i : Item) : (d.bufferWait i).ledger.retiredPairs = d.ledger.retiredPairs := by
  unfold Dev.bufferWait
  dsimp only
  split <;> rfl

theorem foldl_retiredPairs {α : Type} {f : Dev → α → Dev} (hf : ∀ d x, (f d x).ledger.retiredPairs = d.ledger.retiredPairs)
    (l : List α) (d : Dev) : (l.foldl f d).ledger.retiredPairs = d.ledger.retiredPairs := by
  induction l generalizing d with
  | nil => rfl
  | cons x l ih => rw [List.foldl_cons, ih, hf]

theorem moveRecords_retiredPairs (pair : Nat) : (d.moveRecords pair).ledger.retiredPairs = d.ledger.retiredPairs := by
  unfold Dev.moveRecords
  dsimp only
  refine (foldl_retiredPairs (fun e p => ?_) _ _).trans ?_
  · split
    · exact bufferWait_retiredPairs _
    · split
      · exact bufferWait_retiredPairs _
      · rfl
  · split
    · split <;> rfl
    · rfl

/-- What stands in REGION_PAGES of a region: its pages without its retired pairs. -/
def pagesLeft (d : Dev) (r : Nat) : Nat := (Obj.REGION_PAGES r).dflt.toNat -
  ((d.ledger.retiredPairs.map Prod.snd).filter fun p => regionOf p == r).eraseDups.length

theorem foldl_put_ledger (f : Dev → Nat → Nat) (l : List Nat) (d : Dev) :
    (l.foldl (fun d r => d.put (Obj.REGION_PAGES r) (f d r)) d).ledger = d.ledger := by
  induction l generalizing d with
  | nil => rfl
  | cons r l ih => rw [List.foldl_cons, ih, Dev.put_ledger]

theorem countPages_ledger : d.countPages.ledger = d.ledger := foldl_put_ledger _ _ _

theorem regionPages_key_ne {r q : Nat} (h : r ≠ q) : (Obj.REGION_PAGES r).key ≠ (Obj.REGION_PAGES q).key := by
  simp only [Obj.REGION_PAGES]
  omega

theorem countPages_eq : d.countPages = (List.range 4).foldl (fun d r => d.put (Obj.REGION_PAGES r) (pagesLeft d r)) d := rfl

theorem foldl_pages_u (l : List Nat) (r : Nat) (d : Dev) :
    (l.foldl (fun d q => d.put (Obj.REGION_PAGES q) (pagesLeft d q)) d).u (Obj.REGION_PAGES r) =
      if r ∈ l then pagesLeft d r % 65536 else d.u (Obj.REGION_PAGES r) := by
  induction l generalizing d with
  | nil => rfl
  | cons q l ih =>
    rw [List.foldl_cons, ih]
    have hleft : pagesLeft (d.put (Obj.REGION_PAGES q) (pagesLeft d q)) r = pagesLeft d r := rfl
    rw [hleft]
    by_cases hmem : r ∈ l
    · rw [if_pos hmem, if_pos (List.mem_cons_of_mem _ hmem)]
    · rw [if_neg hmem]
      by_cases hq : r = q
      · subst hq
        rw [if_pos List.mem_cons_self, Dev.put_u_self]
        rfl
      · rw [if_neg (fun h => (List.mem_cons.mp h).elim hq hmem), Dev.put_u_ne _ _ _ _ (regionPages_key_ne hq)]

theorem countPages_u {r : Nat} (hr : r < 4) : d.countPages.u (Obj.REGION_PAGES r) = [256, 512, 5632, 9984].getD r 0 -
    ((d.ledger.retiredPairs.map Prod.snd).filter fun p => regionOf p == r).eraseDups.length := by
  have hsmall : ∀ r < 4, [256, 512, 5632, 9984].getD r 0 < 65536 := by decide
  rw [countPages_eq, foldl_pages_u, if_pos (List.mem_range.mpr hr)]
  exact Nat.mod_eq_of_lt (Nat.lt_of_le_of_lt (Nat.sub_le _ _) (hsmall r hr))

theorem regionOf_eq_two {pair : Nat} : (regionOf pair == 2) = true ↔ 768 ≤ pair ∧ pair < 6400 := by
  rw [beq_iff_eq, regionOf]
  split
  · omega
  · split
    · omega
    · split <;> omega

theorem retirePair_of_retired {bank pair : Nat} (h : (d.ledger.retiredPairs.any fun x => x.2 == pair) = true) :
    d.retirePair bank pair = d := by
  rw [Dev.retirePair, Dev.pairRetired, h, if_pos rfl]

/-- The device with one more retired pair: counted, flagged and raised, its region's pages and the life of the store counted again. -/
def pairGone (d : Dev) (bank pair : Nat) : Dev :=
  let e := (((d.bump Obj.PAIRS_RETIRED).flagRaise Obj.NVM_FLAGS 4 0x5016 (u8 bank ++ u16 pair)).setLedger fun l => { l with
    retiredPairs := l.retiredPairs ++ [(bank, pair)] }).countPages
  (e.put Obj.LEDGER_CYCLE_BUDGET e.cycleBudget).checkLife

theorem pairGone_retiredPairs (bank pair : Nat) :
    (pairGone d bank pair).ledger.retiredPairs = d.ledger.retiredPairs ++ [(bank, pair)] := by
  simp only [pairGone, checkLife_retiredPairs, Dev.put_ledger, countPages_ledger, Dev.setLedger_ledger, Dev.flagRaise,
    raise_retiredPairs]
  rfl

theorem retirePair_of_new {bank pair : Nat} (hnew : (d.ledger.retiredPairs.any fun x => x.2 == pair) = false)
    (hfew : (d.ledger.retiredPairs.filter fun p => p.1 == bank).length < 64) :
    d.retirePair bank pair =
      if 768 ≤ pair ∧ pair < 6400 then (pairGone d bank pair).moveRecords pair else pairGone d bank pair := by
  have hmoved : ((pairGone d bank pair).when (regionOf pair == 2) (Dev.moveRecords pair)).ledger.retiredPairs =
      d.ledger.retiredPairs ++ [(bank, pair)] := by
    rw [Dev.when]
    split
    · rw [moveRecords_retiredPairs, pairGone_retiredPairs]
    · exact pairGone_retiredPairs bank pair
  have hkeeps : decide (64 < (((pairGone d bank pair).when (regionOf pair == 2) (Dev.moveRecords pair)).ledger.retiredPairs.filter
      fun p => p.1 == bank).length) = false := by
    rw [hmoved, List.filter_append, List.length_append, decide_eq_false_iff_not]
    have hone : ([(bank, pair)].filter fun p => p.1 == bank).length ≤ 1 := List.length_filter_le _ _
    omega
  have hstep : d.retirePair bank pair = ((pairGone d bank pair).when (regionOf pair == 2) (Dev.moveRecords pair)).when
      (decide (64 < (((pairGone d bank pair).when (regionOf pair == 2) (Dev.moveRecords pair)).ledger.retiredPairs.filter
        fun p => p.1 == bank).length)) (Dev.retireBank bank) := by
    rw [Dev.retirePair, Dev.pairRetired, hnew, if_neg Bool.false_ne_true]
    rfl
  rw [hstep, hkeeps, Dev.when, if_neg Bool.false_ne_true, Dev.when]
  exact if_congr regionOf_eq_two rfl rfl

end

/-- Settles O24: each command by the equation of its case; nothing that follows the retirement of a pair changes which are retired. -/
theorem ledgerStoreCommands : Obligations.LedgerStoreCommands := by
  unfold Obligations.LedgerStoreCommands
  refine ⟨fun s => ⟨fun hangle hgoing hrec => ?timer, fun g t image hgroup hfree hplan => ?round, fun g hgroup hheld => ?held,
    fun hgroup => ?noGroup, fun a hfind hrest hroom => ?selector, fun a hfind hrest hpart => ?part,
    fun a hfind hrest hpart => ?full, ?ring, fun bank pair => ?error, fun htesting buffer page => ?noTest,
    fun bank pair rest htesting => ⟨?transient, ?page, fun hbank page => ?buffer⟩, fun hmargin hgroup hlevel => ?start,
    fun hbusy => ?busy, fun hmargin n => ?noPass, fun n hmargin => ?passed⟩,
    fun d bank pair => ⟨fun h => ?already, fun hnew hfew => ?retired⟩, fun d r hr => ?pages⟩
  case timer => exact becomes_of_act _ rfl (angleGroupTimer_of_recovered hangle hgoing hrec)
  case round => exact becomes_of_act _ rfl (roundDone_of_planned hgroup hfree hplan)
  case held => exact becomes_of_act _ rfl (roundDone_of_held hgroup hheld)
  case noGroup => exact becomes_of_act _ rfl (roundDone_of_none hgroup)
  case selector => exact becomes_of_act _ rfl (applyFeed_of_finished hfind hrest hroom)
  case part => exact becomes_of_act _ rfl (applyFeed_of_part hfind hrest hpart)
  case full => exact becomes_of_act _ rfl (applyFeed_of_full hfind hrest hpart)
  case ring => exact becomes_of_act _ rfl rfl
  case error => exact becomes_of_act _ rfl rfl
  case noTest => exact becomes_of_act _ rfl (nvmTestDone_of_none htesting buffer page)
  case transient => exact becomes_of_act _ rfl (nvmTestDone_of_pass htesting)
  case page => exact becomes_of_act _ rfl (nvmTestDone_of_page htesting)
  case buffer => exact becomes_of_act _ rfl (nvmTestDone_of_buffer htesting hbank page)
  case start => exact becomes_of_act _ rfl (marginStart_of_idle hmargin hgroup hlevel)
  case busy => exact becomes_of_act _ rfl (marginStart_of_busy hbusy)
  case noPass => exact becomes_of_act _ rfl (marginEnd_of_none hmargin n)
  case passed => exact becomes_of_act _ rfl (marginEnd_of_running hmargin n)
  case already => exact retirePair_of_retired h
  case retired => exact retirePair_of_new hnew hfew
  case pages => exact countPages_u hr

end Sys2Proof.Store
end

section
/-! PROOFS. The links (R346–R348) and the frames from the shore link (R351, R354). -/

open Sys2Proof Sys2Proof.Machine

namespace Sys2Proof.Links

section
variable {d : Dev} {p : Nat}

/-! ### Links -/

theorem linkUp_of_usable (husable : d.portUsable p = true) (hstate : d.u (Obj.LINK_STATE p) ≠ 2) (negotiated : Nat) :
    d.linkUp p negotiated = ((((((d.put (Obj.LINK_STATE p) 2).put (Obj.LINK_AMPLITUDE p) (d.amplitude p negotiated)).setPort p
      fun v => { v with missed := 0, returned := false, free := d.course.elapsed, exchanges := 0, sync := none,
                        asked := d.course.elapsed }).raise 0x6001 (u8 p ++ u8 (d.amplitude p negotiated))).updateRing).checkPaths) := by
  simp only [Dev.linkUp, husable, beq_eq_false_iff_ne.mpr hstate, Bool.not_true, Bool.or_self, Bool.false_eq_true, if_false,
    Dev.put_course]

theorem linkDown_of_state (hstate : d.u (Obj.LINK_STATE p) ≠ 0) : d.linkDown p =
    (((((d.put (Obj.LINK_STATE p) 0).put (Obj.LINK_AMPLITUDE p) 0).setPort p fun v => { v with
      waiting := [], sending := none }).setFlag Obj.PORT_FLAGS 0).raise 0x6002 (u8 p)).updateRing.checkPaths := by
  simp only [Dev.linkDown, beq_eq_false_iff_ne.mpr hstate, Bool.false_eq_true, if_false, Dev.flagRaise]

theorem phyErrorBurst_of_over {k : Nat} (hover : d.u Obj.PHY_ERR_LIMIT < k) (hfree : (d.port p).testing = none)
    (husable : d.portUsable p = true) : d.phyErrorBurst p k =
      ((d.setPort p fun v => { v with testing := some d.course.elapsed, waiting := [], sending := none }).updateRing).checkPaths := by
  simp only [Dev.phyErrorBurst, decide_eq_false (Nat.not_le.mpr hover), hfree, husable, Option.isSome_none, Bool.not_true,
    Bool.or_self, Bool.false_eq_true, if_false]

theorem phyErrorBurst_of_within {k : Nat} (hwithin : k ≤ d.u Obj.PHY_ERR_LIMIT) : d.phyErrorBurst p k = d := by
  simp only [Dev.phyErrorBurst, decide_eq_true hwithin, Bool.true_or, if_true]

section
variable {t : Nat} (htesting : (d.port p).testing = some t)
include htesting

theorem phySelfTestDone_of_pass : d.phySelfTestDone p true =
    (((((d.advanceTo (t + 20 * 65536)).setPort p fun v => { v with testing := none }).bump (Obj.PHY_TRANSIENT p)).raise 0x6005
      (u8 p)).updateRing).checkPaths := by
  simp only [Dev.phySelfTestDone, htesting, if_true, Entries.msTicks_eq]

theorem phySelfTestDone_of_fail :
    let e := (d.advanceTo (t + 20 * 65536)).setPort p fun v => { v with testing := none }
    let mask := setBit (d.u Obj.PORTS_RETIRED) p
    d.phySelfTestDone p false = ((((e.put Obj.PORTS_RETIRED mask).bufferInternal .retired
      [Obj.PORTS_RETIRED.write (clearMask mask (d.device.unretired % 8))]).setFlag Obj.PORT_FLAGS 6).raise 0x6006
        (u8 p)).linkDown p := by
  intro e mask
  have hmask : e.u Obj.PORTS_RETIRED = d.u Obj.PORTS_RETIRED := by rw [Dev.setPort_u, Dev.advanceTo_u]
  have hunretired : ∀ n, (e.put Obj.PORTS_RETIRED n).device.unretired = d.device.unretired := fun n => by
    rw [Dev.put_device, Dev.setPort_device, Dev.advanceTo_device_unretired]
  have hstep : d.phySelfTestDone p false = ((((e.put Obj.PORTS_RETIRED (setBit (e.u Obj.PORTS_RETIRED) p)).bufferInternal .retired
      [Obj.PORTS_RETIRED.write (clearMask (setBit (e.u Obj.PORTS_RETIRED) p)
        ((e.put Obj.PORTS_RETIRED (setBit (e.u Obj.PORTS_RETIRED) p)).device.unretired % 8))]).setFlag Obj.PORT_FLAGS 6).raise 0x6006
        (u8 p)).linkDown p := by
    simp only [Dev.phySelfTestDone, htesting, Bool.false_eq_true, if_false, Entries.msTicks_eq, Dev.flagRaise, e]
  rw [hstep, hunretired, hmask]

end

/-! ### Frames from the shore link -/

section
variable {f : ShoreFrame}

theorem redboxFrame_of_down (hdown : d.portUp 2 = false) : d.redboxFrame f = d := by
  simp only [Dev.redboxFrame, hdown, Bool.not_false, if_true]

theorem redboxFrame_of_error (hup : d.portUp 2 = true) (h : f.intact = false ∨ (if f.tagged then 1522 else 1518) < f.size) :
    d.redboxFrame f = d.bump (Obj.RX_ERRORS 2) := by
  have herror : (!f.intact || decide ((if f.tagged then 1522 else 1518) < f.size)) = true := by
    rw [Bool.or_eq_true, Bool.not_eq_true', decide_eq_true_eq]
    exact h
  simp only [Dev.redboxFrame, hup, Bool.not_true, Bool.false_eq_true, if_false, herror, if_true]

/-- The counted frame's source among the addresses that the RedBox proxies. -/
def learned (d : Dev) (f : ShoreFrame) : Dev := if d.net.proxies.contains f.source then d.bump (Obj.RX_FRAMES 2)
  else (d.bump (Obj.RX_FRAMES 2)).setNet fun n => { n with proxies := n.proxies ++ [f.source] }

theorem learned_course : (learned d f).course = d.course := by
  unfold learned
  split <;> rfl

section
variable (hup : d.portUp 2 = true) (hintact : f.intact = true) (hsize : f.size ≤ if f.tagged then 1522 else 1518)
include hup hintact hsize

theorem redboxFrame_of_whole : d.redboxFrame f = if f.dest == d.mac then d.bump (Obj.RX_FRAMES 2)
    else if !d.net.proxies.contains f.source && decide (16 ≤ d.net.proxies.length) then d.bump (Obj.RX_FRAMES 2)
    else if (learned d f).net.proxies.contains f.dest then learned d f
    else if 512 < shoreRingSize f then ((learned d f).bump Obj.OVERSIZE_DROPPED).flagFirst Obj.PORT_FLAGS 5 0x600D []
    else ((learned d f).putDup ⟨f.source, (learned d f).net.sequence, (learned d f).course.elapsed + 400 * 65536, true, true,
      true⟩).sendRing ⟨.transit, if f.ptp then .time else .best, false, shoreRingSize f, d.course.elapsed, f.data, false⟩ := by
  have hwhole : (!f.intact || decide ((if f.tagged then 1522 else 1518) < f.size)) = false := by
    rw [hintact, decide_eq_false (Nat.not_lt.mpr hsize)]
    rfl
  have hmac : (d.bump (Obj.RX_FRAMES 2)).mac = d.mac := by
    rw [Dev.mac, Dev.bump_u_ne _ _ _ (by decide), ← Dev.mac]
  have hlearned : (d.bump (Obj.RX_FRAMES 2)).when (!(d.bump (Obj.RX_FRAMES 2)).net.proxies.contains f.source)
      (Dev.setNet fun n => { n with proxies := n.proxies ++ [f.source] }) = learned d f := by
    unfold learned Dev.when
    rw [Dev.bump_net]
    cases d.net.proxies.contains f.source <;> rfl
  have hnow : ∀ x, ((learned d f).putDup x).course.elapsed = d.course.elapsed := fun x =>
    (congrArg Course.elapsed (Dev.setNet_course _ _)).trans (congrArg Course.elapsed learned_course)
  simp only [Dev.redboxFrame, hup, hwhole, hmac, hlearned, Bool.not_true, Bool.false_eq_true, if_false]
  simp only [hnow, Dev.bump_net, Entries.msTicks_eq]
  all_goals rfl

theorem redboxFrame_of_own (hdest : f.dest = d.mac) : d.redboxFrame f = d.bump (Obj.RX_FRAMES 2) := by
  rw [redboxFrame_of_whole hup hintact hsize, if_pos (beq_iff_eq.mpr hdest)]

theorem redboxFrame_of_full (hdest : f.dest ≠ d.mac) (hknown : d.net.proxies.contains f.source = false)
    (hfull : 16 ≤ d.net.proxies.length) : d.redboxFrame f = d.bump (Obj.RX_FRAMES 2) := by
  rw [redboxFrame_of_whole hup hintact hsize, if_neg (fun h => hdest (beq_iff_eq.mp h)), hknown, decide_eq_true hfull]
  rfl

section
variable (hdest : f.dest ≠ d.mac) (hroom : d.net.proxies.contains f.source = true ∨ d.net.proxies.length < 16)
include hdest hroom

theorem redboxFrame_of_learned : d.redboxFrame f = if (learned d f).net.proxies.contains f.dest then learned d f
    else if 512 < shoreRingSize f then ((learned d f).bump Obj.OVERSIZE_DROPPED).flagFirst Obj.PORT_FLAGS 5 0x600D []
    else ((learned d f).putDup ⟨f.source, (learned d f).net.sequence, (learned d f).course.elapsed + 400 * 65536, true, true,
      true⟩).sendRing ⟨.transit, if f.ptp then .time else .best, false, shoreRingSize f, d.course.elapsed, f.data, false⟩ := by
  have hfits : ¬(!d.net.proxies.contains f.source && decide (16 ≤ d.net.proxies.length)) = true := by
    rw [Bool.and_eq_true, Bool.not_eq_true', decide_eq_true_eq]
    rintro ⟨hunknown, hfull⟩
    rcases hroom with hknown | hfew
    · exact Bool.false_ne_true (hunknown.symm.trans hknown)
    · exact Nat.not_le.mpr hfew hfull
  rw [redboxFrame_of_whole hup hintact hsize, if_neg (fun h => hdest (beq_iff_eq.mp h)), if_neg hfits]

theorem redboxFrame_of_proxied (hproxied : (learned d f).net.proxies.contains f.dest = true) : d.redboxFrame f = learned d f := by
  rw [redboxFrame_of_learned hup hintact hsize hdest hroom, if_pos hproxied]

theorem redboxFrame_of_oversize (hother : (learned d f).net.proxies.contains f.dest = false) (hlong : 512 < shoreRingSize f) :
    d.redboxFrame f = ((learned d f).bump Obj.OVERSIZE_DROPPED).flagFirst Obj.PORT_FLAGS 5 0x600D [] := by
  rw [redboxFrame_of_learned hup hintact hsize hdest hroom, hother, if_neg Bool.false_ne_true, if_pos hlong]

theorem redboxFrame_of_sent (hother : (learned d f).net.proxies.contains f.dest = false) (hfits : shoreRingSize f ≤ 512) :
    d.redboxFrame f = ((learned d f).putDup ⟨f.source, (learned d f).net.sequence, (learned d f).course.elapsed + 400 * 65536, true,
      true, true⟩).sendRing ⟨.transit, if f.ptp then .time else .best, false, shoreRingSize f, d.course.elapsed, f.data, false⟩ := by
  rw [redboxFrame_of_learned hup hintact hsize hdest hroom, hother, if_neg Bool.false_ne_true, if_neg (Nat.not_lt.mpr hfits)]

end
end
end
end

/-- Settles O25: each command by the equation of its case. -/
theorem linkCommands : Obligations.LinkCommands := by
  unfold Obligations.LinkCommands
  intro s p d n
  refine ⟨fun husable hstate amplitude => ?up, fun hstate => ?down, fun k hover hfree husable => ?burst, fun k hwithin => ?within,
    fun t htesting => ⟨?pass, ?fail⟩, fun q => ?accepted, fun q => ?lost⟩
  case up =>
    exact becomes_of_act (fun d => (d.linkUp p.no amplitude.toNat).deliver) rfl
      (congrArg Dev.deliver (linkUp_of_usable husable hstate amplitude.toNat))
  case down => exact becomes_of_act (fun d => (d.linkDown p.no).deliver) rfl (congrArg Dev.deliver (linkDown_of_state hstate))
  case burst => exact becomes_of_act _ rfl (phyErrorBurst_of_over hover hfree husable)
  case within => exact becomes_of_act _ rfl (phyErrorBurst_of_within hwithin)
  case pass => exact becomes_of_act _ rfl (phySelfTestDone_of_pass htesting)
  case fail => exact becomes_of_act _ rfl (phySelfTestDone_of_fail htesting)
  case accepted => exact becomes_of_act _ rfl rfl
  case lost =>
    exact becomes_of_act (fun d => (d.podlLost q.no).sourceGone (q.no + 1) (d.f (Obj.SRC_VOLTAGE (q.no + 1)))) rfl rfl

/-- Settles O26: a whole frame goes the way that its addresses and its size give. -/
theorem shoreFrames : Obligations.ShoreFrames := by
  unfold Obligations.ShoreFrames
  refine fun s f => ⟨fun hdown => ?down, fun hup => ⟨fun herror => ?error, fun hintact hsize => ⟨fun hdest => ?own,
    fun hdest hknown hfull => ?full, fun hdest hroom => ⟨fun hproxied => ?proxied, fun hother hlong => ?oversize,
      fun hother hfits => ?sent⟩⟩⟩⟩
  case down => exact becomes_of_act _ rfl (redboxFrame_of_down hdown)
  case error => exact becomes_of_act _ rfl (redboxFrame_of_error hup herror)
  case own => exact becomes_of_act _ rfl (redboxFrame_of_own hup hintact hsize hdest)
  case full => exact becomes_of_act _ rfl (redboxFrame_of_full hup hintact hsize hdest hknown hfull)
  case proxied => exact becomes_of_act _ rfl (redboxFrame_of_proxied hup hintact hsize hdest hroom hproxied)
  case oversize => exact becomes_of_act _ rfl (redboxFrame_of_oversize hup hintact hsize hdest hroom hother hlong)
  case sent => exact becomes_of_act _ rfl (redboxFrame_of_sent hup hintact hsize hdest hroom hother hfits)

end Sys2Proof.Links
end

section
/-! PROOFS. The alarm window (R359), PTP (R360, R361) and addresses (R363, R364). -/

open Sys2Proof Sys2Proof.Machine

namespace Sys2Proof.Net

section
variable {d : Dev}

/-! ### The alarm window -/

/-- What the close of the alarm window does at one port: alarm frames left over are marked and counted. -/
def closeAt (d : Dev) (p : Nat) : Dev :=
  let due := fun (f : Frame) => f.queue == .alarm && d.alarmDue f
  let left := ((d.port p).waiting.filter due).length
  let e := d.setPort p fun v => { v with waiting := v.waiting.map fun f => if due f then { f with left := true } else f }
  (List.range left).foldl (fun d _ => (d.bump Obj.ALARM_DEFERRED).flagFirst Obj.PORT_FLAGS 3 0x600A (u8 p)) e

theorem alarmWindowClose_of_running (hrunning : d.course.running = true) :
    d.alarmWindowClose = (List.range 3).foldl closeAt (d.advanceTo (d.course.strokeStart + alarmWindowTicks)) := by
  simp only [Dev.alarmWindowClose, hrunning, Bool.not_true, Bool.false_eq_true, if_false]
  all_goals rfl

theorem setPort_of_fixed {p : Nat} {f : PortState → PortState} (hf : f (d.port p) = d.port p) : d.setPort p f = d := by
  have hports : d.net.ports.modify p f = d.net.ports := by
    refine List.ext_getElem? fun i => ?_
    rw [List.getElem?_modify]
    by_cases hi : p = i
    · subst hi
      cases hat : d.net.ports[p]? with
      | none => rfl
      | some v =>
        have hv : d.port p = v := by rw [Dev.port, List.getD_eq_getElem?_getD, hat, Option.getD_some]
        rw [hv] at hf
        simp only [if_true, hf, Option.map_eq_map, Option.map_some]
    · simp only [if_neg hi]
      exact id_map _
  simp only [Dev.setPort, Dev.setNet, hports]

theorem closeAt_of_none {p : Nat} (h : ((d.port p).waiting.filter fun f => f.queue == .alarm && d.alarmDue f) = []) :
    closeAt d p = d := by
  have hfixed : (d.setPort p fun v => { v with
      waiting := v.waiting.map fun f => if f.queue == .alarm && d.alarmDue f then { f with left := true } else f }) = d := by
    refine setPort_of_fixed ?_
    have hmap : (d.port p).waiting.map (fun f => if f.queue == .alarm && d.alarmDue f then { f with left := true } else f) =
        (d.port p).waiting :=
      (List.map_congr_left fun f hf => if_neg (List.filter_eq_nil_iff.mp h f hf)).trans (List.map_id _)
    rw [hmap]
  unfold closeAt
  dsimp only
  rw [h]
  exact hfixed

theorem alarmWindowClose_of_none (hrunning : d.course.running = true)
    (hnone : ∀ p < 3, ((d.port p).waiting.filter fun f => f.queue == .alarm &&
      (d.advanceTo (d.course.strokeStart + alarmWindowTicks)).alarmDue f) = []) :
    d.alarmWindowClose = d.advanceTo (d.course.strokeStart + alarmWindowTicks) := by
  have hkept : ∀ l : List Nat, (∀ p ∈ l, p < 3) → l.foldl closeAt (d.advanceTo (d.course.strokeStart + alarmWindowTicks)) =
      d.advanceTo (d.course.strokeStart + alarmWindowTicks) := by
    intro l hl
    induction l with
    | nil => rfl
    | cons p l ih =>
      have hport : (d.advanceTo (d.course.strokeStart + alarmWindowTicks)).port p = d.port p := by
        rw [Dev.port, Dev.advanceTo_net, ← Dev.port]
      rw [List.foldl_cons, closeAt_of_none (by rw [hport]; exact hnone p (hl p List.mem_cons_self))]
      exact ih fun q hq => hl q (List.mem_cons_of_mem _ hq)
  rw [alarmWindowClose_of_running hrunning]
  exact hkept _ fun p hp => List.mem_range.mp hp

/-- A running device after reset, with nothing waiting at any port, whose ALARM_DEFERRED holds a number beyond its four bytes. -/
def overfull : Dev := (Dev.reset.set Obj.ALARM_DEFERRED (.num (2 ^ 32))).setCourse fun c => { c with running := true }

theorem overfull_waiting : ∀ p < 3, (overfull.cleared.port p).waiting = [] := by decide

theorem overfull_alarmDeferred : overfull.cleared.u Obj.ALARM_DEFERRED = 2 ^ 32 := by decide

end

/-- Refutes O27: the clause on the count of deferred alarm frames gives ALARM_DEFERRED modulo 2^32 for every state. A state whose
register holds 2^32, which no step of the model writes, keeps it where no alarm frame is left over, and 2^32 is 0 modulo 2^32. -/
theorem not_ringCommands : ¬ Obligations.RingCommands := by
  unfold Obligations.RingCommands
  intro h
  obtain ⟨-, -, -, -, -, -, -, hwindow, -⟩ := h { pending := [], dev := overfull }
  have hrunning : overfull.cleared.course.running = true := rfl
  obtain ⟨-, e, hexec, hcount⟩ := hwindow hrunning
  generalize hwhen : overfull.cleared.course.strokeStart + alarmWindowTicks = t at hcount
  have hport : ∀ p, (overfull.cleared.advanceTo t).port p = overfull.cleared.port p := fun p => by
    rw [Dev.port, Dev.advanceTo_net, ← Dev.port]
  have hclose : overfull.cleared.alarmWindowClose = overfull.cleared.advanceTo t := by
    rw [← hwhen]
    exact alarmWindowClose_of_none hrunning fun p hp => by rw [overfull_waiting p hp, List.filter_nil]
  have hbecomes : State.becomes { pending := [], dev := overfull } .alarmWindowClose (overfull.cleared.advanceTo t) :=
    becomes_of_act _ rfl hclose
  have hreplies : (overfull.cleared.advanceTo t).device.replies = [] := by
    rw [Dev.advanceTo_device_replies]
    rfl
  rw [State.becomes, Dev.routed_of_no_replies _ hreplies] at hbecomes
  have he : overfull.cleared.advanceTo t = e := by
    have hnext := hbecomes.symm.trans hexec
    injection hnext with hstate
    exact congrArg State.dev hstate
  have hzero : ((List.range 3).map fun p => (((overfull.cleared.advanceTo t).port p).waiting.filter fun f =>
      f.queue == .alarm && (overfull.cleared.advanceTo t).alarmDue f).length).sum = 0 := by
    refine List.sum_eq_zero fun n hn => ?_
    obtain ⟨p, hp, rfl⟩ := List.mem_map.mp hn
    rw [hport, overfull_waiting p (List.mem_range.mp hp), List.filter_nil, List.length_nil]
  rw [← he, Dev.advanceTo_u, hzero, overfull_alarmDeferred] at hcount
  exact absurd hcount (by decide)

end Sys2Proof.Net
end

section
/-! PROOFS. PTP (R360, R361) and addresses (R363, R364). -/

open Sys2Proof Sys2Proof.Machine

namespace Sys2Proof.Net

section
variable {d : Dev} {p : Port}

/-! ### Announce -/

theorem sourceOfPort_eq : sourceOfPort p = if p = .S then .ptpS else .ptpRing := by
  cases p <;> rfl

theorem announce_of_other {m : Announce} (h : m.domain.toNat ≠ d.u Obj.PTP_DOMAIN) : d.announce p m = d := by
  have hskip : (!d.portUp p.no || decide (m.domain.toNat ≠ d.u Obj.PTP_DOMAIN)) = true := by rw [decide_eq_true h, Bool.or_true]
  rw [Dev.announce, if_pos (by simpa using hskip)]

section
variable {m : Announce} (hup : d.portUp p.no = true) (hdomain : m.domain.toNat = d.u Obj.PTP_DOMAIN)
include hup hdomain

theorem announce_of_domain : d.announce p m = if d.u Obj.PTP_MAX_CLASS < m.clockClass.toNat then
      if d.net.grandmaster.map masterOf = some m.grandmaster.toNat then (d.sourceLost (sourceOfPort p)).forgetMaster else d
    else if !d.prefersMaster m then d
    else
      let e := (((d.setNet fun n => { n with grandmaster := some (datasetOf m) }).put Obj.GM_IDENTITY m.grandmaster.toNat).put
        Obj.GM_CLASS m.clockClass.toNat).noteTimescale p !m.ptpTimescale
      e.when (d.u Obj.GM_IDENTITY != m.grandmaster.toNat) (Dev.flagRaise Obj.PORT_FLAGS 7 0x6009
        (u64 m.grandmaster.toNat ++ u8 m.clockClass.toNat)) := by
  rw [Dev.announce, if_neg (by simp [hup, hdomain])]

theorem announce_of_better (hclass : m.clockClass.toNat ≤ d.u Obj.PTP_MAX_CLASS) (hbetter : d.prefersMaster m = true) :
    let e := (((d.setNet fun n => { n with grandmaster := some (datasetOf m) }).put Obj.GM_IDENTITY m.grandmaster.toNat).put
      Obj.GM_CLASS m.clockClass.toNat).noteTimescale p !m.ptpTimescale
    d.announce p m = if d.u Obj.GM_IDENTITY = m.grandmaster.toNat then e
      else (e.setFlag Obj.PORT_FLAGS 7).raise 0x6009 (u64 m.grandmaster.toNat ++ u8 m.clockClass.toNat) := by
  rw [announce_of_domain hup hdomain, if_neg (Nat.not_lt.mpr hclass), hbetter, if_neg (by decide)]
  dsimp only
  rw [Dev.when]
  by_cases hsame : d.u Obj.GM_IDENTITY = m.grandmaster.toNat
  · rw [if_pos hsame, if_neg (by rw [bne_iff_ne, ne_eq, not_not]; exact hsame)]
  · rw [if_neg hsame, if_pos (bne_iff_ne.mpr hsame), Dev.flagRaise]

theorem announce_of_beyond (hclass : d.u Obj.PTP_MAX_CLASS < m.clockClass.toNat)
    (hpresent : d.net.grandmaster.map masterOf = some m.grandmaster.toNat) : d.announce p m =
      (d.sourceLost (if p = .S then .ptpS else .ptpRing)).setNet fun n => { n with grandmaster := none } := by
  rw [announce_of_domain hup hdomain, if_pos hclass, if_pos hpresent, sourceOfPort_eq, Dev.forgetMaster]

end

theorem announce_of_passed_over {m : Announce} (hclass : d.u Obj.PTP_MAX_CLASS < m.clockClass.toNat)
    (habsent : d.net.grandmaster.map masterOf ≠ some m.grandmaster.toNat) : d.announce p m = d := by
  rw [Dev.announce, if_pos hclass, if_neg habsent, ite_self]

/-! ### Sync and Follow_Up -/

/-- The device at a Sync, once it has passed the message on. -/
def syncPassed (d : Dev) (p : Port) (m : PtpSync) : Dev := (d.advanceTo m.ingress).passSync p m.source.toNat m.sequence.toNat m.ingress
  (if m.twoStep then none else some (m.origin, m.correction))

theorem ptpSync_of_not_ready (hready : d.ptpReady p = false) (m : PtpSync) : d.ptpSync p m = d := by
  rw [Dev.ptpSync, hready, if_pos (by decide)]

section
variable {m : PtpSync} (hready : d.ptpReady p = true)
include hready

theorem ptpSync_of_ready : d.ptpSync p m =
    if !(syncPassed d p m).fromMaster m.domain m.source || decide (m.interval < -4) || decide (0 < m.interval) then syncPassed d p m
    else if m.twoStep then (syncPassed d p m).setPort p.no fun v => { v with
      sync := some ⟨m.sequence.toNat, m.source.toNat, m.ingress, (d.advanceTo m.ingress).nsAt m.ingress, m.correction⟩ }
    else (syncPassed d p m).syncSample p m.origin m.correction ((d.advanceTo m.ingress).nsAt m.ingress) := by
  rw [Dev.ptpSync, hready, if_neg (by decide)]
  rfl

theorem ptpSync_of_sample (hmaster : (syncPassed d p m).fromMaster m.domain m.source = true) (hlow : -4 ≤ m.interval)
    (hhigh : m.interval ≤ 0) : d.ptpSync p m =
      if m.twoStep then (syncPassed d p m).setPort p.no fun v => { v with
        sync := some ⟨m.sequence.toNat, m.source.toNat, m.ingress, (d.advanceTo m.ingress).nsAt m.ingress, m.correction⟩ }
      else (syncPassed d p m).syncSample p m.origin m.correction ((d.advanceTo m.ingress).nsAt m.ingress) := by
  rw [ptpSync_of_ready hready, hmaster, decide_eq_false (Int.not_lt.mpr hlow), decide_eq_false (Int.not_lt.mpr hhigh),
    if_neg (by decide)]

theorem ptpSync_of_no_sample (h : (syncPassed d p m).fromMaster m.domain m.source = false ∨ m.interval < -4 ∨ 0 < m.interval) :
    d.ptpSync p m = syncPassed d p m := by
  rw [ptpSync_of_ready hready]
  refine if_pos ?_
  rw [Bool.or_eq_true, Bool.or_eq_true, Bool.not_eq_true', decide_eq_true_eq, decide_eq_true_eq, or_assoc]
  exact h

end

theorem followUps_of_none (hbridges : d.net.bridges = []) (next : Bridge → Bridge) :
    (d.setNet fun n => { n with bridges := n.bridges.map next }).followUps = d := by
  have hkept : ∀ f : List Bridge → List Bridge, f [] = [] → (d.setNet fun n => { n with bridges := f n.bridges }) = d := by
    intro f hf
    have hnone : f d.net.bridges = d.net.bridges := by rw [hbridges, hf]
    simp only [Dev.setNet, hnone]
  rw [hkept (List.map next) rfl, Dev.followUps, hbridges, List.filter_nil,
    hkept (List.filter fun b => !(b.residence.isSome && b.follow.isSome)) rfl, List.foldl_nil]

theorem ptpFollowUp_of_matching {m : PtpFollowUp} {x : PendingSync} (hready : d.ptpReady p = true) (hbridges : d.net.bridges = [])
    (hsync : (d.port p.no).sync = some x) (hsequence : x.sequence = m.sequence.toNat) (hsource : x.identity = m.source.toNat)
    (hmaster : d.fromMaster m.domain m.source = true) : d.ptpFollowUp p m =
      (d.setPort p.no fun v => { v with sync := none }).syncSample p m.origin (m.correction + x.correction) x.stamp := by
  rw [Dev.ptpFollowUp, hready, if_neg (by decide)]
  dsimp only
  rw [followUps_of_none hbridges]
  simp only [hsync]
  exact if_pos ⟨hsequence, hsource, hmaster⟩

/-! ### Delay messages -/

theorem pdelayRequest_of_up (hup : d.portUp p.no = true) :
    let k := d.i Obj.PTP_LOG_PDELAY
    let a := d.advanceTo ((d.port p.no).asked + (if k < 0 then 65536000 / 2 ^ (-k).toNat else 65536000 * 2 ^ k.toNat))
    d.pdelayRequest p = (a.setPort p.no fun v => { v with asked := a.course.elapsed }).enqueue p.no
      ⟨.own, .time, false, pdelaySize p.no, a.course.elapsed, u8 2, false⟩ := by
  rw [← Entries.secTicks_eq]
  intro k a
  have hinterval : (if k < 0 then secTicks / 2 ^ (-k).toNat else secTicks * 2 ^ k.toNat) = d.pdelayInterval := rfl
  simp only [a, hinterval]
  rw [Dev.pdelayRequest, hup, if_neg (by decide)]
  dsimp only
  rw [Dev.setPort_course]

theorem pdelayRequest_of_down (hdown : d.portUp p.no = false) : d.pdelayRequest p = d := by
  rw [Dev.pdelayRequest, hdown, if_pos (by decide)]

theorem pdelayDone_of_up (hup : d.portUp p.no = true) (k : Int) : d.pdelayDone p k =
    (d.setPort p.no fun v => { v with delay := k, exchanges := v.exchanges + 1 }).putI (Obj.PDELAY p.no) k := by
  rw [Dev.pdelayDone, hup, if_neg (by decide)]

theorem pdelayDone_of_down (hdown : d.portUp p.no = false) (k : Int) : d.pdelayDone p k = d := by
  rw [Dev.pdelayDone, hdown, if_pos (by decide)]

/-! ### Addresses -/

theorem ipv6_of_mode (hmode : d.u Obj.IP_MODE ≠ 1) : d.ipv6 = true := bne_iff_ne.mpr hmode

theorem routerAdvertisement_of_new {a : List Byte} (hmode : d.u Obj.IP_MODE ≠ 1) (hconfigured : d.start.configured = true)
    (hlength : a.length = 8) (hnew : (d.net.addresses.any fun x => x.bytes == a ++ d.interfaceId) = false)
    (hroom : d.net.addresses.length < 3) : d.routerAdvertisement a =
      d.setNet fun n => { n with addresses := n.addresses ++ [⟨a ++ d.interfaceId, 64, true⟩] } := by
  simp only [Dev.routerAdvertisement, ipv6_of_mode hmode, hconfigured, hlength, bne_self_eq_false, Bool.not_true, Bool.or_self,
    Bool.false_eq_true, if_false, Dev.addAddress, hnew, decide_eq_false (Nat.not_le.mpr hroom)]

theorem neighbourDiscovery_of_advertisement {m : NdMessage} (hanswers : d.answersOn p = true) (hmode : d.u Obj.IP_MODE ≠ 1)
    (hadvert : m.solicitation = false) : d.neighbourDiscovery p m = d.setNet fun n => { n with
      neighbours := (m.target, m.link.toNat) :: n.neighbours.filter fun x => x.1 != m.target } := by
  simp only [Dev.neighbourDiscovery, hanswers, ipv6_of_mode hmode, hadvert, Bool.not_true, Bool.or_self, Bool.false_eq_true, if_false,
    Bool.false_and, Dev.when, Dev.noteNeighbour]

theorem arp_of_own {t : Nat} (hanswers : d.answersOn p = true) (hown : d.ownIpv4 t = true) : d.arp p t =
    d.sendOwn p .best .own false 28
      (u16 1 ++ u16 0x0800 ++ u8 6 ++ u8 4 ++ u16 2 ++ beBytes 6 d.mac ++ u32 t ++ beBytes 10 0) := by
  rw [Dev.arp, hanswers, hown, if_neg (by decide)]

theorem arp_of_other {t : Nat} (hother : d.ownIpv4 t = false) : d.arp p t = d := by
  rw [Dev.arp, hother, Bool.not_false, Bool.or_true, if_pos rfl]

theorem icmpEcho_of_own {target : List Byte} (hanswers : d.answersOn p = true) (hown : d.ownIpv6 target = true) (data : List Byte) :
    d.icmpEcho p 6 target data = d.sendOwn p .best .own false (44 + data.length) (u8 129 ++ target ++ data) := by
  simp only [Dev.icmpEcho, if_true, hanswers, hown, Bool.not_true, Bool.or_self, Bool.false_eq_true, if_false]

theorem icmpEcho_of_other {target : List Byte} (hother : d.ownIpv6 target = false) (data : List Byte) :
    d.icmpEcho p 6 target data = d := by
  simp only [Dev.icmpEcho, if_true, hother, Bool.not_false, Bool.or_true]

end

/-- Settles O28: each message by the equation of its case. -/
theorem ptpCommands : Obligations.PtpCommands := by
  unfold Obligations.PtpCommands
  refine fun s p => ⟨fun m hup hdomain hclass hbetter => ?better, fun m hother => ?other, fun m hup hdomain hclass hpresent => ?beyond,
    fun m hclass habsent => ?passedOver, fun m hready => ⟨fun hmaster hlow hhigh => ?sample, fun hnot => ?noSample⟩,
    fun hready m => ?notReady, fun m hready hbridges x hsync hsequence hsource hmaster => ?followUp, fun hup => ?request,
    fun hdown => ?noRequest, ?answer, fun k hup => ?done, fun k hdown => ?ignored⟩
  case better => exact becomes_of_act _ rfl (announce_of_better hup hdomain hclass hbetter)
  case other => exact becomes_of_act _ rfl (announce_of_other hother)
  case beyond => exact becomes_of_act _ rfl (announce_of_beyond hup hdomain hclass hpresent)
  case passedOver => exact becomes_of_act _ rfl (announce_of_passed_over hclass habsent)
  case sample => exact becomes_of_act _ rfl (ptpSync_of_sample hready hmaster hlow hhigh)
  case noSample => exact becomes_of_act _ rfl (ptpSync_of_no_sample hready hnot)
  case notReady => exact becomes_of_act _ rfl (ptpSync_of_not_ready hready m)
  case followUp => exact becomes_of_act _ rfl (ptpFollowUp_of_matching hready hbridges hsync hsequence hsource hmaster)
  case request => exact becomes_of_act _ rfl (pdelayRequest_of_up hup)
  case noRequest => exact becomes_of_act _ rfl (pdelayRequest_of_down hdown)
  case answer => exact becomes_of_act _ rfl rfl
  case done => exact becomes_of_act _ rfl (pdelayDone_of_up hup k)
  case ignored => exact becomes_of_act _ rfl (pdelayDone_of_down hdown k)

/-- Settles O29: each message by the equation of its case. -/
theorem addressCommands : Obligations.AddressCommands := by
  unfold Obligations.AddressCommands
  refine fun s => ⟨fun a hmode hconfigured hlength hnew hroom => ?router, fun p m hanswers hmode hadvert => ?neighbour,
    fun p t hanswers hown => ?arp, fun p t hother => ?arpOther, fun p target data hanswers hown => ?echo,
    fun p target data hother => ?echoOther, fun a => ?conflict, fun a => ?free⟩
  case router => exact becomes_of_act _ rfl (routerAdvertisement_of_new hmode hconfigured hlength hnew hroom)
  case neighbour => exact becomes_of_act _ rfl (neighbourDiscovery_of_advertisement hanswers hmode hadvert)
  case arp => exact becomes_of_act _ rfl (arp_of_own hanswers hown)
  case arpOther => exact becomes_of_act _ rfl (arp_of_other hother)
  case echo => exact becomes_of_act _ rfl (icmpEcho_of_own hanswers hown data)
  case echoOther => exact becomes_of_act _ rfl (icmpEcho_of_other hother data)
  case conflict => exact becomes_of_act _ rfl rfl
  case free => exact becomes_of_act _ rfl rfl

end Sys2Proof.Net
end

section
/-! PROOFS. The handshake of a session and what ends of itself in one (R368, R370, R371), publications and the ring keys (R374, R470). -/

open Sys2Proof Sys2Proof.Machine

namespace Sys2Proof.Sessions

section
variable {d : Dev}

/-! ### OPEN -/

section
variable {path : SessionPath} {address nonce : List Byte} {level keysel no : Nat} (happ : d.device.appRunning = true)
  (hgoing : d.stopped = false) (hallowed : d.lockedOut address = false)
include happ hgoing hallowed

theorem openSession_of_place {n : Nat} (hfine : d.openRefusal path level keysel no = none) (hplace : d.sessionPlace = some n) :
    let a := d.tickFresh
    let key := sessionKey (a.openKey level keysel) nonce (d.random 16) (a.b Obj.SERIAL_NUMBER) (n + 1)
    d.openSession path address level keysel no nonce = (a.setNet fun v => { v with sessions := v.sessions.set n (some
      ⟨clientOf path no, level, keysel, path, address, key, nonce, false, 0, 1, false, 0, d.course.elapsed, false, [], n + 1,
        path⟩) }).sendPlain path address 2 0 (u16 (n + 1) ++ u16 0 ++ d.random 16) := by
  simp only [Dev.openSession, happ, hgoing, hallowed, hfine, hplace, Bool.not_true, Bool.or_self, Bool.false_eq_true, if_false]
  all_goals rfl

theorem openSession_of_refusal {status : Nat} (hrefused : d.openRefusal path level keysel no = some status) :
    d.openSession path address level keysel no nonce =
      d.sendPlain path address 0x11 0 (replyBody 0 status 0xFF (if status = 0x06 then d.stateDetail else 0) []) := by
  simp only [Dev.openSession, happ, hgoing, hallowed, hrefused, Bool.not_true, Bool.or_self, Bool.false_eq_true, if_false]
  all_goals rfl

end

/-! ### CONFIRM -/

section
variable {n : Nat} {x : Session} {mac address : List Byte} (hx : d.session n = some x) (hdown : x.upstream = false)
  (happ : d.device.appRunning = true)
include hx hdown happ

theorem confirmSession_of_wrong_mac (hmac : mac ≠ woredMac x.key (woredHeader 3 0 0 x.number 0 0) []) :
    d.confirmSession n 0 mac address =
      (((d.bump Obj.AUTH_FAILURES).flagFirst Obj.PORT_FLAGS 2 0x600C address).confirmFailed address) := by
  simp only [Dev.confirmSession, hx, hdown, happ, bne_self_eq_false, bne_iff_ne.mpr hmac, Bool.not_true, Bool.or_self,
    Bool.false_eq_true, if_false, if_true, Dev.authFail]

section
variable (hmac : mac = woredMac x.key (woredHeader 3 0 0 x.number 0 0) [])
include hmac

theorem confirmSession_of_confirmed (hdone : x.confirmed = true) : d.confirmSession n 0 mac address = d.bump Obj.REPLAY_REJECTED := by
  simp only [Dev.confirmSession, hx, hdown, happ, hmac, hdone, bne_self_eq_false, Bool.not_true, Bool.or_self, Bool.false_eq_true,
    if_false, if_true]

theorem confirmSession_of_first (hfirst : x.confirmed = false) : d.confirmSession n 0 mac address =
    (((d.setSession n fun y => { y with
      confirmed := true, isOpen := true, last := d.course.elapsed, seen := 1 }).sendHandshake n 4
      (u8 x.level ++ u8 0 ++ u16 (roomOf x.path x.address) ++ u16 (d.u Obj.SESSION_IDLE))).sessionsChanged.deliver) := by
  simp only [Dev.confirmSession, hx, hdown, happ, hmac, hfirst, bne_self_eq_false, Bool.not_true, Bool.or_self, Bool.false_eq_true,
    if_false]
  all_goals rfl

end
end

/-! ### CHALLENGE and ACCEPT: the session that the device itself opens -/

theorem challenged_of_opening {n number : Nat} (nonce : List Byte) (hup : d.upstreamSession = some n)
    (hopening : d.capture.loc = .opening) : d.challenged number nonce =
      (d.setSession n fun y => if y.number = 0 then { y with
        number := number
        key := sessionKey d.net.ringKey y.nonceC nonce (d.b Obj.LOC_UP_SERIAL) number } else y).sendHandshake n 3 [] := by
  simp only [Dev.challenged, hup, hopening]

theorem challenged_of_none (hup : d.upstreamSession = none) (number : Nat) (nonce : List Byte) : d.challenged number nonce = d := by
  rw [Dev.challenged, hup]

section
variable {n number level room idle : Nat} {x : Session} {mac : List Byte} (hup : d.upstreamNumber number = some n)
  (hx : d.session n = some x)
  (hmac : mac = woredMac x.key (woredHeader 4 0 0 x.number (u8 level ++ u8 0 ++ u16 room ++ u16 idle).length 0)
    (u8 level ++ u8 0 ++ u16 room ++ u16 idle))
include hup hx hmac

theorem accepted_of_confirmed (hdone : x.confirmed = true) : d.accepted number level room idle mac = d.bump Obj.REPLAY_REJECTED := by
  simp only [Dev.accepted, hup, hx, hmac, hdone, bne_self_eq_false, Bool.false_eq_true, if_false, if_true]

theorem accepted_of_first (hfirst : x.confirmed = false) :
    let a := ((d.setSession n fun y => { y with
      confirmed := true, isOpen := true, last := d.course.elapsed, seen := 1 }).setCapture
        fun c => { c with loc := .reading }).sessionsChanged.nextLocRequest
    d.accepted number level room idle mac = a.sendMessage n 0x10 .own false .best 49840
      (u32 a.net.locRequest ++ u8 1 ++ u8 0 ++ u8 1 ++ u8 5 ++ u16 0x1000 ++ u16 0) := by
  simp only [Dev.accepted, hup, hx, hmac, hfirst, bne_self_eq_false, Bool.false_eq_true, if_false]

end

/-! ### What ends of itself -/

theorem fragTimeout_of_waiting {n : Nat} {x : Session} {f : Fragment} {rest : List Fragment} (hx : d.session n = some x)
    (hfragments : x.fragments = f :: rest) : d.fragTimeout n =
      ((d.advanceTo (f.instant + 65536000)).setSession n fun y => { y with
        fragments := y.fragments.filter fun g => g.base != f.base }).bump Obj.FRAG_DROPPED := by
  simp only [Dev.fragTimeout, hx, hfragments, Option.map_some, Option.getD_some, Entries.secTicks_eq]

theorem lockoutEnd_of_locked {address : List Byte} {x : List Byte × Nat}
    (hfind : (d.net.lockouts.find? fun y => y.1 == address) = some x) : d.lockoutEnd address =
      (d.advanceTo x.2).setNet fun v => { v with lockouts := v.lockouts.filter fun y => y.1 != address } := by
  rw [Dev.lockoutEnd, hfind]

theorem sessionRequest_of_none {n : Fin 16} (hnone : d.session n = none) (happ : d.device.appRunning = true)
    (hgoing : d.stopped = false) (path : SessionPath) (address mac body : List Byte) (c : Nat) (wp : Bool) :
    d.sessionRequest n path address c mac ⟨0, 0, body⟩ wp =
      d.sendPlain path address 0x11 0 (replyBody (ofBe (body.take 4)) 0x09 0xFF 0 []) := by
  simp only [Dev.sessionRequest, hnone, happ, hgoing, Bool.not_false, Bool.and_self, Dev.when, if_true]
  all_goals rfl

end

/-- Settles O31: each message of the handshake by the equation of its case. -/
theorem sessionHandshake : Obligations.SessionHandshake := by
  unfold Obligations.SessionHandshake
  refine ⟨fun s => ⟨fun p address level keysel no nonce n happ hgoing hallowed hfine hplace => ?opened,
    fun p address level keysel no nonce status happ hgoing hallowed hrefused => ?refused,
    fun k x mac address hx hdown happ => ⟨fun hmac => ⟨fun hdone => ?again, fun hfirst => ?confirmed⟩, fun hmac => ?wrong⟩,
    fun k nonce n x hup hopening hx hnumber => ?challenge, fun hup k nonce => ?noUpstream,
    fun k level room idle mac n x hup hx hmac => ⟨fun hdone => ?acceptAgain, fun hfirst => ?accept⟩⟩,
    fun s k => ⟨fun x f rest hx hfragments => ?fragment, fun address x hfind => ?lockout, fun x hx => ?idle,
      fun hnone happ hgoing p address c mac body wp => ?closed⟩⟩
  case opened => exact becomes_of_act _ rfl (openSession_of_place happ hgoing hallowed hfine hplace)
  case refused => exact becomes_of_act _ rfl (openSession_of_refusal happ hgoing hallowed hrefused)
  case again => exact becomes_of_act _ rfl (confirmSession_of_confirmed hx hdown happ hmac hdone)
  case confirmed => exact becomes_of_act _ rfl (confirmSession_of_first hx hdown happ hmac hfirst)
  case wrong => exact becomes_of_act _ rfl (confirmSession_of_wrong_mac hx hdown happ hmac)
  case challenge => exact becomes_of_act _ rfl (challenged_of_opening nonce hup hopening)
  case noUpstream => exact becomes_of_act _ rfl (challenged_of_none hup (k.val + 1) nonce)
  case acceptAgain => exact becomes_of_act _ rfl (accepted_of_confirmed hup hx hmac hdone)
  case accept => exact becomes_of_act _ rfl (accepted_of_first hup hx hmac hfirst)
  case fragment => exact becomes_of_act _ rfl (fragTimeout_of_waiting hx hfragments)
  case lockout => exact becomes_of_act _ rfl (lockoutEnd_of_locked hfind)
  case idle =>
    refine becomes_of_act (Dev.sessionIdle k) rfl ?_
    rw [← Entries.secTicks_eq]
    simp only [Dev.sessionIdle, hx]
    all_goals rfl
  case closed => exact becomes_of_act _ rfl (sessionRequest_of_none hnone happ hgoing (.port p) address mac body c.toNat wp)

/-! ### Publications and the ring keys -/

section
variable {d : Dev}

theorem publicationRx_of_down {p : Nat} (hdown : d.portUp p = false) (f : RingFrame) (epoch counter : Nat) (body mac : List Byte) :
    d.publicationRx p f epoch counter body mac = d := by
  rw [Dev.publicationRx, hdown, Bool.not_false, Bool.true_or, if_pos rfl]

theorem publicationRx_of_new {p epoch counter h v : Nat} {f : RingFrame} {body key : List Byte} (hup : d.portUp p = true)
    (hother : f.source ≠ d.mac) (hfirst : (d.dupOf f.source f.sequence).delivered = false) (hintact : f.intact = true)
    (hsize : oversizeFrame f = false) (hkey : (d.hsrFrame p f).ringKeyOf epoch = some key)
    (hsender : ((d.hsrFrame p f).net.pubSeen.find? fun x => x.1 == f.source) = none) (hstep : counterStep 0 0 counter = some (h, v)) :
    d.publicationRx p f epoch counter body
        (woredMac (publicationKey key f.source epoch) (woredHeader 0x30 0 0 epoch body.length counter) body) =
      (d.hsrFrame p f).setNet fun n => { n with
        pubSeen := (f.source, (h, v)) :: n.pubSeen.filter fun x => x.1 != f.source } := by
  simp only [Dev.publicationRx, hup, beq_eq_false_iff_ne.mpr hother, hfirst, hintact, hsize, hkey, hsender, hstep, Bool.not_true,
    Bool.not_false, Bool.or_self, Bool.false_eq_true, if_false, bne_self_eq_false, Option.map_none, Option.getD_none]

theorem ringKeySwitch_of_set (hnext : d.b Obj.RING_KEY_NEXT ≠ []) (hat : d.u Obj.RING_SWITCH_AT ≠ 0) :
    let a := d.advance (d.ticksUntil (d.u Obj.RING_SWITCH_AT))
    let old := d.u Obj.RING_EPOCH
    let next := d.b Obj.RING_KEY_NEXT
    let b := ((a.setNet fun n => { n with
      ringBefore := some (old, n.ringKey, a.course.elapsed + 60 * 65536000), ringKey := next }).put Obj.RING_EPOCH (old + 1)).putB
        Obj.RING_KEY_NEXT []
    d.ringKeySwitch = (b.bufferInternal .values
      [⟨ringKeyKey, .bytes next⟩, Obj.RING_KEY_NEXT.writeB [], Obj.RING_EPOCH.write (old + 1)]).flagRaise Obj.SEC_FLAGS 8
        0x800A (u16 (b.u Obj.RING_EPOCH)) := by
  have hgo : ¬((d.b Obj.RING_KEY_NEXT).isEmpty || decide (d.u Obj.RING_SWITCH_AT = 0)) = true := by
    rw [Bool.or_eq_true, List.isEmpty_iff, decide_eq_true_eq]
    exact fun h => h.elim hnext hat
  have hshown : ∀ (e : Dev) l, (e.bufferInternal .values l).u Obj.RING_EPOCH = e.u Obj.RING_EPOCH := fun _ _ => rfl
  simp only [Dev.ringKeySwitch, Dev.advance_u, hshown, Entries.secTicks_eq]
  exact if_neg (by simpa using hgo)

theorem ringGraceEnd_of_before {o till : Nat} {key : List Byte} (hbefore : d.net.ringBefore = some (o, key, till)) :
    d.ringGraceEnd = (d.advanceTo till).setNet fun n => { n with ringBefore := none } := by
  rw [Dev.ringGraceEnd, hbefore]

end

/-- Settles O33: each command by the equation of its case. -/
theorem publicationsAndRingKeys : Obligations.PublicationsAndRingKeys := by
  unfold Obligations.PublicationsAndRingKeys
  refine fun s => ⟨fun q f hdown => ?down,
    fun q f key h v hup hother hfirst hintact hsize hkey hmac hsender hstep => ?first, fun hnext hat => ?switch,
    fun o key till hbefore => ?grace⟩
  case down => exact becomes_of_act _ rfl (publicationRx_of_down hdown f.frame f.epoch.toNat f.counter.toNat f.body f.mac)
  case first =>
    refine becomes_of_act (fun d => d.publicationRx q.no f.frame f.epoch.toNat f.counter.toNat f.body f.mac) rfl ?_
    rw [hmac]
    exact publicationRx_of_new hup hother hfirst hintact hsize hkey hsender hstep
  case switch => exact becomes_of_act _ rfl (ringKeySwitch_of_set hnext hat)
  case grace => exact becomes_of_act _ rfl (ringGraceEnd_of_before hbefore)

end Sys2Proof.Sessions
end

section
/-! PROOFS. The reads and the writes of HART (R379–R381, R383, R384). -/

open Sys2Proof Sys2Proof.Machine

namespace Sys2Proof.Hart

section
variable {d : Dev} {p : Bool}

/-! ### Reads -/

theorem hartRead_of_served (hserved : d.hartServed = true) (command : Nat) (data : Dev → List Byte) :
    d.hartRead p command data = d.respond p command 0 (data d) := if_pos hserved

theorem hartByTag_of_same (hserved : d.hartServed = true) (command : Nat) : d.hartByTag p command true = d.respond p command 0 d.uidData :=
  hartRead_of_served hserved command _

theorem respond_master_same (h : d.link.masters.length = 2) (command code : Nat) (data : List Byte) :
    (d.respond p command code data).master p = { d.master p with cold := false } := by
  rw [respond_master h, if_pos rfl]

theorem respond_master_other (h : d.link.masters.length = 2) (command code : Nat) (data : List Byte) :
    (d.respond p command code data).master (!p) = d.master (!p) := by
  rw [respond_master h, if_neg (Bool.eq_not_self p).mp]

/-! ### Writes -/

/-- A write of the last HART_REPEAT_TIME with the same command and data (R381). -/
def repeats (d : Dev) (command : Nat) (b : List Byte) (w : HartWrite) : Prop :=
  w.command = command ∧ w.data = b ∧ d.course.elapsed ≤ w.instant + d.u Obj.HART_REPEAT_TIME * 65536

section
variable {command : Nat} {b : List Byte} {ops : List ReqOp} {wp : Bool}

section
variable (hnew : ∀ w ∈ (d.master p).writes, ¬repeats d command b w)
include hnew

theorem find_of_new : ((d.master p).writes.find? fun w => w.command == command && w.data == b &&
    decide (d.course.elapsed ≤ w.instant + d.u Obj.HART_REPEAT_TIME * msTicks) && (w.code == none || w.code == some 0)) = none := by
  refine List.find?_eq_none.mpr fun w hw h => hnew w hw ?_
  rw [Bool.and_eq_true, Bool.and_eq_true, Bool.and_eq_true, beq_iff_eq, beq_iff_eq, decide_eq_true_eq] at h
  obtain ⟨⟨⟨hcommand, hdata⟩, hrecent⟩, -⟩ := h
  exact ⟨hcommand, hdata, hrecent⟩

theorem hartWrite_of_locked (hserved : d.hartServed = true) (hlevel : d.u Obj.HART_LEVEL = 0) :
    d.hartWrite p command b ops wp = d.respond p command 16 [] := by
  simp only [Dev.hartWrite, hserved, Bool.not_true, Bool.false_eq_true, if_false, find_of_new hnew, hlevel,
    if_true]

theorem hartWrite_of_new (hserved : d.hartServed = true) (hlevel : d.u Obj.HART_LEVEL ≠ 0) :
    let j := d.hartJournaled ops
    let id := if j then (d.master p).counter else 0
    d.hartWrite p command b ops wp = (d.setMaster p fun x => { x with
      counter := if !j then x.counter else if x.counter + 1 = 2 ^ 32 then 1 else x.counter + 1
      writes := ⟨command, b, d.course.elapsed, id, some d.course.elapsed, none⟩ ::
        x.writes.filter fun w => w.code == none || decide (d.course.elapsed ≤ w.instant + d.u Obj.HART_REPEAT_TIME * 65536) }).request
      ⟨BitVec.ofNat 16 (if p then 1 else 0), ⟨d.u Obj.HART_LEVEL % 4, Nat.mod_lt _ (by decide)⟩, BitVec.ofNat 32 id, .hart p, wp⟩
      ops := by
  rw [← Entries.msTicks_eq]
  have hflag : flag p = if p then 1 else 0 := rfl
  simp only [Dev.hartWrite, hserved, Bool.not_true, Bool.false_eq_true, if_false, find_of_new hnew,
    if_neg hlevel, Dev.setMaster_u, hflag]

end

section
variable {w : HartWrite} {rest : List HartWrite} (hwrites : (d.master p).writes = w :: rest) (hsame : repeats d command b w)
include hwrites hsame

theorem find_of_repeat (hcode : w.code = none ∨ w.code = some 0) : ((d.master p).writes.find? fun w => w.command == command &&
    w.data == b && decide (d.course.elapsed ≤ w.instant + d.u Obj.HART_REPEAT_TIME * msTicks) &&
      (w.code == none || w.code == some 0)) = some w := by
  obtain ⟨hcommand, hdata, hrecent⟩ := hsame
  rw [hwrites]
  refine List.find?_cons_of_pos ?_
  rw [Bool.and_eq_true, Bool.and_eq_true, Bool.and_eq_true, Bool.or_eq_true, beq_iff_eq, beq_iff_eq, beq_iff_eq, beq_iff_eq,
    decide_eq_true_eq]
  exact ⟨⟨⟨hcommand, hdata⟩, hrecent⟩, hcode⟩

theorem hartWrite_of_waiting (hserved : d.hartServed = true) (hcode : w.code = none) :
    d.hartWrite p command b ops wp = d.setMaster p fun x => { x with
      writes := x.writes.map fun y => if y.id = w.id ∧ y.code = none then { y with owed := some d.course.elapsed } else y } := by
  simp only [Dev.hartWrite, hserved, Bool.not_true, Bool.false_eq_true, if_false,
    find_of_repeat hwrites hsame (.inl hcode), hcode, if_true, HartMaster.setWrite]

theorem hartWrite_of_succeeded (hserved : d.hartServed = true) (hcode : w.code = some 0) :
    d.hartWrite p command b ops wp = (d.bump Obj.HART_REPEATS).respond p command 0 b := by
  simp only [Dev.hartWrite, hserved, Bool.not_true, Bool.false_eq_true, if_false,
    find_of_repeat hwrites hsame (.inr hcode), hcode, reduceCtorEq]

end
end

/-- What a write command of HART comes to: the answer to data that cannot be written, or the write of its request. -/
def hartJudged (d : Dev) (p : Bool) (command : Nat) (b : List Byte) (ops : List ReqOp) (wp : Bool) (bad : Nat) : Dev :=
  if bad ≠ 0 ∧ d.u Obj.HART_LEVEL ≠ 0 then d.respond p command bad [] else d.hartWrite p command b ops wp

theorem hartJudged_of_fine (command : Nat) (b : List Byte) (ops : List ReqOp) (wp : Bool) :
    hartJudged d p command b ops wp 0 = d.hartWrite p command b ops wp := if_neg fun h => h.1 rfl

theorem hartText_eq (hserved : d.hartServed = true) (command need : Nat) (b : List Byte) (ops : List ReqOp) :
    d.hartText p command need b ops = hartJudged d p command b ops d.device.wpLow (if b.length < need then 5 else 0) := by
  rw [Dev.hartText, hartJudged, hserved, Dev.when, if_pos rfl]
  by_cases hshort : b.length < need
  · simp only [hshort, decide_true, Bool.true_and, bne_iff_ne, if_true, ne_eq, OfNat.ofNat_ne_zero, not_false_eq_true, true_and]
  · simp only [hshort, decide_false, Bool.false_and, Bool.false_eq_true, if_false, ne_eq, not_true_eq_false, false_and]

theorem hartRangeWrite_eq (hserved : d.hartServed = true) (unit : Nat) (urv lrv : F32) (wp : Bool) :
    d.hartRangeWrite p unit urv lrv wp = hartJudged d p 35 (u8 unit ++ f32b urv ++ f32b lrv)
      [opOf Obj.LOOP_RANGE (f32b lrv ++ f32b urv)] wp (if unit = d.unitOf (d.u Obj.LOOP_PV) then 0 else 2) := by
  rw [Dev.hartRangeWrite, hartJudged, hserved]
  by_cases hunit : unit = d.unitOf (d.u Obj.LOOP_PV)
  · simp only [hunit, bne_self_eq_false, Bool.and_false, Bool.false_eq_true, if_false, if_true, ne_eq, not_true_eq_false, false_and]
  · simp only [hunit, bne_iff_ne, Bool.true_and, Bool.and_eq_true, ne_eq, not_false_eq_true, and_true, if_false, OfNat.ofNat_ne_zero,
      true_and]

/-- Each write command of HART acts as its own command, data and writes say. -/
theorem exec_of_hartWriteOf {s : State} {c : Instr} {command : Nat} {b : List Byte} {ops : List ReqOp} {wp : Bool} {bad : Nat}
    (hwrite : hartWriteOf s.dev.cleared c = some (p, command, b, ops, wp, bad)) (hserved : s.dev.cleared.hartServed = true) :
    s.becomes c (hartJudged s.dev.cleared p command b ops wp bad) := by
  unfold hartWriteOf at hwrite
  split at hwrite
  case h_1 m a mode =>
    cases hwrite
    exact becomes_of_act (fun d => d.hartWrite m.isPrimary 6 [a, mode] [opOf Obj.HART_POLL_ADDR [a], opOf Obj.HART_LOOP_MODE [mode]]
      d.device.wpLow) rfl (hartJudged_of_fine 6 [a, mode] _ _).symm
  case h_2 => cases hwrite; exact becomes_of_act _ rfl (hartText_eq hserved _ _ _ _)
  case h_3 => cases hwrite; exact becomes_of_act _ rfl (hartText_eq hserved _ _ _ _)
  case h_4 m v =>
    cases hwrite
    exact becomes_of_act (fun d => d.hartWrite m.isPrimary 19 (beBytes 3 v.toNat) [opOf Obj.HART_FINAL_ASSY (u32 v.toNat)]
      d.device.wpLow) rfl (hartJudged_of_fine 19 _ _ _).symm
  case h_5 => cases hwrite; exact becomes_of_act _ rfl (hartText_eq hserved _ _ _ _)
  case h_6 => cases hwrite; exact becomes_of_act _ rfl (hartRangeWrite_eq hserved _ _ _ _)
  case h_7 m x =>
    cases hwrite
    exact becomes_of_act (fun d => d.hartWrite m.isPrimary 40 (f32b x) [opOf Obj.LOOP_FIXED (f32b x)] d.device.wpLow) rfl
      (hartJudged_of_fine 40 _ _ _).symm
  case h_8 => cases hwrite; exact becomes_of_act _ rfl (hartJudged_of_fine _ _ _ _).symm
  case h_9 => cases hwrite; exact becomes_of_act _ rfl (hartJudged_of_fine _ _ _ _).symm
  case h_10 => exact absurd hwrite (Option.some_ne_none _).symm

end

/-- Settles O34: each read by its data; a response takes the cold-start bit of its own master only. -/
theorem hartReads : Obligations.HartReads := by
  unfold Obligations.HartReads
  refine ⟨fun s m hserved => ?reads, fun d p command code data h => ?response⟩
  case reads =>
    refine ⟨?identifier, fun tag htag => ?shortTag, fun tag htag => ?otherShort, fun tag htag => ?longTag, fun tag htag => ?otherLong,
      ?pv, ?current, ?dynamic, ?loop, ?classes, fun codes => ?codes, ?message, ?tag, ?transducer, fun wp => ?device, ?assembly,
      ?long, ?status⟩
    case shortTag =>
      refine becomes_of_act (fun d => d.hartByTag m.isPrimary 11 (tag == packAscii (fillText 8 0x20 (d.b Obj.HART_TAG)))) rfl ?_
      rw [beq_iff_eq.mpr htag]
      exact hartByTag_of_same hserved 11
    case otherShort =>
      refine becomes_of_act (fun d => d.hartByTag m.isPrimary 11 (tag == packAscii (fillText 8 0x20 (d.b Obj.HART_TAG)))) rfl ?_
      rw [beq_eq_false_iff_ne.mpr htag]
      rfl
    case longTag =>
      refine becomes_of_act (fun d => d.hartByTag m.isPrimary 21 (tag == fillText 32 0 (d.b Obj.HART_LONG_TAG))) rfl ?_
      rw [beq_iff_eq.mpr htag]
      exact hartByTag_of_same hserved 21
    case otherLong =>
      refine becomes_of_act (fun d => d.hartByTag m.isPrimary 21 (tag == fillText 32 0 (d.b Obj.HART_LONG_TAG))) rfl ?_
      rw [beq_eq_false_iff_ne.mpr htag]
      rfl
    case device =>
      exact becomes_of_act (fun d => (d.setDevice fun v => { v with wpLow := wp }).hartRead m.isPrimary 15 Dev.deviceData) rfl
        (hartRead_of_served (d := s.dev.cleared.setDevice fun v => { v with wpLow := wp }) hserved 15 _)
    all_goals exact becomes_of_act _ rfl (hartRead_of_served hserved _ _)
  case response =>
    refine ⟨rfl, ?_, ?_, respond_master_other h command code data, rfl, rfl, rfl, rfl, hartStatus_cold d _⟩
    · rw [respond_master_same h]
    · rw [respond_master_same h]

/-- Settles O35: every write command comes to one judged write, whose cases are those of R381. -/
theorem hartWrites : Obligations.HartWrites := by
  unfold Obligations.HartWrites
  intro s c p command b ops wp bad d m same hwrite hserved
  have hexec := exec_of_hartWriteOf hwrite hserved
  have hjudged : ∀ {e : Dev}, hartJudged d p command b ops wp bad = e → s.becomes c e := fun h => h ▸ hexec
  have hwritten : ∀ {e : Dev}, bad = 0 ∨ d.u Obj.HART_LEVEL = 0 → d.hartWrite p command b ops wp = e → s.becomes c e := by
    refine fun hfine he => hjudged ((if_neg ?_).trans he)
    rintro ⟨hbad, hlevel⟩
    exact hfine.elim hbad hlevel
  refine ⟨fun hlevel hbad => ?bad, fun hnew hlevel => ?locked, fun hnew hlevel hfine => ?new,
    fun w rest hwrites hsame hfine => ⟨fun hcode => ?waiting, fun hcode => ?succeeded⟩⟩
  case bad => exact hjudged (if_pos ⟨hbad, hlevel⟩)
  case locked => exact hwritten (.inr hlevel) (hartWrite_of_locked hnew hserved hlevel)
  case new => exact hwritten (.inl hfine) (hartWrite_of_new hnew hserved hlevel)
  case waiting => exact hwritten (.inl hfine) (hartWrite_of_waiting hwrites hsame hserved hcode)
  case succeeded => exact hwritten (.inl hfine) (hartWrite_of_succeeded hwrites hsame hserved hcode)

end Sys2Proof.Hart
end

section
/-! PROOFS. The tunnel, the burst, errors and loop time markers of HART (R229, R381, R383, R386–R388, R401), and the host ports
(R391–R394, R398). -/

open Sys2Proof Sys2Proof.Machine

namespace Sys2Proof.Hart

section
variable {d : Dev} {p : Bool}

section
variable (hserved : d.hartServed = true)
include hserved

theorem tunnelPoll_of_empty (hframes : (d.master p).frames = []) : d.tunnelPoll p = d.respond p 160 0 [] := by
  rw [Dev.tunnelPoll, hserved, if_neg (by decide), hframes]

theorem tunnelPoll_of_frame {o : Outgoing} {rest : List Outgoing} (hframes : (d.master p).frames = o :: rest) : d.tunnelPoll p =
    ((d.setMaster p fun x => { x with frames := rest }).respond p 160 0 o.data).collected o := by
  rw [Dev.tunnelPoll, hserved, if_neg (by decide), hframes]

theorem tunnelUse_of_frame {rest : List Byte} (hlength : rest.length ≤ 252) (wp : Bool) :
    d.tunnelUse p (1 :: rest) wp = (d.tunnelFrame p rest wp).tunnelPoll p := by
  rw [Dev.tunnelUse, hserved, if_neg (by decide)]
  exact if_pos ⟨rfl, hlength⟩

theorem tunnelUse_of_other {c : Byte} (hframe : c ≠ 1) (hmarker : c ≠ 0x4D) (rest : List Byte) (wp : Bool) :
    d.tunnelUse p (c :: rest) wp = d.respond p 160 2 [] := by
  rw [Dev.tunnelUse, hserved, if_neg (by decide)]
  exact (if_neg fun h => hframe h.1).trans (if_neg fun h => hmarker h.1)

theorem hartUnknown_of_served (n : Nat) : d.hartUnknown p n = d.respond p n 64 [] := by
  rw [Dev.hartUnknown, hserved, Dev.when, if_pos rfl]

theorem hartBusy_of_owed {w : HartWrite} {t : Nat} (howed : (d.master p).oldestOwed = some (w, t)) : d.hartBusy p =
    ((d.advanceTo (t + 200 * 65536)).setMaster p fun x => { x with
      writes := x.writes.map fun y => if y.id = w.id ∧ y.code = none then { y with owed := none } else y }).respond p
        w.command 32 [] := by
  simp only [Dev.hartBusy, howed, hserved, Bool.not_true, Bool.false_eq_true, if_false, HartMaster.setWrite, Entries.msTicks_eq]

theorem burst_of_on (hmode : d.u Obj.BURST_MODE ≠ 0) :
    let a := d.advanceTo (d.link.burst + d.u Obj.BURST_PERIOD * 6553600)
    let b := a.setLink fun l => { l with burst := a.course.elapsed }
    d.burst = (b.respond true (a.u Obj.BURST_CMD) 0 a.burstData).setMaster true fun x => { x with
      cold := (d.master true).cold } := by
  simp only [Dev.burst, hserved, Bool.not_true, Bool.false_or, decide_eq_false hmode, Bool.false_eq_true, if_false]

theorem hartError_of_served : d.hartError = (d.bump Obj.HART_ERRORS).flagFirst Obj.HOST_FLAGS 4 0x6084 [] := by
  rw [Dev.hartError, hserved, if_neg (by decide)]

theorem loopMarker_of_off (hoff : d.on Obj.MARKER_ENABLE = false) (k : Marker) :
    d.loopMarker p k = ((d.setFlag Obj.HOST_FLAGS 5).raise 0x6086 (u8 1)).respond p 160 16 [] := by
  rw [Dev.loopMarker, hserved, if_neg (by decide), hoff, if_pos (by decide)]
  rfl

theorem loopMarker_of_accepted {k : Marker} {x : Session} {q : Bool} {h v : Nat} (hon : d.on Obj.MARKER_ENABLE = true)
    (hk : k.session.toNat ≠ 0) (hx : d.session (k.session.toNat - 1) = some x) (hopen : x.isOpen = true)
    (hdown : x.upstream = false) (hpath : x.path = .tunnel q) (hlevel : 1 ≤ x.level)
    (hmac : k.mac = (hmac x.key (u8 0x4D ++ u8 k.reserved.toNat ++ u16 k.session.toNat ++ u32 k.counter.toNat ++
      u64 k.time.toNat)).take 16) (hstep : counterStep x.high x.seen k.counter.toNat = some (h, v)) :
    d.loopMarker p k = (d.setSession (k.session.toNat - 1) fun y => { y with
      high := h, seen := v, last := d.course.elapsed }).markerAccepted p k.time.toNat := by
  simp only [Dev.loopMarker, hserved, hon, if_neg hk, hx, hopen, hdown, hpath, hmac, hstep, Bool.not_true, Bool.or_self,
    Bool.false_eq_true, if_false, ne_eq, not_true_eq_false, if_neg (Nat.not_lt.mpr hlevel)]

end

theorem hartBusy_of_none (howed : (d.master p).oldestOwed = none) : d.hartBusy p = d := by
  rw [Dev.hartBusy, howed]

theorem burst_of_off (hmode : d.u Obj.BURST_MODE = 0) : d.burst = d := by
  rw [Dev.burst, decide_eq_true hmode, Bool.or_true, if_pos rfl]

end

/-- Settles O38: each command by the equation of its case. -/
theorem hartOtherCommands : Obligations.HartOtherCommands := by
  unfold Obligations.HartOtherCommands
  refine ⟨fun s m hserved => ⟨fun hframes => ?empty, fun o rest hframes => ?poll, fun rest wp hlength => ?frame,
    fun c rest wp hframe hmarker => ?other, fun n => ?unknown, fun w t howed => ?busy, fun howed => ?notBusy, fun hmode => ?burst,
    fun hmode => ?noBurst, ?error, fun hoff k => ?off,
    fun hon k x q h v hk hx hopen hdown hpath hlevel hmac hstep => ?marker⟩, fun d p time => rfl⟩
  case empty => exact becomes_of_act _ rfl (tunnelPoll_of_empty hserved hframes)
  case poll => exact becomes_of_act _ rfl (tunnelPoll_of_frame hserved hframes)
  case frame => exact becomes_of_act _ rfl (tunnelUse_of_frame hserved hlength wp)
  case other => exact becomes_of_act _ rfl (tunnelUse_of_other hserved hframe hmarker rest wp)
  case unknown => exact becomes_of_act _ rfl (hartUnknown_of_served hserved n.toNat)
  case busy => exact becomes_of_act _ rfl (hartBusy_of_owed hserved howed)
  case notBusy => exact becomes_of_act _ rfl (hartBusy_of_none howed)
  case burst => exact becomes_of_act _ rfl (burst_of_on hserved hmode)
  case noBurst => exact becomes_of_act _ rfl (burst_of_off hmode)
  case error => exact becomes_of_act _ rfl (hartError_of_served hserved)
  case off => exact becomes_of_act _ rfl (loopMarker_of_off hserved hoff k)
  case marker => exact becomes_of_act _ rfl (loopMarker_of_accepted hserved hon hk hx hopen hdown hpath hlevel hmac hstep)

end Sys2Proof.Hart
end

section
/-! PROOFS. The host ports and the wake port (R391–R394, R398). -/

open Sys2Proof Sys2Proof.Machine

namespace Sys2Proof.HostPorts

section
variable {d : Dev} {p : HostPort}

section
variable (hserved : d.hostServed p = true)
include hserved

/-! ### Frames -/

theorem hostFrame_of_damaged (op : Nat) (waits : Bool) (f : Dev → Dev) : d.hostFrame p op false waits f = d.hostCrc p op := by
  rw [Dev.hostFrame, hserved, if_neg (by decide), if_pos (by decide)]

theorem hostFrame_of_busy (hpending : (d.host p).pending ≠ none) (op : Nat) (f : Dev → Dev) :
    d.hostFrame p op true true f = d.hostDone p op 0x07 0 [] := by
  have hsome : (d.host p).pending.isSome = true := Option.isSome_iff_ne_none.mpr hpending
  rw [Dev.hostFrame, hserved, hsome, if_neg (by decide), if_neg (by decide), if_pos (by decide)]

theorem hostFrame_of_free (hpending : (d.host p).pending = none) (op : Nat) (f : Dev → Dev) :
    d.hostFrame p op true true f = f d := by
  rw [Dev.hostFrame, hserved, hpending, if_neg (by decide), if_neg (by decide), if_neg (by decide)]

theorem hostFrame_of_unwaiting (op : Nat) (f : Dev → Dev) : d.hostFrame p op true false f = f d := by
  rw [Dev.hostFrame, hserved, if_neg (by decide), if_neg (by decide), Bool.false_and, if_neg (by decide)]

/-! ### Reads -/

section
variable {index sub count : Nat} (hpending : (d.host p).pending = none)
include hpending

section
variable (happ : d.device.appRunning = true)
include happ

theorem hostRead_of_running : d.hostRead p index sub 0 count true = d.hostReadNow p index sub 0 count := by
  rw [Dev.hostRead, hostFrame_of_free hserved hpending, happ]
  exact if_pos (by simp only [Bool.true_or])

theorem hostRead_of_error {f : Fail} (hresult : (d.hostSnapshot p index sub count).2 = .error f) :
    d.hostRead p index sub 0 count true = (d.hostSnapshot p index sub count).1.hostDone p 1 f.status f.detail [] := by
  rw [hostRead_of_running hserved hpending happ, Dev.hostReadNow]
  simp only [if_true, hresult]

theorem hostRead_of_ok {data : List Byte} (hresult : (d.hostSnapshot p index sub count).2 = .ok data) :
    d.hostRead p index sub 0 count true = if servedAtOnce index sub then (d.hostSnapshot p index sub count).1.hostDone p 1 0 0 data
      else ((d.hostSnapshot p index sub count).1.setPending p (some (.reading 0 0 data))).hostWaits p 1 := by
  rw [hostRead_of_running hserved hpending happ, Dev.hostReadNow]
  simp only [if_true, hresult]

end

theorem hostRead_of_held (happ : d.device.appRunning = false) (hstate : d.device.state ≠ .starting)
    (hrom : d.security.romLoader = false) (hlater : servedAtOnce index sub = false) : d.hostRead p index sub 0 count true =
      (d.setPending p (some (.held (d.hostRequest p 0 d.device.wpLow) [.read index sub] [] false 0 count))).hostWaits p 1 := by
  rw [Dev.hostRead, hostFrame_of_free hserved hpending, happ, hrom, hlater]
  exact if_neg (by simp [hstate])

end

/-! ### Writes, collection and messages -/

section
variable (hpending : (d.host p).pending = none) {index sub first : Nat} {id : BitVec 32} {words : List (BitVec 16)} {wp : Bool}
include hpending

theorem hostWrite_of_going (hgoes : d.device.appRunning = true ∨ d.device.state = .starting ∨ d.security.romLoader = true) :
    d.hostWrite p index sub first id words true wp =
      (d.hostSubmit p (d.hostRequest p id wp) [.write index sub (d.hostValue index sub first words)] false).hostOutcome p 2 := by
  rw [Dev.hostWrite, hostFrame_of_free hserved hpending]
  exact if_pos (by simpa only [Bool.or_eq_true, decide_eq_true_eq, or_assoc] using hgoes)

theorem hostWrite_of_held (hgoes : ¬(d.device.appRunning = true ∨ d.device.state = .starting ∨ d.security.romLoader = true)) :
    d.hostWrite p index sub first id words true wp = (d.setPending p (some (.held (d.hostRequest p id wp)
      [.write index sub (d.hostValue index sub first words)] [] false 0 0))).hostWaits p 2 := by
  rw [Dev.hostWrite, hostFrame_of_free hserved hpending]
  exact if_neg (by simpa only [Bool.or_eq_true, decide_eq_true_eq, or_assoc] using hgoes)

theorem hostWored_of_request (happ : d.device.appRunning = true) {body : List Byte} {ops : List ReqOp}
    (hparse : parseRequest body = some (id, ops)) : d.hostWored p ⟨0x10, body⟩ true wp =
      (d.hostSubmit p (d.hostRequest p id wp) ops true).hostWaits p 4 := by
  rw [Dev.hostWored, hostFrame_of_free hserved hpending]
  simp only [BitVec.reduceToNat, hparse, happ, Bool.true_or, if_true]

end

theorem hostCollect_of_result {status detail : Nat} {data : List Byte}
    (hpending : (d.host p).pending = some (.result status detail data)) :
    d.hostCollect p true = (d.setPending p none).hostDone p 3 status detail data := by
  rw [Dev.hostCollect, hostFrame_of_unwaiting hserved, hpending]

theorem hostCollect_of_none (hpending : (d.host p).pending = none) : d.hostCollect p true = d.hostDone p 3 0 0 [] := by
  rw [Dev.hostCollect, hostFrame_of_unwaiting hserved, hpending]

theorem hostNop_of_empty (hmessages : (d.host p).messages = []) : d.hostNop p true = d.hostDone p 5 0 0 (u16 0) := by
  rw [Dev.hostNop, hostFrame_of_unwaiting hserved, Dev.hostMessageOut, hmessages]

theorem hostNop_of_message {o : Outgoing} {rest : List Outgoing} (hmessages : (d.host p).messages = o :: rest) :
    d.hostNop p true = ((d.setHost p fun h => { h with messages := rest }).hostDone p 5 0 0
      (u16 o.data.length ++ o.data)).collected o := by
  rw [Dev.hostNop, hostFrame_of_unwaiting hserved, Dev.hostMessageOut, hmessages]

theorem hostFrameError_of_served : d.when (d.hostServed p) (Dev.hostFrameError p 0) =
    (d.flagFirst Obj.HOST_FLAGS 2 0x6082 (u8 (HostPort.no p))).hostRespond p 0 3 0 0 [] := by
  rw [Dev.when, hserved, if_pos rfl, Dev.hostFrameError]

end

theorem hostComplete_of_reading {status detail : Nat} {data : List Byte}
    (hpending : (d.host p).pending = some (.reading status detail data)) :
    d.hostComplete p = d.setPending p (some (.result status detail data)) := by
  rw [Dev.hostComplete, hpending]

/-! ### The wake port -/

theorem addressMatch_of_asleep (hmode : d.power.mode = .doze ∨ d.power.mode = .stow) :
    d.addressMatch = (d.setPower fun p => { p with stretch := some d.course.elapsed }).wakeEvent 0 := by
  rcases hmode with hmode | hmode
  · rw [Dev.addressMatch, hmode]
  · rw [Dev.addressMatch, hmode]

theorem addressMatch_of_on (hmode : d.power.mode = .on) : d.addressMatch = d := by
  rw [Dev.addressMatch, hmode]

theorem stretchExpiry_of_held {t : Nat} (hstretch : d.power.stretch = some t) : d.stretchExpiry =
    (((d.advanceTo (t + 5 * 65536)).setPower fun p => { p with stretch := none }).bump Obj.WAKE_NACKS).flagFirst
      Obj.HOST_FLAGS 3 0x6083 [] := by
  rw [← Entries.msTicks_eq, Dev.stretchExpiry, hstretch]

theorem stretchExpiry_of_none (hstretch : d.power.stretch = none) : d.stretchExpiry = d := by
  rw [Dev.stretchExpiry, hstretch]

end

/-- Settles O39: each frame by the equation of its case. -/
theorem hostPortCommands : Obligations.HostPortCommands := by
  unfold Obligations.HostPortCommands
  refine ⟨fun s p hserved => ⟨fun index sub first count => ?damaged, fun index sub first count hpending => ?busy,
    fun index sub count hpending happ => ⟨fun f hresult => ?failed, fun data hresult hnow => ?now, fun data hresult hlater => ?later⟩,
    fun index sub first id words wp hpending => ⟨fun hgoes => ?write, fun hgoes => ?writeHeld⟩,
    fun index sub count hpending happ hstate hrom hlater => ?held, fun status detail data hpending => ?collect,
    fun hpending => ?collectNone, fun status detail data hpending => ?complete,
    fun hpending happ body wp id ops hparse => ?wored, fun hmessages => ?nop, fun o rest hmessages => ?message, ?error⟩,
    fun s => ⟨fun hmode => ?asleep, fun hmode => ?awake, fun t hstretch => ?stretch, fun hstretch => ?noStretch⟩⟩
  case damaged => exact becomes_of_act _ rfl (hostFrame_of_damaged hserved 1 true _)
  case busy => exact becomes_of_act _ rfl (hostFrame_of_busy hserved hpending 1 _)
  case failed => exact becomes_of_act _ rfl (hostRead_of_error hserved hpending happ hresult)
  case now => exact becomes_of_act _ rfl ((hostRead_of_ok hserved hpending happ hresult).trans (if_pos hnow))
  case later =>
    exact becomes_of_act _ rfl ((hostRead_of_ok hserved hpending happ hresult).trans (if_neg (Bool.eq_false_iff.mp hlater)))
  case write => exact becomes_of_act _ rfl (hostWrite_of_going hserved hpending hgoes)
  case writeHeld => exact becomes_of_act _ rfl (hostWrite_of_held hserved hpending hgoes)
  case held => exact becomes_of_act _ rfl (hostRead_of_held hserved hpending happ hstate hrom hlater)
  case collect => exact becomes_of_act _ rfl (hostCollect_of_result hserved hpending)
  case collectNone => exact becomes_of_act _ rfl (hostCollect_of_none hserved hpending)
  case complete => exact becomes_of_act _ rfl (hostComplete_of_reading hpending)
  case wored => exact becomes_of_act _ rfl (hostWored_of_request hserved hpending happ hparse)
  case nop => exact becomes_of_act _ rfl (hostNop_of_empty hserved hmessages)
  case message => exact becomes_of_act _ rfl (hostNop_of_message hserved hmessages)
  case error =>
    exact becomes_of_act (fun d => d.when (d.hostServed p) (Dev.hostFrameError p 0)) rfl (hostFrameError_of_served hserved)
  case asleep => exact becomes_of_act _ rfl (addressMatch_of_asleep hmode)
  case awake => exact becomes_of_act _ rfl (addressMatch_of_on hmode)
  case stretch => exact becomes_of_act _ rfl (stretchExpiry_of_held hstretch)
  case noStretch => exact becomes_of_act _ rfl (stretchExpiry_of_none hstretch)

end Sys2Proof.HostPorts
end

section
/-! PROOFS. The sources (R402, R404, R412, R413, R421, R422, R428, R429, R494). -/

open Sys2Proof Sys2Proof.Machine

namespace Sys2Proof.Supply

section
variable {d : Dev}

/-! ### A source appears -/

theorem wakeEvent_of_unwakeable (hmode : d.power.mode = .off ∨ d.power.mode = .holdup) (b : Nat) : d.wakeEvent b = d := by
  rw [Dev.wakeEvent, ite_eq_left_iff]
  intro
  rcases hmode with hmode | hmode
  · rw [hmode]
  · rw [hmode]

/-- A reading that makes a source of its input (R402): no loop in source mode, and SPoE only where PoDL is powered or in OFF. -/
def fits (d : Dev) (n : Fin 4) : Prop := ¬(n = 3 ∧ d.outputs.source = true) ∧
  ((n = 1 ∨ n = 2) → d.u (Obj.PODL_STATE (n - 1)) = 3 ∨ d.power.mode = .off)

theorem fits_iff (n : Fin 4) : (!(n.val == 3 && d.outputs.source) &&
    (decide (n.val ≠ 1 ∧ n.val ≠ 2) || d.u (Obj.PODL_STATE (n.val - 1)) == 3 || d.power.mode == .off)) = true ↔ fits d n := by
  have h1 : n.val = 1 ↔ n = 1 := ⟨fun h => Fin.ext h, fun h => congrArg Fin.val h⟩
  have h2 : n.val = 2 ↔ n = 2 := ⟨fun h => Fin.ext h, fun h => congrArg Fin.val h⟩
  have h3 : n.val = 3 ↔ n = 3 := ⟨fun h => Fin.ext h, fun h => congrArg Fin.val h⟩
  rw [fits, Bool.and_eq_true, Bool.not_eq_true', ← Bool.not_eq_true, Bool.and_eq_true, beq_iff_eq, h3, Bool.or_eq_true,
    Bool.or_eq_true, decide_eq_true_eq, beq_iff_eq, beq_iff_eq, ne_eq, ne_eq, h1, h2, or_assoc, ← not_or, ← imp_iff_not_or]

section
variable {n : Fin 4} {v : F32} {lsrc : Bool}

theorem sourcePresent_of_unfit (hfit : ¬fits d n) : d.sourcePresent n v lsrc = d := by
  have hnot := Bool.eq_false_iff.mpr (mt (fits_iff n).mp hfit)
  simp only [Dev.sourcePresent, hnot, Dev.when, Bool.false_eq_true, if_false, Bool.not_false, Bool.true_or, if_true]

/-- What a source that was not present leaves once it is shown (R402, R412): its flag, its event and the ceiling. -/
def shown (e : Dev) (n : Fin 4) : Dev := (e.flagRaise Obj.PWR_FLAGS 0 0x1001 (u8 n)).put Obj.PROFILE_CEILING e.ceiling

section
variable (hfit : fits d n)
include hfit

theorem sourcePresent_of_present (hpresent : (d.putF (Obj.SRC_VOLTAGE n) v).present n = true) :
    d.sourcePresent n v lsrc = d.putF (Obj.SRC_VOLTAGE n) v := by
  simp only [Dev.sourcePresent, (fits_iff n).mpr hfit, Dev.when, hpresent, if_true, Bool.or_true]

section
variable (habsent : (d.putF (Obj.SRC_VOLTAGE n) v).present n = false)
include habsent

theorem sourcePresent_of_absent : d.sourcePresent n v lsrc =
    let volts := d.putF (Obj.SRC_VOLTAGE n) v
    let there := volts.putOn (Obj.SRC_PRESENT n) true
    let e := if n = 0 then there.wakeEvent 6 else there
    match e.power.mode with
    | .off => if !volts.anySource && decide (e.power.lostAt + secTicks ≤ e.course.elapsed) then e.coldStart else e
    | m => (shown e n).when (m == .holdup && !(F32.lt ((shown e n).f Obj.STORE_VOLTAGE) (F32.ofInt 3))) (Dev.holdupRestart lsrc) := by
  have hzero : (n.val == 0) = true ↔ n = 0 := beq_iff_eq.trans ⟨fun h => Fin.ext h, fun h => congrArg Fin.val h⟩
  have hwoken : ∀ g : Dev, g.when (n.val == 0) (Dev.wakeEvent 6) = if n = 0 then g.wakeEvent 6 else g := fun g =>
    if_congr hzero rfl rfl
  simp only [Dev.sourcePresent, (fits_iff n).mpr hfit, hwoken]
  simp only [Dev.when, habsent, if_true, Bool.not_true, Bool.or_self, Bool.false_eq_true, if_false]
  all_goals rfl

theorem sourcePresent_of_off (hoff : d.power.mode = .off) : d.sourcePresent n v lsrc =
    let volts := d.putF (Obj.SRC_VOLTAGE n) v
    let there := volts.putOn (Obj.SRC_PRESENT n) true
    if !volts.anySource && decide (d.power.lostAt + secTicks ≤ d.course.elapsed) then there.coldStart else there := by
  have hmode : ((d.putF (Obj.SRC_VOLTAGE n) v).putOn (Obj.SRC_PRESENT n) true).power.mode = .off := hoff
  rw [sourcePresent_of_absent hfit habsent]
  simp only [wakeEvent_of_unwakeable (.inl hmode), ite_self, hmode]
  all_goals rfl

theorem sourcePresent_of_powered
    (hoff : (if n = 0 then ((d.putF (Obj.SRC_VOLTAGE n) v).putOn (Obj.SRC_PRESENT n) true).wakeEvent 6
      else (d.putF (Obj.SRC_VOLTAGE n) v).putOn (Obj.SRC_PRESENT n) true).power.mode ≠ .off)
    (hholdup : (if n = 0 then ((d.putF (Obj.SRC_VOLTAGE n) v).putOn (Obj.SRC_PRESENT n) true).wakeEvent 6
      else (d.putF (Obj.SRC_VOLTAGE n) v).putOn (Obj.SRC_PRESENT n) true).power.mode ≠ .holdup) : d.sourcePresent n v lsrc =
    shown (if n = 0 then ((d.putF (Obj.SRC_VOLTAGE n) v).putOn (Obj.SRC_PRESENT n) true).wakeEvent 6
      else (d.putF (Obj.SRC_VOLTAGE n) v).putOn (Obj.SRC_PRESENT n) true) n := by
  rw [sourcePresent_of_absent hfit habsent]
  dsimp only
  generalize (if n = 0 then ((d.putF (Obj.SRC_VOLTAGE n) v).putOn (Obj.SRC_PRESENT n) true).wakeEvent 6
      else (d.putF (Obj.SRC_VOLTAGE n) v).putOn (Obj.SRC_PRESENT n) true) = e at hoff hholdup ⊢
  split
  next heq => exact absurd heq hoff
  next => rw [Dev.when, beq_eq_false_iff_ne.mpr hholdup, Bool.false_and, if_neg Bool.false_ne_true]

theorem sourcePresent_of_holdup (hmode : d.power.mode = .holdup) : d.sourcePresent n v lsrc =
    let e := (d.putF (Obj.SRC_VOLTAGE n) v).putOn (Obj.SRC_PRESENT n) true
    if F32.lt ((shown e n).f Obj.STORE_VOLTAGE) (F32.ofInt 3) then shown e n else (shown e n).holdupRestart lsrc := by
  have hheld : ((d.putF (Obj.SRC_VOLTAGE n) v).putOn (Obj.SRC_PRESENT n) true).power.mode = .holdup := hmode
  rw [sourcePresent_of_absent hfit habsent]
  simp only [wakeEvent_of_unwakeable (.inr hheld), ite_self, hheld, beq_self_eq_true, Bool.true_and, Dev.when]
  cases F32.lt ((shown ((d.putF (Obj.SRC_VOLTAGE n) v).putOn (Obj.SRC_PRESENT n) true) n).f Obj.STORE_VOLTAGE) (F32.ofInt 3)
  · rfl
  · rfl

end
end
end

/-! ### A source goes -/

section
variable {n : Fin 4} {v : F32}

theorem sourceGone_of_absent (habsent : (d.putF (Obj.SRC_VOLTAGE n) v).present n = false) :
    d.sourceGone n v = d.putF (Obj.SRC_VOLTAGE n) v := by
  simp only [Dev.sourceGone, habsent, Bool.not_false, if_true]

/-- The device once the loss of a source is shown (R402). -/
def goneShown (d : Dev) (n : Fin 4) (v : F32) : Dev :=
  ((d.putF (Obj.SRC_VOLTAGE n) v).putOn (Obj.SRC_PRESENT n) false).flagRaise Obj.PWR_FLAGS 0 0x1002 (u8 n)

theorem goneShown_power : (goneShown d n v).power = d.power := by
  rw [goneShown, Dev.flagRaise_power, Dev.putOn_power, Dev.putF_power]

theorem goneShown_start : (goneShown d n v).start = d.start := by
  rw [goneShown, Dev.flagRaise_start, Dev.putOn_start, Dev.putF_start]

section
variable (hpresent : (d.putF (Obj.SRC_VOLTAGE n) v).present n = true)
include hpresent

theorem sourceGone_of_off (hoff : d.power.mode = .off) : d.sourceGone n v =
    let gone := (d.putF (Obj.SRC_VOLTAGE n) v).putOn (Obj.SRC_PRESENT n) false
    if gone.anySource then gone else gone.setPower fun p => { p with lostAt := d.course.elapsed } := by
  have hmode : ((d.putF (Obj.SRC_VOLTAGE n) v).putOn (Obj.SRC_PRESENT n) false).power.mode = .off := hoff
  simp only [Dev.sourceGone, hpresent, Bool.not_true, Bool.false_eq_true, if_false, hmode, if_true, Dev.when]
  cases ((d.putF (Obj.SRC_VOLTAGE n) v).putOn (Obj.SRC_PRESENT n) false).anySource
  · rfl
  · rfl

section
variable (hon : d.power.mode ≠ .off)
include hon

theorem sourceGone_of_on : d.sourceGone n v =
    if (goneShown d n v).anySource then (if n = 0 then (goneShown d n v).wakeEvent 6 else goneShown d n v).checkCeiling
    else
      let f := (goneShown d n v).setPower fun p => { p with lostAt := (goneShown d n v).course.elapsed }
      if d.start.recovered = true ∧ d.power.mode ≠ .holdup then f.enterHoldup else f := by
  have hmode : ((d.putF (Obj.SRC_VOLTAGE n) v).putOn (Obj.SRC_PRESENT n) false).power.mode ≠ .off := hon
  have hshown : ((d.putF (Obj.SRC_VOLTAGE n) v).putOn (Obj.SRC_PRESENT n) false).flagRaise Obj.PWR_FLAGS 0 0x1002 (u8 n) =
      goneShown d n v := rfl
  have hzero : (n.val == 0) = true ↔ n = 0 := beq_iff_eq.trans ⟨fun h => Fin.ext h, fun h => congrArg Fin.val h⟩
  simp only [Dev.sourceGone, hpresent, Bool.not_true, Bool.false_eq_true, if_false, if_neg hmode, hshown, Dev.when, hzero,
    Dev.setPower_start, Dev.setPower_power, goneShown_start, goneShown_power, Bool.and_eq_true, decide_eq_true_eq]

theorem sourceGone_of_others (hother : (goneShown d n v).anySource = true) :
    d.sourceGone n v = (if n = 0 then (goneShown d n v).wakeEvent 6 else goneShown d n v).checkCeiling := by
  rw [sourceGone_of_on hpresent hon, if_pos hother]

theorem sourceGone_of_last (hnone : (goneShown d n v).anySource = false) (hrecovered : d.start.recovered = true)
    (hholdup : d.power.mode ≠ .holdup) : d.sourceGone n v =
      ((goneShown d n v).setPower fun p => { p with lostAt := (goneShown d n v).course.elapsed }).enterHoldup := by
  rw [sourceGone_of_on hpresent hon, hnone, if_neg Bool.false_ne_true]
  exact if_pos ⟨hrecovered, hholdup⟩

theorem sourceGone_of_waiting (hnone : (goneShown d n v).anySource = false)
    (hwaits : d.start.recovered = false ∨ d.power.mode = .holdup) : d.sourceGone n v =
      (goneShown d n v).setPower fun p => { p with lostAt := (goneShown d n v).course.elapsed } := by
  rw [sourceGone_of_on hpresent hon, hnone, if_neg Bool.false_ne_true]
  exact if_neg fun h => hwaits.elim (fun hnot => Bool.false_ne_true (hnot.symm.trans h.1)) h.2

end
end
end

/-! ### The store runs out, and the buttons in OFF -/

theorem storeExhausted_of_holdup (hnone : d.anySource = false) (hmode : d.power.mode = .holdup) : d.storeExhausted = d.enterOff := by
  rw [Dev.storeExhausted, hnone, if_neg Bool.false_ne_true, hmode]

theorem storeExhausted_of_start (hnone : d.anySource = false) (hmode : d.power.mode = .on) (hrecovered : d.start.recovered = false) :
    d.storeExhausted = d.enterOff := by
  simp only [Dev.storeExhausted, hnone, hmode, hrecovered, Bool.false_eq_true, if_false]

theorem storeExhausted_of_source (hsome : d.anySource = true) : d.storeExhausted = d := if_pos hsome

theorem offButtons_of_off (hmode : d.power.mode = .off) (hsome : d.anySource = true) : d.offButtons = d.coldStart :=
  if_pos (by rw [hsome, decide_eq_true hmode]; rfl)

theorem excLean_of_lean (hlean : d.u Obj.PROFILE_ACTIVE = 2) (current : F32) :
    let e := d.putF Obj.XDAC_CURRENT current
    let iexc := F32.div (F32.ofInt ((List.range 4).map fun n => iexcMicroamps (e.u (Obj.IEXC_LEVEL n))).sum) (F32.ofInt 1000)
    let total := F32.add iexc current
    d.excLean current = if F32.lt (F32.ofRat 12 10) total then e.flagRaise Obj.PWR_FLAGS 8 0x100C (f32b total) else e := by
  have hyes : d.lean = true := beq_iff_eq.mpr hlean
  simp only [Dev.excLean, hyes, Bool.not_true, Bool.false_eq_true, if_false, Dev.when]

end

/-- Settles O40: each change of presence by the equation of its case. -/
theorem supplyCommands : Obligations.SupplyCommands := by
  unfold Obligations.SupplyCommands
  refine ⟨fun s => ⟨fun n v lsrc => ⟨fun hfit => ?unfit, fun hfit hpresent => ?present, fun hfit habsent hoff hnone hlong => ?cold,
      fun hfit habsent hoff hnot => ?offStays, fun hfit habsent hoff hholdup => ?powered,
      fun hfit habsent hmode => ⟨fun hlow => ?low, fun hhigh => ?restart⟩⟩,
    fun n v => ⟨fun habsent => ?absent, fun hpresent hoff hother => ?offOther, fun hpresent hoff hnone => ?offLast,
      fun hpresent hon hother => ?other, fun hpresent hon hnone hrecovered hholdup => ?last,
      fun hpresent hon hnone hwaits => ?waits⟩,
    fun hnone hmode => ?exhausted, fun hnone hmode hrecovered => ?start, fun hsome => ?source, ?limit, fun hmode hsome => ?button⟩,
    fun s current hlean => ⟨fun hover => ?above, fun hunder => ?below⟩⟩
  case unfit => exact becomes_of_act _ rfl (sourcePresent_of_unfit hfit)
  case present => exact becomes_of_act _ rfl (sourcePresent_of_present hfit hpresent)
  case cold =>
    refine becomes_of_act _ rfl ((sourcePresent_of_off hfit habsent hoff).trans (if_pos ?_))
    rw [hnone, decide_eq_true hlong]
    rfl
  case offStays =>
    refine becomes_of_act _ rfl ((sourcePresent_of_off hfit habsent hoff).trans (if_neg ?_))
    rw [Bool.and_eq_true, Bool.not_eq_true', decide_eq_true_eq]
    rintro ⟨hnone, hlong⟩
    exact hnot.elim (fun hsome => Bool.false_ne_true (hnone.symm.trans hsome)) (Nat.not_lt.mpr hlong)
  case powered => exact becomes_of_act _ rfl (sourcePresent_of_powered hfit habsent hoff hholdup)
  case low =>
    have hthere : ((s.dev.cleared.putF (Obj.SRC_VOLTAGE n) v).putOn (Obj.SRC_PRESENT n) true).power.mode = .holdup := hmode
    simp only [wakeEvent_of_unwakeable (.inr hthere), ite_self] at hlow ⊢
    exact becomes_of_act _ rfl ((sourcePresent_of_holdup hfit habsent hmode).trans (if_pos hlow))
  case restart =>
    have hthere : ((s.dev.cleared.putF (Obj.SRC_VOLTAGE n) v).putOn (Obj.SRC_PRESENT n) true).power.mode = .holdup := hmode
    simp only [wakeEvent_of_unwakeable (.inr hthere), ite_self] at hhigh ⊢
    exact becomes_of_act _ rfl ((sourcePresent_of_holdup hfit habsent hmode).trans (if_neg (Bool.eq_false_iff.mp hhigh)))
  case absent => exact becomes_of_act _ rfl (sourceGone_of_absent habsent)
  case offOther => exact becomes_of_act _ rfl ((sourceGone_of_off hpresent hoff).trans (if_pos hother))
  case offLast => exact becomes_of_act _ rfl ((sourceGone_of_off hpresent hoff).trans (if_neg (Bool.eq_false_iff.mp hnone)))
  case other => exact becomes_of_act _ rfl (sourceGone_of_others hpresent hon hother)
  case last => exact becomes_of_act _ rfl (sourceGone_of_last hpresent hon hnone hrecovered hholdup)
  case waits => exact becomes_of_act _ rfl (sourceGone_of_waiting hpresent hon hnone hwaits)
  case exhausted => exact becomes_of_act _ rfl (storeExhausted_of_holdup hnone hmode)
  case start => exact becomes_of_act _ rfl (storeExhausted_of_start hnone hmode hrecovered)
  case source => exact becomes_of_act _ rfl (storeExhausted_of_source hsome)
  case limit => exact becomes_of_act _ rfl rfl
  case button => exact becomes_of_act _ rfl (offButtons_of_off hmode hsome)
  case above => exact becomes_of_act _ rfl ((excLean_of_lean hlean current).trans (if_pos hover))
  case below => exact becomes_of_act _ rfl ((excLean_of_lean hlean current).trans (if_neg (Bool.eq_false_iff.mp hunder)))

end Sys2Proof.Supply
end

section
/-! PROOFS. The store's test, the stages' damage and the reference check (R453–R455). -/

open Sys2Proof Sys2Proof.Machine

namespace Sys2Proof.Ageing

section
variable {d : Dev}

/-! ### The store's test -/

theorem storeTestStart_of_due (hdue : d.storeTestDue = true) (hidle : d.thermal.storeTest = false) (hgoing : d.stopped = false)
    (hcharged : F32.lt (d.f Obj.STORE_VOLTAGE) (F32.ofRat 490 100) = false) (hgroup : d.ledger.group = none)
    (hlevel : d.thermal.level = 0) : d.storeTestStart = d.setThermal fun t => { t with
      storeTest := true, storeDue := false, storeLast := d.course.elapsed } := by
  simp only [Dev.storeTestStart, hdue, hidle, hgoing, hcharged, hgroup, hlevel, Option.isSome_none, Bool.not_true, Bool.or_self,
    ne_eq, not_true_eq_false, decide_false, Bool.false_eq_true, if_false]

theorem storeTestStart_of_not_due (hdue : d.storeTestDue = false) : d.storeTestStart = d := by
  simp only [Dev.storeTestStart, hdue, Bool.not_false, Bool.true_or, if_true]

section
variable (htest : d.thermal.storeTest = true)
include htest

theorem storeTestFailed_of_running (reason : Nat) : d.storeTestFailed reason =
    (d.setThermal fun t => { t with storeTest := false }).flagRaise Obj.THERM_FLAGS 8 0x700A (u8 reason) := by
  rw [Dev.storeTestFailed, htest, if_neg (by decide)]

/-- The capacity that a test finds (R453). -/
def storeC (d : Dev) (dt : F32) : F32 := F32.div (F32.mul (F32.ofInt (d.u Obj.STORE_TEST_CURRENT)) dt) (F32.ofRat 20 100)

/-- The series resistance that a test finds (R453). -/
def storeEsr (d : Dev) (step : F32) : F32 := F32.div (F32.mul step (F32.ofInt 1000)) (F32.ofInt (d.u Obj.STORE_TEST_CURRENT))

/-- What a test finds is plausible (R453). -/
def storeGood (d : Dev) (step dt : F32) : Bool := F32.le (F32.ofInt 20) (storeC d dt) && F32.le (storeC d dt) (F32.ofInt 600) &&
  F32.le F32.zero (storeEsr d step) && F32.le (storeEsr d step) (F32.ofInt 10)

variable {step dt : F32}

theorem storeTestDone_of_long (hlong : F32.lt (F32.ofInt 10) dt = true) : d.storeTestDone step dt =
    (d.setThermal fun t => { t with storeTest := false }).flagRaise Obj.THERM_FLAGS 8 0x700A (u8 3) := by
  rw [Dev.storeTestDone, htest, if_neg (by decide)]
  exact (if_pos hlong).trans (storeTestFailed_of_running htest 3)

theorem storeTestDone_of_implausible (hshort : F32.lt (F32.ofInt 10) dt = false) (hbad : storeGood d step dt = false) :
    d.storeTestDone step dt = (d.setThermal fun t => { t with storeTest := false }).flagRaise Obj.THERM_FLAGS 8 0x700A (u8 4) := by
  rw [Dev.storeTestDone, htest, if_neg (by decide)]
  refine (if_neg (Bool.eq_false_iff.mp hshort)).trans ((if_pos ?_).trans (storeTestFailed_of_running htest 4))
  rw [Bool.not_eq_true']
  exact hbad

theorem storeTestDone_of_plausible (hshort : F32.lt (F32.ofInt 10) dt = false) (hgood : storeGood d step dt = true) :
    let f := (((d.setThermal fun t => { t with storeTest := false }).putF Obj.STORE_ESR (storeEsr d step)).putF Obj.STORE_C
      (storeC d dt)).putF Obj.STORE_C_LOW (F32.mul (F32.ofRat 95 100) (storeC d dt))
    let g := f.put Obj.STORE_TEST_LAST f.courseNs
    d.storeTestDone step dt =
      g.bufferInternal .values (g.snapshot [Obj.STORE_ESR, Obj.STORE_C, Obj.STORE_C_LOW, Obj.STORE_TEST_LAST]) := by
  rw [Dev.storeTestDone, htest, if_neg (by decide)]
  refine (if_neg (Bool.eq_false_iff.mp hshort)).trans (if_neg ?_)
  rw [Bool.not_eq_true', Bool.not_eq_false]
  exact hgood

end

/-! ### The stages' damage -/

theorem stageDamage_of_powered (hmode : d.power.mode ≠ .off) :
    let a := d.damageStage 6 Obj.STAGE_DAMAGE_LOOP Obj.STAGE_CYCLES_LOOP d.thermal.loopSwing
    let b := a.1.damageStage 7 Obj.STAGE_DAMAGE_ACT Obj.STAGE_CYCLES_ACT d.thermal.actSwing
    let e := b.1.setThermal fun t => { t with loopSwing := a.2, actSwing := b.2 }
    d.stageDamage = if 1 ≤ e.thermal.level then e.bump Obj.THROTTLE_TIME else e := by
  intro a b e
  rw [Dev.stageDamage, if_neg hmode]
  exact if_congr decide_eq_true_iff rfl rfl

/-! ### The reference check -/

/-- A reference check can be judged where one of its own ran, in SERVICE, or where a converter has no table (R455). -/
def referenceAble (d : Dev) : Prop := d.thermal.refRun ≠ none ∨ d.device.state = .service ∨ ∃ n : Fin 4, d.u (Obj.SEQ_CTRL n) = 0

theorem referenceAble_iff : (d.thermal.refRun.isSome || (List.range 4).any (fun n => d.u (Obj.SEQ_CTRL n) == 0) ||
    d.device.state == .service) = true ↔ referenceAble d := by
  have hany : ((List.range 4).any fun n => d.u (Obj.SEQ_CTRL n) == 0) = true ↔ ∃ n : Fin 4, d.u (Obj.SEQ_CTRL n) = 0 := by
    rw [List.any_eq_true]
    constructor
    · rintro ⟨n, hn, hzero⟩
      exact ⟨⟨n, List.mem_range.mp hn⟩, beq_iff_eq.mp hzero⟩
    · rintro ⟨n, hzero⟩
      exact ⟨n, List.mem_range.mpr n.isLt, beq_iff_eq.mpr hzero⟩
  rw [Bool.or_eq_true, Bool.or_eq_true, Option.isSome_iff_ne_none, hany, beq_iff_eq, referenceAble, or_assoc, or_comm (a := ∃ n, _)]

/-- The device once a reference check is judged (R455): at the end of its run, over, its drift in the history. -/
def referenceJudged (d : Dev) (mean : F32) : Dev :=
  ((match d.thermal.refRun with | some r => d.advanceTo (r.2 + 13107536) | none => d).setThermal fun t => { t with
    reference := false, refRun := none }).appendAge 8
      (F64.mul (F64.nat 1000000) (F64.sub (F64.div (F64.ofF32 mean) (F64.ofF32 Config.referenceFactory)) (F64.nat 1)))

theorem referenceDone_of_not {mean : F32} (h : d.thermal.reference = false ∨ ¬referenceAble d) : d.referenceDone mean = d := by
  refine if_pos ?_
  rw [Bool.or_eq_true, Bool.not_eq_true', Bool.not_eq_true']
  exact h.imp_right fun hnot => Bool.eq_false_iff.mpr (mt referenceAble_iff.mp hnot)

section
variable {mean : F32} (hreference : d.thermal.reference = true) (hable : referenceAble d)
include hreference hable

theorem referenceDone_of_able : d.referenceDone mean = match (referenceJudged d mean).xcheck.comparison with
    | some m => (referenceJudged d mean).when ((referenceJudged d mean).xcheck.spare == some m.b) (Dev.shadowAgain m.seat)
    | none => referenceJudged d mean := by
  have hgo : ¬(!d.thermal.reference || !(d.thermal.refRun.isSome || (List.range 4).any (fun n => d.u (Obj.SEQ_CTRL n) == 0) ||
      d.device.state == .service)) = true := by
    rw [referenceAble_iff.mpr hable, hreference]
    decide
  exact if_neg hgo

theorem referenceDone_of_shadow {m : Comparison} (hcomparison : (referenceJudged d mean).xcheck.comparison = some m)
    (hspare : (referenceJudged d mean).xcheck.spare = some m.b) : d.referenceDone mean = (referenceJudged d mean).shadowAgain m.seat := by
  rw [referenceDone_of_able hreference hable, hcomparison]
  exact if_pos (beq_iff_eq.mpr hspare)

theorem referenceDone_of_no_shadow
    (hnone : ∀ m, (referenceJudged d mean).xcheck.comparison = some m → (referenceJudged d mean).xcheck.spare ≠ some m.b) :
    d.referenceDone mean = referenceJudged d mean := by
  rw [referenceDone_of_able hreference hable]
  split
  next m hcomparison => exact if_neg fun h => hnone m hcomparison (beq_iff_eq.mp h)
  next => rfl

end
end

/-- Settles O45: each command by the equation of its case. -/
theorem ageingCommands : Obligations.AgeingCommands := by
  unfold Obligations.AgeingCommands
  refine fun s => ⟨fun hdue hidle hgoing hcharged hgroup hlevel => ?start, fun hdue => ?notDue,
    fun step dt htest => ⟨fun hlong => ?long, fun hshort hbad => ?implausible, fun hshort hgood => ?plausible⟩,
    fun htest => ?timeout, fun hmode => ?damage,
    fun mean => ⟨fun hreference hable => ⟨fun m hcomparison hspare => ?shadow, fun hnone => ?judged⟩, fun hnot => ?unable⟩⟩
  case start => exact becomes_of_act _ rfl (storeTestStart_of_due hdue hidle hgoing hcharged hgroup hlevel)
  case notDue => exact becomes_of_act _ rfl (storeTestStart_of_not_due hdue)
  case long => exact becomes_of_act _ rfl (storeTestDone_of_long htest hlong)
  case implausible => exact becomes_of_act _ rfl (storeTestDone_of_implausible htest hshort hbad)
  case plausible => exact becomes_of_act _ rfl (storeTestDone_of_plausible htest hshort hgood)
  case timeout => exact becomes_of_act _ rfl (storeTestFailed_of_running htest 3)
  case damage => exact becomes_of_act _ rfl (stageDamage_of_powered hmode)
  case shadow => exact becomes_of_act _ rfl (referenceDone_of_shadow hreference hable hcomparison hspare)
  case judged => exact becomes_of_act _ rfl (referenceDone_of_no_shadow hreference hable hnone)
  case unable => exact becomes_of_act _ rfl (referenceDone_of_not hnot)

end Sys2Proof.Ageing
end

section
/-! PROOFS. Downloads and their verdicts, the debug port, and attestation (R464, R465, R468, R472–R474, R480, R481). -/

open Sys2Proof Sys2Proof.Machine

namespace Sys2Proof.Downloads

section
variable {d : Dev}

/-! ### The check of a download -/

theorem loadVerifyDone_of_idle (hidle : d.security.load ≠ .verifying) (instant : Nat) : d.loadVerifyDone instant = d := if_pos hidle

/-- The device at the end of the check of a download (R465): within a second of its start. -/
def verified (d : Dev) (instant : Nat) : Dev := d.advanceTo (min instant (d.security.verifyAt + 65536000))

theorem loadVerifyDone_of_verifying (hload : d.security.load = .verifying) (instant : Nat) :
    let e := verified d instant
    let v := e.loadFinding
    let ok := e.setSecurity fun x => { x with load := .valid, loadReason := 0 }
    d.loadVerifyDone instant =
      if v.reason ≠ 0 then (e.setSecurity fun x => { x with load := .invalid, loadReason := v.reason }).flagRaise Obj.SEC_FLAGS 4 0x8005
        (u8 e.security.loadTarget ++ u8 v.reason)
      else match e.security.loadTarget with
        | 0 => (ok.setImage e.security.loadSlot fun _ => ⟨true, v.rev, v.secVersion⟩).put
          (if e.security.loadSlot = 0 then Obj.IMAGE_REV_0 else Obj.IMAGE_REV_1) v.rev
        | 1 => ok.setBundle e.security.loadSlot fun _ => ⟨true, v.rev, v.records⟩
        | _ => ok.debugUnlock v.lifetime := by
  rw [verified, ← Entries.secTicks_eq]
  exact if_neg (not_not.mpr hload)

section
variable {instant : Nat} (hload : d.security.load = .verifying)
include hload

theorem loadVerifyDone_of_reason (hreason : (verified d instant).loadFinding.reason ≠ 0) : d.loadVerifyDone instant =
    ((verified d instant).setSecurity fun x => { x with
      load := .invalid, loadReason := (verified d instant).loadFinding.reason }).flagRaise Obj.SEC_FLAGS 4 0x8005
        (u8 (verified d instant).security.loadTarget ++ u8 (verified d instant).loadFinding.reason) :=
  (loadVerifyDone_of_verifying hload instant).trans (if_pos hreason)

section
variable (hfine : (verified d instant).loadFinding.reason = 0)
include hfine

theorem loadVerifyDone_of_fine : d.loadVerifyDone instant =
    let e := verified d instant
    let v := e.loadFinding
    let ok := e.setSecurity fun x => { x with load := .valid, loadReason := 0 }
    match e.security.loadTarget with
    | 0 => (ok.setImage e.security.loadSlot fun _ => ⟨true, v.rev, v.secVersion⟩).put
      (if e.security.loadSlot = 0 then Obj.IMAGE_REV_0 else Obj.IMAGE_REV_1) v.rev
    | 1 => ok.setBundle e.security.loadSlot fun _ => ⟨true, v.rev, v.records⟩
    | _ => ok.debugUnlock v.lifetime :=
  (loadVerifyDone_of_verifying hload instant).trans (if_neg (not_not.mpr hfine))

theorem loadVerifyDone_of_image (htarget : (verified d instant).security.loadTarget = 0) : d.loadVerifyDone instant =
    (((verified d instant).setSecurity fun x => { x with load := .valid, loadReason := 0 }).setImage
      (verified d instant).security.loadSlot fun _ =>
        ⟨true, (verified d instant).loadFinding.rev, (verified d instant).loadFinding.secVersion⟩).put
      (if (verified d instant).security.loadSlot = 0 then Obj.IMAGE_REV_0 else Obj.IMAGE_REV_1)
      (verified d instant).loadFinding.rev := by
  rw [loadVerifyDone_of_fine hload hfine]
  simp only [htarget]

theorem loadVerifyDone_of_bundle (htarget : (verified d instant).security.loadTarget = 1) : d.loadVerifyDone instant =
    ((verified d instant).setSecurity fun x => { x with load := .valid, loadReason := 0 }).setBundle
      (verified d instant).security.loadSlot fun _ =>
        ⟨true, (verified d instant).loadFinding.rev, (verified d instant).loadFinding.records⟩ := by
  rw [loadVerifyDone_of_fine hload hfine]
  simp only [htarget]

theorem loadVerifyDone_of_token (htarget : 2 ≤ (verified d instant).security.loadTarget) : d.loadVerifyDone instant =
    ((verified d instant).setSecurity fun x => { x with load := .valid, loadReason := 0 }).debugUnlock
      (verified d instant).loadFinding.lifetime := by
  rw [loadVerifyDone_of_fine hload hfine]
  dsimp only
  split
  next hzero => exact absurd htarget (by rw [hzero]; decide)
  next hone => exact absurd htarget (by rw [hone]; decide)
  next => rfl

end
end

/-! ### The debug port -/

theorem debugExpiry_of_unlocked {t : Nat} (huntil : d.security.debugUntil = some t) (hstate : d.u Obj.DEBUG_STATE ≠ 0) :
    d.debugExpiry = (((d.advanceTo t).put Obj.DEBUG_STATE 0).setSecurity fun x => { x with debugUntil := none }).raise 0x8009 [] := by
  rw [Dev.debugExpiry, huntil]
  exact if_neg (by rw [Dev.advanceTo_u]; exact hstate)

theorem debugExpiry_of_none (huntil : d.security.debugUntil = none) : d.debugExpiry = d := by
  rw [Dev.debugExpiry, huntil]

/-! ### The reasons of a component and of a token -/

section
variable (kind : Nat) (c : Component)

/-- The header is one of its kind, and the component and its body have their lengths (R464). -/
def formed : Prop := beAt c.header 0 4 = 0x47534649 ∧ beAt c.header 6 1 = 1 ∧ beAt c.header 4 1 = kind ∧ c.fits = true ∧
  (kind = 4 → c.body.length = 32)

/-- The key is the one whose hash the device holds (R464). -/
def keyed (d : Dev) : Prop :=
  sha256 c.key = if kind = 3 then (d.committed Obj.OEM_KEY_HASH).toBytes 0 else d.b Obj.VENDOR_KEY_HASH

/-- The content is older than the device allows (R468). -/
def outdated (d : Dev) : Prop := (kind ≤ 2 ∧ c.secVersion < d.u Obj.ROLLBACK_COUNT) ∨
  (kind = 3 ∧ c.rev < max (d.u Obj.PERSONALITY_MIN) (d.committed Obj.PERSONALITY_MIN).toNat)

theorem malformed_iff : (beAt c.header 0 4 ≠ 0x47534649 ∨ beAt c.header 6 1 ≠ 1 ∨ beAt c.header 4 1 ≠ kind ∨ (!c.fits) = true ∨
    (kind = 4 ∧ c.body.length ≠ 32)) ↔ ¬formed kind c := by
  rw [formed, not_and_or, not_and_or, not_and_or, not_and_or, Classical.not_imp, Bool.not_eq_true', Bool.not_eq_true]

/-- The reason of a component, each check in its order (R464). -/
theorem componentReason_cases :
    (¬formed kind c ∧ d.componentReason kind c = 1) ∨
    (formed kind c ∧ ¬keyed kind c d ∧ d.componentReason kind c = 2) ∨
    (formed kind c ∧ keyed kind c d ∧ ¬(hssTypesOk c.key c.signature = true ∧ hssVerify c.key c.header c.signature = true) ∧
      (d.componentReason kind c = 3 ∨ d.componentReason kind c = 4)) ∨
    (formed kind c ∧ keyed kind c d ∧ (hssTypesOk c.key c.signature = true ∧ hssVerify c.key c.header c.signature = true) ∧
      ((sha256 c.body ≠ (c.header.drop 32).take 32 ∧ d.componentReason kind c = 5) ∨
        (sha256 c.body = (c.header.drop 32).take 32 ∧ outdated kind c d ∧ d.componentReason kind c = 6) ∨
        (sha256 c.body = (c.header.drop 32).take 32 ∧ ¬outdated kind c d ∧
          (d.componentReason kind c = 7 ∨ d.componentReason kind c = 0)))) := by
  unfold Dev.componentReason
  dsimp only
  by_cases hformed : formed kind c
  · refine .inr ?_
    rw [if_neg (mt (malformed_iff kind c).mp (not_not.mpr hformed))]
    by_cases hkeyed : keyed kind c d
    · refine .inr ?_
      have hkey : ¬sha256 c.key ≠ if kind = 3 then (d.committed Obj.OEM_KEY_HASH).toBytes 0 else d.b Obj.VENDOR_KEY_HASH :=
        not_not.mpr hkeyed
      rw [if_neg hkey]
      by_cases htypes : hssTypesOk c.key c.signature = true
      · rw [if_neg (by rw [htypes]; decide)]
        by_cases hverify : hssVerify c.key c.header c.signature = true
        · refine .inr ⟨hformed, hkeyed, ⟨htypes, hverify⟩, ?_⟩
          rw [if_neg (by rw [hverify]; decide)]
          by_cases hbody : sha256 c.body = (c.header.drop 32).take 32
          · refine .inr ?_
            rw [if_neg (not_not.mpr hbody)]
            by_cases hold : outdated kind c d
            · exact .inl ⟨hbody, hold, if_pos hold⟩
            · refine .inr ⟨hbody, hold, ?_⟩
              have hnew : ¬((kind ≤ 2 ∧ c.secVersion < d.u Obj.ROLLBACK_COUNT) ∨
                (kind = 3 ∧ c.rev < max (d.u Obj.PERSONALITY_MIN) (d.committed Obj.PERSONALITY_MIN).toNat)) := hold
              rw [if_neg hnew]
              exact ite_eq_or_eq _ _ _
          · exact .inl ⟨hbody, if_pos hbody⟩
        · exact .inl ⟨hformed, hkeyed, fun hsigned => hverify hsigned.2,
            .inr (if_pos (by rwa [Bool.not_eq_true', ← Bool.not_eq_true]))⟩
      · exact .inl ⟨hformed, hkeyed, fun hsigned => htypes hsigned.1,
          .inl (if_pos (by rwa [Bool.not_eq_true', ← Bool.not_eq_true]))⟩
    · exact .inl ⟨hformed, hkeyed, if_pos hkeyed⟩
  · exact .inl ⟨hformed, if_pos ((malformed_iff kind c).mpr hformed)⟩

end

theorem tokenReason_of_other {body : List Byte}
    (h : body.take 12 ≠ d.b Obj.SERIAL_NUMBER ∨ (body.drop 12).take 16 ≠ d.b Obj.DEBUG_CHALLENGE) : d.tokenReason body = 10 :=
  if_pos (h.elim .inl fun h => .inr (.inl h))

theorem tokenReason_of_own {body : List Byte} (hserial : body.take 12 = d.b Obj.SERIAL_NUMBER)
    (hchallenge : (body.drop 12).take 16 = d.b Obj.DEBUG_CHALLENGE) (hlow : 1 ≤ beAt body 28 4) (hhigh : beAt body 28 4 ≤ 86400) :
    d.tokenReason body = 0 := by
  refine if_neg ?_
  rintro (h | h | h | h)
  · exact h hserial
  · exact h hchallenge
  · exact Nat.not_lt.mpr hlow h
  · exact Nat.not_lt.mpr hhigh h

/-! ### Attestation -/

theorem attestWindowClose_of_open {n : Nat} (hwindow : d.attestWindow n ≠ 0) (hretired : d.u Obj.IDENTITY_STATE ≠ 3)
    (hidentity : d.u Obj.IDENTITY_STATE ≠ 0) (hopen : d.security.closing = false) (hrecovered : d.start.recovered = true) :
    let e := d.advanceTo ((d.attest n).closed + d.attestWindow n * secTicks)
    d.attestWindowClose n = ((e.setAttest n fun a => { a with closed := e.course.elapsed }).closeWindow false n).sign := by
  simp only [Dev.attestWindowClose, decide_eq_false hwindow, decide_eq_false hretired, decide_eq_false hidentity, hopen, hrecovered,
    Bool.not_true, Bool.or_self, Bool.false_eq_true, if_false]

theorem attestWindowClose_of_none {n : Nat} (hwindow : d.attestWindow n = 0) : d.attestWindowClose n = d := by
  simp only [Dev.attestWindowClose, decide_eq_true hwindow, Bool.true_or, if_true]

theorem bottomTreeReady_of_low (hlow : d.treeLeft < 4096) :
    d.bottomTreeReady = (d.setSecurity fun x => { x with nextTree := true }).sign :=
  if_pos (by rw [decide_eq_true hlow, Bool.true_or])

theorem signatureReady_of_sole {f : SigSet} (hsigs : d.security.sigs = [f]) (hready : f.ready = false)
    (htree : bits f.select 63 56 = 0 ∨ d.security.rebuilding = false) :
    d.signatureReady = d.setSecurity fun x => { x with sigs := [{ f with ready := true }] } := by
  have hfound : (!f.ready && (bits f.select 63 56 == 0 || !d.security.rebuilding)) = true := by
    rw [hready, Bool.not_false, Bool.true_and, Bool.or_eq_true, beq_iff_eq, Bool.not_eq_true']
    exact htree
  simp only [Dev.signatureReady, hsigs, List.find?_cons_of_pos, hfound, Dev.setSecurity, List.map_cons, List.map_nil, if_true]

theorem signatureReady_of_none (hsigs : d.security.sigs = []) : d.signatureReady = d := by
  simp only [Dev.signatureReady, hsigs, List.find?_nil]

end

/-- Settles O46: each command by the equation of its case, the reasons by the order of the checks. -/
theorem downloadAndDebugCommands : Obligations.DownloadAndDebugCommands := by
  unfold Obligations.DownloadAndDebugCommands
  refine ⟨fun s => ⟨fun instant hidle => ?idle,
      fun instant hload => ⟨fun hreason => ?invalid, fun hfine htarget => ?image, fun hfine htarget => ?bundle,
        fun hfine htarget => ?token⟩,
      fun t huntil hstate => ?expiry, fun huntil => ?noExpiry, fun hstate => ?reset, fun hstate => ?noReset⟩,
    fun d kind c => ?reasons, fun d body => ⟨tokenReason_of_other, tokenReason_of_own⟩,
    fun s => ⟨fun n hwindow hretired hidentity hopen hrecovered => ?close, fun n hwindow => ?noWindow, fun hlow => ?tree, ?rebuilt,
      fun f hsigs hready htree => ?ready, fun hsigs => ?notReady⟩⟩
  case idle => exact becomes_of_act _ rfl (loadVerifyDone_of_idle hidle instant)
  case invalid => exact becomes_of_act _ rfl (loadVerifyDone_of_reason hload hreason)
  case image => exact becomes_of_act _ rfl (loadVerifyDone_of_image hload hfine htarget)
  case bundle => exact becomes_of_act _ rfl (loadVerifyDone_of_bundle hload hfine htarget)
  case token => exact becomes_of_act _ rfl (loadVerifyDone_of_token hload hfine htarget)
  case expiry => exact becomes_of_act _ rfl (debugExpiry_of_unlocked huntil hstate)
  case noExpiry => exact becomes_of_act _ rfl (debugExpiry_of_none huntil)
  case reset => exact becomes_of_act (fun d => d.when (d.u Obj.DEBUG_STATE == 1) (Dev.wholeReset 7 0)) rfl (if_pos (beq_iff_eq.mpr hstate))
  case noReset =>
    exact becomes_of_act (fun d => d.when (d.u Obj.DEBUG_STATE == 1) (Dev.wholeReset 7 0)) rfl
      (if_neg fun h => hstate (beq_iff_eq.mp h))
  case reasons =>
    have hcases := componentReason_cases (d := d) kind c
    intro r h isFormed isKeyed isSigned isWhole isOld
    change (¬isFormed ∧ r = 1) ∨ (isFormed ∧ ¬isKeyed ∧ r = 2) ∨ (isFormed ∧ isKeyed ∧ ¬isSigned ∧ (r = 3 ∨ r = 4)) ∨
      (isFormed ∧ isKeyed ∧ isSigned ∧ ((¬isWhole ∧ r = 5) ∨ (isWhole ∧ isOld ∧ r = 6) ∨
        (isWhole ∧ ¬isOld ∧ (r = 7 ∨ r = 0)))) at hcases
    clear_value r isFormed isKeyed isSigned isWhole isOld
    rcases hcases with ⟨hf, hr⟩ | ⟨hf, hk, hr⟩ | ⟨hf, hk, hs, hr⟩ | ⟨hf, hk, hs, ⟨hw, hr⟩ | ⟨hw, ho, hr⟩ | ⟨hw, ho, hr⟩⟩
    all_goals grind
  case close => exact becomes_of_act _ rfl (attestWindowClose_of_open hwindow hretired hidentity hopen hrecovered)
  case noWindow => exact becomes_of_act _ rfl (attestWindowClose_of_none hwindow)
  case tree => exact becomes_of_act _ rfl (bottomTreeReady_of_low hlow)
  case rebuilt => exact becomes_of_act _ rfl rfl
  case ready =>
    have hafter := signatureReady_of_sole (d := s.dev.cleared) hsigs hready htree
    exact after_of_act Dev.signatureReady rfl (hafter ▸ rfl) (hafter ▸ ⟨rfl, rfl⟩)
  case notReady => exact becomes_of_act _ rfl (signatureReady_of_none hsigs)

end Sys2Proof.Downloads
end

section
/-! PROOFS. The steps of a start and the cause that it reports (R462, R485, R489, R490). -/

open Sys2Proof Sys2Proof.Machine

namespace Sys2Proof.Startup

section
variable {d : Dev}

/-! ### The steps -/

theorem supplyValid_of_supply (hphase : d.start.phase = .supply) (lsrc : Bool) (address : Nat) :
    let e := (d.setOutputs fun o => { o with source := lsrc }).setStart fun x => { x with
      phase := .verify, supply := d.course.elapsed, address := address }
    d.supplyValid lsrc address = (e.putB Obj.DEBUG_CHALLENGE (e.random 16)).tickFresh :=
  if_neg (not_not.mpr hphase)

theorem supplyValid_of_other (hphase : d.start.phase ≠ .supply) (lsrc : Bool) (address : Nat) : d.supplyValid lsrc address = d :=
  if_pos hphase

/-- The device once the boot has noted what its slots hold (R462). -/
def slotsNoted (d : Dev) (f : BootFindings) : Dev :=
  let a := d.put Obj.ROLLBACK_COUNT d.security.fuses
  (if a.security.onTrial = true then
    (a.setSecurity fun x => { x with onTrial := false }).flagRaise Obj.SEC_FLAGS 1 0x8002 [] else a).noteSlots f

/-- The device once the boot has tried its slots (R462). -/
def slotsTried (d : Dev) (f : BootFindings) : Dev :=
  ((slotsNoted d f).trySlots f (slotsNoted d f).security.bootOrder).1.setSecurity fun x => { x with trialSlot := none }

section
variable {f : BootFindings} (hphase : d.start.phase = .verify) (hrom : d.security.romLoader = false)
include hphase hrom

theorem bootVerifyDone_of_verify : d.bootVerifyDone f = match ((slotsNoted d f).trySlots f (slotsNoted d f).security.bootOrder).2 with
    | none => (slotsTried d f).setSecurity fun s => { s with romLoader := true }
    | some slot => ((((((slotsTried d f).setSecurity fun s => { s with
        runningSlot := slot, onTrial := decide ((slotsNoted d f).security.trialSlot = some slot) }).put
          Obj.FIRMWARE_REV (imageFinding f slot).rev.toNat).bootBundle f).setStart fun s => { s with
            phase := .energy, detail := if s.cause = 5 then slot else s.detail })).reportBefore := by
  refine if_neg ?_
  rw [hrom, decide_eq_false (not_not.mpr hphase)]
  decide

theorem bootVerifyDone_of_none (hslot : ((slotsNoted d f).trySlots f (slotsNoted d f).security.bootOrder).2 = none) :
    d.bootVerifyDone f = (slotsTried d f).setSecurity fun s => { s with romLoader := true } := by
  rw [bootVerifyDone_of_verify hphase hrom, hslot]

theorem bootVerifyDone_of_slot {slot : Nat}
    (hslot : ((slotsNoted d f).trySlots f (slotsNoted d f).security.bootOrder).2 = some slot) : d.bootVerifyDone f =
      ((((((slotsTried d f).setSecurity fun s => { s with
        runningSlot := slot, onTrial := decide ((slotsNoted d f).security.trialSlot = some slot) }).put
          Obj.FIRMWARE_REV (imageFinding f slot).rev.toNat).bootBundle f).setStart fun s => { s with
            phase := .energy, detail := if s.cause = 5 then slot else s.detail })).reportBefore := by
  rw [bootVerifyDone_of_verify hphase hrom, hslot]

end

section
variable {v : F32}

theorem storeEnergyReady_of_enough (hphase : d.start.phase = .energy)
    (henough : F32.lt (F32.mul (F32.mul (F32.ofRat 1 2) (F32.ofInt 35)) (F32.sub (F32.mul v v) (F32.ofInt 9))) (energyNeeded 32) =
      false) : d.storeEnergyReady v = (d.putF Obj.STORE_VOLTAGE v).setStart fun x => { x with phase := .recovery } := by
  refine if_neg ?_
  rw [henough, decide_eq_false (not_not.mpr hphase)]
  decide

theorem storeEnergyReady_of_low
    (hlow : F32.lt (F32.mul (F32.mul (F32.ofRat 1 2) (F32.ofInt 35)) (F32.sub (F32.mul v v) (F32.ofInt 9))) (energyNeeded 32) =
      true) : d.storeEnergyReady v = d := by
  refine if_pos ?_
  rw [hlow, Bool.or_true]

end

theorem recoveryDone_of_recovery (hphase : d.start.phase = .recovery) (f : RecoveryFindings) :
    let a := (d.recoverStore f).loadPersistent.retireKnown.countPages.assignFrames.startCourse.rebuildStreams.rebuildCatchId
    let b := (d.enabledByRecovery f).foldl (fun d u => d.startRecovered u) a
    let c := b.releaseHeld.reportCause.raisePersonalityMin.restartIndices.baseAssign.setStart fun x => { x with phase := .load }
    d.recoveryDone f = if c.anySource = false ∧ c.start.supply < c.power.lostAt then c.enterHoldup else c := by
  intro a b c
  refine (if_neg (not_not.mpr hphase)).trans (if_congr ?_ rfl rfl)
  rw [Bool.and_eq_true, Bool.not_eq_true', decide_eq_true_eq]

theorem recoveryDone_of_other (hphase : d.start.phase ≠ .recovery) (f : RecoveryFindings) : d.recoveryDone f = d := if_pos hphase

theorem configLoaded_of_load (hphase : d.start.phase = .load) :
    let a := (d.setStart fun x => { x with configured := true }).setDevice fun v => { v with appRunning := true }
    let b := (a.putOn Obj.MULTIDROP (a.u Obj.HART_LOOP_MODE == 0)).startProfile.runConfiguration.refreshAddresses.reservePublications
    d.configLoaded = if b.start.holdup = true
      then ((b.setPower fun p => { p with mode := .on }).resumeStrokes.wakeSucceeded.restartDomain.startChecks).setStart fun x => { x with
        phase := .ready }
      else (b.startChecks.setStart fun x => { x with phase := .calibrate }).nextStartCal b.startChecks.startCalList :=
  if_neg (not_not.mpr hphase)

theorem configLoaded_of_other (hphase : d.start.phase ≠ .load) : d.configLoaded = d := if_pos hphase

/-! ### The cause of a start (R485) -/

/-- A start's registers of its cause, before the loop count is looked at. -/
def causeShown (d : Dev) : Dev :=
  let a := ((((d.put Obj.RESET_CAUSE d.start.cause).put Obj.RESET_DETAIL d.start.detail).bump Obj.RESET_COUNT).noteReset)
  (a.bufferInternal .values [Obj.RESET_COUNT.write (a.u Obj.RESET_COUNT), Obj.RESET_HISTORY.writeB (a.b Obj.RESET_HISTORY)]).put
    Obj.RESET_LOOP_COUNT (min 255 d.start.loopCount)

theorem bufferInternal_u (on : OnSeal) (copies : List Write) (q : Reg) : (d.bufferInternal on copies).u q = d.u q := rfl

theorem noteReset_u {q : Reg} (hq : q.key ≠ Obj.RESET_HISTORY.key) : d.noteReset.u q = d.u q :=
  congrArg Value.toNat (Dev.set_get_ne _ _ _ _ hq)

section
variable {q : Reg} (hloop : q.key ≠ Obj.RESET_LOOP_COUNT.key) (hhistory : q.key ≠ Obj.RESET_HISTORY.key)
include hloop hhistory

theorem causeShown_u_of_first : (causeShown d).u q =
    (((d.put Obj.RESET_CAUSE d.start.cause).put Obj.RESET_DETAIL d.start.detail).bump Obj.RESET_COUNT).u q := by
  rw [causeShown, Dev.put_u_ne _ _ _ _ hloop, bufferInternal_u, noteReset_u hhistory]

theorem causeShown_u_of_other (hcause : q.key ≠ Obj.RESET_CAUSE.key) (hdetail : q.key ≠ Obj.RESET_DETAIL.key)
    (hcount : q.key ≠ Obj.RESET_COUNT.key) : (causeShown d).u q = d.u q := by
  rw [causeShown_u_of_first hloop hhistory, Dev.bump_u_ne _ _ _ hcount, Dev.put_u_ne _ _ _ _ hdetail, Dev.put_u_ne _ _ _ _ hcause]

end

theorem causeShown_cause (hcause : d.start.cause < 256) : (causeShown d).u Obj.RESET_CAUSE = d.start.cause := by
  rw [causeShown_u_of_first (by decide) (by decide), Dev.bump_u_ne _ _ _ (by decide), Dev.put_u_ne _ _ _ _ (by decide),
    Dev.put_u_self]
  exact Nat.mod_eq_of_lt hcause

theorem causeShown_detail (hdetail : d.start.detail < 65536) : (causeShown d).u Obj.RESET_DETAIL = d.start.detail := by
  rw [causeShown_u_of_first (by decide) (by decide), Dev.bump_u_ne _ _ _ (by decide), Dev.put_u_self]
  exact Nat.mod_eq_of_lt hdetail

theorem causeShown_count : (causeShown d).u Obj.RESET_COUNT = (d.u Obj.RESET_COUNT + 1) % 2 ^ 32 := by
  rw [causeShown_u_of_first (by decide) (by decide), Dev.bump_u_self, Dev.put_u_ne _ _ _ _ (by decide),
    Dev.put_u_ne _ _ _ _ (by decide)]
  rfl

theorem causeShown_loopCount : (causeShown d).u Obj.RESET_LOOP_COUNT = min 255 d.start.loopCount := by
  rw [causeShown, Dev.put_u_self]
  exact Nat.mod_eq_of_lt (Nat.lt_succ_of_le (Nat.min_le_left _ _))

theorem causeShown_history : (causeShown d).get Obj.RESET_HISTORY =
    .bytes ((u64 d.courseNs ++ u8 d.start.cause ++ u8 0 ++ u16 d.start.detail ++ d.b Obj.RESET_HISTORY).take 96) := by
  have hkept : (((d.put Obj.RESET_CAUSE d.start.cause).put Obj.RESET_DETAIL d.start.detail).bump Obj.RESET_COUNT).b
      Obj.RESET_HISTORY = d.b Obj.RESET_HISTORY := by
    refine congrArg (Value.toBytes Obj.RESET_HISTORY.size) ?_
    exact (Dev.set_get_ne _ _ _ _ (by decide)).trans ((Dev.set_get_ne _ _ _ _ (by decide)).trans
      (Dev.set_get_ne _ _ _ _ (by decide)))
  have hshown : (causeShown d).get Obj.RESET_HISTORY =
      (((d.put Obj.RESET_CAUSE d.start.cause).put Obj.RESET_DETAIL d.start.detail).bump Obj.RESET_COUNT).noteReset.get
        Obj.RESET_HISTORY := Dev.set_get_ne _ _ _ _ (by decide)
  rw [hshown, Dev.noteReset, Dev.putB_get_self, hkept]
  rfl

theorem reportCause_eq : d.reportCause = (causeShown d).when (decide (d.u Obj.RESET_LOOP_LIMIT ≤ d.start.loopCount))
    (Dev.setStart fun s => { s with safeCauses := s.safeCauses ++ [6] }) := by
  have hlimit : (causeShown d).u Obj.RESET_LOOP_LIMIT = d.u Obj.RESET_LOOP_LIMIT :=
    causeShown_u_of_other (by decide) (by decide) (by decide) (by decide) (by decide)
  rw [← hlimit]
  rfl

theorem reportCause_get (q : Reg) : d.reportCause.get q = (causeShown d).get q := by
  rw [reportCause_eq, Dev.when]
  split <;> rfl

theorem reportCause_u (q : Reg) : d.reportCause.u q = (causeShown d).u q := congrArg Value.toNat (reportCause_get q)

theorem reportCause_safeCauses_of_limit (hlimit : d.u Obj.RESET_LOOP_LIMIT ≤ d.start.loopCount) :
    6 ∈ d.reportCause.start.safeCauses := by
  rw [reportCause_eq, decide_eq_true hlimit]
  exact List.mem_append_right _ (List.mem_singleton_self 6)

theorem reportCause_safeCauses_of_below (hbelow : d.start.loopCount < d.u Obj.RESET_LOOP_LIMIT) :
    d.reportCause.start.safeCauses = d.start.safeCauses := by
  rw [reportCause_eq, decide_eq_false (Nat.not_le.mpr hbelow)]
  rfl

end

/-- Settles O48: each step by the equation of its phase, the cause by the registers that a start writes. -/
theorem startCommands : Obligations.StartCommands := by
  unfold Obligations.StartCommands
  refine ⟨fun s => ⟨fun lsrc a hphase => ?supply, fun lsrc a hphase => ?notSupply,
      fun f hphase hrom => ⟨fun hslot => ?noSlot, fun slot hslot => ?slot⟩,
      fun v hphase => ⟨fun henough => ?enough, fun hlow => ?low⟩, fun f hphase => ?recovery, fun f hphase => ?notRecovery,
      fun hphase => ?load, fun hphase => ?notLoad⟩,
    fun d hcause hdetail => ⟨?cause, ?detail, ?count, ?history, ?loopCount, reportCause_safeCauses_of_limit,
      reportCause_safeCauses_of_below⟩⟩
  case supply => exact becomes_of_act _ rfl (supplyValid_of_supply hphase lsrc a.toNat)
  case notSupply => exact becomes_of_act _ rfl (supplyValid_of_other hphase lsrc a.toNat)
  case noSlot => exact becomes_of_act _ rfl (bootVerifyDone_of_none hphase hrom hslot)
  case slot => exact becomes_of_act _ rfl (bootVerifyDone_of_slot hphase hrom hslot)
  case enough => exact becomes_of_act _ rfl (storeEnergyReady_of_enough hphase henough)
  case low => exact becomes_of_act _ rfl (storeEnergyReady_of_low hlow)
  case recovery => exact becomes_of_act _ rfl (recoveryDone_of_recovery hphase f)
  case notRecovery => exact becomes_of_act _ rfl (recoveryDone_of_other hphase f)
  case load => exact becomes_of_act _ rfl (configLoaded_of_load hphase)
  case notLoad => exact becomes_of_act _ rfl (configLoaded_of_other hphase)
  case cause => exact (reportCause_u _).trans (causeShown_cause hcause)
  case detail => exact (reportCause_u _).trans (causeShown_detail hdetail)
  case count => exact (reportCause_u _).trans causeShown_count
  case history => exact (reportCause_get _).trans causeShown_history
  case loopCount => exact (reportCause_u _).trans causeShown_loopCount

end Sys2Proof.Startup
end

section
/-! PROOFS. What an applied write does (R30, R33, R60, R85–R91, R104, R109, R117, R133, R176, R199, R202, R230, R248, R280, R328, R410,
R416, R453, R465–R470, R480, R481, R488): the card of its object, the chapter of its index, and there its own effect. -/

open Sys2Proof Sys2Proof.Machine

namespace Sys2Proof.Effects

/-! ### From a write to the effect of its chapter -/

/-- An object that a write changes at once through the effect of its chapter: no flags, no apply, no subscription, not shadowed. -/
def plain (i k : Nat) : Bool :=
  (match Machine.cardAt i k with | some c => c.access != .RC && c.persist != .PC | none => false) &&
    !actsElsewhere i k && !inFamily 0x5100 16 i

/-- The effect of a write's chapter, by index and subindex. -/
def chapterAt (d : Dev) (rq : Request) (i k : Nat) (v : Value) : Dev :=
  if inFamily 0x1100 16 i then d.courseEffect i k v
  else if inFamily 0x1200 0x80 i then d.powerEffect i k v
  else if i = 0x1280 then d.startEffect rq i k v
  else if inFamily 0x1300 0x100 i then d.thermalEffect i k v
  else if inFamily 0x1400 0x100 i then d.securityEffect rq.via i k v
  else if inFamily 0x1600 0x100 i then d.portEffect i k v
  else if inFamily 0x2000 0x400 i then d.convEffect ((i - 0x2000) / 256) i k v
  else if inFamily 0x2600 0x200 i then d.sharedEffect i k v
  else if inFamily 0x3000 0x400 i then d.captureEffect rq.via i k v
  else if inFamily 0x3400 0x400 i then d.outputEffect rq.via i k v
  else if inFamily 0x3800 0x400 i then d.controlEffect i k v
  else if inFamily 0x5000 0x300 i then d.entryEffect i k v
  else d.setKey ⟨i * 256 + k, v⟩

section
variable {d : Dev} {rq : Request} {key i k : Nat} {v : Value}

theorem key_div (hkey : key = i * 256 + k) (hk : k < 256) : key / 256 = i := by omega

theorem key_mod (hkey : key = i * 256 + k) (hk : k < 256) : key % 256 = k := by omega

theorem exists_card_of_plain (h : plain i k = true) : ∃ c, d.cardAt i k = some c ∧ c.access ≠ .RC ∧ c.persist ≠ .PC := by
  rw [plain, Bool.and_eq_true, Bool.and_eq_true] at h
  obtain ⟨⟨hcard, -⟩, -⟩ := h
  split at hcard
  next c hc =>
    rw [Bool.and_eq_true, bne_iff_ne, bne_iff_ne] at hcard
    exact ⟨c, Requests.cardAt_of_machine hc, hcard⟩
  next => exact absurd hcard Bool.false_ne_true

/-- A write of a plain object has the effect of its chapter. -/
theorem effect_of_plain (hkey : key = i * 256 + k) (hk : k < 256) (hplain : plain i k = true) :
    d.effect rq ⟨key, v⟩ = chapterAt d rq i k v := by
  obtain ⟨c, hc, haccess, hpersist⟩ := exists_card_of_plain (d := d) hplain
  have hdiv := key_div hkey hk
  have hmod := key_mod hkey hk
  rw [plain, Bool.and_eq_true, Bool.and_eq_true, Bool.not_eq_true', Bool.not_eq_true'] at hplain
  obtain ⟨⟨-, hacts⟩, hsub⟩ := hplain
  rw [Dev.effect_of_running d rq ⟨key, v⟩ c (by simp only [hdiv, hmod, hc]) haccess (by simp only [hdiv, hmod, hacts])
    (by simp only [hdiv, hsub]) hpersist]
  simp only [Dev.chapterEffect, chapterAt, hdiv, hmod, ← hkey]

/-- A write that acts on its own way, an apply or a change of state, has no effect of its own. -/
theorem effect_of_elsewhere (hkey : key = i * 256 + k) (hk : k < 256)
    (hcard : ((Machine.cardAt i k).map fun c => c.access != .RC) = some true) (hacts : actsElsewhere i k = true) :
    d.effect rq ⟨key, v⟩ = d := by
  obtain ⟨c, hc, haccess⟩ := Option.map_eq_some_iff.mp hcard
  refine Dev.effect_of_apply d rq ⟨key, v⟩ c ?_ (bne_iff_ne.mp haccess) ?_
  · simp only [key_div hkey hk, key_mod hkey hk, Requests.cardAt_of_machine hc]
  · simp only [key_div hkey hk, key_mod hkey hk, hacts]

/-! ### The chapters -/

theorem inFamily_iff {first n : Nat} : inFamily first n i = true ↔ first ≤ i ∧ i < first + n := by
  rw [inFamily, Bool.and_eq_true, decide_eq_true_eq, decide_eq_true_eq]

theorem inFamily_of_mem {first n : Nat} (h : first ≤ i) (h' : i < first + n) : inFamily first n i = true := inFamily_iff.mpr ⟨h, h'⟩

theorem not_inFamily_of_lt {first n : Nat} (h : i < first) : ¬inFamily first n i = true := fun hmem =>
  absurd (inFamily_iff.mp hmem).1 (Nat.not_le.mpr h)

theorem not_inFamily_of_le {first n : Nat} (h : first + n ≤ i) : ¬inFamily first n i = true := fun hmem =>
  absurd (inFamily_iff.mp hmem).2 (Nat.not_lt.mpr h)

/-- Beyond the chapters of the platform there are those of the converters and what follows them. -/
theorem chapterAt_of_ge (h : 0x1700 ≤ i) : chapterAt d rq i k v =
    if inFamily 0x2000 0x400 i then d.convEffect ((i - 0x2000) / 256) i k v
    else if inFamily 0x2600 0x200 i then d.sharedEffect i k v
    else if inFamily 0x3000 0x400 i then d.captureEffect rq.via i k v
    else if inFamily 0x3400 0x400 i then d.outputEffect rq.via i k v
    else if inFamily 0x3800 0x400 i then d.controlEffect i k v
    else if inFamily 0x5000 0x300 i then d.entryEffect i k v
    else d.setKey ⟨i * 256 + k, v⟩ := by
  rw [chapterAt, if_neg (not_inFamily_of_le (by omega)), if_neg (not_inFamily_of_le (by omega)), if_neg (by omega),
    if_neg (not_inFamily_of_le (by omega)), if_neg (not_inFamily_of_le (by omega)), if_neg (not_inFamily_of_le (by omega))]

theorem chapterAt_of_course (h : 0x1100 ≤ i) (h' : i < 0x1110) : chapterAt d rq i k v = d.courseEffect i k v :=
  if_pos (inFamily_of_mem h h')

theorem chapterAt_of_power (h : 0x1200 ≤ i) (h' : i < 0x1280) : chapterAt d rq i k v = d.powerEffect i k v := by
  rw [chapterAt, if_neg (not_inFamily_of_le (by omega)), if_pos (inFamily_of_mem h h')]

theorem chapterAt_of_start : chapterAt d rq 0x1280 k v = d.startEffect rq 0x1280 k v := by
  rw [chapterAt, if_neg (not_inFamily_of_le (by omega)), if_neg (not_inFamily_of_le (by omega)), if_pos rfl]

theorem chapterAt_of_thermal (h : 0x1300 ≤ i) (h' : i < 0x1400) : chapterAt d rq i k v = d.thermalEffect i k v := by
  rw [chapterAt, if_neg (not_inFamily_of_le (by omega)), if_neg (not_inFamily_of_le (by omega)), if_neg (by omega),
    if_pos (inFamily_of_mem h h')]

theorem chapterAt_of_security (h : 0x1400 ≤ i) (h' : i < 0x1500) : chapterAt d rq i k v = d.securityEffect rq.via i k v := by
  rw [chapterAt, if_neg (not_inFamily_of_le (by omega)), if_neg (not_inFamily_of_le (by omega)), if_neg (by omega),
    if_neg (not_inFamily_of_le (by omega)), if_pos (inFamily_of_mem h h')]

theorem chapterAt_of_conv (h : 0x2000 ≤ i) (h' : i < 0x2400) : chapterAt d rq i k v = d.convEffect ((i - 0x2000) / 256) i k v := by
  rw [chapterAt_of_ge (by omega), if_pos (inFamily_of_mem h h')]

theorem chapterAt_of_shared (h : 0x2600 ≤ i) (h' : i < 0x2800) : chapterAt d rq i k v = d.sharedEffect i k v := by
  rw [chapterAt_of_ge (by omega), if_neg (not_inFamily_of_le (by omega)), if_pos (inFamily_of_mem h h')]

theorem chapterAt_of_capture (h : 0x3000 ≤ i) (h' : i < 0x3400) : chapterAt d rq i k v = d.captureEffect rq.via i k v := by
  rw [chapterAt_of_ge (by omega), if_neg (not_inFamily_of_le (by omega)), if_neg (not_inFamily_of_le (by omega)),
    if_pos (inFamily_of_mem h h')]

theorem chapterAt_of_output (h : 0x3400 ≤ i) (h' : i < 0x3800) : chapterAt d rq i k v = d.outputEffect rq.via i k v := by
  rw [chapterAt_of_ge (by omega), if_neg (not_inFamily_of_le (by omega)), if_neg (not_inFamily_of_le (by omega)),
    if_neg (not_inFamily_of_le (by omega)), if_pos (inFamily_of_mem h h')]

theorem chapterAt_of_control (h : 0x3800 ≤ i) (h' : i < 0x3C00) : chapterAt d rq i k v = d.controlEffect i k v := by
  rw [chapterAt_of_ge (by omega), if_neg (not_inFamily_of_le (by omega)), if_neg (not_inFamily_of_le (by omega)),
    if_neg (not_inFamily_of_le (by omega)), if_neg (not_inFamily_of_le (by omega)), if_pos (inFamily_of_mem h h')]

/-- Between the converters' block and the shared objects, in the engine's block, and beyond the entries, a write is its value. -/
theorem chapterAt_of_value (h : 0x2400 ≤ i ∧ i < 0x2600 ∨ 0x2800 ≤ i ∧ i < 0x3000 ∨ 0x5300 ≤ i) :
    chapterAt d rq i k v = d.setKey ⟨i * 256 + k, v⟩ := by
  have hout : ∀ {first n : Nat}, first + n ≤ i ∨ i < first → ¬inFamily first n i = true := fun h =>
    h.elim not_inFamily_of_le not_inFamily_of_lt
  rw [chapterAt_of_ge (by omega), if_neg (hout (by omega)), if_neg (hout (by omega)), if_neg (hout (by omega)),
    if_neg (hout (by omega)), if_neg (hout (by omega)), if_neg (hout (by omega))]

end

/-! ### The parameter blocks -/

/-- A card that covers none of the indices 0x2A00 to 0x2BFF at a subindex, for its subindices, its range or its end. -/
def outsideBlocks (c : Card) (k : Nat) : Bool :=
  decide (k < c.sub ∨ c.subLast < k ∨ 0x2C00 ≤ c.index ∨ (0 < c.stride ∧ c.index + c.stride * c.count ≤ 0x2A00))

/-- A card that covers all of them at that subindex. -/
def overBlocks (c : Card) (k : Nat) : Bool :=
  decide (c.sub ≤ k ∧ k ≤ c.subLast ∧ c.stride = 1 ∧ c.index ≤ 0x2A00 ∧ 0x2C00 ≤ c.index + c.count)

section
variable {c : Card} {k n : Nat} (hn : n < 512)
include hn

theorem covers_of_outsideBlocks (h : outsideBlocks c k = true) : c.covers (0x2A00 + n) k = false := by
  refine Bool.eq_false_iff.mpr fun hcovers => ?_
  simp only [Card.covers, Bool.and_eq_true, decide_eq_true_eq] at hcovers
  obtain ⟨⟨⟨⟨hindex, -⟩, hcount⟩, hsub⟩, hlast⟩ := hcovers
  rcases of_decide_eq_true h with h | h | h | ⟨hstride, hend⟩
  · exact absurd hsub (Nat.not_le.mpr h)
  · exact absurd hlast (Nat.not_le.mpr h)
  · omega
  · rw [Nat.div_lt_iff_lt_mul hstride, Nat.mul_comm] at hcount
    omega

theorem covers_of_overBlocks (h : overBlocks c k = true) : c.covers (0x2A00 + n) k = true := by
  obtain ⟨hsub, hlast, hstride, hindex, hend⟩ := of_decide_eq_true h
  simp only [Card.covers, hstride, Nat.mod_one, Nat.div_one, Bool.and_eq_true, decide_eq_true_eq]
  refine ⟨⟨⟨⟨?_, trivial⟩, ?_⟩, hsub⟩, hlast⟩
  · omega
  · omega

end

theorem cards_in_or_out_of_blocks : (cards.all fun c => outsideBlocks c 1 || overBlocks c 1) = true := by decide +kernel

theorem cardAt_block {n : Nat} (hn : n < 512) : Machine.cardAt (0x2A00 + n) 1 = Machine.cardAt 0x2A00 1 := by
  refine List.find?_congr fun c hc => ?_
  rcases Bool.or_eq_true_iff.mp (List.all_eq_true.mp cards_in_or_out_of_blocks c hc) with h | h
  · exact (covers_of_outsideBlocks hn h).trans (covers_of_outsideBlocks (n := 0) (by decide) h).symm
  · exact (covers_of_overBlocks hn h).trans (covers_of_overBlocks (n := 0) (by decide) h).symm

theorem plain_block {n : Nat} (hn : n < 512) : plain (0x2A00 + n) 1 = true := by
  have hacts : actsElsewhere (0x2A00 + n) 1 = false := by
    rw [Bool.eq_false_iff]
    simp only [actsElsewhere, ne_eq, Bool.or_eq_true, Bool.and_eq_true, beq_iff_eq]
    omega
  have hsub : inFamily 0x5100 16 (0x2A00 + n) = false := Bool.eq_false_iff.mpr (not_inFamily_of_lt (by omega))
  have hcard : (match Machine.cardAt 0x2A00 1 with | some c => c.access != .RC && c.persist != .PC | none => false) = true := by
    decide +kernel
  rw [plain, hacts, hsub, cardAt_block hn, hcard]
  rfl

end Sys2Proof.Effects
end

section
/-! PROOFS. What an applied write of the conversions and the engine does (R30, R33, R60, R85–R91, R104, R109, R117, R133, R176, R199,
R202). -/

open Sys2Proof Sys2Proof.Machine

namespace Sys2Proof.Effects

section
variable {d : Dev} {rq : Request} {v : Nat}

theorem onOne_one (f : Dev → Dev) : d.onOne (.num 1) f = f d := rfl

/-! ### The converters -/

section
variable {n k : Nat} {x : Value}

/-- A plain write in the block of a converter. -/
theorem effect_of_conv {key : Nat} (hn : n < 4) (hk : k < 256) (hkey : key = 0x200000 + 0x10000 * n + k)
    (hplain : plain (0x2000 + 0x100 * n) k = true) :
    d.effect rq ⟨key, x⟩ = d.convEffect n (0x2000 + 0x100 * n) k x := by
  have hno : (0x2000 + 0x100 * n - 0x2000) / 256 = n := by omega
  rw [effect_of_plain (i := 0x2000 + 0x100 * n) (k := k) (by omega) hk hplain, chapterAt_of_conv (by omega) (by omega), hno]

theorem convEffect_of_block : d.convEffect n (0x2000 + 0x100 * n) k x =
    let stored := d.setKey ⟨(0x2000 + 0x100 * n) * 256 + k, x⟩
    match k with
    | 0x02 => (stored.injChange n).refMonitors
    | 0x32 => d.onOne x (Dev.injRequest n)
    | 0x35 => d.seqCtrl n x.toNat
    | 0x3B => d.onOne x (Dev.seqStart n)
    | 0x43 => d.calRequest n x.toNat
    | 0x50 => stored.entryShared n
    | _ => stored := by
  have hblock : ¬(0x2000 + 0x100 * n) % 256 ≠ 0 := by omega
  exact if_neg hblock

end

theorem seqCtrl_run {n : Nat} (hconfig : d.device.state ≠ .config) (hstarting : d.device.state ≠ .starting) :
    d.seqCtrl n 1 = (d.put (Obj.SEQ_CTRL n) 1).armTable n := by
  rw [Dev.seqCtrl, if_neg (by decide), Dev.when]
  refine if_pos ?_
  rw [Dev.put_device, bne_iff_ne.mpr hconfig, bne_iff_ne.mpr hstarting]
  rfl

section
variable {n : Nat} (hn : n < 4)
include hn

theorem effect_cvMode : d.effect rq ⟨0x200001 + 0x10000 * n, .num v⟩ = d.setKey ⟨0x200001 + 0x10000 * n, .num v⟩ := by
  have hkey : 0x200001 + 0x10000 * n = (0x2000 + 0x100 * n) * 256 + 1 := by omega
  have hplain : ∀ n < 4, plain (0x2000 + 0x100 * n) 1 = true := by decide
  rw [hkey]
  exact (effect_of_conv hn (by decide) (by omega) (hplain n hn)).trans convEffect_of_block

theorem effect_refSel : d.effect rq ⟨0x200002 + 0x10000 * n, .num v⟩ =
    ((d.setKey ⟨0x200002 + 0x10000 * n, .num v⟩).injChange n).refMonitors := by
  have hkey : 0x200002 + 0x10000 * n = (0x2000 + 0x100 * n) * 256 + 2 := by omega
  have hplain : ∀ n < 4, plain (0x2000 + 0x100 * n) 2 = true := by decide
  rw [hkey]
  exact (effect_of_conv hn (by decide) (by omega) (hplain n hn)).trans convEffect_of_block

theorem effect_injRequest : d.effect rq ⟨0x200032 + 0x10000 * n, .num 1⟩ =
    match d.injCheck n with | none => d.injStart n | some f => if f.status = 7 then d.injDrop n else d := by
  have hplain : ∀ n < 4, plain (0x2000 + 0x100 * n) 0x32 = true := by decide
  rw [effect_of_conv hn (k := 0x32) (by decide) (by omega) (hplain n hn), convEffect_of_block]
  simp only [onOne_one, Dev.injRequest, Dev.when, beq_iff_eq]
  all_goals rfl

theorem effect_seqCtrl (x : Nat) : d.effect rq ⟨0x200035 + 0x10000 * n, .num x⟩ = d.seqCtrl n x := by
  have hplain : ∀ n < 4, plain (0x2000 + 0x100 * n) 0x35 = true := by decide
  exact (effect_of_conv hn (k := 0x35) (by decide) (by omega) (hplain n hn)).trans convEffect_of_block

theorem effect_seqStart : d.effect rq ⟨0x20003B + 0x10000 * n, .num 1⟩ = d.trigger n := by
  have hplain : ∀ n < 4, plain (0x2000 + 0x100 * n) 0x3B = true := by decide
  exact (effect_of_conv hn (k := 0x3B) (by decide) (by omega) (hplain n hn)).trans convEffect_of_block

theorem effect_calRequest (hcheck : d.calCheck n v = none) : d.effect rq ⟨0x200043 + 0x10000 * n, .num v⟩ =
    d.calAccept n v (d.u (Obj.CAL_GAIN_MASK n)) := by
  have hplain : ∀ n < 4, plain (0x2000 + 0x100 * n) 0x43 = true := by decide
  rw [effect_of_conv hn (k := 0x43) (by decide) (by omega) (hplain n hn), convEffect_of_block]
  refine if_neg ?_
  have hnone : d.calCheck n (Value.num v).toNat = none := hcheck
  rw [hnone]
  decide

end

/-! ### Course time and the shared objects -/

theorem effect_courseSet : d.effect rq ⟨0x110007, .num v⟩ =
    (d.setCourse (fun c => { c with step := some (.toTime (ticksOfNs v)), arb := false, traced := true })).noteQuality := by
  rw [effect_of_plain (i := 0x1100) (k := 7) (by decide) (by decide) (by decide), chapterAt_of_course (by decide) (by decide)]
  rfl

theorem effect_sourcePrio {n : Nat} (hn : n < 5) :
    d.effect rq ⟨0x110201 + n, .num v⟩ = (d.setKey ⟨0x110201 + n, .num v⟩).reselect := by
  have hkey : 0x110201 + n = 0x1102 * 256 + (1 + n) := by omega
  have hplain : ∀ n < 5, plain 0x1102 (1 + n) = true := by decide
  have hsource : (decide ((0x1102 : Nat) = 0x1102) && inFamily 1 5 (1 + n)) = true := by
    rw [inFamily_of_mem (by omega) (by omega)]
    rfl
  rw [effect_of_plain hkey (by omega) (hplain n hn), chapterAt_of_course (by decide) (by decide), hkey]
  unfold Dev.courseEffect
  exact if_pos (by simpa using hsource)

theorem effect_diagManual : d.effect rq ⟨0x240001, .num v⟩ = d.setKey ⟨0x240001, .num v⟩ :=
  (effect_of_plain (i := 0x2400) (k := 1) rfl (by decide) (by decide)).trans (chapterAt_of_value (by decide))

theorem effect_queueFlush : d.effect rq ⟨0x260007, .num 1⟩ =
    ({ d with queue := { d.queue with words := [] } } : Dev).add Obj.QUEUE_LOST (d.queue.words.filter isResultWord).length := by
  rw [effect_of_plain (i := 0x2600) (k := 7) (by decide) (by decide) (by decide), chapterAt_of_shared (by decide) (by decide)]
  rfl

theorem effect_unretire : d.effect rq ⟨0x270011, .num v⟩ = d.unretireWrite v := by
  rw [effect_of_plain (i := 0x2700) (k := 0x11) (by decide) (by decide) (by decide),
    chapterAt_of_shared (by decide) (by decide)]
  rfl

theorem effect_stRequest (hcheck : d.stCheck v = none) : d.effect rq ⟨0x270012, .num v⟩ = d.stRequest v := by
  rw [effect_of_plain (i := 0x2700) (k := 0x12) (by decide) (by decide) (by decide),
    chapterAt_of_shared (by decide) (by decide)]
  have hnone : d.stCheck (Value.num v).toNat = none := hcheck
  refine if_neg ?_
  rw [hnone]
  decide

theorem effect_paramBlock {n : Nat} (hn : n < 512) (b : List Byte) :
    d.effect rq ⟨0x2A0001 + 0x100 * n, .bytes b⟩ = d.setKey ⟨0x2A0001 + 0x100 * n, .bytes b⟩ := by
  have hkey : 0x2A0001 + 0x100 * n = (0x2A00 + n) * 256 + 1 := by omega
  rw [effect_of_plain hkey (by decide) (plain_block hn), chapterAt_of_value (by omega), hkey]

/-! ### Capture -/

section
variable {k : Nat} {x : Value}

/-- A plain write of capture. -/
theorem effect_of_capture {i key : Nat} (hkey : key = i * 256 + k) (hk : k < 256) (h : 0x3000 ≤ i) (h' : i < 0x3400)
    (hplain : plain i k = true) : d.effect rq ⟨key, x⟩ = d.captureEffect rq.via i k x :=
  (effect_of_plain hkey hk hplain).trans (chapterAt_of_capture h h')

end

theorem effect_catchEnable {n : Nat} (hn : n < 8) :
    d.effect rq ⟨0x310001 + 0x100 * n, .num v⟩ = (d.setKey ⟨0x310001 + 0x100 * n, .num v⟩).entrySumsAgain := by
  have hkey : 0x310001 + 0x100 * n = (0x3100 + n) * 256 + 1 := by omega
  have hplain : ∀ n < 8, plain (0x3100 + n) 1 = true := by decide
  have hblock : inFamily 0x3100 8 (0x3100 + n) = true := inFamily_of_mem (by omega) (by omega)
  rw [effect_of_capture hkey (by decide) (by omega) (by omega) (hplain n hn), hkey]
  unfold Dev.captureEffect
  split
  any_goals omega
  rw [hblock]
  rfl

theorem effect_fetchCatch {h : HeldCatch} (hheld : d.heldCatch v = some h) :
    d.effect rq ⟨0x320001, .num v⟩ = d.setFetch ⟨rq.via, v, h.channel, 0⟩ := by
  rw [effect_of_capture (i := 0x3200) (k := 1) (by decide) (by decide) (by decide) (by decide) (by decide)]
  have hfetch : d.fetchCatch rq.via v = d.setFetch ⟨rq.via, v, h.channel, 0⟩ := by rw [Dev.fetchCatch, hheld]
  exact hfetch

theorem effect_fetchChannel : d.effect rq ⟨0x320002, .num v⟩ = d.setFetch { d.fetchSet rq.via with channel := v } := by
  rw [effect_of_capture (i := 0x3200) (k := 2) (by decide) (by decide) (by decide) (by decide) (by decide)]
  rfl

theorem effect_locUpAddress (b : List Byte) :
    d.effect rq ⟨0x330010, .bytes b⟩ = (d.setKey ⟨0x330010, .bytes b⟩).forgetUpstream := by
  rw [effect_of_capture (i := 0x3300) (k := 0x10) (by decide) (by decide) (by decide) (by decide) (by decide)]
  rfl

theorem effect_locUpSerial (b : List Byte) :
    d.effect rq ⟨0x330002, .bytes b⟩ = (d.setKey ⟨0x330002, .bytes b⟩).forgetUpstream := by
  rw [effect_of_capture (i := 0x3300) (k := 2) (by decide) (by decide) (by decide) (by decide) (by decide)]
  rfl

theorem effect_locUpStream : d.effect rq ⟨0x330003, .num v⟩ = (d.setKey ⟨0x330003, .num v⟩).forgetUpstream := by
  rw [effect_of_capture (i := 0x3300) (k := 3) (by decide) (by decide) (by decide) (by decide) (by decide)]
  rfl

end

/-- Settles O53: each object's write by the effect of its chapter. -/
theorem effectsOfConversionWrites : Obligations.EffectsOfConversionWrites := by
  unfold Obligations.EffectsOfConversionWrites
  exact fun d rq v b => ⟨effect_courseSet, fun n hn => effect_sourcePrio hn,
    fun n hn => ⟨effect_cvMode hn, effect_refSel hn, effect_injRequest hn, effect_seqCtrl hn 0,
      fun hconfig hstarting => (effect_seqCtrl hn 1).trans (seqCtrl_run hconfig hstarting), effect_seqStart hn, effect_calRequest hn⟩,
    effect_diagManual, effect_queueFlush, effect_unretire, effect_stRequest,
    effect_of_elsewhere (i := 0x2800) (k := 4) rfl (by decide) (by decide) rfl,
    effect_of_elsewhere (i := 0x3000) (k := 1) rfl (by decide) (by decide) rfl,
    fun n hn => effect_paramBlock hn b, fun n hn => effect_catchEnable hn, fun h hheld => effect_fetchCatch hheld,
    effect_fetchChannel, effect_locUpAddress b, effect_locUpSerial b, effect_locUpStream⟩

end Sys2Proof.Effects
end

section
/-! PROOFS. What an applied write of the outputs, the entries, power, security and the reset does (R230, R248, R280, R328, R410, R416,
R453, R465–R470, R480, R481, R488). -/

open Sys2Proof Sys2Proof.Machine

namespace Sys2Proof.Effects

section
variable {d : Dev} {rq : Request} {v : Nat} {i k key : Nat} {x : Value}

/-- The objects of the power, thermal, start and security chapters that are written here. -/
def platformKeys : List Nat :=
  [0x120003, 0x120006, 0x132008, 0x128005, 0x140006, 0x140008, 0x140009, 0x14000A, 0x14000B, 0x14000F, 0x141001, 0x141002, 0x141003,
    0x141004, 0x141005, 0x142009, 0x144004]

/-- Their cards stand deep in the table: one evaluation answers for all of them. -/
theorem plain_platformKeys : ∀ key ∈ platformKeys, plain (key / 256) (key % 256) = true := by decide +kernel

/-! ### Outputs and control -/

theorem effect_of_output (hkey : key = i * 256 + k) (hk : k < 256) (h : 0x3400 ≤ i) (h' : i < 0x3800) (hplain : plain i k = true) :
    d.effect rq ⟨key, x⟩ = d.outputEffect rq.via i k x :=
  (effect_of_plain hkey hk hplain).trans (chapterAt_of_output h h')

theorem effect_loopRange (b : List Byte) : d.effect rq ⟨0x340003, .bytes b⟩ = (d.keepKey 0x340003).rangeWrite rq.via b :=
  effect_of_output (i := 0x3400) (k := 3) rfl (by decide) (by decide) (by decide) (by decide)

theorem effect_loopFixed : d.effect rq ⟨0x34000B, .num v⟩ = (d.keepKey 0x34000B).setKey ⟨0x34000B, .num v⟩ :=
  effect_of_output (i := 0x3400) (k := 0x0B) rfl (by decide) (by decide) (by decide) (by decide)

theorem effect_trim {n : Nat} (hlow : 3 ≤ n) (hhigh : n ≤ 5) :
    d.effect rq ⟨0x340100 + n, .num v⟩ = (d.keepKey (0x340100 + n)).trimWrite n (.num v) := by
  have hplain : ∀ n ≤ 5, 3 ≤ n → plain 0x3401 n = true := by decide
  exact effect_of_output (i := 0x3401) (k := n) rfl (by omega) (by decide) (by decide) (hplain n hhigh hlow)

theorem effect_adacRange : d.effect rq ⟨0x350002, .num v⟩ = (d.keepKey 0x350002).setKey ⟨0x350002, .num v⟩ :=
  effect_of_output (i := 0x3500) (k := 2) rfl (by decide) (by decide) (by decide) (by decide)

theorem effect_ctrlMode {n : Nat} (hn : n < 8) : d.effect rq ⟨0x381001 + 0x100 * n, .num v⟩ = d.ctrlModeApplied n v := by
  have hplain : ∀ n < 8, plain (0x3810 + n) 1 = true := by decide +kernel
  have hblock : (inFamily 0x3810 8 (0x3810 + n) && 1 == 1) = true := by
    rw [inFamily_of_mem (by omega) (by omega)]
    rfl
  rw [effect_of_plain (i := 0x3810 + n) (k := 1) (by omega) (by decide) (hplain n hn), chapterAt_of_control (by omega) (by omega),
    Dev.controlEffect, if_pos hblock, Nat.add_sub_cancel_left]
  rfl

theorem effect_ctrlSp {n : Nat} (hn : n < 8) : d.effect rq ⟨0x381002 + 0x100 * n, .num v⟩ =
    (d.keepKey (0x381002 + 0x100 * n)).setKey ⟨0x381002 + 0x100 * n, .num v⟩ := by
  have hkey : 0x381002 + 0x100 * n = (0x3810 + n) * 256 + 2 := by omega
  have hplain : ∀ n < 8, plain (0x3810 + n) 2 = true := by decide +kernel
  have hother : ¬(inFamily 0x3810 8 (0x3810 + n) && 2 == 1) = true := by
    rw [Bool.and_eq_true]
    exact fun h => absurd h.2 (by decide)
  rw [effect_of_plain hkey (by decide) (hplain n hn), chapterAt_of_control (by omega) (by omega), Dev.controlEffect, if_neg hother, hkey]

/-! ### Subscriptions, the state and the fast map -/

theorem effect_subEnable {n : Nat} (hn : n < 16) (x : Value) :
    d.effect rq ⟨0x510001 + 0x100 * n, x⟩ = d.subEnable n (x.toNat == 1) := by
  have hkey : 0x510001 + 0x100 * n = (0x5100 + n) * 256 + 1 := by omega
  have hcard : ∀ n < 16, ((Machine.cardAt (0x5100 + n) 1).map fun c => c.access != .RC) = some true := by decide +kernel
  obtain ⟨c, hc, haccess⟩ := Option.map_eq_some_iff.mp (hcard n hn)
  have hblock : inFamily 0x5100 16 (0x5100 + n) = true := inFamily_of_mem (by omega) (by omega)
  have hoption : (inFamily 0x5100 16 (0x5100 + n) && 1 == 1) = true := by
    rw [hblock]
    rfl
  have hacts : actsElsewhere (0x5100 + n) 1 = false := by
    rw [Bool.eq_false_iff]
    simp only [actsElsewhere, ne_eq, Bool.or_eq_true, Bool.and_eq_true, beq_iff_eq]
    omega
  have hdiv := key_div hkey (by decide)
  have hmod := key_mod hkey (by decide)
  rw [Dev.effect_of_subscription d rq ⟨0x510001 + 0x100 * n, x⟩ c (by simp only [hdiv, hmod, Requests.cardAt_of_machine hc])
    (bne_iff_ne.mp haccess) (by simp only [hdiv, hmod, hacts]) (by simp only [hdiv, hblock]), if_pos hmod, Dev.entryEffect, hdiv, hmod,
    if_pos hoption, Nat.add_sub_cancel_left]

theorem effect_fastMap {n : Nat} (hn : n < 32) : d.effect rq ⟨0x600001 + n, .num v⟩ = d.setKey ⟨0x600001 + n, .num v⟩ := by
  have hkey : 0x600001 + n = 0x6000 * 256 + (1 + n) := by omega
  have hplain : ∀ n < 32, plain 0x6000 (1 + n) = true := by decide +kernel
  rw [effect_of_plain hkey (by omega) (hplain n hn), chapterAt_of_value (by decide), hkey]

/-! ### Power, health and the reset -/

theorem effect_of_power (hkey : key = 0x1200 * 256 + k) (hk : k < 256) (hplain : plain 0x1200 k = true) :
    d.effect rq ⟨key, x⟩ = d.powerEffect 0x1200 k x :=
  (effect_of_plain hkey hk hplain).trans (chapterAt_of_power (by decide) (by decide))

theorem effect_profileTarget : d.effect rq ⟨0x120003, .num v⟩ = (d.setKey ⟨0x120003, .num v⟩).queueTransition v :=
  effect_of_power (k := 3) rfl (by decide) (plain_platformKeys 0x120003 (by decide))

theorem effect_sleepRequest : d.effect rq ⟨0x120006, .num v⟩ = d.queueTransition (2 + v) :=
  effect_of_power (k := 6) rfl (by decide) (plain_platformKeys 0x120006 (by decide))

theorem effect_storeTestRequest : d.effect rq ⟨0x132008, .num 1⟩ = d.setThermal (fun t => { t with storeDue := true }) :=
  (effect_of_plain (i := 0x1320) (k := 8) rfl (by decide) (plain_platformKeys 0x132008 (by decide))).trans
    (chapterAt_of_thermal (by decide) (by decide))

theorem effect_resetRequest :
    d.effect rq ⟨0x128005, .num 1⟩ = d.setStart (fun x => { x with resetDue := some (6, rq.client.toNat) }) :=
  (effect_of_plain (i := 0x1280) (k := 5) rfl (by decide) (plain_platformKeys 0x128005 (by decide))).trans chapterAt_of_start

/-! ### Security -/

theorem effect_of_security (hkey : key = i * 256 + k) (hk : k < 256) (h : 0x1400 ≤ i) (h' : i < 0x1500) (hplain : plain i k = true) :
    d.effect rq ⟨key, x⟩ = d.securityEffect rq.via i k x :=
  (effect_of_plain hkey hk hplain).trans (chapterAt_of_security h h')

theorem effect_loadTarget : d.effect rq ⟨0x140006, .num v⟩ = d.loadTargetSet v :=
  effect_of_security (i := 0x1400) (k := 6) rfl (by decide) (by decide) (by decide) (plain_platformKeys 0x140006 (by decide))

theorem effect_loadData (b : List Byte) : d.effect rq ⟨0x140008, .bytes b⟩ = d.loadDataSet b :=
  effect_of_security (i := 0x1400) (k := 8) rfl (by decide) (by decide) (by decide) (plain_platformKeys 0x140008 (by decide))

theorem effect_loadVerify : d.effect rq ⟨0x140009, .num 1⟩ = d.loadVerifySet :=
  effect_of_security (i := 0x1400) (k := 9) rfl (by decide) (by decide) (by decide) (plain_platformKeys 0x140009 (by decide))

theorem effect_imageActivate : d.effect rq ⟨0x14000A, .num 1⟩ = d.activate :=
  effect_of_security (i := 0x1400) (k := 0x0A) rfl (by decide) (by decide) (by decide) (plain_platformKeys 0x14000A (by decide))

theorem effect_imageConfirm : d.effect rq ⟨0x14000B, .num 1⟩ = d.confirmImage :=
  effect_of_security (i := 0x1400) (k := 0x0B) rfl (by decide) (by decide) (by decide) (plain_platformKeys 0x14000B (by decide))

theorem effect_oemKeyHash (b : List Byte) :
    d.effect rq ⟨0x14000F, .bytes b⟩ = (d.setKey ⟨0x14000F, .bytes b⟩).commitKey ⟨0x14000F, .bytes b⟩ :=
  effect_of_security (i := 0x1400) (k := 0x0F) rfl (by decide) (by decide) (by decide) (plain_platformKeys 0x14000F (by decide))

/-- A write of the keys is its value: no window of attestation stands there. -/
theorem securityEffect_of_keys {via : Via} : d.securityEffect via 0x1410 k x = d.setKey ⟨0x1410 * 256 + k, x⟩ := by
  have hwindow : inFamily 0x1430 8 0x1410 = false := by decide
  unfold Dev.securityEffect
  split
  any_goals omega
  rw [hwindow]
  rfl

theorem effect_keys {n : Nat} (hn : n < 4) (b : List Byte) :
    d.effect rq ⟨0x141001 + n, .bytes b⟩ = d.setKey ⟨0x141001 + n, .bytes b⟩ := by
  have hkey : 0x141001 + n = 0x1410 * 256 + (1 + n) := by omega
  have hmem : ∀ n < 4, 0x141001 + n ∈ platformKeys := by decide
  have hplain := plain_platformKeys (0x141001 + n) (hmem n hn)
  rw [key_div hkey (by omega), key_mod hkey (by omega)] at hplain
  rw [hkey]
  exact (effect_of_security rfl (by omega) (by decide) (by decide) hplain).trans securityEffect_of_keys

theorem effect_ringSwitchAt : d.effect rq ⟨0x141005, .num v⟩ = d.setKey ⟨0x141005, .num v⟩ :=
  (effect_of_security (i := 0x1410) (k := 5) rfl (by decide) (by decide) (by decide) (plain_platformKeys 0x141005 (by decide))).trans
    securityEffect_of_keys

theorem effect_sigSelect : d.effect rq ⟨0x142009, .num v⟩ = d.setSig ⟨rq.via, v, 0, false⟩ :=
  effect_of_security (i := 0x1420) (k := 9) rfl (by decide) (by decide) (by decide) (plain_platformKeys 0x142009 (by decide))

theorem effect_debugLock : d.effect rq ⟨0x144004, .num 1⟩ = d.debugLock :=
  effect_of_security (i := 0x1440) (k := 4) rfl (by decide) (by decide) (by decide) (plain_platformKeys 0x144004 (by decide))

end

/-- Settles O54: each object's write by the effect of its chapter. -/
theorem effectsOfSystemWrites : Obligations.EffectsOfSystemWrites := by
  unfold Obligations.EffectsOfSystemWrites
  exact fun d rq v b => ⟨effect_loopRange b, effect_loopFixed, fun n hlow hhigh => effect_trim hlow hhigh, effect_adacRange,
    fun n hn => ⟨effect_ctrlMode hn, effect_ctrlSp hn⟩, fun n hn => ⟨effect_subEnable hn (.num 1), effect_subEnable hn (.num 0)⟩,
    effect_of_elsewhere (i := 0x1001) (k := 2) rfl (by decide) (by decide) rfl, fun n hn => effect_fastMap hn,
    effect_profileTarget, effect_sleepRequest, effect_storeTestRequest, effect_loadTarget, effect_loadData b, effect_loadVerify,
    effect_imageActivate, effect_imageConfirm, effect_oemKeyHash b, fun n hn => effect_keys hn b, effect_ringSwitchAt, effect_sigSelect,
    effect_debugLock, effect_resetRequest⟩

end Sys2Proof.Effects
end
